-- ==== Sys2Proof/Word.lean ====
section
/-! DEFINITION. The register word and byte of the device, with their plainest arithmetic.
Registers are 32 bits wide (00_scope.md, Conventions). -/

namespace Sys2Proof

/-- A register word: 32 bits, little-endian in the byte-wide paths (00_scope.md). -/
abbrev Word := BitVec 32

/-- A byte of a buffer, a bus transfer or a memory. -/
abbrev Byte := BitVec 8

/-- A 64-byte SHAKE256 digest as the number its bytes spell little-endian, so that its first four
bytes are its value modulo 2^32 (R521). -/
abbrev Digest := Nat

/-- A timebase time in nanoseconds (R25: a 64-bit nanosecond counter). -/
abbrev Time := Nat

end Sys2Proof
end

