-- ==== Sys2Proof/Config.lean ====
section
/-! DEFINITION. What one unit of the device fixes, and the free values: constants with no body, so that
no proof can lean on a value of them. -/

namespace Sys2Proof

/-- FREE VALUE (log 3): the fused 64-bit unit identity of this unit (R36's chapter: ID_UNIT_LO and ID_UNIT_HI
are "Fused"). -/
opaque Config.unitId : Nat

/-- FREE VALUE (log 2): the `n`-th value that the specification leaves open, narrowed by its user to the width it
needs. `n` is the counter `State.fresh`, which every use advances. -/
opaque Config.freeValue : Nat → Nat

/-- FREE VALUE (log 23): whether a quotient that the specification does not round is rounded up. -/
opaque Config.roundUp : Int → Int → Bool

/-- FREE VALUE (log 124): what a thermistor channel reads where its beta model has no value, by the measured resistance, the resistance at 25 °C and beta. -/
opaque Config.thermistor : Nat → Nat → Nat → BitVec 32

/-- FREE VALUE (log 126): of a driven channel at an instant, the phase that floats in block commutation, and by phase the gate that is on: the high one, the low one, or
none (dead time); by channel and timebase. -/
opaque Config.floatPhase : Nat → Nat → Nat
opaque Config.gateSide : Nat → Nat → Nat → Option Bool

/-- FREE VALUE (log 45): a result of the Canopy function unit, in units of 2^-150, by operation, part and operands: what its fixed table and polynomial, and the way an operation combines its
sums with them, give (R236, R245). -/
opaque Config.canopyFn : Nat → Nat → List Int → Int

/-- FREE VALUE (log 130): the first bit, within a layer's weights, of item (row, column) of one of its arrays, by operation, DIM_IN, DIM_OUT and array. -/
opaque Config.weightPos : Nat → Nat → Nat → Nat → Nat → Nat → Nat

/-- FREE VALUES (log 131) of fast mode (R235): the tile that adds a term of a sum, by the number of tiles and of terms; the fixed place of a term in a tile's array; and the arrival of a tile's share, by
start, run, terms and tile. -/
opaque Config.termTile : Nat → Nat → Nat → Nat
opaque Config.termOrder : Nat → Nat → Nat
opaque Config.arrival : Nat → Nat → List Int → Nat → Nat

/-- FREE VALUE (log 141): whether a VSET_MV between two codes of ULINEAR16 takes the upper, by millivolts and VOUT_MODE (R103). -/
opaque Config.voutRound : Nat → Nat → Nat

/-- FREE VALUE (log 56): the credits the device advertises, by class; classes 8 and up are data credits (R309). -/
opaque Config.gclCredit : Nat → Nat

/-- FREE VALUE (log 60): the digest of the Dvorum public key fused in a key slot (R410). -/
opaque Config.fusedDigest : Nat → Nat

/-- FREE VALUE (log 78): the device secret (R410). -/
opaque Config.deviceSecret : Nat

/-- FREE VALUE (log 78): the public key of the Falcon-1024 key pair that a 64-byte seed gives (R426). -/
opaque Config.falconKey : Nat → Nat

/-- FREE VALUE (log 145): the size in bytes that a slot's flash device reports (R405). -/
opaque Config.flashSize : Nat → Nat

/-- FREE VALUE (log 6): whether Falcon-1024 accepts, under a public key, a signature over a 64-byte digest; the manual names the scheme and does not define it (R82). -/
opaque Config.falcon : Nat → Nat → Nat → Bool

/-- FREE VALUE (log 6): the Falcon-1024 signature of the device over a 64-byte digest: bits 10:0 give its length modulo 1,281 and the bits above them its bytes, by the public key of the pair, the
digest and the use. -/
opaque Config.sign : Nat → Nat → Nat → Nat

end Sys2Proof
end

