-- ==== Sys2Proof/Types.lean ====
section
/-! DEFINITION. The data that commands carry and the state holds: paths, processors, fault classes, and the
configuration bitstream, manifests, images and packages as typed records (log 5: records in place of raw
bytes; what a hash or a signature check answers is part of the record, log 6). -/

namespace Sys2Proof

/-- The six firmware processors, numbered as R383 numbers them. -/
inductive Proc where
  | sec | pwr | thm | cus | hst | recd
  deriving DecidableEq, Repr

/-- The processor's number, and its PATH code (R461). -/
def Proc.num : Proc → Nat
  | .sec => 0 | .pwr => 1 | .thm => 2 | .cus => 3 | .hst => 4 | .recd => 5

/-- The path an access comes by (R461): a processor, UP, TWP0, the cascade ports, the test access port or the
block's own hardware. `mbx4` is the upstream manager's mailbox (R38). -/
inductive Path where
  | proc (p : Proc)
  | up | twp0 | mbx4 | cs0 | cs1 | tap | hw | none
  deriving DecidableEq, Repr

/-- The class of a fault source (R455). -/
inductive FClass where
  | corrected | contained | fatal
  deriving DecidableEq, Repr

/-- CLASS code (R455). -/
def FClass.code : FClass → Nat
  | .corrected => 0 | .contained => 1 | .fatal => 2

/-- The class a code names; codes above 2 do not occur (R88 refuses them). -/
def FClass.ofCode : Nat → FClass
  | 0 => .corrected | 1 => .contained | _ => .fatal

/-- A fault-owning unit: a block by its base bits 23:16 (GLD and CNP quarters by theirs), or a two-wire port
(R33, R34, R454). -/
inductive FUnit where
  | block (b : Nat)
  | twp (p : Nat)
  deriving DecidableEq, Repr

/-- The number the fault windows are kept under: base bits 23:12 of the window's 4 KiB. -/
def FUnit.key : FUnit → Nat
  | .block b => b * 16 + 15
  | .twp p => 0x0E0 + p

/-- BLOCK code of a fault-owning unit: its base bits 23:16. -/
def FUnit.blockCode : FUnit → Nat
  | .block b => b
  | .twp _ => 0x0E

/-- One section-directory entry of a bitstream (R80). -/
structure DirEntry where
  code   : Nat
  part   : Nat
  offset : Nat
  length : Nat
  digest : Digest
  deriving DecidableEq, Repr

/-- A fabric slot record (R85, section 0x01 S). -/
structure SlotRec where
  prim       : Nat := 0
  mode       : Nat := 0
  trigger    : Nat := 0
  safety     : Bool := false
  adopt      : Bool := false
  paramBase  : Nat := 0
  paramCount : Nat := 0
  outType    : Nat := 0
  triggerSig : Nat := 0xFFFF
  ins        : List Nat := []
  faultSrc   : Nat := 0xFFFF
  deriving DecidableEq, Repr

/-- A tile record (R85, section 0x01 S): owner processor, ranks per class, slots, parameter types. -/
structure TileRec where
  owner  : Nat := 7
  ranks  : List Nat := []
  slots  : List SlotRec := []
  ptype  : List Nat := []
  deriving DecidableEq, Repr

/-- A signal record (R85, section 0x01 S). -/
structure SignalRec where
  index     : Nat
  type      : Nat
  producer  : Nat
  source    : Nat
  refreshMs : Nat
  deriving DecidableEq, Repr

/-- An agreement record (R98): A REL M·B + K, M signed Q8.8 and K signed Q16.16 as integers of their lowest bit. -/
structure AgreeRec where
  a   : Nat
  b   : Nat
  rel : Nat
  m   : Int
  k   : Int
  deriving DecidableEq, Repr

/-- A value–complement pair as the bitstream or a staged store holds it. -/
structure Pair where
  value : Word := 0
  comp  : Word := 0xFFFFFFFF
  deriving DecidableEq, Repr

/-- A rail's structure (R101 as R85 lays it out); the record of an unused rail is zero apart from its number. -/
structure RailRec where
  slot    : Nat := 0
  method  : Nat := 0
  flags   : Nat := 0
  enOrCmd : Nat := 0
  pg      : Nat := 0
  port    : Nat := 0
  addr    : Nat := 0
  page    : Nat := 0
  leader  : Nat := 0
  deriving DecidableEq, Repr

/-- A rail's parameters (R104; section 0x02 P): millivolts, Q16.16 amperes and A/ms, microseconds. -/
structure RailPar where
  vset      : Nat := 0
  uv        : Nat := 0
  ov        : Nat := 0
  restarts  : Nat := 0
  inrush    : Nat := 0
  slew      : Nat := 0
  qualUs    : Nat := 0
  timeoutUs : Nat := 0
  deriving DecidableEq, Repr

/-- A graph step (R106): ACTION, RAIL and up to four dependencies. -/
structure StepRec where
  action : Nat
  rail   : Nat
  deps   : List Nat
  delayUs : Nat := 0
  deriving DecidableEq, Repr

/-- The tray's parameters of section 0x02 P. -/
structure TrayPar where
  shelfA  : Nat := 0
  shelfSlew : Nat := 0
  holdUs  : Nat := 0
  deriving DecidableEq, Repr

/-- Sense-channel structure (section 0x03 S). -/
structure SenseRec where
  index : Nat
  kind  : Nat
  group : Nat
  neighA : Nat
  neighB : Nat
  deriving DecidableEq, Repr

/-- Sense-channel parameters (section 0x03 P), signed words as integers. -/
structure SensePar where
  scale   : Int := 0
  offset  : Int := 0
  rangeLo : Int := 0
  rangeHi : Int := 0
  rateMax : Int := 0
  neighDev : Int := 0
  tripHi  : Int := 0
  tripLo  : Int := 0
  deriving DecidableEq, Repr

/-- Thermal-group parameters (section 0x03 P), Q16.16 values as integers, STEP_MS in ms. -/
structure GroupPar where
  warn     : Int := 0
  throttle : Int := 0
  shutdown : Int := 0
  hystW    : Int := 0
  hystT    : Int := 0
  hystS    : Int := 0
  stepPct  : Int := 0
  stepMs   : Nat := 0
  deriving DecidableEq, Repr

/-- Motor-channel structure (section 0x04 S). -/
structure MotRec where
  kind     : Nat := 0
  commut   : Nat := 0
  sense    : Nat := 0
  polePairs : Nat := 0
  zone     : Nat := 0
  setpoint : Nat := 0
  deriving DecidableEq, Repr

/-- Motor-channel parameters (section 0x04 P). -/
structure MotPar where
  pwmKhz     : Nat := 0
  startTries : Nat := 0
  iLimit     : Nat := 0
  rpmMax     : Nat := 0
  rpmFault   : Nat := 0
  faultMs    : Nat := 0
  startI     : Nat := 0
  restMs     : Nat := 0
  deriving DecidableEq, Repr

/-- Leak, flow and pressure channel structure (section 0x05 S). -/
structure LkfRec where
  mode     : Nat := 0
  zone     : Nat := 0
  reaction : Nat := 0
  deriving DecidableEq, Repr

/-- Leak, flow and pressure channel parameters (section 0x05 P). -/
structure LkfPar where
  levelA : Int := 0
  levelB : Int := 0
  scale  : Int := 0
  offset : Int := 0
  deriving DecidableEq, Repr

/-- Two-wire port structure (section 0x06 S). -/
structure TwpRec where
  role     : Nat := 0
  speed    : Nat := 0
  smbus    : Nat := 0
  addrs    : List Nat := []
  mask     : Nat := 0
  sbSlot   : Nat := 0xFF
  sbAddr   : Nat := 0xFF
  resetPin : Nat := 0xFFFF
  deriving DecidableEq, Repr

/-- Two-wire port parameters (section 0x06 P). -/
structure TwpPar where
  filterTicks : Nat := 0
  lowTimeoutMs : Nat := 25
  deriving DecidableEq, Repr

/-- Arbiter structure (section 0x07 S). -/
structure ArbRec where
  reqCount : Nat := 0
  lockable : Nat := 0
  deriving DecidableEq, Repr

/-- Arbiter parameters (section 0x07 P). -/
structure ArbPar where
  windowNs : Nat := 10000
  lockWdUs : Nat := 10000
  weights  : List Nat := []
  deriving DecidableEq, Repr

/-- A fault-reaction record (section 0x08; R88). REACTIONS bit 0 interrupt, 1 trap, 2 block reset, 3 chip reset,
4 ERR_N. -/
structure ReactRec where
  block     : Nat
  source    : Nat
  reactions : Nat
  capSlots  : Nat
  capPct    : Nat
  throttle  : Nat
  cls       : Nat
  deriving DecidableEq, Repr

/-- A contract schedule entry (section 0x09; R156): watts, W/s, Q16.16 peak factor. -/
structure SchedEntry where
  startMin   : Nat
  capW       : Nat
  rampUp     : Nat
  rampDown   : Nat
  floorW     : Nat
  peakFactor : Nat
  deriving DecidableEq, Repr

/-- Contract defaults (section 0x09). -/
structure ContractSec where
  defaultCap : Nat := 0
  rated      : List Nat := []
  fallback   : List Nat := []
  entries    : List SchedEntry := []
  deriving DecidableEq, Repr

/-- An owner key (section 0x0A). -/
structure OwnerKey where
  owner   : Nat
  enabled : Bool
  label   : Nat
  pubkey  : Nat
  deriving DecidableEq, Repr

/-- A Canopy model descriptor (section 0x0B). -/
structure DescRec where
  model       : Nat
  flags       : Nat
  tick        : Nat
  period      : Nat
  phase       : Nat
  tileMask    : Nat
  deadlineUs  : Nat
  boundNs     : Nat
  outBase     : Nat
  outCount    : Nat
  minSvn      : Nat
  weightBase  : Nat
  weightBytes : Nat
  sramKib     : Nat
  stateKib    : Nat
  imageId     : Nat
  deriving DecidableEq, Repr

/-- The signature section of a bitstream, manifest, image or key record (R82): the public key and the signature as the numbers their bytes spell, least significant first. -/
structure SigSec where
  keySlot  : Nat
  alg      : Nat
  sigLen   : Nat
  pubLen   : Nat
  pubkey   : Nat
  sig      : Nat
  deriving DecidableEq, Repr

/-- A configuration bitstream (R79–R85) as typed sections. `padZero` says that every byte between bodies and every reserved field is zero (R79); `transportOk` that its copied
segments' CRC-32C hold; `zynsin`, `buildTime` and `trayName` are its informational fields as numbers. -/
structure Bitstream where
  magic      : Nat
  fmtMajor   : Nat
  fmtMinor   : Nat
  hwtype     : Nat
  bind       : Nat
  unit       : Nat
  total      : Nat
  svn        : Nat
  sigOffset  : Nat
  dir        : List DirEntry
  padZero    : Bool
  transportOk : Bool
  zynsin     : Nat := 0
  buildTime  : Nat := 0
  trayName   : Nat := 0
  sig        : SigSec
  tiles      : List TileRec := []
  signals    : List SignalRec := []
  agrees     : List AgreeRec := []
  pairs      : List (List Pair) := []
  rails      : List (Nat × RailRec) := []
  graphs     : List (Nat × List StepRec) := []
  railPar    : List (Nat × RailPar) := []
  trayPar    : TrayPar := {}
  sense      : List SenseRec := []
  sensePar   : List (Nat × SensePar) := []
  groupPar   : List (Nat × GroupPar) := []
  mot        : List (Nat × MotRec) := []
  motPar     : List (Nat × MotPar) := []
  hostSilenceS : Nat := 30
  lkf        : List (Nat × LkfRec) := []
  lkfPar     : List (Nat × LkfPar) := []
  twp        : List (Nat × TwpRec) := []
  twpPar     : List (Nat × TwpPar) := []
  arb        : List (Nat × ArbRec) := []
  arbPar     : List (Nat × ArbPar) := []
  react      : List ReactRec := []
  contract   : ContractSec := {}
  owners     : List OwnerKey := []
  descs      : List DescRec := []
  regions    : List Nat := []
  restMv     : Nat := 750
  superMs    : Nat := 2000
  pace       : List (Nat × Nat) := []
  deriving DecidableEq, Repr



/-- What PARAM_ECC_ERROR finds (R70): a corrected word, one or both words of a live pair lost, or a structure word lost. -/
inductive ParamEcc where
  | corrected
  | oneWord (pair : Fin 128)
  | bothWords (pair : Fin 128)
  | structureWord
  deriving DecidableEq, Repr


/-- The tray-input window comparators (R135). -/
inductive Comparator where
  | i1 | i2 | i3 | uv
  deriving DecidableEq, Repr


/-- What a motor die's reply carries of its measurements (R214): speeds in Q16.16 rpm and currents in Q16.16 A of its eight channels, VMOT in millivolts,
and whether the reply's CRC matched. -/
structure DieReply where
  crcOk   : Bool
  tach    : List Word
  current : List Word
  vmotMv  : Nat
  deriving DecidableEq, Repr


/-- An input, output and layer entry of a model image (R244). SHIFT is signed. -/
structure ImgIn where
  index  : Nat
  kind   : Nat
  policy : Nat
  shift  : Int
  window : Nat
  deriving DecidableEq, Repr
structure ImgOut where
  source : Nat
  shift  : Int
  deriving DecidableEq, Repr
/-- A layer entry. -/
structure ImgLayer where
  op       : Nat
  wfmt     : Nat
  afmt     : Nat
  flags    : Nat
  dimIn    : Nat
  dimOut   : Nat
  p0       : Nat
  p1       : Nat
  p2       : Nat
  p3       : Nat
  srcA     : Nat
  srcB     : Nat
  weightOffset : Nat
  weightLength : Nat
  segments : Nat
  deriving DecidableEq, Repr

/-- A model image (R243) as a typed record: header, tables, weights and signature section; `reservedZero` says that its reserved fields are zero (log 5). -/
structure ImageRec where
  magic       : Nat
  fmtMajor    : Nat
  fmtMinor    : Nat
  hwtype      : Nat
  model       : Nat
  svn         : Nat
  warmup      : Nat
  boundNs     : Nat
  weightBytes : Nat
  sramKib     : Nat
  stateKib    : Nat
  streamMbps  : Nat
  tablesLength : Nat
  sigOffset   : Nat
  total       : Nat
  weightDigest : Digest
  reservedZero : Bool
  inputs      : List ImgIn
  outputs     : List ImgOut
  layers      : List ImgLayer
  weights     : List Byte
  sig         : SigSec
  deriving DecidableEq, Repr

/-- A memory error a segment meets (R263): resident weights or graph, or streamed weights. -/
inductive SegFault where
  | resident | streamed
  deriving DecidableEq, Repr

/-- What a segment's end brings: array steps run, microseconds busy, whether an SRAM word was corrected, a memory error, and at the end of a twin layer what faults of the
data path added to the sums S1 and S2 of the outputs they struck (R239). -/
structure SegEnd where
  steps     : Nat
  busyUs    : Nat
  corrected : Bool
  fault     : Option SegFault
  flips     : List (Nat × Int × Int)
  deriving DecidableEq, Repr


/-- A shard entry of a manifest (R265). -/
structure Shard where
  slot     : Nat
  priority : Nat
  flags    : Nat
  first    : Nat
  size     : Nat
  target   : Nat
  reads    : Nat
  deriving DecidableEq, Repr

/-- A manifest (R265) as a typed record; `reservedZero` says that reserved fields are zero (log 5). -/
structure ManifestRec where
  magic     : Nat
  fmtMajor  : Nat
  fmtMinor  : Nat
  hwtype    : Nat
  bind      : Nat
  unit      : Nat
  modelTag  : Nat
  leafCount : Nat
  leafLog2  : Nat
  imageBytes : Nat
  root      : Digest
  sigOffset : Nat
  total     : Nat
  reservedZero : Bool
  shards    : List Shard
  sig       : SigSec
  deriving DecidableEq, Repr

/-- A scatter-list entry (R273): companion address and leaves. -/
structure SgEntry where
  addr   : Nat
  leaves : Nat
  deriving DecidableEq, Repr


/-- A cap message (R147): `capC` is the ones' complement of CAP (R28). -/
structure CapMsg where
  flags   : Nat
  seq     : Nat
  cap     : Word
  capC    : Word
  floor   : Word
  leaseUs : Nat
  sendUs  : Nat
  deriving DecidableEq, Repr


/-- A message the device sends on a GCL port (R313, R319, R147, R321, R494). -/
inductive GclMsg where
  | cap (m : CapMsg)
  | capQuery
  | loadBegin (part parts shards tag : Nat) (entries : List (Nat × Bool × Nat × Nat))
  | qwrite (addr leaf len : Nat)
  | clear (addr len leaf : Nat)
  | loadEnd (cleared : Nat)
  | loadFailed (result : Nat)
  | jobAbort (reason : Nat)
  | jobResume
  | restartDone (ms : Nat)
  | doorbell (channel : Nat) (head : List Word) (crc : Word) (payload : List Word)
  | timeSync (t1 : Int)
  | timeReq
  | timeRsp (t4 : Int)
  | msgAck (seq : Nat)
  | cmp (tag status : Nat)
  | cmpData (tag status : Nat) (poison : Bool) (data : List Word)
  | snpInv (page : Nat)
  | snpRsp (page : Nat)
  | rdUc (tag addr len : Nat)
  | csrRd (tag offset : Nat)
  | csrWr (tag offset : Nat) (data : Word)
  | memberCap (member : Nat) (cap : Word) (leaseUs sendUs : Nat)
  | memberReport (pin demand avg : Word) (windowEnd : Nat)
  | memberRecord (words : List Word)
  deriving DecidableEq, Repr

/-- One slot message of a received SLOT flit: first slot, class, slots, opcode, TAG and LENGTH. -/
structure RxMsg where
  start  : Nat
  cls    : Nat
  slots  : Nat
  opcode : Nat
  tag    : Nat
  length : Nat
  deriving DecidableEq, Repr

/-- A received flit (R307, R308): what the outer code corrected or failed on, whether the CRC holds, and the header with its TYPE_FIELD. -/
structure Flit where
  corr     : Nat
  uncorr   : Nat
  crcOk    : Bool
  typ      : Nat
  fseq     : Nat
  ackSeq   : Nat
  ackValid : Bool
  nak      : Bool
  crClass  : Nat
  crCount  : Nat
  msgs     : List RxMsg
  dataCls  : Nat
  dataTag  : Nat
  valid    : Nat
  deriving DecidableEq, Repr

/-- A CONFIG record (R306); credits by class, slot then data. -/
structure ConfigRec where
  version  : Nat
  role     : Nat
  timeRole : Nat
  width    : Nat
  cascade  : Nat
  credits  : List (Nat × Nat)
  unit     : Nat
  deriving DecidableEq, Repr


/-- Who asked for a controller transfer (R358): a rail of SEQ, a slot of SHP, a telemetry mirror by its plane index, the alert responder, a firmware window, or
another requester of the port's arbiter. -/
inductive TwOwner where
  | seqRail (r : Nat)
  | shp (k : Nat)
  | mirror (i : Nat)
  | alert
  | fx (w : Nat)
  | other (r : Nat)
  deriving DecidableEq, Repr

/-- What the transfer does: PMBus on with its VSET_MV and off, sideband enable and disable, the status and adoption reads of a PMBUS and of a SIDEBAND rail, a cap message (the block of R147 to
command code 0xC4), the draw read and the demand read of R142, a mirror read, a read of 0x0C, and a firmware transfer. -/
inductive TwKind where
  | pmbusOn (mv : Nat)
  | pmbusOff
  | sidebandOn
  | sidebandOff
  | railStatus
  | adoptRead
  | sidebandRead
  | sidebandAdopt
  | capWrite (m : CapMsg)
  | drawRead
  | demandRead
  | mirrorRead
  | alertRead
  | fx (wlen rlen opt : Nat)
  | other
  deriving DecidableEq, Repr

/-- A controller transfer: owner, kind, target address, PAGE (0xFF none) and command or value byte; the transaction of it that is next, the bytes that earlier
transactions read, and the VOUT_MODE they read. -/
structure TwOp where
  owner : TwOwner
  kind  : TwKind
  addr  : Nat
  page  : Nat
  value : Nat
  step  : Nat := 0
  got   : List Byte := []
  mode  : Nat := 0
  deriving DecidableEq, Repr


/-- A mailbox message as it reaches a channel (R390, R391): the header fields, whether the delivery was complete and the CRC trailer matched, and the payload
words. `length` is LENGTH in bytes. -/
structure MbxMsg where
  chan    : Fin 8
  major   : Nat
  seq     : Word
  length  : Nat
  whole   : Bool
  crcOk   : Bool
  target  : Nat
  flags   : Word
  payload : List Word
  deriving DecidableEq, Repr


/-- An episode record of the RAIL area (R473). -/
structure EpisodeRec where
  time      : Time := 0
  rail      : Nat := 0
  slot      : Nat := 0xFF
  cause     : Nat := 0
  phase     : Nat := 0
  merge     : Nat := 0
  further   : List (Nat × Nat) := []
  closed    : Bool := false
  closeTime : Time := 0
  episode   : Nat := 0
  slotStates : Nat := 0
  fwSvn     : Nat := 0
  cfgId     : Nat := 0
  deriving DecidableEq, Repr

/-- A shutdown record of the SHUTDOWN area (R474). -/
structure ShutRec where
  time      : Time := 0
  kind      : Nat := 0
  index     : Nat := 0
  scope     : Nat := 0
  merge     : Nat := 0
  value     : Int := 0
  hottest   : Nat := 0
  steps     : Nat := 0
  latches   : Nat := 0
  closeTime : Time := 0
  clearTime : Time := 0
  tcrit0    : Int := 0
  tcrit1    : Int := 0
  episode   : Nat := 0
  fwSvn     : Nat := 0
  deriving DecidableEq, Repr

/-- A ledger record: sixteen words (R165). -/
abbrev LedgerRec := List Word

/-- A closed or open ledger block (R166, R475). -/
structure LedgerBlock where
  blockSeq   : Nat := 0
  prevDigest : Digest := 0
  records    : List LedgerRec := []
  deriving DecidableEq, Repr

/-- A signed ledger block as the spool and the ledger region hold it (R166, R478): the signature is a free value
of the model named by its number (log 6). -/
structure SignedBlock where
  block : LedgerBlock
  flags : Nat
  sig   : Nat
  digest : Digest
  svn    : Nat := 0
  deriving DecidableEq, Repr

/-- The ledger checkpoint (R475). -/
structure Checkpoint where
  seq        : Nat := 0
  openBlock  : LedgerBlock := {}
  accum      : Int := 0
  minuteTime : Time := 0
  awaiting   : Option LedgerBlock := none
  deriving DecidableEq, Repr

/-- The UPDATE record (R476). -/
structure UpdateRec where
  inForce     : Nat := 0
  previous    : Nat := 0
  confirmed   : Nat := 0
  rejected    : Nat := 0
  state       : Nat := 0
  mode        : Nat := 0
  cls         : Nat := 0
  armTime     : Time := 0
  windowEnd   : Time := 0
  switchTime  : Time := 0
  pausedS     : Nat := 0
  fmtInForce  : Nat := 0
  fmtPrevious : Nat := 0
  seqInForce  : Nat := 0
  seqStaged   : Nat := 0
  deriving DecidableEq, Repr

/-- A fault-log entry (R477). -/
structure LogEntry where
  time      : Time
  block     : Nat
  source    : Nat
  cls       : FClass
  injected  : Bool
  restored  : Bool
  merge     : Nat
  reactions : Nat
  capture   : List Word
  entry     : Nat
  boot      : Nat
  deriving DecidableEq, Repr

/-- A RESET_LOG entry (R477). -/
structure ResetLogRec where
  time   : Time
  cause  : Nat
  block  : Nat
  source : Nat
  deriving DecidableEq, Repr

/-- A settings area (R477). -/
structure SettingsRec where
  hwtype  : Nat
  fmt     : Nat
  setSeq  : Nat
  entries : List (Nat × Nat × Nat)
  deriving DecidableEq, Repr

/-- The payload of a non-volatile area, typed by area (R428, R473–R478, log 5). -/
inductive NvsPayload where
  | cert (bytes : List Byte)
  | update (r : UpdateRec)
  | floors (svn : Nat)
  | resetLog (l : List ResetLogRec)
  | lifetime (words : List Nat)
  | monotonic (l : List Nat)
  | rail (l : List EpisodeRec)
  | shutdown (l : List ShutRec)
  | ledger (c : Checkpoint)
  | faultLog (l : List LogEntry)
  | settings (r : SettingsRec)
  | spool (b : SignedBlock)
  deriving DecidableEq, Repr



/-- A firmware image or the front-end trim (R408) as a typed record: header, code, data and signature section; `reservedZero` says that reserved fields are zero (log 5). -/
structure FwImage where
  magic     : Nat
  fmtMajor  : Nat
  fmtMinor  : Nat
  hwtype    : Nat
  proc      : Nat
  svn       : Nat
  vector    : Nat
  sigOffset : Nat
  total     : Nat
  buildTime : Nat
  reservedZero : Bool
  code      : List Byte
  data      : List Byte
  sig       : SigSec
  deriving DecidableEq, Repr

/-- The content of an item of a set (R406); `raw` stands for bytes that no record of the item's format reads as. -/
inductive ItemBody where
  | fw (i : FwImage)
  | bits (b : Bitstream)
  | model (i : ImageRec)
  | trim (i : FwImage)
  | raw (bytes : List Byte)
  deriving DecidableEq, Repr

/-- An item of a set with its directory entry (R406): KIND, INDEX, OFFSET, LENGTH, CRC. `reads` are the bytes that the first, second and third read of it bring differently from what the flash
holds, by place and as a difference (R407). -/
structure FlashItem where
  kind   : Nat
  index  : Nat
  offset : Nat := 0
  length : Nat := 0
  crc    : Word := 0
  reads  : List (List (Nat × Byte)) := []
  body   : ItemBody
  deriving DecidableEq, Repr

/-- A set: the fields of its directory (R406) and its items. -/
structure FlashSet where
  magic  : Nat := 0x4453584B
  fmt    : Nat := 1
  hwtype : Nat := 0x4238584B
  seq    : Nat
  crc    : Word := 0
  items  : List FlashItem
  deriving DecidableEq, Repr

/-- What the boot meets outside the core: the sets the flash devices return by slot (a slot not listed has no usable device, R405), whether the crystal is good (R27), and
whether AFE0 has read the tray input in range for 10 ms (R419). -/
structure BootEnv where
  slots   : List (Nat × FlashSet)
  crystal : Bool
  inputOk : Bool
  deriving DecidableEq, Repr

/-- A key record (R414) as its bytes read; `signed` says that its signature section is not all zero (log 146), `reservedZero` that its reserved fields are zero. -/
structure KeyRec where
  magic    : Nat
  hwtype   : Nat
  reservedZero : Bool
  bind     : Nat
  unit     : Nat
  op       : Nat
  slot     : Nat
  pubkey   : Nat
  signed   : Bool
  sig      : SigSec
  deriving DecidableEq, Repr

/-- A part of an update package (R433): its entry, its data, the item record that the built bytes read as, and what the reads of the staged item bring wrong (R407, R436 step 6). -/
structure PkgPart where
  kind     : Nat
  index    : Nat
  mode     : Nat
  offset   : Nat := 0
  baseCrc  : Word := 0
  length   : Nat := 0
  crc      : Word := 0
  data     : List Byte := []
  view     : Option ItemBody := none
  reads    : List (List (Nat × Byte)) := []
  deriving DecidableEq, Repr

/-- An update package (R433) as HST assembled it: the fields of its header, its parts, and the bytes that arrived. `sourceOk` says that the transfer completed, `flashOk` that every erase and write
of the flash device succeeded. -/
structure Package where
  sourceOk : Bool := true
  magic    : Nat := 0x5055584B
  fmt      : Nat := 1
  hwtype   : Nat := 0x4238584B
  bind     : Nat := 0
  unit     : Nat := 0
  setFmt   : Nat := 0
  maxDefer : Nat := 0
  length   : Nat := 0
  arrived  : Nat := 0
  entriesCrc : Word := 0
  hdrCrc   : Word := 0
  parts    : List PkgPart
  flashOk  : Bool := true
  deriving DecidableEq, Repr

/-- A pin with a hold latch (R16): EN0–127, THR0–7, LEASE0–7, PFW_N, JOB_ABORT_N, ERR_N, UP_ALERT_N, the indicators (0–7 slots, 8 tray green, 9 tray amber, 10 locate). -/
inductive HeldPin where
  | en (n : Nat)
  | thr (k : Nat)
  | lease (k : Nat)
  | pfw | jobAbort | err | upAlert
  | ind (n : Nat)
  deriving DecidableEq, Repr

/-- The number a pin's latch is kept under. -/
def HeldPin.num : HeldPin → Nat
  | .en n => n
  | .thr k => 128 + k
  | .lease k => 136 + k
  | .pfw => 144 | .jobAbort => 145 | .err => 146 | .upAlert => 147
  | .ind n => 148 + n

/-- What a tick meets outside the core: tile evaluations that have not completed by the tick (tile and tick class, 0 for 1 µs to 6 for 1 s), MR4
readings beyond the limit by interface, and the handshakes that pace monitors counted in the microsecond that ended, by region; a region not listed counted at least 15 % above its
requirement (R19). -/
structure TickEnv where
  late   : List (Nat × Nat) := []
  hot    : List Nat := []
  pace   : List (Nat × Nat) := []
  deriving DecidableEq, Repr


/- -- END OF BASE -/
/-- What a telemetry record says beside POWER_W: DEMAND_W and HOTSPOT_C (R320). -/
structure DemandHot where
  demand  : Word
  hotspot : Word
  deriving DecidableEq, Repr

/-- A channel of a motor die and the one value judged there: a phase current, a speed or the size of the back-EMF (R222, R223). -/
structure ChanSense where
  channel : Fin 16
  value   : Word
  deriving DecidableEq, Repr

/-- A channel, its phase current and whether the current has a fundamental (R209). -/
structure StallSense where
  channel : Fin 16
  cur     : Word
  fund    : Bool
  deriving DecidableEq, Repr

/-- A channel in OPEN_LOOP: the current's fundamental frequency, the size of its signature and the phase current (R223). -/
structure OpenSense where
  channel : Fin 16
  fund    : Word
  mag     : Word
  cur     : Word
  deriving DecidableEq, Repr

/-- A channel and the two phase currents measured at it (R210, R222). -/
structure PhaseSense where
  channel : Fin 16
  a       : Word
  b       : Word
  deriving DecidableEq, Repr

/-- The leaf digests fetched for a subtree, and the number of its first leaf (R332). -/
structure Subtree where
  first  : BitVec 24
  leaves : List Digest
  deriving DecidableEq, Repr

/-- A read transaction on a target port: the bytes the controller wrote before the repeated start, and how many bytes it reads (R348). -/
structure ReadPhase where
  sent  : List Byte
  count : Nat
  deriving DecidableEq, Repr

/-- What a transfer leaves beside its result code: the index of the byte not acknowledged, and the bytes read (R360). -/
structure WireData where
  nack : Byte
  data : List Byte
  deriving DecidableEq, Repr

/-- The head of a MEMBER_CAP message: the member it is for and its sequence number (R494). -/
structure MemberHead where
  member : Fin 4
  seq    : BitVec 16
  deriving DecidableEq, Repr

end Sys2Proof
end

