-- ==== Sys2Proof/Machine/Operands.lean ====
section
/-! DEFINITION. Helpers over plain data that every block uses: bit fields of a word, sparse tables, sets of numbers,
saturating counts, signed words. -/

namespace Sys2Proof.Machine

/-- Bits `hi:lo` of a word as a number (the field tables of every chapter list bits from high to low). -/
def fld (w : Word) (hi lo : Nat) : Nat := (w.toNat >>> lo) % 2 ^ (hi - lo + 1)

/-- One bit of a word. -/
def bit (w : Word) (i : Nat) : Bool := w.getLsbD i

/-- A Bool as a field value. -/
def b2n (b : Bool) : Nat := if b then 1 else 0

/-- A number placed as a field at bit `lo`. -/
def at_ (lo n : Nat) : Nat := n * 2 ^ lo

/-- A number as a register word; excess high bits do not exist in the register. -/
def w32 (n : Nat) : Word := BitVec.ofNat 32 n

/-- An integer as a two's-complement word. -/
def wInt (i : Int) : Word := BitVec.ofInt 32 i

/-- Low and high word of a 64-bit count. -/
def lo32 (n : Nat) : Word := w32 (n % 2 ^ 32)
def hi32 (n : Nat) : Word := w32 (n / 2 ^ 32)

/-- Increment that saturates at `top`. -/
def satInc (top n : Nat) : Nat := if n < top then n + 1 else top

/-- Increment modulo 256, as TAG-like counters step. -/
def inc8 (n : Nat) : Nat := (n + 1) % 256

/-- A field clamped to its width when it is reported. -/
def satTo (top n : Nat) : Nat := min n top

/-- A sparse table: number to value. -/
abbrev Tab (α : Type) := List (Nat × α)

/-- The entry of a key, if listed. -/
def tfind {α : Type} : Tab α → Nat → Option α
  | [], _ => none
  | (k, v) :: r, j => if k = j then some v else tfind r j

/-- The value of a key, `d` where nothing is listed. -/
def tget {α : Type} (d : α) (t : Tab α) (j : Nat) : α := (tfind t j).getD d

/-- Remove every entry of a key. -/
def terase {α : Type} : Tab α → Nat → Tab α
  | [], _ => []
  | (k, v) :: r, j => if k = j then terase r j else (k, v) :: terase r j

/-- Insert or replace, before the first greater key. -/
def tput {α : Type} : Tab α → Nat → α → Tab α
  | [], j, x => [(j, x)]
  | (k, v) :: r, j, x =>
    if j < k then (j, x) :: (k, v) :: r
    else if k = j then (j, x) :: r
    else (k, v) :: tput r j x

/-- Write a value; the default `d` is never listed. -/
def tset {α : Type} [DecidableEq α] (d : α) (t : Tab α) (j : Nat) (x : α) : Tab α :=
  if x = d then terase t j else tput t j x

/-- Change the value of one key. -/
def tupd {α : Type} [DecidableEq α] (d : α) (t : Tab α) (j : Nat) (f : α → α) : Tab α :=
  tset d t j (f (tget d t j))

/-- Keys strictly rising: the canonical order of a table. -/
def tsorted {α : Type} : Tab α → Bool
  | [] => true
  | [_] => true
  | (a, _) :: (b, y) :: r => decide (a < b) && tsorted ((b, y) :: r)

/-- A set of numbers, kept rising and without repeats. -/
abbrev NSet := List Nat

def sadd : NSet → Nat → NSet
  | [], x => [x]
  | a :: r, x => if x < a then x :: a :: r else if x = a then a :: r else a :: sadd r x

def sdel (l : NSet) (x : Nat) : NSet := l.filter (· != x)

/-- The numbers below `n` whose bit is set in a mask. -/
def maskBits (n m : Nat) : List Nat := (List.range n).filter (fun i => m.testBit i)

/-- The mask of a list of bit numbers. -/
def bitsMask (l : List Nat) : Nat := (l.eraseDups).foldl (fun a i => a + 2 ^ i) 0

/-- The least of a list, `d` for an empty list. -/
def minList (d : Nat) : List Nat → Nat
  | [] => d
  | [a] => a
  | a :: b :: r => min a (minList d (b :: r))

/-- The greatest of a list, 0 for an empty list. -/
def maxList : List Nat → Nat
  | [] => 0
  | a :: r => max a (maxList r)

def sumList : List Nat → Nat
  | [] => 0
  | a :: r => a + sumList r

/-- Apply a state function for each element, first to last. -/
def forEach {α σ : Type} (l : List α) (f : α → σ → σ) (s : σ) : σ := l.foldl (fun s a => f a s) s

/-- Apply only when the condition holds. -/
def whenDo {σ : Type} (c : Bool) (f : σ → σ) (s : σ) : σ := if c then f s else s

/-- A pair whose complement word is the ones' complement of its value word (R10, R467). -/
def pairOk (p : Pair) : Bool := p.comp == ~~~ p.value

/-- The matching pair of a word. -/
def mkPair (w : Word) : Pair := ⟨w, ~~~ w⟩

/-- Nanoseconds of the tick classes and common intervals. -/
def us : Nat := 1000
def ms : Nat := 1000000
def sec : Nat := 1000000000
def minuteNs : Nat := 60000000000

/-- The four bytes of a word, least significant first (registers are little-endian, 00_scope.md). -/
def wordBytes (w : Word) : List Byte :=
  [BitVec.ofNat 8 w.toNat, BitVec.ofNat 8 (w.toNat / 256), BitVec.ofNat 8 (w.toNat / 65536), BitVec.ofNat 8 (w.toNat / 16777216)]

/-- The number a list of bytes spells, least significant first. -/
def leNat : List Byte → Nat
  | [] => 0
  | b :: r => b.toNat + 256 * leNat r

/-- `n` bytes of a number, least significant first. -/
def leBytes : Nat → Nat → List Byte
  | 0, _ => []
  | n + 1, v => BitVec.ofNat 8 v :: leBytes n (v / 256)

/-- `n / d` rounded to nearest, ties away from zero; `d` positive (R44). -/
def roundDivPos (n : Int) (d : Nat) : Int :=
  if 0 ≤ n then ((2 * n.natAbs + d) / (2 * d) : Nat)
  else -((2 * n.natAbs + d) / (2 * d) : Nat)

/-- Clamp with the mark whether it clamped. -/
def clampTo (lo hi x : Int) : Int × Bool :=
  if x < lo then (lo, true) else if hi < x then (hi, true) else (x, false)

/-- A quotient whose rounding the specification does not state (log 23): the floor, or one more, as the free choice says. -/
def qdiv (a b : Int) : Int := a / b + (if decide (a % b ≠ 0) && Config.roundUp a b then 1 else 0)

/-- A LINEAR11 word of PMBus as a Q16.16 integer: an 11-bit signed mantissa and a 5-bit signed exponent (R142, R362). -/
def linear11 (w : Nat) : Int :=
  let y : Int := if 1024 ≤ w % 2048 then (w % 2048 : Nat) - 2048 else (w % 2048 : Nat)
  let n : Nat := (w / 2048) % 32
  if 16 ≤ n then y * 2 ^ (n - 16) else y * 2 ^ (n + 16)

/-- One step of CRC-32C over a byte, reflected polynomial 0x82F63B78. -/
def crcBits : Nat → Word → Word
  | 0, c => c
  | n + 1, c => crcBits n (if c.getLsbD 0 then (c >>> 1) ^^^ 0x82F63B78#32 else c >>> 1)

/-- CRC-32C of a list of bytes. -/
def crc32c (l : List Byte) : Word :=
  ~~~ (l.foldl (fun c b => crcBits 8 (c ^^^ b.setWidth 32)) 0xFFFFFFFF#32)

/-- One step of the SMBus CRC-8, polynomial x^8 + x^2 + x + 1 (R350). -/
def pecBits : Nat → Byte → Byte
  | 0, c => c
  | n + 1, c => pecBits n (if c.getLsbD 7 then (c <<< 1) ^^^ 0x07#8 else c <<< 1)

/-- The PEC of a list of bytes (R350). -/
def pec (l : List Byte) : Byte := l.foldl (fun c b => pecBits 8 (c ^^^ b)) 0#8

/-! ### The beta model of a thermistor (R172) -/

/-- Sum of z^(2i+1)/(2i+1) over `n` odd powers, in 2^-60; `p` is the present power and `z2` the square of z. -/
def atanhSum (z2 : Nat) : Nat → Nat → Nat → Nat
  | 0, _, _ => 0
  | n + 1, k, p => p / k + atanhSum z2 n (k + 2) (p * z2 / 2 ^ 60)

/-- ln 2 in 2^-60. -/
def ln2 : Nat := 799144290325165979

/-- ln (a / b) in 2^-60, truncated, for positive a and b: the power of two is taken out and the rest is twice the artanh of (m − 1)/(m + 1). -/
def lnRatio (a b : Nat) : Int :=
  let e : Int := (a.log2 : Int) - (b.log2 : Int)
  let m := if 0 ≤ e then a * 2 ^ 60 / (b * 2 ^ e.toNat) else a * 2 ^ ((-e).toNat) * 2 ^ 60 / b
  let one := 2 ^ 60
  let z := (if one ≤ m then m - one else one - m) * one / (m + one)
  let s : Int := (2 * atanhSum (z * z / one) 24 1 z : Nat)
  e * (ln2 : Int) + (if one ≤ m then s else -s)

/-- Q16.16 °C of a resistance under the beta model, 1/T = 1/298.15 K + ln (R/R25)/beta, or nothing where it gives no temperature. `r` is in 2^-8 Ω, `r25` in Ω, `beta` in K. -/
def betaTemp (r r25 beta : Nat) : Option Int :=
  if r = 0 ∨ r25 = 0 ∨ beta = 0 then none
  else
    let l := lnRatio r (r25 * 256)
    let den : Int := 100 * (beta : Int) * 2 ^ 60 + 29815 * l
    if den ≤ 0 then none else some (qdiv (65536 * (29815 * (beta : Int) * 2 ^ 60 * 100 - 27315 * den)) (100 * den))

end Sys2Proof.Machine
end

