-- ==== Sys2Proof/Machine/Hash.lean ====
section
/-! DEFINITION. SHAKE256 with a 64-byte output (FIPS 202), the hash that every chapter names (00_scope.md Conventions; 03 R80, R82; 05 R166; 08 R243; 09 R267; 15 R408, R410; R521). A lane is a number below
2^64, so that the kernel computes with it. -/

namespace Sys2Proof.Machine

/-- A lane rotated left by `n` bits, 0 to 63. -/
def rotl64 (n x : Nat) : Nat := ((x <<< n) ||| (x >>> (64 - n))) % 2 ^ 64

/-- Round constants of Keccak-f[1600]. -/
def keccakRC : List Nat :=
  [0x1, 0x8082, 0x800000000000808A, 0x8000000080008000,
   0x808B, 0x80000001, 0x8000000080008081, 0x8000000000008009,
   0x8A, 0x88, 0x80008009, 0x8000000A,
   0x8000808B, 0x800000000000008B, 0x8000000000008089, 0x8000000000008003,
   0x8000000000008002, 0x8000000000000080, 0x800A, 0x800000008000000A,
   0x8000000080008081, 0x8000000000008080, 0x80000001, 0x8000000080008008]

/-- For each lane of the state after the steps rho and pi: the lane it comes from and the rotation. -/
def keccakRhoPi : List (Nat × Nat) :=
  [(0, 0), (6, 44), (12, 43), (18, 21), (24, 14),
   (3, 28), (9, 20), (10, 3), (16, 45), (22, 61),
   (1, 1), (7, 6), (13, 25), (19, 8), (20, 18),
   (4, 27), (5, 36), (11, 10), (17, 15), (23, 56),
   (2, 62), (8, 55), (14, 39), (15, 41), (21, 2)]

/-- One round of Keccak-f[1600]: theta, rho, pi, chi, iota. Lane x + 5y of the state stands at that index. -/
def keccakRound (a : List Nat) (rc : Nat) : List Nat :=
  let g := fun (l : List Nat) i => l.getD i 0
  let c := (List.range 5).map (fun x => g a x ^^^ g a (x + 5) ^^^ g a (x + 10) ^^^ g a (x + 15) ^^^ g a (x + 20))
  let d := (List.range 5).map (fun x => g c ((x + 4) % 5) ^^^ rotl64 1 (g c ((x + 1) % 5)))
  let b := keccakRhoPi.map (fun e => rotl64 e.2 (g a e.1 ^^^ g d (e.1 % 5)))
  (List.range 25).map (fun i =>
    let y := i / 5 * 5
    g b i ^^^ ((2 ^ 64 - 1 - g b ((i + 1) % 5 + y)) &&& g b ((i + 2) % 5 + y)) ^^^ (if i = 0 then rc else 0))

def keccakF (a : List Nat) : List Nat := keccakRC.foldl keccakRound a

/-- The rate of SHAKE256 in bytes, and a message padded to a multiple of it. -/
def shakeRate : Nat := 136
def shakePad (l : List Byte) : List Byte :=
  let z := shakeRate - 1 - l.length % shakeRate
  if z = 0 then l ++ [0x9F#8] else l ++ [0x1F#8] ++ List.replicate (z - 1) 0#8 ++ [0x80#8]

/-- Absorb `n` blocks. -/
def shakeAbsorb : Nat → List Nat → List Byte → List Nat
  | 0, a, _ => a
  | n + 1, a, l =>
    shakeAbsorb n (keccakF (a.zipIdx.map (fun e => if e.2 < 17 then e.1 ^^^ leNat ((l.drop (8 * e.2)).take 8) else e.1))) (l.drop shakeRate)

/-- SHAKE256 of a list of bytes: the first 64 bytes of its output, least significant first (R521). -/
def shake256 (l : List Byte) : Digest :=
  let a := shakeAbsorb (l.length / shakeRate + 1) (List.replicate 25 0) (shakePad l)
  (List.range 8).foldl (fun d i => d + a.getD i 0 * 2 ^ (64 * i)) 0

/-- The bytes of an ASCII prefix. -/
def ascii (s : String) : List Byte := s.toList.map (fun c => BitVec.ofNat 8 c.toNat)

end Sys2Proof.Machine
end

