-- ==== Sys2Proof/Machine/Layout.lean ====
section
/-! DEFINITION. The bytes of the signed records as their rules lay them out, and the digests over them (03_configuration_bitstream.md R79–R85, R98; 08_canopy_engine.md R241, R243, R244; 09_model_custody.md
R265–R267; 15_boot_keys_and_attestation.md R406–R408, R414, R426–R428; 16_field_update.md R433, R434). Every field is little-endian; a reserved field is zero here, and a record's own mark says whether its bytes were. -/

namespace Sys2Proof.Machine

/-- `n` zero bytes. -/
def zeroBytes (n : Nat) : List Byte := List.replicate n 0#8

/-- `n` bytes of a signed number. -/
def leInt (n : Nat) (i : Int) : List Byte := leBytes n (BitVec.ofInt (8 * n) i).toNat

/-- A part whose records are fewer than its fixed number is zero to its end. -/
def padTo (n : Nat) (l : List Byte) : List Byte := l ++ zeroBytes (n - l.length)

/-- The entry of a table by number, or the record of an absent one. -/
def recAt {α : Type} (d : α) (l : List (Nat × α)) (i : Nat) : α := ((l.find? (fun e => e.1 == i)).map (·.2)).getD d

/-! ### The signature section (R82) -/

/-- Digest of the public key a signature section carries (R83). -/
def sigKeyDigest (g : SigSec) : Digest := shake256 (leBytes 1793 g.pubkey)

/-- The Falcon-1024 check of a signature over a digest (R82, log 6). -/
def sigVerifies (g : SigSec) (d : Digest) : Bool := Config.falcon (g.pubkey % 2 ^ (8 * 1793)) d (g.sig % 2 ^ (8 * g.sigLen))

def sigBytes (g : SigSec) : List Byte :=
  leBytes 1 g.keySlot ++ leBytes 1 g.alg ++ leBytes 2 g.sigLen ++ leBytes 2 g.pubLen ++ zeroBytes 2 ++ leBytes 1793 g.pubkey ++ zeroBytes 7
    ++ leBytes 1280 (g.sig % 2 ^ (8 * g.sigLen))

/-! ### Bodies of a bitstream's parts (R85) -/

def slotBytes (r : SlotRec) : List Byte :=
  leBytes 1 r.prim ++ leBytes 1 r.mode ++ leBytes 1 r.trigger ++ leBytes 1 (b2n r.safety + 2 * b2n r.adopt) ++ leBytes 1 r.paramBase ++ leBytes 1 r.paramCount ++ leBytes 1 r.outType
    ++ zeroBytes 1 ++ leBytes 2 r.triggerSig ++ (List.range 8).flatMap (fun k => leBytes 2 (r.ins.getD k 0xFFFF)) ++ leBytes 2 r.faultSrc ++ zeroBytes 4

/-- RANK as GT_RANK holds it: three bits for each tick class. -/
def rankWord (l : List Nat) : Nat := (List.range 7).foldl (fun a c => a + (l.getD c 7) % 8 * 2 ^ (3 * c)) 0

def tileBytes (t : TileRec) : List Byte :=
  leBytes 1 t.owner ++ zeroBytes 3 ++ leBytes 4 (rankWord t.ranks) ++ zeroBytes 8 ++ (List.range 8).flatMap (fun k => slotBytes (t.slots.getD k {}))
    ++ (List.range 128).flatMap (fun k => leBytes 1 (t.ptype.getD k 0))

def signalBytes (g : SignalRec) : List Byte := leBytes 2 g.index ++ leBytes 1 g.type ++ leBytes 1 g.producer ++ leBytes 2 g.source ++ leBytes 2 g.refreshMs
def agreeBytes (g : AgreeRec) : List Byte := leBytes 4 g.a ++ leBytes 4 g.b ++ leBytes 1 g.rel ++ zeroBytes 1 ++ leInt 2 g.m ++ leInt 4 g.k
def pairBytes (p : Pair) : List Byte := wordBytes p.value ++ wordBytes p.comp

def railBytes (n : Nat) (r : RailRec) : List Byte :=
  leBytes 1 n ++ leBytes 1 r.slot ++ leBytes 1 r.method ++ leBytes 1 r.flags ++ leBytes 2 r.enOrCmd ++ leBytes 2 r.pg ++ leBytes 1 r.port ++ leBytes 1 r.addr ++ leBytes 1 r.page
    ++ leBytes 1 r.leader ++ zeroBytes 4
def stepBytes (x : StepRec) : List Byte := leBytes 1 x.action ++ leBytes 1 x.rail ++ (List.range 4).flatMap (fun k => leBytes 1 (x.deps.getD k 0xFF)) ++ zeroBytes 10
def railParBytes (p : RailPar) : List Byte :=
  leBytes 2 p.vset ++ leBytes 2 p.uv ++ leBytes 2 p.ov ++ leBytes 1 p.restarts ++ zeroBytes 1 ++ leBytes 4 p.inrush ++ leBytes 4 p.slew ++ leBytes 4 p.qualUs ++ leBytes 4 p.timeoutUs
    ++ zeroBytes 8

def graphSteps18 (b : Bitstream) : List (List StepRec) := (List.range 18).map (fun g => tget [] b.graphs g)

def senseBytes (r : SenseRec) : List Byte := leBytes 2 r.index ++ leBytes 1 r.kind ++ leBytes 1 r.group ++ leBytes 2 r.neighA ++ leBytes 2 r.neighB
def senseParBytes (p : SensePar) : List Byte := [p.scale, p.offset, p.rangeLo, p.rangeHi, p.rateMax, p.neighDev, p.tripHi, p.tripLo].flatMap (leInt 4)
def groupParBytes (p : GroupPar) : List Byte := [p.warn, p.throttle, p.shutdown, p.hystW, p.hystT, p.hystS, p.stepPct].flatMap (leInt 4) ++ leBytes 4 p.stepMs

def motBytes (c : Nat) (r : MotRec) : List Byte :=
  leBytes 1 c ++ leBytes 1 r.kind ++ leBytes 1 r.commut ++ leBytes 1 r.sense ++ leBytes 1 r.polePairs ++ leBytes 1 r.zone ++ leBytes 2 r.setpoint ++ zeroBytes 8
def motParBytes (p : MotPar) : List Byte :=
  leBytes 2 p.pwmKhz ++ leBytes 1 p.startTries ++ zeroBytes 1 ++ [p.iLimit, p.rpmMax, p.rpmFault, p.faultMs, p.startI, p.restMs].flatMap (leBytes 4) ++ zeroBytes 4

def lkfBytes (c : Nat) (r : LkfRec) : List Byte := leBytes 1 c ++ leBytes 1 r.mode ++ leBytes 1 r.zone ++ leBytes 1 r.reaction ++ zeroBytes 4
def lkfParBytes (p : LkfPar) : List Byte := [p.levelA, p.levelB, p.scale, p.offset].flatMap (leInt 4)

def twpBytes (p : Nat) (r : TwpRec) : List Byte :=
  leBytes 1 p ++ leBytes 1 r.role ++ leBytes 1 r.speed ++ leBytes 1 r.smbus ++ (List.range 4).flatMap (fun k => leBytes 1 (r.addrs.getD k 0xFF)) ++ leBytes 1 r.mask ++ leBytes 1 r.sbSlot
    ++ leBytes 1 r.sbAddr ++ zeroBytes 1 ++ leBytes 2 r.resetPin ++ zeroBytes 2
def twpParBytes (p : TwpPar) : List Byte := leBytes 1 p.filterTicks ++ leBytes 1 p.lowTimeoutMs ++ zeroBytes 6

def arbBytes (i : Nat) (r : ArbRec) : List Byte := leBytes 1 i ++ leBytes 1 r.reqCount ++ leBytes 2 r.lockable ++ zeroBytes 4
def arbParBytes (p : ArbPar) : List Byte := leBytes 4 p.windowNs ++ leBytes 4 p.lockWdUs ++ (List.range 16).flatMap (fun k => leBytes 4 (p.weights.getD k 0))

def reactBytes (r : ReactRec) : List Byte := [r.block, r.source, r.reactions, r.capSlots, r.capPct, r.throttle, r.cls, 0].flatMap (leBytes 1)

def entryBytes (e : SchedEntry) : List Byte := leBytes 2 e.startMin ++ zeroBytes 2 ++ [e.capW, e.rampUp, e.rampDown, e.floorW, e.peakFactor].flatMap (leBytes 4)
def contractBytes (c : ContractSec) : List Byte :=
  leBytes 4 c.defaultCap ++ zeroBytes 12 ++ (List.range 8).flatMap (fun k => leBytes 4 (c.rated.getD k 0)) ++ (List.range 8).flatMap (fun k => leBytes 4 (c.fallback.getD k 0))
    ++ leBytes 4 c.entries.length ++ c.entries.flatMap entryBytes

def ownerBytes (o : OwnerKey) : List Byte := leBytes 1 o.owner ++ leBytes 1 (b2n o.enabled) ++ zeroBytes 6 ++ leBytes 8 o.label ++ leBytes 1793 o.pubkey ++ zeroBytes 15

/-- A Canopy descriptor (R241). -/
def descBytes (d : DescRec) : List Byte :=
  [d.model, d.flags, d.tick, d.period].flatMap (leBytes 1) ++ leBytes 2 d.phase ++ leBytes 2 d.tileMask ++ leBytes 4 d.deadlineUs ++ leBytes 4 d.boundNs ++ leBytes 2 d.outBase
    ++ leBytes 1 d.outCount ++ leBytes 1 d.minSvn ++ leBytes 4 d.weightBase ++ leBytes 4 d.weightBytes ++ leBytes 2 d.sramKib ++ leBytes 2 d.stateKib ++ leBytes 32 d.imageId

def regionBytes (i size : Nat) : List Byte := leBytes 1 i ++ zeroBytes 3 ++ leBytes 4 size ++ zeroBytes 8

/-- The body of a part as R85 lays it out; a part of fixed size ends in zeros where it has fewer records. -/
def partBytes (b : Bitstream) (code part : Nat) : List Byte :=
  match code, part with
  | 0x01, 0 => (List.range 64).flatMap (fun t => tileBytes (b.tiles.getD t {})) ++ leBytes 4 b.signals.length ++ b.signals.flatMap signalBytes ++ leBytes 4 b.agrees.length
      ++ b.agrees.flatMap agreeBytes
  | 0x01, _ => (List.range 64).flatMap (fun t => (List.range 128).flatMap (fun k => pairBytes ((b.pairs.getD t []).getD k {})))
  | 0x02, 0 => (List.range 256).flatMap (fun r => railBytes r (recAt {} b.rails r))
      ++ (List.range 18).flatMap (fun g => leBytes 1 g ++ leBytes 1 ((graphSteps18 b).getD g []).length ++ zeroBytes 2 ++ leBytes 4 (sumList (((graphSteps18 b).take g).map (·.length))))
      ++ (graphSteps18 b).flatMap (fun l => l.flatMap stepBytes)
  | 0x02, _ => (List.range 256).flatMap (fun r => railParBytes (recAt {} b.railPar r)) ++ leBytes 4 b.trayPar.shelfA ++ leBytes 4 b.trayPar.shelfSlew ++ leBytes 4 b.trayPar.holdUs ++ zeroBytes 4
      ++ (graphSteps18 b).flatMap (fun l => l.flatMap (fun x => leBytes 4 x.delayUs))
  | 0x03, 0 => padTo 1452 (leBytes 4 b.sense.length ++ b.sense.flatMap senseBytes)
  | 0x03, _ => padTo 5792 (b.sense.flatMap (fun r => senseParBytes (recAt {} b.sensePar r.index))) ++ (List.range 32).flatMap (fun g => groupParBytes (recAt {} b.groupPar g))
  | 0x04, 0 => padTo 256 (b.mot.flatMap (fun e => motBytes e.1 e.2))
  | 0x04, _ => (List.range 16).flatMap (fun c => motParBytes (recAt {} b.motPar c)) ++ leBytes 4 b.hostSilenceS ++ zeroBytes 12
  | 0x05, 0 => padTo 260 (leBytes 4 b.lkf.length ++ b.lkf.flatMap (fun e => lkfBytes e.1 e.2))
  | 0x05, _ => padTo 516 (leBytes 4 b.lkfPar.length ++ (b.lkfPar.flatMap (fun e => lkfParBytes e.2)))
  | 0x06, 0 => padTo 256 (b.twp.flatMap (fun e => twpBytes e.1 e.2))
  | 0x06, _ => padTo 128 (b.twpPar.flatMap (fun e => twpParBytes e.2))
  | 0x07, 0 => padTo 272 (b.arb.flatMap (fun e => arbBytes e.1 e.2))
  | 0x07, _ => padTo 2448 (b.arbPar.flatMap (fun e => arbParBytes e.2))
  | 0x08, _ => leBytes 4 b.react.length ++ b.react.flatMap reactBytes
  | 0x09, _ => contractBytes b.contract
  | 0x0A, _ => leBytes 4 b.owners.length ++ b.owners.flatMap ownerBytes
  | 0x0B, _ => leBytes 4 b.descs.length ++ b.descs.flatMap descBytes
  | 0x0C, _ => b.regions.zipIdx.flatMap (fun e => regionBytes (e.2 + 1) e.1)
  | _, _ => []

/-- The length of a part's body, by its record counts alone. -/
def partLength (b : Bitstream) (code part : Nat) : Nat :=
  match code, part with
  | 0x01, 0 => 25608 + 8 * b.signals.length + 16 * b.agrees.length
  | 0x01, _ => 65536
  | 0x02, 0 => 4240 + 16 * sumList ((graphSteps18 b).map (·.length))
  | 0x02, _ => 8208 + 4 * sumList ((graphSteps18 b).map (·.length))
  | 0x03, 0 => max 1452 (4 + 8 * b.sense.length)
  | 0x03, _ => max 5792 (32 * b.sense.length) + 1024
  | 0x04, 0 => max 256 (16 * b.mot.length)
  | 0x04, _ => 528
  | 0x05, 0 => max 260 (4 + 8 * b.lkf.length)
  | 0x05, _ => max 516 (4 + 16 * b.lkfPar.length)
  | 0x06, 0 => max 256 (16 * b.twp.length)
  | 0x06, _ => max 128 (8 * b.twpPar.length)
  | 0x07, 0 => max 272 (8 * b.arb.length)
  | 0x07, _ => max 2448 (72 * b.arbPar.length)
  | 0x08, _ => 4 + 8 * b.react.length
  | 0x09, _ => 84 + 24 * b.contract.entries.length
  | 0x0A, _ => 4 + 1824 * b.owners.length
  | 0x0B, _ => 4 + 64 * b.descs.length
  | 0x0C, _ => 16 * b.regions.length
  | _, _ => 0

/-- The header and the directory (R80). -/
def headBytes (b : Bitstream) : List Byte :=
  leBytes 4 b.magic ++ leBytes 2 b.fmtMajor ++ leBytes 2 b.fmtMinor ++ leBytes 4 b.hwtype ++ leBytes 4 b.bind ++ leBytes 8 b.unit ++ leBytes 4 b.total ++ leBytes 2 b.dir.length ++ zeroBytes 2
    ++ leBytes 4 b.svn ++ leBytes 4 b.zynsin ++ leBytes 8 b.buildTime ++ leBytes 32 b.trayName ++ leBytes 4 b.sigOffset ++ zeroBytes 44
    ++ b.dir.flatMap (fun d => leBytes 1 d.code ++ leBytes 1 d.part ++ zeroBytes 2 ++ leBytes 4 d.offset ++ leBytes 4 d.length ++ zeroBytes 4 ++ leBytes 64 d.digest)

/-- D_top (R82). -/
def topDigest (b : Bitstream) : Digest := shake256 (ascii "DVS-KX8B-CFG" ++ headBytes b)

/-- The digest a part's body really has (R80). -/
def partDigest (b : Bitstream) (code part : Nat) : Digest := shake256 (partBytes b code part)

/-- Bytes laid into a container at their offsets, rising, zeros between. -/
def placeBytes : Nat → List (Nat × List Byte) → List Byte
  | _, [] => []
  | at', (o, l) :: r => zeroBytes (o - at') ++ l ++ placeBytes (max at' o + l.length) r

/-- The whole bitstream as an item of a set holds it (R79, R406). -/
def bitsBytes (b : Bitstream) : List Byte :=
  placeBytes 0 ((0, headBytes b) :: b.dir.map (fun d => (d.offset, partBytes b d.code d.part)) ++ [(b.sigOffset, sigBytes b.sig)])

/-! ### Model images (R243, R244) -/

def imgHeadBytes (i : ImageRec) : List Byte :=
  leBytes 4 i.magic ++ leBytes 2 i.fmtMajor ++ leBytes 2 i.fmtMinor ++ leBytes 4 i.hwtype ++ leBytes 1 i.model ++ leBytes 1 i.svn ++ leBytes 1 i.inputs.length ++ leBytes 1 i.outputs.length
    ++ leBytes 2 i.layers.length ++ leBytes 2 i.warmup ++ leBytes 4 i.boundNs ++ leBytes 4 i.weightBytes ++ leBytes 2 i.sramKib ++ leBytes 2 i.stateKib ++ leBytes 4 i.streamMbps
    ++ leBytes 4 i.tablesLength ++ leBytes 4 i.sigOffset ++ leBytes 4 i.total ++ leBytes 64 i.weightDigest ++ zeroBytes 16

def imgInBytes (e : ImgIn) : List Byte := leBytes 2 e.index ++ leBytes 1 e.kind ++ leBytes 1 e.policy ++ leInt 1 e.shift ++ zeroBytes 1 ++ leBytes 2 e.window
def imgOutBytes (e : ImgOut) : List Byte := leBytes 2 e.source ++ leInt 1 e.shift ++ zeroBytes 5
def imgLayerBytes (l : ImgLayer) : List Byte :=
  [l.op, l.wfmt, l.afmt, l.flags].flatMap (leBytes 1) ++ [l.dimIn, l.dimOut, l.p0, l.p1, l.p2, l.p3, l.srcA, l.srcB].flatMap (leBytes 2) ++ leBytes 4 l.weightOffset ++ leBytes 4 l.weightLength
    ++ leBytes 2 l.segments ++ zeroBytes 2

def imgTables (i : ImageRec) : List Byte := i.inputs.flatMap imgInBytes ++ i.outputs.flatMap imgOutBytes ++ i.layers.flatMap imgLayerBytes

/-- D_model (R243). -/
def imageDigest (i : ImageRec) : Digest := shake256 (ascii "DVS-KX8B-CNPM" ++ imgHeadBytes i ++ imgTables i)

/-- Offset of the weights: the first multiple of 64 behind the tables (R243). -/
def imgWeightAt (i : ImageRec) : Nat := (128 + i.tablesLength + 63) / 64 * 64

def imageBytes (i : ImageRec) : List Byte := placeBytes 0 [(0, imgHeadBytes i ++ imgTables i), (imgWeightAt i, i.weights), (i.sigOffset, sigBytes i.sig)]

/-! ### Manifests (R265, R266) and the Merkle tree (R267) -/

def shardBytes (x : Shard) : List Byte :=
  leBytes 1 x.slot ++ leBytes 1 x.priority ++ leBytes 1 x.flags ++ zeroBytes 1 ++ leBytes 4 x.first ++ leBytes 8 x.size ++ leBytes 8 x.target ++ leBytes 2 x.reads ++ zeroBytes 6

def manHeadBytes (m : ManifestRec) : List Byte :=
  leBytes 4 m.magic ++ leBytes 2 m.fmtMajor ++ leBytes 2 m.fmtMinor ++ leBytes 4 m.hwtype ++ leBytes 4 m.bind ++ leBytes 8 m.unit ++ leBytes 8 m.modelTag ++ leBytes 4 m.shards.length
    ++ leBytes 4 m.leafCount ++ leBytes 1 m.leafLog2 ++ zeroBytes 7 ++ leBytes 8 m.imageBytes ++ leBytes 32 m.root ++ leBytes 4 m.sigOffset ++ leBytes 4 m.total ++ zeroBytes 32

/-- D_man (R266). -/
def manDigest (m : ManifestRec) : Digest := shake256 (ascii "DVS-KX8B-MANI" ++ manHeadBytes m ++ m.shards.flatMap shardBytes)

/-- The first 32 bytes of a SHAKE256 output, as the tree uses it. -/
def shake32 (l : List Byte) : Digest := shake256 l % 2 ^ 256

/-- The digest of leaf `i` over its bytes (R267). -/
def merkleLeaf (i : Nat) (bytes : List Byte) : Digest := shake32 (0x00#8 :: leBytes 4 i ++ bytes)

/-- The digest of a parent over its two children (R267). -/
def parentDigest (l r : Digest) : Digest := shake32 (0x01#8 :: leBytes 32 l ++ leBytes 32 r)

/-- One level of the tree above another. -/
def treeLevel : List Digest → List Digest
  | a :: b :: r => parentDigest a b :: treeLevel r
  | _ => []

/-- The top of a tree over `2^d` positions. -/
def treeTop : Nat → List Digest → Digest
  | 0, l => l.headD 0
  | d + 1, l => treeTop d (treeLevel l)

/-- The smallest `d`, at most `n` above `d0`, with `2^d` at least `count` (R267). -/
def treeDepth (count : Nat) : Nat → Nat → Nat
  | 0, d => d
  | n + 1, d => if count ≤ 2 ^ d then d else treeDepth count n (d + 1)

/-- The Merkle root over a leaf list: positions without a leaf hold zeros (R267). -/
def merkleRoot (leaves : List Digest) : Digest :=
  let d := treeDepth leaves.length 32 0
  treeTop d (leaves ++ List.replicate (2 ^ d - leaves.length) 0)

/-! ### Firmware images and the trim (R408), key records (R414) -/

/-- D_fw covers header, code and data: bytes 0 to SIG_OFFSET − 1. -/
def fwBody (i : FwImage) : List Byte :=
  leBytes 4 i.magic ++ leBytes 2 i.fmtMajor ++ leBytes 2 i.fmtMinor ++ leBytes 4 i.hwtype ++ leBytes 1 i.proc ++ zeroBytes 3 ++ leBytes 4 i.svn ++ leBytes 4 i.vector ++ leBytes 4 i.code.length
    ++ leBytes 4 i.data.length ++ leBytes 4 i.sigOffset ++ leBytes 4 i.total ++ leBytes 8 i.buildTime ++ zeroBytes 80 ++ i.code ++ i.data

/-- D_fw (R408). -/
def fwDigest (i : FwImage) : Digest := shake256 (ascii "DVS-KX8B-FW" ++ fwBody i)

def fwBytes (i : FwImage) : List Byte := fwBody i ++ sigBytes i.sig

/-- A number in `n` bytes of a list from byte `o` on; bytes beyond its end read 0. -/
def numAt (l : List Byte) (o n : Nat) : Nat := leNat ((l.drop o).take n)

/-- A signature section in bytes from `o` on (R82). -/
def readSig (l : List Byte) (o : Nat) : SigSec :=
  { keySlot := numAt l o 1, alg := numAt l (o + 1) 1, sigLen := numAt l (o + 2) 2, pubLen := numAt l (o + 4) 2, pubkey := numAt l (o + 8) 1793, sig := numAt l (o + 1808) 1280 }

/-- A key record in its bytes (R414). -/
def readKeyRec (l : List Byte) : KeyRec :=
  { magic := numAt l 0 4, hwtype := numAt l 4 4, bind := numAt l 8 4, unit := numAt l 12 8, op := numAt l 0x14 1, slot := numAt l 0x15 1, pubkey := numAt l 0x40 1793
    reservedZero := numAt l 0x16 42 == 0 && numAt l 0x741 3 == 0 && numAt l 0x74A 2 == 0 && numAt l 0xE4D 7 == 0
    signed := numAt l 0x744 3088 != 0, sig := readSig l 0x744 }

/-- The digest a key record is signed over: its bytes 0x000–0x743 (R414). -/
def keyRecDigest (l : List Byte) : Digest := shake256 (ascii "DVS-KX8B-KEYREC" ++ (padTo 0x744 l).take 0x744)

/-- A word of a buffer of bytes, and the buffer with it written; bytes never written read 0. -/
def bufWord (l : List Byte) (k : Nat) : Word := w32 (numAt l (4 * k) 4)
def setBufWord (k : Nat) (w : Word) (l : List Byte) : List Byte := (padTo (4 * k + 4) l).take (4 * k) ++ wordBytes w ++ l.drop (4 * k + 4)

/-- Whole words of a list of bytes. -/
def wordsOf : List Byte → List Word
  | a :: b :: c :: d :: r => w32 (leNat [a, b, c, d]) :: wordsOf r
  | _ => []

/-- The bytes of an item (R406). -/
def itemBytes : ItemBody → List Byte
  | .fw i => fwBytes i
  | .bits b => bitsBytes b
  | .model i => imageBytes i
  | .trim i => fwBytes i
  | .raw l => l

/-- What bytes read as: the record offered, where it has exactly these bytes (log 5). -/
def readItem (view : Option ItemBody) (l : List Byte) : ItemBody :=
  match view with | some b => if itemBytes b = l then b else .raw l | none => .raw l

/-- Bytes of which those named differ. -/
def flipBytes (l : List Byte) (flips : List (Nat × Byte)) : List Byte :=
  if flips = [] then l else l.zipIdx.map (fun e => e.1 ^^^ ((flips.find? (fun f => f.1 == e.2)).map (·.2)).getD 0#8)

/-! ### Sets (R406, R407) -/

def dirEntryBytes (i : FlashItem) : List Byte :=
  leBytes 1 i.kind ++ leBytes 1 i.index ++ zeroBytes 2 ++ leBytes 4 i.offset ++ leBytes 4 i.length ++ wordBytes i.crc ++ zeroBytes 16

/-- A set directory before its CRC. -/
def dirBytes (t : FlashSet) : List Byte :=
  padTo 0xFFC (leBytes 4 t.magic ++ leBytes 2 t.fmt ++ zeroBytes 2 ++ leBytes 4 t.hwtype ++ leBytes 2 t.items.length ++ zeroBytes 2 ++ leBytes 8 t.seq ++ zeroBytes 8
    ++ t.items.flatMap dirEntryBytes)

/-- Items lie on 4 KiB boundaries, behind the directory and apart from each other. -/
def itemsApart : List FlashItem → Bool
  | [] => true
  | i :: r => i.offset % 4096 == 0 && decide (4096 ≤ i.offset) && r.all (fun j => decide (i.offset + i.length ≤ j.offset ∨ j.offset + j.length ≤ i.offset)) && itemsApart r

/-- How many of the three reads of an item mismatch the CRC of its entry, up to the first that matches (R407). -/
def badReads (i : FlashItem) : Nat := ((List.range 3).takeWhile (fun k => crc32c (flipBytes (itemBytes i.body) (i.reads.getD k [])) != i.crc)).length

/-! ### Update packages (R433, R434) -/

def partEntryBytes (p : PkgPart) : List Byte :=
  leBytes 1 p.kind ++ leBytes 1 p.index ++ leBytes 1 p.mode ++ zeroBytes 1 ++ leBytes 4 p.offset ++ leBytes 4 p.data.length ++ wordBytes p.baseCrc ++ leBytes 4 p.length ++ wordBytes p.crc
    ++ zeroBytes 8

/-- A package header before HDR_CRC. -/
def pkgHeadBytes (p : Package) : List Byte :=
  leBytes 4 p.magic ++ leBytes 2 p.fmt ++ zeroBytes 2 ++ leBytes 4 p.hwtype ++ leBytes 4 p.bind ++ leBytes 8 p.unit ++ leBytes 2 p.parts.length ++ leBytes 2 p.setFmt ++ leBytes 4 p.maxDefer
    ++ leBytes 8 p.length ++ zeroBytes 16 ++ wordBytes p.entriesCrc

/-- What a delta makes of the installed item's bytes (R434), or nothing where a record is malformed or its range leaves the item; at most `n` records. -/
def applyDelta (base : List Byte) : Nat → List Byte → Option (List Byte)
  | 0, _ => none
  | n + 1, l =>
    match l with
    | [] => none
    | op :: r =>
      if op = 0x00#8 then some []
      else if op = 0x01#8 then
        let o := numAt r 0 4
        let k := numAt r 4 4
        if r.length < 8 ∨ base.length < o + k then none else (applyDelta base n (r.drop 8)).map (fun t => (base.drop o).take k ++ t)
      else if op = 0x02#8 then
        let k := numAt r 0 4
        if r.length < 4 + k then none else (applyDelta base n (r.drop (4 + k))).map (fun t => (r.drop 4).take k ++ t)
      else none

/-! ### Signatures of the device, and certificates (R166, R426–R429) -/

/-- Words of a signature: SIG_LEN, then 1,280 bytes, zero beyond it; `n` is what `Config.sign` gives (log 6). -/
def sigWords (n : Nat) : List Word :=
  let len := n % 2048 % 1281
  let b := n / 2048 % 2 ^ (8 * len)
  w32 len :: (List.range 320).map (fun i => w32 (b / 2 ^ (32 * i)))

def digestWords (d : Digest) : List Word := (List.range 16).map (fun i => w32 (d / 2 ^ (32 * i)))

/-- What the key-derivation unit computes for a purpose (R426): SHAKE256 over the device secret, the purpose string and, where it takes one, the SVN. -/
def kduSeed (purpose : String) (svn : Option Nat) : Digest :=
  shake256 (leBytes 32 Config.deviceSecret ++ ascii purpose ++ match svn with | some n => leBytes 4 n | none => [])

/-- The root public key, and the identity public key of a firmware security version (R426). -/
def rootKey : Nat := Config.falconKey (kduSeed "DVS-KX8B-ROOT" none) % 2 ^ (8 * 1793)
def identityKey (svn : Nat) : Nat := Config.falconKey (kduSeed "DVS-KX8B-IDENTITY" (some svn)) % 2 ^ (8 * 1793)

/-- First four bytes of the digest of a public key (R431). -/
def keyId (pub : Nat) : Word := lo32 (shake256 (leBytes 1793 pub))

/-- The alias certificate before its signature (R428). -/
def aliasBody (svn revoked programmed : Nat) (sec : Digest) : List Byte :=
  leBytes 4 0x4341584B ++ leBytes 2 1 ++ zeroBytes 2 ++ leBytes 4 0x4238584B ++ leBytes 4 svn ++ leBytes 8 Config.unitId ++ leBytes 2 revoked ++ leBytes 2 programmed ++ zeroBytes 4
    ++ leBytes 64 sec ++ leBytes 1793 (identityKey svn) ++ zeroBytes 3

/-- The alias certificate, signed by the root key over the digest of its domain string and body (R428); `use` tells its signature from others (log 6). -/
def aliasCert (svn revoked programmed : Nat) (sec : Digest) (use : Nat) : List Byte :=
  let b := aliasBody svn revoked programmed sec
  b ++ (sigWords (Config.sign rootKey (shake256 (ascii "DVS-KX8B-ALIAS" ++ b)) use)).flatMap wordBytes

/-- FW_SVN and SEC_DIGEST of an alias certificate. -/
def certSvn (l : List Byte) : Nat := numAt l 12 4
def certSec (l : List Byte) : Digest := numAt l 32 64

end Sys2Proof.Machine
end

