-- ==== Sys2Proof/Syntax.lean ====
section
/-! DEFINITION. The commands of the block: one constructor for each row of the table of operations and events, in the order of the
chapters. A command carries what comes from outside with it: the path of a write, a TAG, an operand mask, a converted sample, a peer's message. -/

namespace Sys2Proof

/-- A command (an operation on the device, or an event that reaches it). -/
inductive Instr where
  /- Reset, supply, timebase and access (01, 00, 19) -/
  | powerOnReset
  | standbySupplyLoss
  | mainPgFall
  | standbySupplyGood
  | mainPgTimeout
  | secRomRelease (b : BootEnv)
  | inputPowerGood
  | upNoPeer
  | resetCtrlKey (path : Path) (value : Word)
  | supervisionWatchdogBite
  | tick (env : TickEnv)
  | handoverTimeout (pin : HeldPin)
  | leasePinExpiry (slot : Fin 8)
  | paceStepUp (region : Fin 24)
  | paceStepDown
  | paceOverrun (region : Fin 24)
  | crystalFail
  | registerWrite (path : Path) (offset : BitVec 24) (value : Word)
  | rcRead (path : Path) (offset : BitVec 24)
  | unmappedAccess (path : Path) (offset : BitVec 24) (write : Option Word)
  | rwpPairTimeout (offset : BitVec 24)
  | blockCommit (path : Path) (reg : BitVec 24)
  | blockDiscard (path : Path) (reg : BitVec 24)
  | blockCommitApply (reg : BitVec 24)
  /- Glade fabric and configuration (02, 03) -/
  | signalChangeEvaluate (slot : Fin 512)
  | structureLoad
  | structureLoadDone (quarter : Option (Fin 4)) (readbackOk : Bool)
  | standbyApply
  | paramEccError (tile : Fin 64) (e : ParamEcc)
  | paramStageWrite (path : Path) (tile : Fin 64) (pair : Fin 128) (comp : Bool) (value : Word)
  | tileCommit (path : Path) (tile : Fin 64)
  | tileDiscard (path : Path) (tile : Fin 64)
  | tileCommitApply (tile : Fin 64)
  | groupCommit (path : Path)
  | groupCommitApply
  | configCommitApply
  | applyRetry
  /- Power sequencing (04) -/
  | seqSlotUp (path : Path) (tag : Byte) (mask : Byte)
  | seqSlotDown (path : Path) (tag : Byte) (mask : Byte)
  | seqTrayUp (path : Path) (tag : Byte) (mask : Byte)
  | seqTrayDown (path : Path) (tag : Byte)
  | seqClear (path : Path) (tag : Byte) (mask : Byte) (tray : Bool)
  | seqNop (path : Path) (tag : Byte)
  | heldCommandRun
  | stepDelayDone (graph : Fin 18) (step : Fin 64)
  | stepAdmit (graph : Fin 18) (step : Fin 64)
  | stepQualified (graph : Fin 18) (step : Fin 64)
  | stepTimeout (graph : Fin 18) (step : Fin 64)
  | pgChange (pin : Fin 128) (level : Bool)
  | vsWindowFault (rail : Fin 256)
  | powerFailHoldExpiry
  | seqAdoptionStart
  | adoptRailReadDone (rail : Fin 256) (on : Bool) (good : Bool)
  | queueWaitLong (graph : Fin 18) (step : Fin 64)
  | ffrValidClear (path : Path)
  /- Shaping, contract and ledger (05) -/
  | traySample (volts : Word) (amps : Word) (ok : Bool)
  | senseSample (channel : Fin 128) (raw : Word)
  | fastTrip (c : Comparator)
  | tripLevelFall
  | msgAck (slot : Fin 8) (seq : BitVec 16)
  | telemetryRecord (slot : Fin 8) (power : Word) (r : DemandHot)
  | telemetryStale (slot : Fin 8)
  | stepHint (slot : Fin 8) (headReq : Bool) (tailIn : Word) (tailLen : Word) (headW : Word) (headRamp : Word)
  | hintTimeout (slot : Fin 8)
  | tailStart (slot : Fin 8)
  | tailEnd (slot : Fin 8)
  | vfWaitTimeout (slot : Fin 8)
  | stepPinFall (slot : Fin 8)
  | stepPinRise (slot : Fin 8)
  | schedArm (path : Path) (tag : Byte)
  | schedCancel (path : Path) (tag : Byte)
  | scheduleCheckDone
  | scheduleTakeOver
  | trimSaturated
  | minuteClose
  | ledgerBlockSigned
  | signingLate
  | spoolWriteDone
  | ledgerSpoolRestore
  | ledgerResign
  /- Thermal, leak and flow (06) -/
  | thermalSample (channel : Nat) (value : Word) (feFault : Bool)
  | channelPlausible (channel : Nat)
  | sampleRateFall (channel : Nat)
  | staircaseStep (group : Fin 32)
  | staircaseRelease (group : Fin 32)
  | shdnClrRequest (path : Path) (tag : Byte) (mask : Byte) (tray : Bool)
  | tcritConversion (diode : Fin 2) (value : Word) (faulted : Bool)
  | leakReading (channel : Fin 16) (r : Word) (q : Word)
  | leakNoisy (channel : Fin 16)
  | lkfClearRequest (path : Path) (tag : Byte) (mask : BitVec 16)
  | flowSample (channel : Fin 16) (x : Word)
  | flowAlarm (channel : Fin 16)
  | flowAlarmEnd (channel : Fin 16)
  | flowJudgeStart
  /- Motor drive (07) -/
  | heartbeatReceive (die : Fin 2) (crcOk : Bool) (badPairs : Byte)
  | heartbeatReply (die : Fin 2) (r : DieReply)
  | dieFailsafe (die : Fin 2)
  | setpointLost (channel : Fin 16)
  | hostSilence (die : Fin 2)
  | startWatchEnd (channel : Fin 16) (speed : Word) (hallOk : Bool)
  | reverseCoastEnd (channel : Fin 16)
  | alignDone (channel : Fin 16)
  | bemfLock (channel : Fin 16)
  | rampNoLock (channel : Fin 16)
  | restDone (channel : Fin 16)
  | stallDetect (m : StallSense)
  | runCountReset (channel : Fin 16)
  | senseLost (m : ChanSense)
  | senseRegained (channel : Fin 16)
  | senseFail (m : OpenSense)
  | overcurrent (m : PhaseSense)
  | openPhase (m : ChanSense)
  | speedLow (m : ChanSense)
  | speedLowClear (m : ChanSense)
  | hallInvalid (channel : Fin 16)
  | vmotBusFault (die : Fin 2) (mv : BitVec 16)
  | vmotBusRecover (die : Fin 2) (mv : BitVec 16)
  | motClearRequest (path : Path) (tag : Byte) (mask : BitVec 16)
  /- Canopy (08) -/
  | segmentDone (tile : Fin 16) (r : SegEnd)
  | deadlineMiss (model : Fin 32)
  | cnpLoad (path : Path) (tag : Byte) (model : Fin 32)
  | cnpSuspend (path : Path) (tag : Byte) (model : Fin 32)
  | cnpResume (path : Path) (tag : Byte) (model : Fin 32)
  | cnpResetState (path : Path) (tag : Byte) (model : Fin 32)
  | stagedHashDone
  | loadCopyDone (flips : List (Nat × Byte))
  | cnpStateEcc (model : Fin 32)
  | canopyBootLoad
  /- Custody (09) -/
  | cusLoad (path : Path) (tag : Byte) (mask : Byte) (allowRemnant : Bool)
  | cusPlanOnly (path : Path) (tag : Byte) (mask : Byte) (allowRemnant : Bool)
  | cusCancel (path : Path) (tag : Byte)
  | cusResume (path : Path) (tag : Byte)
  | manifestVerified (m : ManifestRec) (fetchOk : Bool) (sg : List SgEntry)
  | treeDone (first : Digest) (rest : List Digest)
  | capAnswer (slot : Fin 8) (bytes : BitVec 64)
  | capQueryTimeout (slot : Fin 8)
  | leafFetch
  | leafHashDone (leaf : BitVec 24) (bytes : List Byte)
  | clearAck (slot : Fin 8) (leaf : BitVec 24)
  | clearAckTimeout (slot : Fin 8) (leaf : BitVec 24)
  | loadResumeAfterReset
  | remnantScrub (flips : List (Nat × Nat × Byte))
  | jobFault (slot : Fin 8) (code : Word)
  | cusRestart (path : Path) (tag : Byte)
  | cusHold (path : Path) (tag : Byte)
  | cusRelease (path : Path) (tag : Byte)
  | cusContinue (path : Path) (tag : Byte)
  | abortHoldExpiry
  | quiesceDone
  | readyWaitDone
  | readyWaitTimeout
  | pwrRetry
  /- Gorino Coherent Link (10) -/
  | portRetrain (path : Path) (port : Fin 11) (tag : Byte)
  | portFullRetrain (path : Path) (port : Fin 11) (tag : Byte)
  | portDisable (path : Path) (port : Fin 11) (tag : Byte)
  | portEnable (path : Path) (port : Fin 11) (tag : Byte)
  | peerDetect (port : Fin 11)
  | equaliseDone (port : Fin 11) (own : BitVec 16) (peer : BitVec 16)
  | fecLockHeld (port : Fin 11)
  | configRecord (port : Fin 11) (r : ConfigRec)
  | trainTimeout (port : Fin 11)
  | downRetry (port : Fin 11)
  | codewordLockLoss (port : Fin 11)
  | lowPowerEnter (port : Fin 11)
  | lowPowerExit (port : Fin 11)
  | recoveryLanesChosen (port : Fin 11) (own : BitVec 16) (peer : BitVec 16)
  | flitReceive (port : Fin 11) (f : Flit)
  | rdS (port : Fin 11) (tag : BitVec 13) (addr : BitVec 48)
  | rdUc (port : Fin 11) (tag : BitVec 13) (addr : BitVec 48) (len : BitVec 13)
  | csrRd (port : Fin 11) (tag : BitVec 13) (addr : BitVec 48)
  | csrWr (port : Fin 11) (tag : BitVec 13) (addr : BitVec 48) (data : Word)
  | wr (port : Fin 11) (tag : BitVec 13) (addr : BitVec 48)
  | completionReceived (port : Fin 11) (tag : BitVec 13) (status : Byte) (poison : Bool)
  | completionTimeout (port : Fin 11) (tag : BitVec 13)
  | snpInv (page : BitVec 36)
  | snpRspI (page : BitVec 36)
  | snoopResend (page : BitVec 36)
  | timeSync (port : Fin 11) (t1 : BitVec 64)
  | timeReq (port : Fin 11)
  | timeRsp (port : Fin 11) (t4 : BitVec 64)
  /- Memory (11) -/
  | miTrainDone (mi : Fin 8) (ok : Bool)
  | dramReadUe (addr : BitVec 37) (t : Subtree)
  | rcdTrigger (path : Path) (tag : Byte)
  | rcdRearm (path : Path) (tag : Byte)
  | rcdPostExpire
  | rcdAutoRearm
  | rcdStagingOverflow
  /- Two-wire ports (12) -/
  | twpTargetWrite (port : Fin 16) (addr : BitVec 7) (bytes : List Byte)
  | twpTargetRead (port : Fin 16) (addr : BitVec 7) (r : ReadPhase)
  | twpBusError (port : Fin 16) (bytes : List Byte)
  | alertResponseRead (won : Bool)
  | alertLineFall (port : Fin 16)
  | alertIgnoreEnd (port : Fin 16)
  | clkLowTimeout (port : Fin 16) (sdaLow freed : Bool)
  | dataLowTimeout (port : Fin 16) (freed : Bool)
  | twpBusClearCmd (path : Path) (port : Fin 16) (tag : Byte) (freed : Bool)
  | twpResetPulse (path : Path) (port : Fin 16) (tag : Byte)
  | resetPinRelease (port : Fin 16)
  | resetPinSettle (port : Fin 16) (freed : Bool)
  | stuckRetry (port : Fin 16) (freed : Bool)
  | fxTransferStart (path : Path) (port : Fin 16) (window : Fin 5) (ctrl : Word)
  | transferDone (port : Fin 16) (result : Fin 13) (d : WireData)
  | wakeAddressMatch (port : Fin 16) (addr : BitVec 7)
  /- Pass arbiter (13) -/
  | arbRequest (inst : Fin 34) (req : Fin 16) (beats cost : Nat) (lock : Bool)
  | beatComplete (inst : Fin 34) (req : Fin 16)
  | windowRefill (inst : Fin 34)
  | lockWatchdogBite (inst : Fin 34) (sdaFreed : Bool)
  /- Firmware processors (14) -/
  | procRelease (path : Path) (p : Proc) (tag : Byte)
  | fpcRestart (path : Path) (p : Proc) (tag : Byte)
  | procReady (path : Path) (p : Proc) (key : Word)
  | procWdKick (path : Path) (p : Proc) (key : Word)
  | procWatchdog (p : Proc)
  | procTrap (p : Proc)
  | procMemoryError (p : Proc)
  | procRestoreDone (p : Proc) (flips : List (Nat × Byte))
  | procReloadDone (p : Proc) (item : Option FlashItem)
  /- Mailboxes (14) -/
  | handlerResponse (p : Proc)
  | mailboxTimeout (chan : Fin 8)
  | mbxAck (path : Path) (value : Word)
  | ping (m : MbxMsg)
  | getInfo (m : MbxMsg)
  | csrRead (m : MbxMsg)
  | contractLoad (m : MbxMsg)
  | contractArm (m : MbxMsg)
  | contractCancel (m : MbxMsg)
  | ledgerRead (m : MbxMsg)
  | slotPower (m : MbxMsg)
  | trayPower (m : MbxMsg)
  | shutdownClear (m : MbxMsg)
  | motorClear (m : MbxMsg)
  | leakClear (m : MbxMsg)
  | locate (m : MbxMsg)
  | indicator (m : MbxMsg)
  | modelLoad (m : MbxMsg)
  | jobRestart (m : MbxMsg)
  | canopyLoad (m : MbxMsg) (img : Option ImageRec)
  | canopyCtrl (m : MbxMsg)
  | updateStage (m : MbxMsg)
  | updateActivate (m : MbxMsg)
  | updateStatus (m : MbxMsg)
  | attest (m : MbxMsg)
  | procRestart (m : MbxMsg)
  | chipReset (m : MbxMsg)
  | recorder (m : MbxMsg)
  | relay (m : MbxMsg)
  /- Boot and keys (15) -/
  | rcvPull (path : Path) (tag : Byte) (kind index : Byte)
  | pullDone (ok : Bool) (item : ItemBody)
  | rcvAppendReset (path : Path) (tag : Byte) (kind index : Byte)
  | rcvAppend (path : Path) (tag : Byte) (kind index : Byte) (view : Option ItemBody)
  | rcvVerify (path : Path) (tag : Byte) (kind index : Byte)
  | rcvRelease (path : Path) (tag : Byte) (b : BootEnv)
  | keySubmit (path : Path) (tag : Byte) (record : List Byte)
  | fuseBlowDone (readBack : Bool)
  /- Field update (16) -/
  | stagingDone (p : Package)
  | updArmTime (path : Path) (tag : Byte)
  | updArmReset (path : Path) (tag : Byte)
  | updCancel (path : Path) (tag : Byte)
  | updRollback (path : Path) (tag : Byte)
  | activationTime
  | deferEnd
  | deferWindowEnd
  | provingDone
  | holdoffExpiry
  | trialExpiry
  | fallbackStart
  /- Faults and the non-volatile store (17) -/
  | fwClaim (path : Path) (u : FUnit) (tag : Byte)
  | fwRelease (path : Path) (u : FUnit) (tag : Byte)
  | pendingClear (path : Path) (u : FUnit) (word : Fin 8) (mask : Word)
  | fwInjectRequest (path : Path) (u : FUnit) (tag : Byte) (source count : Byte) (mode : Fin 4)
  | trapAckTimeout (u : FUnit)
  | errPulseEnd
  | errHold (path : Path) (tag : Byte) (afterPulse : Bool)
  | errRelease (path : Path) (tag : Byte) (afterPulse : Bool)
  | faultLogCommit
  | nvsCommit (path : Path) (tag : Byte) (area : Byte) (payload : NvsPayload)
  | nvsRead (path : Path) (tag : Byte) (area : Byte)
  | nvsErase (path : Path) (tag : Byte) (area : Byte)
  | nvsMonoInc (path : Path) (tag : Byte) (counter : Byte)
  | nvsCommitDone (flips : List (Nat × Byte))
  /- Device power, timebase, cascade, indicators (18) -/
  | domainSupplyGood (domain : Fin 136)
  | domainFail (domain : Fin 136)
  | wakeEvent (source : Fin 8)
  | locateButton
  | locateTimeout
  | tbsAlarm (alarm : Fin 8)
  | ppsEdge
  | holdoverEnter
  | holdoverLimit
  | memberCap (port : Fin 11) (h : MemberHead) (cap capC : Word) (leaseUs sendUs : Word)
  | memberReport (member : Fin 4) (pin demand avg : Word) (windowEnd : BitVec 64)
  | memberRecord (member : Fin 4) (words : List Word)
  | boardRecordClose
  | memberLost (member : Fin 4)
  | memberLeaseExpiry
  /- Test access port and pins (19) -/
  | tapBypass
  | tapIdcode
  | tapSamplePreload
  | tapExtest
  | tapClamp
  | tapHighz
  | tapKeyRecord (tag : Byte) (submit : Bool) (record : List Byte)
  | tapCertWrite (bytes : List Byte)
  | tapInject (u : FUnit) (injectUnit : BitVec 16) (tag : Byte) (source count : Byte) (mode : Fin 4)
  | tapChipReset
  | porNRelease (bootSrc : Fin 4) (casRole : Fin 4) (therm : Fin 8)
  deriving DecidableEq, Repr

end Sys2Proof
end

