-- ==== Sys2Proof/Machine/State.lean ====
section
/-! DEFINITION. The state of the device: every register, store, queue, counter, latch and mode that the chapters name, as plain data, and the queue of
waiting commands; and the state right after power-on reset. -/

namespace Sys2Proof.Machine

/-! ### What a step still owes (17_faults_and_nonvolatile_store.md) -/

/-- An action that a meaning asks for and the end of the same step carries out: a block reset of R462 step 5, a chip reset with its cause bits (R37, R462
step 6), a processor restart with its cause (R386), a job-fault reason with its slot (R286), a power-down that completed (R189), CAPTURE1 of a window latched in this step (R461), a fault-log commit at once
(R477), an alert of a contained or fatal fault (R353), and a controller transfer that ended without the bus (R360). -/
inductive Note where
  | blockReset (u : FUnit) (inst : Nat)
  | chipReset (cause : Nat)
  | procRestart (p : Proc) (cause : Nat)
  | slotFault (slot : Nat)
  | latchFault (slot : Nat)
  | powerDown (key : Nat)
  | capture1 (key : Nat)
  | logNow
  | severe (fatal : Bool)
  | twDone (port : Nat) (op : TwOp) (result : Nat)
  deriving DecidableEq, Repr

/-! ### Faults and refusals -/

/-- Why the machine stops. No meaning of this model stops the machine: the type has one constructor, which no
definition answers with (a fault of the device is an effect on its fault windows, R457). Safe. -/
inductive Fault where
  /-- Nobody raises it. Safe. -/
  | never
  deriving DecidableEq, Repr

/-- Why a command is refused without an effect. -/
inductive Refusal where
  /-- Raised by an arm of `exec` whose instruction has no meaning yet. Safe. -/
  | notModelled (mnemonic : String)
  deriving DecidableEq, Repr

/-! ### Reset island, pins and register store (01_tray_steward_architecture.md, 00_scope.md) -/

/-- One hold latch (R16, R17): the level it drives, whether it is held, the level its block presents, the time a
mismatch began, and whether that mismatch was reported. -/
structure Latch where
  level    : Nat := 0
  held     : Bool := false
  want     : Option Nat := none
  since    : Option Time := none
  reported : Bool := false
  deriving DecidableEq, Repr

/-- The last-start causes of ID_RESET_CAUSE (R37) by bit number, and its COUNT. -/
structure ResetCause where
  bits  : Word := 0
  count : Nat := 0
  deriving DecidableEq, Repr

/-- Supply state of the Understory (R503, R504): POR_N asserted, PWR_MAIN_EN, MAIN_PG, the time PWR_MAIN_EN was last
asserted, the time of the next try, and whether the pads EN float until section 0x02 has loaded. -/
structure Supply where
  porAsserted : Bool := true
  standbyGood : Bool := false
  mainEn      : Bool := false
  mainPg      : Bool := false
  enSince     : Option Time := none
  retryAt     : Option Time := none
  deriving DecidableEq, Repr

/-- The straps as sampled at the rising edge of POR_N (R508). -/
structure Straps where
  casRole : Nat := 0
  bootSrc : Nat := 0
  therm   : Nat := 0
  deriving DecidableEq, Repr

/-- A lease expiry in the Understory with its complement (R16), 64-bit words as numbers. -/
structure LeaseExp where
  expiry : Time
  comp   : Nat
  deriving DecidableEq, Repr

/-- The pace monitors and the core supply (R19, R20). `easySince`: since when every region has exceeded its requirement by at least 15 %. -/
structure PaceS where
  /-- VDD_CORE in millivolts. -/
  vdd        : Nat := 750
  /-- Regions reported short, each with the time it became short. -/
  short      : Tab Time := []
  /-- Last step commands. -/
  lastUp     : Option Time := none
  lastDown   : Option Time := none
  /-- Time VDD_CORE reached 0.85 V. -/
  at850      : Option Time := none
  /-- Regions whose overrun has been raised since they last recovered. -/
  overrun    : NSet := []
  easySince  : Option Time := none
  deriving DecidableEq, Repr

/-- An RWP pair that was left unequal (R10, R11): the two words as written and the time of the last write. -/
structure HalfPair where
  value : Word
  comp  : Word
  since : Time
  deriving DecidableEq, Repr

/-- A commit in flight (R12): the time of the request, and whether the set was found valid. -/
structure CommitJob where
  requested : Time
  setWords  : Tab Word
  deriving DecidableEq, Repr

/-- A block's commit status (PENDING, RESULT, FIRST, SEQ of its COMMIT_STATUS register). -/
structure CommitS where
  pending : Option CommitJob := none
  first   : Nat := 0
  result  : Nat := 0
  seq     : Nat := 0
  deriving DecidableEq, Repr

/-- The words software writes. `words` holds RW words, the value words in effect of RWP pairs and the staged words of RWS
fields; `live` the words in force of RWS fields; `half` the unequal pairs; `commits` the commit state by block code;
`tags` the last TAG acted on of each command pair, by offset. -/
structure RegS where
  words   : Tab Word := []
  live    : Tab Word := []
  half    : Tab HalfPair := []
  commits : Tab CommitS := []
  tags    : Tab Nat := []
  deriving DecidableEq, Repr

/-! ### Fault windows (17_faults_and_nonvolatile_store.md) -/

/-- STATE of a fault window (R457). -/
inductive WinState where
  | empty | latched | handling
  deriving DecidableEq, Repr

/-- A fault window (R457–R463, registers of ch. 17). -/
structure FaultWin where
  state      : WinState := .empty
  merge      : Nat := 0
  first      : Nat := 0
  firstClass : FClass := .corrected
  worst      : Nat := 0
  overflow   : Bool := false
  restored   : Bool := false
  injected   : Bool := false
  storm      : Bool := false
  rFirst     : Nat := 0
  rLater     : Nat := 0
  time       : Time := 0
  capture    : List Word := []
  injSource  : Nat := 0
  injLeft    : Nat := 0
  injMode    : Nat := 0
  injResult  : Nat := 0
  severe     : Nat := 0
  corrected  : Nat := 0
  pending    : NSet := []
  /-- Time of a non-maskable trap not yet acknowledged (R462 step 3). -/
  trapSince  : Option Time := none
  /-- Times of block resets of this unit within the last 10 s, by unit named (R463). -/
  resets     : List (Nat × Time) := []
  /-- ENTRY number of the fault-log entry of the first raise, while MERGE may still count (R477). -/
  logEntry   : Option Nat := none
  deriving DecidableEq, Repr

/-- A window's capture saved before a fault-requested chip reset (R460). -/
structure SavedCapture where
  key      : Nat
  block    : Nat
  source   : Nat
  cls      : FClass
  time     : Time
  capture  : List Word
  injected : Bool
  rFirst   : Nat
  deriving DecidableEq, Repr

/-- ERR_N (R464, R465): end of the running pulse, held after its pulse, pulses counted since power-on reset, and
whether a requested chip reset keeps the pin asserted until it begins. -/
structure ErrS where
  pulseEnd  : Option Time := none
  heldPin   : Bool := false
  asserted  : Bool := false
  pulses    : Nat := 0
  deriving DecidableEq, Repr

/-! ### Non-volatile store (17_faults_and_nonvolatile_store.md) -/

/-- One bank of an area (R468). -/
structure NvsBank where
  valid   : Bool := false
  seq     : Nat := 0
  length  : Nat := 0
  payload : Option NvsPayload := none
  deriving DecidableEq, Repr

/-- The MRAM die's content: two banks per area, the spool ring, the episode counts since manufacture. -/
structure Mram where
  bankA : Tab NvsBank := []
  bankB : Tab NvsBank := []
  spool : Tab SignedBlock := []
  deriving DecidableEq, Repr

/-- A commit waiting in the NVS engine (R470): its rank, area, payload and length, the processor command that asked, whether it is
an erase, and whether it repeats a staged copy after a chip reset (R471). -/
structure NvsJob where
  rank    : Nat
  area    : Nat
  payload : Option NvsPayload
  length  : Nat
  erase   : Bool := false
  tag     : Option Nat := none
  again   : Bool := false
  started : Bool := false
  deriving DecidableEq, Repr

/-- The NVS block (R479 registers) beside its register words. -/
structure NvsS where
  queue     : List NvsJob := []
  scanned   : Bool := false
  dieOk     : Bool := false
  corrected : Nat := 0
  resTag    : Nat := 0
  result    : Nat := 0
  resArea   : Nat := 0
  commits   : Tab Nat := []
  /-- Payload that READ last copied to the shared buffers. -/
  readBuf   : Option NvsPayload := none
  /-- Fault-log entries not yet committed (R477), the time the first of them latched and the next ENTRY number. -/
  logPend   : List LogEntry := []
  logSince  : Option Time := none
  deriving DecidableEq, Repr

/-- Staging copies in the Understory retained SRAM (R471): area and payload, until the commit is done. -/
abbrev NvsStaged := Tab NvsPayload

/-! ### Configuration state (03_configuration_bitstream.md) -/

/-- A live apply (R95, R96): the candidate, the changed P parts by section code, the time of the request, the sets as validated (tiles, and words by
register; R12), whether it is validated, and whether this is the retry. -/
structure ApplyJob where
  cand      : Bitstream
  parts     : List Nat
  requested : Time
  tiles     : Tab (Tab Pair) := []
  words     : Tab Word := []
  validated : Bool := false
  retry     : Bool := false
  interrupted : Bool := false
  awaiting  : Option Nat := none
  deriving DecidableEq, Repr

/-- Bitstream state of SEC (R78, R100). -/
structure CfgS where
  running   : Option Bitstream := none
  candidate : Option Bitstream := none
  apply     : Option ApplyJob := none
  block     : Nat := 0
  detail    : Nat := 0
  result    : Nat := 0
  state     : Nat := 0
  deriving DecidableEq, Repr


/-! ### Glade fabric (02_glade_fabric.md) -/

/-- One signal of the plane (R41–R45): value and complement words, stale flag and its complement, type code and producer. -/
structure Signal where
  value  : Word := 0
  comp   : Word := 0xFFFFFFFF
  stale  : Bool := true
  staleC : Bool := false
  typ    : Nat := 0
  prod   : Nat := 0
  deriving DecidableEq, Repr

/-- Fabric states (R67). -/
inductive FabState where
  | noStructure | loading | adopting | running | standbyApply
  deriving DecidableEq, Repr

/-- Primitive state and the report of one loop slot (R48–R61, SLOT_STATE, SLOT_OUT, SLOT_EVALS). Working-form values are
integers of 2^-32. -/
structure SlotSt where
  inited    : Bool := false
  stale     : Bool := true
  pstate    : Nat := 0
  sat       : Bool := false
  inputBad  : Bool := false
  aux       : Nat := 0
  evals     : Nat := 0
  halted    : Bool := false
  out       : Word := 0
  lastEval  : Option Time := none
  /-- PID: i, d, previous PV; limiter and filter: y in `i`. -/
  i         : Int := 0
  d         : Int := 0
  pv        : Int := 0
  /-- Two-position state and the time of the last switch taken by evaluation. -/
  on        : Bool := false
  lastSwitch : Option Time := none
  /-- Sequencer: step and its start; GO as last validly seen. -/
  step      : Nat := 0
  stepStart : Time := 0
  prevIn    : Bool := false
  /-- Lease keeper: acknowledged send last taken and expiry, both in microseconds. -/
  ackSeen   : Option Word := none
  expiryUs  : Option Nat := none
  /-- Counter or timer: count, and the start of the present run of IN. -/
  count     : Nat := 0
  since     : Option Time := none
  /-- Comparator output. -/
  asserted  : Bool := false
  /-- Last valid word of each input and its run of failed checks (R46). -/
  inLast    : Tab Word := []
  inBad     : Tab Nat := []
  deriving DecidableEq, Repr

/-- A tile: stores, commit state and overrun counts (R66, R71–R74). -/
structure TileSt where
  halted    : Bool := false
  commits   : Nat := 0
  live      : Tab Pair := []
  staged    : Tab Pair := []
  pending   : Option (Time × Tab Pair) := none
  firstPair : Nat := 0
  result    : Nat := 0
  seq       : Nat := 0
  ovSafety  : Nat := 0
  ovPace    : Nat := 0
  deriving DecidableEq, Repr

/-- What adoption still waits for (R67): tick classes in use that have not fired, and change-triggered slots still to
be evaluated. -/
structure AdoptWait where
  classes : NSet := []
  slots   : NSet := []
  deriving DecidableEq, Repr

/-- The fabric. -/
structure Fabric where
  state     : FabState := .noStructure
  loadCount : Nat := 0
  structId  : Nat := 0
  tiles     : List TileRec := []
  signals   : List SignalRec := []
  /-- The last structure load ended in a failed readback (R67). -/
  loadFailed : Bool := false
  tile      : Tab TileSt := []
  slot      : Tab SlotSt := []
  plane     : Tab Signal := []
  /-- Change-triggered slots with a change not yet evaluated (R62). -/
  due       : NSet := []
  adopt     : AdoptWait := {}
  /-- Quarters passing through LOADING and ADOPTING on their own after a block reset (R70). -/
  quarter   : Tab FabState := []
  qAdopt    : Tab AdoptWait := []
  qOverrun  : Tab Word := []
  groupPend : Option (Time × List Nat) := none
  groupFirst : Nat := 0
  groupResult : Nat := 0
  groupSeq  : Nat := 0
  deriving DecidableEq, Repr


/-! ### Power sequencing (04_power_sequencing.md) -/

/-- States of a step (R108). -/
inductive StepState where
  | waiting | delay | queued | active | done | failed | aborted
  deriving DecidableEq, Repr

/-- A step in a running graph: its state, the times that move it, what it captured when it began (R108–R113, R129), and the cause of a failure decided since the last tick (R110). -/
structure StepRun where
  state     : StepState := .waiting
  readyAt   : Option Time := none
  delayAt   : Time := 0
  delayUs   : Nat := 0
  queuedAt  : Time := 0
  cmdAt     : Time := 0
  drops     : Nat := 0
  goodReads : Nat := 0
  badReads  : Nat := 0
  failReads : Nat := 0
  qualUs    : Nat := 0
  timeoutUs : Nat := 0
  restarts  : Nat := 0
  longSaid  : Bool := false
  fail      : Nat := 0
  deriving DecidableEq, Repr

/-- STATE of SEQ_GRAPH_STATE. -/
inductive GraphState where
  | idle | running | done | failed | aborted
  deriving DecidableEq, Repr

/-- A graph's run. -/
structure GraphRun where
  state    : GraphState := .idle
  failStep : Nat := 0xFF
  steps    : Tab StepRun := []
  deriving DecidableEq, Repr

/-- STATE of SEQ_RAIL_STATE. -/
inductive RailState where
  | unused | off | queued | enabling | on | disabling | failed
  deriving DecidableEq, Repr

/-- A rail (R108, R109, R119, R126). `cls` is its adoption class: 0 unread, 1 ON, 2 OFF, 3 MIXED; `vsSeen` that a voltage reading has been compared since the table loaded. -/
structure RailSt where
  state     : RailState := .unused
  cmdOn     : Bool := false
  pg        : Bool := false
  pgSince   : Time := 0
  used      : Nat := 0
  lastCause : Nat := 0
  supervised : Bool := false
  vsOut     : Option Time := none
  vsHigh    : Bool := false
  failReads : Nat := 0
  reading   : Bool := false
  offIssued : Bool := false
  cls       : Nat := 0
  vsSeen    : Bool := false
  deriving DecidableEq, Repr

/-- A running power-fail hold (R120, R121): its start, its captured HOLD_US, and whether the power-down it leads to is commanded (the
thermal shutdown, R187). -/
structure HoldS where
  start     : Time
  holdUs    : Nat
  commanded : Bool := false
  deriving DecidableEq, Repr

/-- A charge on the inrush budget (R112): the step (64 × graph + step), current and slew. -/
structure Charge where
  step : Nat
  a    : Nat
  slew : Nat
  deriving DecidableEq, Repr

/-- The sequencer. Tray and slot states are the codes of R114. -/
structure SeqS where
  loaded    : Bool := false
  rails     : Tab RailRec := []
  graphs    : Tab (List StepRec) := []
  trayState : Nat := 0
  slotState : Tab Nat := []
  rail      : Tab RailSt := []
  graph     : Tab GraphRun := []
  charges   : List Charge := []
  waitMaxUs : Nat := 0
  held      : Option Word := none
  cmdTag    : Nat := 0
  cmdSlot   : Nat := 0
  cmdResult : Nat := 0
  cmdCount  : Nat := 0
  superTag  : Nat := 0
  superCount : Nat := 0
  pfw       : Bool := false
  /-- Holds by slot 0–7, 8 the tray; the power-downs on whose completion PFW_N waits, numbered alike. -/
  holds     : Tab HoldS := []
  pfwKeys   : NSet := []
  /-- Slots, and the tray, whose power-down ends FAILED (R120, R122); slots and tray whose power-down is fault-initiated. -/
  endFailed : NSet := []
  trayEndFailed : Bool := false
  faultDown : NSet := []
  trayFaultDown : Bool := false
  episode   : Option EpisodeRec := none
  /-- Power-downs that the open episode caused, by slot 0–7 or 8 for the tray; how many of its newest failures share the time of detection `lastFail` (R124). -/
  epDowns   : NSet := []
  lastFail  : Time := 0
  sameTick  : Nat := 0
  ffr       : EpisodeRec := {}
  ffrValid  : Bool := false
  nextEpisode : Nat := 0
  /-- Adoption (R125–R128). -/
  mustAdopt : Bool := false
  adopting  : Bool := false
  classed   : Bool := false
  adopted   : Bool := false
  adoptedRunning : Bool := false
  adoptedOn : NSet := []
  mismatch  : NSet := []
  trayMismatch : Bool := false
  takeDown  : NSet := []
  takeDownTray : Bool := false
  adoptDone : Bool := false
  /-- Level of each power-good pin as last accepted (R109): 0 none yet, 1 low, 2 high; kept by the resets that SEQ adopts after. -/
  pgPin     : Tab Nat := []
  deriving DecidableEq, Repr


/-! ### Shaping, contract and ledger (05_power_shaping_and_contract.md); powers are integers of 2^-16 W -/

/-- Valley-fill states (R152). -/
inductive VfState where
  | idle | hinted | tail | wait | ramp
  deriving DecidableEq, Repr

/-- A step hint (R151): TAIL_IN_US, TAIL_LEN_US, HEAD_W (2^-16 W), HEAD_RAMP_US and the time it arrived. -/
structure Hint where
  tailIn   : Nat := 0
  tailLen  : Nat := 0
  headW    : Int := 0
  headRamp : Nat := 10
  arrived  : Time := 0
  drawAt   : Int := 0
  deriving DecidableEq, Repr

/-- A slot in SHP (R140–R156). -/
structure ShpSlot where
  draw      : Int := 0
  demand    : Int := 0
  telDraw   : Int := 0
  telDemand : Int := 0
  sbDraw   : Option Int := none
  freshAt   : Option Time := none
  staleSaid : Bool := false
  /-- Fresh telemetry has come since the slot last entered POWERING_UP or ADOPTING (R142). -/
  seen      : Bool := false
  share     : Int := 0
  shaping   : Int := 0
  floorReq  : Int := 0
  floorGrant : Int := 0
  eff       : Int := 0
  msgSeq    : Nat := 0
  sent      : List (Nat × Nat) := []
  lastCap   : Option Int := none
  lastFloor : Int := 0
  lastFlags : Nat := 0
  lastSend  : Option Time := none
  lastSide  : Option Time := none
  headGo    : Bool := false
  leaseValid : Bool := false
  vf        : VfState := .idle
  vfAt      : Time := 0
  hint      : Hint := {}
  rate      : Int := 0
  floor     : Int := 0
  headReq   : Option Time := none
  released  : Time := 0
  pinHead   : Option Time := none
  deriving DecidableEq, Repr

/-- The open ledger record's accumulators (R165). -/
structure OpenRec where
  start      : Time := 0
  flags      : Nat := 0
  entry      : Nat := 0
  capW       : Nat := 0
  /-- No tray allowance was in force at its start (R157 item 4). -/
  noCap      : Bool := false
  startAccum : Int := 0
  peak       : Option Int := none
  peakOff    : Nat := 0
  aboveMs    : Nat := 0
  floorMs    : Nat := 0
  ungranted  : Nat := 0
  trips      : Nat := 0
  minW       : Option Int := none
  throttleNs : Nat := 0
  deriving DecidableEq, Repr

/-- A delivered schedule: its arming TAG, minutes VALID_FROM and VALID_UNTIL, bank and entries (R159). -/
structure Delivered where
  tag     : Nat
  from_ : Nat
  until_  : Nat
  bank    : Nat
  entries : List SchedEntry
  deriving DecidableEq, Repr

/-- A closed ledger block that SEC has not yet signed, or signed and not spooled, with the time it closed. -/
structure ClosedBlock where
  block  : LedgerBlock
  closed : Time
  signed : Option SignedBlock := none
  late   : Bool := false
  deriving DecidableEq, Repr

/-- SHP. -/
structure ShpS where
  slot      : Tab ShpSlot := []
  /-- Cap-combiner inputs by 4 × slot + input (0 contract share, 1 shaping limit, 2 thermal cap, 3 fault cap), and the last valid value of
  each (R28, R30). -/
  capIn     : Tab Pair := []
  capLast   : Tab Int := []
  inV       : Int := 0
  inI       : Int := 0
  inP       : Int := 0
  meterFault : Bool := false
  /-- The present 100 ms window, once one has begun on its tick (R134). -/
  winOpen   : Bool := false
  winSum    : Int := 0
  winCount  : Nat := 0
  pOther    : Option Int := none
  pTray     : Option Int := none
  trim      : Int := 0
  allow     : Option Int := none
  budget    : Int := 0
  /-- P_allow before the cut of a peak window (R163), and that cut. -/
  ramped    : Option Int := none
  peakCut   : Int := 0
  rising    : List (Nat × Int) := []
  lastRelease : Option Time := none
  source    : Nat := 0
  entry     : Nat := 0
  capNow    : Nat := 0
  descent   : Bool := false
  bank      : Nat := 0
  /-- Words of the inactive bank, which the schedule window shows, and of the other bank (R159). -/
  bankWords : Tab Word := []
  bankOther : Tab Word := []
  inForce   : Option Delivered := none
  armed     : Option Delivered := none
  checking  : Option Delivered := none
  resTag    : Nat := 0
  superTag  : Nat := 0
  result    : Nat := 0
  resEntry  : Nat := 0
  /-- Stages of R163 that are entered and not left; the highest is STAGE. -/
  trimOn    : Bool := false
  peakOn    : Bool := false
  minuteOn  : Bool := false
  trimSince : Option Time := none
  /-- Ledger. -/
  cur       : OpenRec := {}
  lastMinute : Nat := 0
  seq       : Nat := 0
  blockOpen : LedgerBlock := {}
  closed    : List ClosedBlock := []
  lastRec   : LedgerRec := []
  checkpointOk : Bool := false
  /-- Average of the device's own last 100 ms window, and its end (R494). -/
  ownAvg    : Int := 0
  ownEnd    : Time := 0
  deriving DecidableEq, Repr

/-- Analogue front-end dies (R133, R135–R137, R177–R190): what runs on through a chip reset. Comparators 0 I1, 1 I2, 2 I3, 3 UV. -/
structure AfeS where
  loaded    : Bool := false
  /-- A ledger checkpoint has been committed since the accumulator's restart (R167). -/
  ckpt      : Bool := false
  accum     : Int := 0
  accFrac   : Int := 0
  samples   : Nat := 0
  sumV      : Int := 0
  sumI      : Int := 0
  sumP      : Int := 0
  tripLevel : Nat := 0
  /-- When the level last fell (R137). -/
  fellAt    : Time := 0
  below     : Tab Time := []
  /-- Comparators that are tripped (R135). -/
  on        : NSet := []
  /-- Window comparators of the other sense channels that are tripped, high 2c and low 2c+1 (R138). -/
  tripped   : NSet := []
  /-- Consecutive critical conversions of TCRIT0 and TCRIT1, their readings and fault marks (R190–R192). -/
  critRun   : Tab Nat := []
  critVal   : Tab Int := []
  critFault : NSet := []
  deriving DecidableEq, Repr


/-! ### Thermal, leak and flow (06_thermal_leak_and_flow.md); temperatures are Q16.16 integers -/

/-- A temperature channel (R177–R180). `recent` holds the readings of the last 100 ms, oldest first, with one older. -/
structure ThermCh where
  value    : Int := 0
  seen     : Bool := false
  recent   : List (Time × Int) := []
  feFault  : Bool := false
  range    : Bool := false
  rate     : Bool := false
  neigh    : Bool := false
  implaus  : Bool := false
  passSince : Option Time := none
  srate    : Nat := 0
  lowSince : Option Time := none
  deriving DecidableEq, Repr

/-- A sensor group (R175, R181–R185). States are the codes of R181. -/
structure GroupS where
  state    : Nat := 0
  k        : Nat := 0
  value    : Int := 0
  hottest  : Nat := 0xFF
  shutRun  : Nat := 0
  /-- Start of the step schedule and steps already due; start of the release timer. -/
  sched    : Option Time := none
  schedN   : Nat := 0
  release  : Option Time := none
  /-- Step count at its limit and value at or above THROTTLE at a due instant (R185). -/
  atLimit  : Bool := false
  blindSaid : Bool := false
  deriving DecidableEq, Repr

/-- THM. -/
structure ThmS where
  loaded   : Bool := false
  ch       : Tab ThermCh := []
  group    : Tab GroupS := []
  stair    : Tab Int := []
  thermal  : Tab Int := []
  govern   : Tab Nat := []
  thrReq   : Tab Nat := []
  shut     : Option ShutRec := none
  lastShut : Option ShutRec := none
  nextShut : Nat := 0
  resTag   : Nat := 0
  result   : Nat := 0
  resGroup : Nat := 0
  deriving DecidableEq, Repr

/-- A leak, flow or pressure channel (R193–R197). States are the codes of LKF_C_STATUS. -/
structure LkfCh where
  state    : Nat := 7
  band     : Nat := 0xFF
  run      : Nat := 0
  qualAt   : Time := 0
  value    : Int := 0
  aux      : Int := 0
  beyond   : Option Time := none
  beyondHi : Bool := false
  inside   : Option Time := none
  acted    : Bool := false
  /-- The band last qualified (R194), 4 for NOISY; the frequency at the last pulse, the last ten samples' and the time of the last pulse (R196). -/
  taken    : Nat := 0xFF
  freqs    : List Int := []
  pulseAt  : Option Time := none
  deriving DecidableEq, Repr

/-- LKF. -/
structure LkfS where
  recs     : Tab LkfRec := []
  ch       : Tab LkfCh := []
  judging  : Bool := false
  runSince : Option Time := none
  resTag   : Nat := 0
  result   : Nat := 0
  resCh    : Nat := 0
  deriving DecidableEq, Repr


/-! ### Motor drive (07_motor_drive.md); speeds are Q16.16 rpm integers -/

/-- Die states (R216). -/
inductive DieState where
  | boot | run | failsafe | parked
  deriving DecidableEq, Repr

/-- A motor die (R214–R220, R227): what lives in the die runs on through every core-die reset. -/
structure MotDie where
  state     : DieState := .boot
  lastSeq   : Option Nat := none
  lastValid : Time := 0
  resumeRun : Nat := 0
  /-- Host silence (R219): the count, and whether the last heartbeat carried STANDBY. -/
  silNs     : Nat := 0
  standby   : Bool := true
  silent    : Bool := false
  vmotMv    : Nat := 0
  busFault  : Bool := false
  /-- Heartbeats discarded and events not yet reported to MOT. -/
  discarded : Nat := 0
  repFailsafe : Bool := false
  repSilent : Bool := false
  repBus    : Bool := false
  silenceS  : Nat := 30
  /-- Identity of the configuration it has loaded (R216). -/
  cfgId     : Option Nat := none
  /-- Powered up with the park line driven, no valid heartbeat yet (R216). -/
  parkLine  : Bool := false
  /-- When VMOT was last seen outside 10.8–60 V (R227). -/
  busAt     : Time := 0
  deriving DecidableEq, Repr

/-- How the six gate outputs of a channel are driven (R205, R211): all off, in blocks with one phase floating, or on all three phases. -/
inductive GateDrive where
  | off | block | sine
  deriving DecidableEq, Repr

/-- What a channel's drive does (R205, R208, R211, R220): nothing, a fixed vector, an open-loop rotation, the regulator's less, same or more drive, or full duty; currents in Q16.16 A. No case
brakes. -/
inductive MotDrive where
  | none
  | vector (amps : Nat)
  | rotate (speed : Int) (amps : Nat)
  | less | hold | more
  | full (amps : Nat)
  deriving DecidableEq, Repr

/-- A channel as its die holds it (R205–R225). States are the codes of R208. `fault` is the fault that holds it FAULTED (a code of R222, 0 for none), `slow` is SPEED_LOW and
`hallInv` HALL_INVALID, which end by rules of their own. `par` holds the eight parameters the die applies, `report` the fault codes not yet reported (8 a setpoint
pair mismatch, 9 an injected one). `starting` marks a start under way and `capTries`, `capRest` and `capI` what it began with (R207; no limit of attempts is 0). `speed` is the last speed
derived from commutation, `ref`, `refAt` and `goal` the speed regulator's reference with its time and the speed it moves toward (R211), and `magLoss` the mean current
magnitude before sense was lost (R223). -/
structure MotCh where
  state    : Nat := 0
  at_      : Time := 0
  setpoint : Int := 0
  pairAt   : Time := 0
  lost     : Bool := false
  tries    : Nat := 0
  fault    : Nat := 0
  watch    : Option Time := none
  coast    : Option Time := none
  hall     : Bool := false
  hallBad  : Bool := false
  capTries : Nat := 0
  capRest  : Nat := 0
  capI     : Nat := 0
  starting : Bool := false
  slow     : Bool := false
  slowAt   : Time := 0
  hallInv  : Bool := false
  gates    : GateDrive := .off
  ref      : Int := 0
  refAt    : Time := 0
  goal     : Int := 0
  magLoss  : Nat := 0
  starts   : Nat := 0
  faults   : Nat := 0
  runNs    : Nat := 0
  speed    : Int := 0
  cfg      : MotRec := {}
  par      : List Nat := []
  report   : NSet := []
  deriving DecidableEq, Repr

/-- A channel as MOT has read it from replies. -/
structure MotRep where
  state   : Nat := 0
  fault   : Nat := 0
  tries   : Nat := 0
  hall    : Bool := false
  est     : Bool := false
  tach    : Word := 0
  current : Word := 0
  starts  : Nat := 0
  faults  : Nat := 0
  runS    : Nat := 0
  deriving DecidableEq, Repr

/-- The configuration of section 0x04 as MOT delivers it to a die (R207, R220): its eight records and parameter lists, and HOST_SILENCE_S. -/
structure DieCfg where
  recs     : List MotRec
  pars     : List (List Nat)
  silenceS : Nat
  deriving DecidableEq, Repr

/-- A heartbeat as MOT sent it (R214), with the configuration it delivers and the channels of the die that it clears (R226). -/
structure Heartbeat where
  seq       : Nat
  setpoints : List Int
  full      : Nat
  heard     : Bool
  standby   : Bool
  resume    : Bool
  park      : Bool
  cfgId     : Nat
  cfg       : Option DieCfg
  clear     : Nat
  deriving DecidableEq, Repr

/-- MOT on the core die. -/
structure MotS where
  loaded   : Bool := false
  recs     : Tab MotRec := []
  rep      : Tab MotRep := []
  sent     : Tab Int := []
  full     : Nat := 0
  seq      : Nat := 0
  hb       : Tab Heartbeat := []
  replied  : NSet := []
  tachRead : NSet := []
  hbBad    : Tab Nat := []
  fsSeen   : NSet := []
  repDie   : Tab DieState := []
  repVmot  : Tab Nat := []
  repBus   : NSet := []
  repSilent : NSet := []
  heard    : Bool := false
  /-- When HOST_HEARD was last sent, or MOT's reset (R219). -/
  heardAt  : Time := 0
  /-- Channels whose clear waits for a heartbeat that their die takes (R226). -/
  clearing : NSet := []
  resTag   : Nat := 0
  result   : Nat := 0
  resCh    : Nat := 0
  deriving DecidableEq, Repr


/-! ### Canopy (08_canopy_engine.md) -/

/-- A job of a model (R251, R252): its release, deadline, snapshot, the layer in hand and the segments of that layer each tile still has to run. -/
structure CnpJob where
  release  : Time
  deadline : Time
  snap     : List Word
  layer    : Nat
  left     : Tab Nat
  deriving DecidableEq, Repr

/-- A model (R249). States are the codes of R249. `history` holds the snapshots of its releases since it last started, each with whether the job
completed (R237), and `start` the number of that start. -/
structure CnpModel where
  state     : Nat := 0
  image     : Option ImageRec := none
  warmLeft  : Nat := 0
  last      : Nat := 0
  missRun   : Nat := 0
  releases  : Nat := 0
  misses    : Nat := 0
  skips     : Nat := 0
  lastNs    : Nat := 0
  worstNs   : Nat := 0
  sat       : Nat := 0
  twinFail  : Nat := 0
  job       : Option CnpJob := none
  history   : List (List Word × Bool) := []
  start     : Nat := 0
  inLast    : Tab Word := []
  inBad     : Tab Nat := []
  inHeld    : Tab Nat := []
  warmNext  : Bool := false
  suspendReq : Bool := false
  loadReq   : Bool := false
  byGate    : Bool := false
  weightsBad : Bool := false
  outStale  : Bool := true
  deriving DecidableEq, Repr

/-- A tile (R240, R252). -/
structure CnpTile where
  halted    : Bool := false
  running   : Option Nat := none
  twinRun   : Nat := 0
  busyUs    : Nat := 0
  steps     : Nat := 0
  corrected : Nat := 0
  uncorrected : Nat := 0
  /-- Models whose graph and resident weights its SRAM holds (R246, R260). -/
  held      : NSet := []
  deriving DecidableEq, Repr

/-- A load in progress (R256). -/
structure CnpLoad where
  model  : Nat
  image  : ImageRec
  digest : Digest
  step   : Nat
  deriving DecidableEq, Repr

/-- A release record for the flight recorder (R237): outcome 1 completed, 2 missed, 3 skipped, 4 or 5 abandoned. -/
structure RelRec where
  model   : Nat
  release : Time
  snap    : List Word
  outcome : Nat
  outs    : List Word
  deriving DecidableEq, Repr

/-- The engine. -/
structure CnpS where
  descs    : List DescRec := []
  descId   : Word := 0
  model    : Tab CnpModel := []
  tile     : Tab CnpTile := []
  gated    : Bool := false
  load     : Option CnpLoad := none
  boot     : List ImageRec := []
  resTag   : Nat := 0
  result   : Nat := 0
  step     : Nat := 0
  resModel : Nat := 0
  records  : List RelRec := []
  dropped  : Nat := 0
  deriving DecidableEq, Repr


/-! ### Custody (09_model_custody.md) -/

/-- A slot's plan (R270): LAYOUT 1 EXACT, 2 PACKED; addresses of its resident shards; need, shortfall and remnant bytes; penalty. -/
structure SlotPlan where
  layout  : Nat := 0
  addrs   : Tab Nat := []
  need    : Nat := 0
  short   : Nat := 0
  remnant : Nat := 0
  penalty : Nat := 0
  deriving DecidableEq, Repr

/-- A plan: slots, and remnant shards with their MiB offset in the remnant tier. -/
structure CusPlan where
  slots : Tab SlotPlan := []
  rem   : List (Nat × Nat) := []
  deriving DecidableEq, Repr

/-- A cursor (R274–R276, R281). States 0 IDLE, 1 STREAMING, 2 PAUSED, 3 DONE, 4 FAILED. `infl` holds leaves in buffers, each with whether its bytes have
arrived; `waits` leaves whose clearing is not acknowledged, with the time sent and the resends. -/
structure Cursor where
  state    : Nat := 0
  next     : Nat := 0
  head     : List Nat := []
  infl     : Tab Bool := []
  waits    : Tab (Time × Nat) := []
  attempts : Tab Nat := []
  water    : Nat := 0
  above    : NSet := []
  cleared  : Nat := 0
  recorded : Nat := 0
  deriving DecidableEq, Repr

/-- The resume record (R282), kept in the Understory as a value with its complement. -/
structure ResumeRec where
  dman  : Digest
  root  : Digest
  manAddr  : Nat
  manLen   : Nat
  leafAddr : Nat
  sgAddr   : Nat
  sgCount  : Nat
  mask  : Nat
  allow : Bool
  plan  : CusPlan
  water : List Nat
  state : Nat
  deriving DecidableEq, Repr

/-- What the Understory keeps of a job for R286 reason 7 and R290: its slots, whether it held remnant shards, whether a restart was in progress. -/
structure JobNote where
  slots      : Nat
  remnant    : Bool
  restarting : Bool
  deriving DecidableEq, Repr

/-- A verified Merkle tree (R268): root and leaf digests. -/
structure Tree where
  root   : Digest
  leaves : List Digest
  deriving DecidableEq, Repr

/-- CUS. -/
structure CusS where
  state     : Nat := 0
  planOnly  : Bool := false
  reload    : Bool := false
  resuming  : Option ResumeRec := none
  mask      : Nat := 0
  allow     : Bool := false
  manAddr   : Nat := 0
  manLen    : Nat := 0
  leafAddr  : Nat := 0
  sgAddr    : Nat := 0
  sgCount   : Nat := 0
  man       : Option ManifestRec := none
  manId     : Word := 0
  /-- Owner keys in force when the load began (R90). -/
  owners    : List OwnerKey := []
  sg        : List SgEntry := []
  tree      : Option Tree := none
  caps      : Tab Nat := []
  queried   : Tab Time := []
  plan      : CusPlan := {}
  remShort  : Nat := 0
  cursors   : Tab Cursor := []
  resTag    : Nat := 0
  result    : Nat := 0
  resSlot   : Nat := 0xF
  failLeaf  : Nat := 0
  refLoad   : Nat := 0
  refScrub  : Nat := 0
  doneAt    : List Time := []
  job       : Bool := false
  jobSlots  : Nat := 0
  /-- Remnant tier in service (R283, R284): cleared and withdrawn leaves, leaves being refetched. -/
  remCleared : NSet := []
  withdrawn : NSet := []
  lost      : NSet := []
  /-- Bytes of the remnant leaves as they were written (R275, R283). -/
  remData   : Tab (List Byte) := []
  scrubAt   : Time := 0
  scrubLeaf : Nat := 0
  /-- Restart (R286–R290). -/
  restart   : Nat := 0
  reason    : Nat := 0
  since     : Time := 0
  cycled    : NSet := []
  raised    : NSet := []
  count     : Nat := 0
  winStart  : Time := 0
  seq       : Nat := 0
  abortAt   : Time := 0
  lastMs    : Nat := 0
  abort     : Bool := false
  clearedOnce : NSet := []
  trayCleared : Bool := false
  pwrRetry  : Option Time := none
  deriving DecidableEq, Repr


/-! ### Gorino Coherent Link (10_gorino_coherent_link.md) -/

/-- Who waits for a device request's completion: 64 KiB part `part` of a leaf's fetch, a fetch of a load's tables, or nobody, its attempt having failed. -/
inductive ReqOwner where
  | leaf (cursor leaf part : Nat)
  | fetch
  | stale
  | cascade
  deriving DecidableEq, Repr

/-- An outstanding device request (R304, R313). -/
structure OutReq where
  tag   : Nat
  owner : ReqOwner
  sent  : Time
  deriving DecidableEq, Repr

/-- A flit sent and not yet acknowledged (R308): its sequence number, its slot messages or its DATA transfer's class, bytes and leaf, its replays. -/
structure TxFlit where
  fseq    : Nat
  msgs    : List GclMsg
  dataCls : Nat
  bytes   : Nat
  replays : Nat := 0
  leaf    : Option Nat := none
  deriving DecidableEq, Repr

/-- A DATA transfer under way, sent or received: class, TAG, bytes left, and of one that is sent when it was queued, whether a flit of it has gone, its bytes since its
last turn (R312) and the leaf of a custody write. -/
structure Xfer where
  cls  : Nat
  tag  : Nat
  left : Nat
  stamp : Time := 0
  begun : Bool := false
  turn : Nat := 0
  leaf : Option Nat := none
  deriving DecidableEq, Repr

/-- A port (R300–R309, R321). States are the codes of R300. Lists of credits are by class, slot and data. -/
structure GclPort where
  state      : Nat := 0
  at_        : Time := 0
  trainAt    : Time := 0
  recovering : Bool := false
  testAll    : Bool := false
  wasWidth   : Nat := 0
  lanes      : Nat := 0
  width      : Nat := 0
  peerRole   : Nat := 7
  peerCas    : Nat := 0xFF
  usable     : Nat := 0
  failed     : Nat := 0
  downs      : Nat := 0
  recoveries : Nat := 0
  lastTrainUs : Nat := 0
  fecCorr    : Nat := 0
  fecUncorr  : Nat := 0
  crcErr     : Nat := 0
  replayed   : Nat := 0
  peerUnit   : Nat := 0
  denied     : Nat := 0
  proto      : Nat := 0
  badTimes   : List Time := []
  txSeq      : Nat := 0
  rxNext     : Nat := 0
  discarding : Bool := false
  nakDue     : Bool := false
  buf        : List TxFlit := []
  queue      : List GclMsg := []
  xfers      : List Xfer := []
  rxXfers    : List Xfer := []
  crSlot     : List Nat := []
  crData     : List Nat := []
  inSlot     : List Nat := []
  inData     : List Nat := []
  nextTag    : Nat := 0
  reqs       : List OutReq := []
  /-- Device requests that wait for a free TAG (R310): owner, address, length. -/
  waiting    : List (ReqOwner × Nat × Nat) := []
  timeOffset : Int := 0
  pathDelay  : Int := 0
  t1         : Int := 0
  t2         : Int := 0
  t3         : Int := 0
  deriving DecidableEq, Repr

/-- A change the device holds until a snoop is answered (R316, R317). -/
inductive HeldChange where
  | ledgerWrite (b : SignedBlock)
  | refetch (leaf : Nat)
  | withdraw (leaf : Nat)
  deriving DecidableEq, Repr

/-- An open snoop: its page, last send, sends, and whether SNOOP_TIMEOUT was recorded. -/
structure Snoop where
  page  : Nat
  sent  : Time
  sends : Nat
  said  : Bool := false
  held  : List HeldChange
  deriving DecidableEq, Repr

/-- The link block: ports, directory and snoops. -/
structure GclS where
  port     : Tab GclPort := []
  dirS     : NSet := []
  snoops   : List Snoop := []
  timeouts : Nat := 0
  sent     : Nat := 0
  deriving DecidableEq, Repr


/-! ### Two-wire ports (12_two_wire_ports.md) -/

/-- A firmware window's report (TWP_P_FX_STATUS, TWP_P_FX_RDATA). -/
structure FxWin where
  lastTag : Nat := 0
  tag     : Nat := 0
  pending : Bool := false
  result  : Nat := 0
  bytes   : Nat := 0
  rdata   : List Byte := []
  deriving DecidableEq, Repr

/-- A port (R341–R363). `flags` holds the set bits of TWP_P_FLAGS. `page` and the PAGE_SEL pair are cleared by power-on reset only (R35). -/
structure TwpPort where
  page      : Nat := 0
  pageSel   : Pair := {}
  pageSince : Time := 0
  pointer   : Nat := 0
  flags     : NSet := []
  nacks     : Nat := 0
  clears    : Nat := 0
  errors    : Nat := 0
  cur       : Option TwOp := none
  curAbort : Bool := false
  /-- Bytes the device drives in the transaction on the bus as a controller; bytes it drove in its last read as a target (R348, R350). -/
  wire      : List Byte := []
  driven    : List Byte := []
  /-- When the controller ends its transfer for a low clock without TIMEOUT (R347), whether SDA was low and whether bus clear frees it. -/
  clkEnd    : Option (Time × Bool × Bool) := none
  sdaLow    : Bool := false
  sclLow    : Bool := false
  deaf      : Bool := false
  needClear : Bool := true
  stuck     : Bool := false
  retryAt   : Option Time := none
  pulseAt   : Option Time := none
  settleAt  : Option Time := none
  lastPulse : Option Time := none
  alertPend : NSet := []
  alertAct  : NSet := []
  alertLow  : Bool := false
  alertRun  : Nat := 0
  alertNack : Nat := 0
  ignoreAt  : Option Time := none
  lastAlert : Nat := 0
  alerts    : Nat := 0
  resTag    : Nat := 0
  result    : Nat := 0
  fx        : Tab FxWin := []
  offer     : List TwOp := []
  deriving DecidableEq, Repr

/-- The ports, and the telemetry mirrors by plane index: the time of the last successful read and of the last request (R362). -/
structure TwpS where
  port   : Tab TwpPort := []
  mirOk  : Tab Time := []
  mirReq : Tab Time := []
  deriving DecidableEq, Repr

/-! ### The Pass arbiter (13_pass_arbiter.md) -/

/-- An entry of a pending queue (R369, R371, R372): its stamp, beats still to run, beats completed, cost of a beat, LOCK mark, and the transfer of an ARB_TW request. -/
structure ArbEntry where
  stamp : Time
  left  : Nat
  done  : Nat := 0
  cost  : Nat
  lock  : Bool
  op    : Option TwOp := none
  deriving DecidableEq, Repr

/-- A requester's queue, counter and counts. -/
structure ArbReqS where
  queue   : List ArbEntry := []
  credit  : Int := 0
  share   : Nat := 0
  grants  : Nat := 0
  waits   : Nat := 0
  longest : Nat := 0
  full    : Bool := false
  deriving DecidableEq, Repr

/-- A beat in progress: requester and start. -/
structure ArbBeat where
  req   : Nat
  start : Time
  deriving DecidableEq, Repr

/-- A locked sequence (R373): owner, first beat, and whether its last request (the first without LOCK) is at the head. -/
structure ArbLock where
  owner : Nat
  start : Time
  deriving DecidableEq, Repr

/-- An instance; `refilled` is the time of its last window boundary. `lockable` and `loaded` come from section 0x07. -/
structure ArbInst where
  reqs      : Tab ArbReqS := []
  beats     : List ArbBeat := []
  lock      : Option ArbLock := none
  owner     : Nat := 0
  windows   : Nat := 0
  bites     : Nat := 0
  bank      : Nat := 0
  swap      : Option (Tab Word × Time) := none
  units     : Nat := 0
  lockable  : Nat := 0
  loaded    : Bool := false
  refilled  : Time := 0
  deriving DecidableEq, Repr

/-- The 34 instances in the order of R34. -/
structure ArbS where
  inst : Tab ArbInst := []
  deriving DecidableEq, Repr

/-! ### Firmware processors and mailboxes (14_firmware_processors_and_mailboxes.md) -/

/-- States of a processor (FPC_STATUS). -/
inductive ProcState where
  | held | starting | ready | restarting | reloading | halted
  deriving DecidableEq, Repr

/-- A processor (R383–R389): its state, last restart cause, the causes of the present 10-minute window, last watchdog service, entry vector and image word,
the time of the cause of a restart in progress, its counts, whether D2 gated it while it ran (R482), and its retained copy in the shared buffers (R387). -/
structure ProcS where
  state     : ProcState := .held
  cause     : Nat := 0
  recent    : List Time := []
  kick      : Time := 0
  vector    : Word := 0
  image     : Word := 0
  causeAt   : Option Time := none
  restartMs : Nat := 0
  restarts  : Nat := 0
  gated     : Bool := false
  copy      : Option FwImage := none
  deriving DecidableEq, Repr

/-- A request accepted and not yet answered (R393, R399): `started` when its handler has carried it out, `tag` the TAG the handler assigned, `img` the model image that a CANOPY_LOAD names. -/
structure OpenReq where
  chan    : Nat
  major   : Nat
  seq     : Word
  typ     : Nat
  handler : Proc
  payload : List Word
  at_     : Time
  started : Bool := false
  tag     : Nat := 0
  img     : Option ImageRec := none
  deriving DecidableEq, Repr

/-- A response or event on its way to a sender: header fields and payload words; `more` and `frag` for fragments (R390). -/
structure MbxOut where
  major  : Nat
  typ    : Nat
  seq    : Word
  status : Nat
  flags  : Nat
  words  : List Word
  deriving DecidableEq, Repr

/-- A long operation answered OK whose EVENT is still to come (R398). -/
structure LongOp where
  chan  : Nat
  major : Nat
  seq   : Word
  typ   : Nat
  tag   : Nat
  deriving DecidableEq, Repr

/-- The mailbox block. `stored` holds each channel's last OK or REFUSED answer with its time (R393), `out` what waits for MBX4 or MBX5 to take it, the head being in
the outbound buffer; `inbuf` the words of the MBX4 inbound buffer. -/
structure MbxS where
  open_    : List OpenReq := []
  stored   : Tab (MbxOut × Time) := []
  out      : Tab (List MbxOut) := []
  longs    : List LongOp := []
  result   : Tab Nat := []
  accepted : Tab Nat := []
  rejected : Tab Nat := []
  last     : Tab (Nat × Nat) := []
  events   : Tab Nat := []
  inbuf    : Tab Word := []
  deriving DecidableEq, Repr

/-! ### Memory (11_memory_subsystem.md) -/

/-- A page of the recorder's ring (R334): its header's stream, page sequence number and time of the first sample, and the words of its samples. -/
structure RcdPage where
  stream : Nat
  seq    : Nat
  time   : Time
  words  : List Word
  crc    : Word
  deriving DecidableEq, Repr

/-- What the EVENT stream takes (R334, R336): Canopy release records, fault captures, states of SEQ, THM, CUS and MOT, and gap markers. -/
inductive RcdEntry where
  | release (r : RelRec)
  | capture (key : Nat) (w : FaultWin)
  | seq (tray : Nat) (slots : Tab Nat) (rails : Tab RailState)
  | thm (groups : Tab GroupS)
  | cus (state restart : Nat)
  | mot (rep : Tab MotRep)
  | gap
  deriving DecidableEq, Repr

/-- An entry of the EVENT stream with the page it is in and its time. -/
structure RcdEvt where
  page  : Nat
  time  : Time
  entry : RcdEntry
  deriving DecidableEq, Repr

/-- The flight recorder (R334–R336). States 0 OFF, 1 RECORDING, 2 POST, 3 FROZEN. `live` holds the newest samples of each VS and
IS channel, newest first, as the live ring does. -/
structure RcdS where
  state  : Nat := 0
  cause  : Nat := 0
  trig   : Time := 0
  since  : Time := 0
  missed : Nat := 0
  lost   : Nat := 0
  gaps   : Nat := 0
  head   : Nat := 0
  /-- Sequence number of the next page; by stream the words of the page being filled, newest first, and the time of its first; the pages of the window by place; its EVENT entries, oldest first. -/
  seq    : Nat := 0
  words  : Tab (List Word) := []
  first  : Tab Time := []
  page   : Tab RcdPage := []
  events : List RcdEvt := []
  live   : Tab (List Word) := []
  paused : Bool := false
  badPages : NSet := []
  deriving DecidableEq, Repr

/-- The memory block: interfaces trained and failed, attempts, error counts, the region sizes in MiB of the first five records (R89), staged model images in scratch by
their 4 KiB unit, and the recorder. -/
structure MemS where
  trained : NSet := []
  failed  : NSet := []
  tries   : Tab Nat := []
  corr    : Tab Nat := []
  unc     : Tab Nat := []
  hot     : NSet := []
  regions : List Nat := []
  scratch : Tab ImageRec := []
  refresh : Bool := false
  rcd     : RcdS := {}
  deriving DecidableEq, Repr

/-- What LPDDR5X holds of the ledger region: signed blocks oldest first, whether the region's content was lost and not yet restored (R168), and the BLOCK_SEQs whose read is
poisoned. -/
structure DramS where
  ledger     : List SignedBlock := []
  ledgerLost : Bool := false
  poisoned   : NSet := []
  deriving DecidableEq, Repr

/-! ### Boot, keys and identity (15_boot_keys_and_attestation.md) -/

/-- The fuse array (R410, R411): digests of enrolled integrator slots (Dvorum's slots 0–7 are `Config.fusedDigest`), PROGRAMMED and revocation bits, lifecycle, slots whose copies
differ, and whether the copies of secret, identity or lifecycle differ. -/
structure Fuses where
  enrolled   : Tab Digest := []
  programmed : Nat := 0x00FF
  revoked    : Nat := 0
  deployed   : Bool := false
  badSlots   : NSet := []
  differ     : Bool := false
  deriving DecidableEq, Repr

/-- The retained boot record of the fast path (R424) in the Understory. -/
structure BootRec where
  src     : Nat
  slot    : Nat
  seq     : Nat
  revoked : Nat
  fwSvn   : Nat
  digests : List (Nat × Nat × Digest)
  deriving DecidableEq, Repr

/-- A fuse blow under way (R414): TAG, OP, slot and digest. -/
structure FuseJob where
  tag    : Nat
  op     : Nat
  slot   : Nat
  digest : Digest
  deriving DecidableEq, Repr

/-- SEC. `set` is the set this boot runs (pushed items in place), `pushed` the items verified in recovery wait, `cand` the candidate area's item. `pwrOk` and `thmOk` say that the
release conditions on the bitstream hold; `inputOk` that the input power is good; `hstGo` that UP trained or only two-wire is present. -/
structure SecS where
  phase    : Nat := 0
  path     : Nat := 0
  slot     : Nat := 0
  code     : Nat := 0
  kind     : Nat := 0
  index    : Nat := 0
  bootMs   : Nat := 0
  startAt  : Time := 0
  fwSvn    : Nat := 0
  fastMiss : Nat := 0
  locked   : Bool := false
  set      : Option FlashSet := none
  pushed   : List FlashItem := []
  cand     : Option ItemBody := none
  candKind : Nat := 0
  candIdx  : Nat := 0
  candLen  : Nat := 0
  pulling  : Option Nat := none
  need     : Nat := 0
  rcvTag   : Nat := 0
  rcvRes   : Nat := 0
  idPub    : Word := 0
  rootPub  : Word := 0
  keyBuf   : List Byte := []
  keyTag   : Nat := 0
  keySlot  : Nat := 0
  keyRes   : Nat := 0
  fuseJob  : Option FuseJob := none
  thmOk    : Bool := false
  pwrOk    : Bool := false
  inputOk  : Bool := false
  hstGo    : Bool := false
  upSince  : Option Time := none
  identityKey : Bool := false
  wdKick   : Time := 0
  exitD3   : Bool := false
  deriving DecidableEq, Repr

/-! ### Field update (16_field_update.md) -/

/-- UPD. `record` is the update record (R442, R476); `staged` the set in the inactive slot with its package's settings format and longest deferral; `shared` is the transfer of a package
over MBX4. `wasTrained`, `wasUp` and `wasRunning` are what held before the switch point (R446); `event` is the failure event of the trial,
`switchRec` the record whose commit is the switch point or the return to the previous set, `prev` the previous set, `applying` a live apply of the switch still under way. -/
structure UpdS where
  record    : UpdateRec := {}
  staged    : Option FlashSet := none
  stagedFmt : Nat := 0
  maxDefer  : Nat := 0
  cls       : Nat := 0
  staging   : Bool := false
  proving   : Bool := false
  deferAt   : Option Time := none
  deferS    : Nat := 0
  resTag    : Nat := 0
  result    : Nat := 0
  detail    : Nat := 0
  undisc    : Bool := false
  pausedNs  : Nat := 0
  pauseAt   : Option Time := none
  wasTrained : Bool := false
  wasUp     : Bool := false
  wasRunning : NSet := []
  event     : Option Nat := none
  switchRec : Option UpdateRec := none
  prev      : Option FlashSet := none
  applying  : Bool := false
  trialMin  : Nat := 20
  soakMin   : Nat := 5
  deriving DecidableEq, Repr

/-! ### Device power, timebase, cascade, indicators (18_device_power_timebase_and_cascade.md) -/

/-- Discipline states (R488). -/
inductive TbsState where
  | free | locking | locked | holdover
  deriving DecidableEq, Repr

/-- The timebase in the Understory (R25, R487–R491). `count` is the 64-bit nanosecond counter. `offset` is the last offset (negative when the device is behind), `step` a forward step
still to be applied, `skipped` the skipped boundaries by class, `hiLatch` the high word latched by a read of LO. -/
structure TbsS where
  count    : Time := 0
  state    : TbsState := .free
  source   : Nat := 0
  xtalFail : Bool := false
  undisc   : Bool := true
  everLocked : Bool := false
  offset   : Int := 0
  rate     : Int := 0
  fresh    : Option Int := none
  run      : Nat := 0
  lastUpd  : Time := 0
  holdAt   : Time := 0
  holdSaid : Bool := false
  step     : Option Nat := none
  slewBack : Bool := false
  ppsOk    : Nat := 0
  ppsBad   : Nat := 0
  ppsSec   : Option Nat := none
  ppsLock  : Bool := false
  ppsOff   : Option Int := none
  skipped  : Tab Nat := []
  hiLatch  : Word := 0
  alarmSaid : NSet := []
  /-- The count at the newest 10 µs tick. -/
  tick10   : Time := 0
  deriving DecidableEq, Repr

/-- Device power (R481–R486). Device states 0–3. `off` holds the domains switched off, `waking` those powering up with the time they began, `queue` those waiting with the 10 µs pacing, `failed` those that
failed. Residency in nanoseconds. -/
structure PmdS where
  state    : Nat := 0
  target   : Nat := 0
  nextReq  : Nat := 0
  next     : Time := 0
  off      : NSet := []
  queue    : List Nat := []
  waking   : Tab Time := []
  failed   : NSet := []
  residency : Tab Nat := []
  lastBlock : Time := 0
  deriving DecidableEq, Repr

/-- A member as the lead knows it (R492–R496). -/
structure Member where
  present  : Bool := false
  mismatch : Bool := false
  linked   : Bool := false
  pin      : Word := 0
  demand   : Word := 0
  avg      : Word := 0
  winEnd   : Time := 0
  grant    : Word := 0
  lastRep  : Option Time := none
  record   : Option (List Word) := none
  deriving DecidableEq, Repr

/-- The cascade block: member cap received with its lease expiry (followers), members 1–3 (lead), the lead's own record of the minute waiting for the board record (R495), its due time and
whether a window was substituted. -/
structure CasS where
  cap       : Word := 0
  leaseEnd  : Option Time := none
  lapsed    : Bool := false
  member    : Tab Member := []
  share     : Option Int := none
  ownRec    : Option (List Word) := none
  boardDue  : Option Time := none
  substituted : Bool := false
  energy    : Int := 0
  deriving DecidableEq, Repr

/-- Indicators, all in the Understory (R16, R498): the written registers by slot, 8 the tray, locate with its auto-off time and start, the debounce of the button. -/
structure IndS where
  reg     : Tab Nat := []
  locate  : Bool := false
  locateS : Nat := 900
  since   : Time := 0
  presses : Nat := 0
  deriving DecidableEq, Repr

/-- The test access port (R514): the instruction in force (IR code of the model) and whether EXTEST, CLAMP or HIGHZ holds the pads. -/
inductive TapInstr where
  | bypass | idcode | samplePreload | extest | clamp | highz | keyRecord | certWrite | inject | chipReset
  deriving DecidableEq, Repr
structure TapS where
  ir     : TapInstr := .bypass
  dr     : Word := 0
  bound  : Nat := 0
  deriving DecidableEq, Repr

/-- What the Understory keeps (R15, R16, R37, R200, R282, R424, R444, R460, R471). `porStart`: the last start was a power-on reset; `enFloat`: the EN pads are high-impedance until section
0x02 is loaded (R507); `altGo`: the slot the next start boots as the alternate, and the boot code that led to it (R418). -/
structure Und where
  straps    : Straps := {}
  supply    : Supply := {}
  cause     : ResetCause := {}
  porStart  : Bool := true
  enFloat   : Bool := true
  latches   : Tab Latch := []
  leaseExp  : Tab LeaseExp := []
  shutLatch : NSet := []
  thrL3     : NSet := []
  sysShdn   : Bool := false
  wet       : NSet := []
  /-- Mirror of the WET latches, value and complement (R200). -/
  wetMirror : Pair := ⟨0, 0xFFFFFFFF⟩
  thmMirror : Tab Pair := []
  senseRecs : List SenseRec := []
  saved     : Option SavedCapture := none
  nvsStaged : NvsStaged := []
  resume    : Option ResumeRec := none
  resumeC   : Option ResumeRec := none
  cusJob    : Option JobNote := none
  bootRec   : Option BootRec := none
  bootRecC  : Option BootRec := none
  altTried  : Bool := false
  altGo     : Option (Nat × Nat) := none
  updHold   : Bool := false
  emergEnd  : Option Time := none
  ind       : IndS := {}
  deriving DecidableEq, Repr

/-! ### The whole state -/

/-- The device. `pending` is the queue of waiting commands, first in first out; `fresh` counts the free values used (log 2); `notes` holds what a meaning leaves to the end of its
step (log 9). -/
structure State where
  pending : List Instr := []
  fresh   : Nat := 0
  notes   : List Note := []
  tbs     : TbsS := {}
  und     : Und := {}
  fuses   : Fuses := {}
  pace    : PaceS := {}
  regs    : RegS := {}
  fw      : Tab FaultWin := []
  err     : ErrS := {}
  procs   : Tab ProcS := []
  mbx     : MbxS := {}
  sec     : SecS := {}
  upd     : UpdS := {}
  nvs     : NvsS := {}
  mram    : Mram := {}
  cfg     : CfgS := {}
  gld     : Fabric := {}
  seq     : SeqS := {}
  shp     : ShpS := {}
  afe     : AfeS := {}
  thm     : ThmS := {}
  thrForced : Bool := true
  lkf     : LkfS := {}
  mdie    : Tab MotDie := []
  mch     : Tab MotCh := []
  mot     : MotS := {}
  cnp     : CnpS := {}
  cus     : CusS := {}
  gcl     : GclS := {}
  mem     : MemS := {}
  dram    : DramS := {}
  twpCfg  : Tab TwpRec := []
  twp     : TwpS := {}
  arb     : ArbS := {}
  pmd     : PmdS := {}
  cas     : CasS := {}
  tap     : TapS := {}
  deriving DecidableEq, Repr

/-- Pins of the open-drain class that rest released: PFW_N, JOB_ABORT_N, ERR_N and UP_ALERT_N (R507). -/
def resetLatches : Tab Latch := [(144, { level := 1 }), (145, { level := 1 }), (146, { level := 1 }), (147, { level := 1 })]

/-- Motor channels at power-on reset (R220): STOPPED, their start watch begun. -/
def resetMotors : Tab MotCh := (List.range 16).map (fun c => (c, { state := 1, watch := some 0 }))

/-- The device right after power-on reset (R15): every field at the value its chapter gives, the timebase at 0, the causes POR (R37), the throttle pins at level 3 until the
fabric first runs (R507), the motor dies in BOOT (R220) and the content of LPDDR5X lost (R331). -/
def State.reset : State :=
  { und := { cause := { bits := 1#32, count := 0 }, latches := resetLatches }
    mch := resetMotors
    dram := { ledgerLost := true } }

end Sys2Proof.Machine
end

