-- ==== Sys2Proof/Machine/Ops.lean ====
section
/-! DEFINITION. The named operations that every chapter's meanings share: time, registers, signals, held pins, and the raise of a fault (00_scope.md, 01, 02, 17). -/

namespace Sys2Proof.Machine

/-! ### Time, free values, processors -/

/-- Timebase time (R25). -/
def State.now (s : State) : Time := s.tbs.count

/-- Minutes of the timebase (R487). -/
def dayOffsetS (s : State) : Int := (tget 0#32 s.regs.live 0x170018).toInt

/-- Minute of the day minus the minute count, in minutes, never negative: DAY_OFFSET_S over 60 (R487). -/
def dayOffsetMin (s : State) : Nat := ((dayOffsetS s / 60) % 1440).toNat

def procSt (s : State) (p : Proc) : ProcS := tget {} s.procs p.num
def updProc (p : Proc) (f : ProcS → ProcS) (s : State) : State := { s with procs := tupd {} s.procs p.num f }

/-- The processor runs its firmware: STARTING or READY (R384, R385). -/
def procRunning (s : State) (p : Proc) : Bool := (procSt s p).state == .starting || (procSt s p).state == .ready

/-- The device leads its cascade (R492). -/
def isLead (s : State) : Bool := s.und.straps.casRole == 0

/-- PATH code (R461). -/
def pathCode : Path → Nat
  | .proc p => p.num
  | .up => 0x10 | .twp0 => 0x11 | .mbx4 => 0x11 | .cs0 => 0x12 | .cs1 => 0x13 | .tap => 0x14 | .hw => 0x20 | .none => 0xFF

/-- Requesters of an arbiter instance (R365). -/
def arbCount (i : Nat) : Nat := if i < 8 then 8 else if i < 16 then 3 else if i < 32 then 9 else 3

/-! ### Registers (R9–R12) -/

/-- Reset values of the writable registers whose reset is not 0 and is not taken from the bitstream. -/
def regReset (off : Nat) : Word :=
  match off with
  | 0x090040 => 0x035F5A00#32
  | 0x090048 => 500#32
  | 0x090060 => 20000#32
  | 0x090068 => 20000#32
  | 0x090070 => 50#32
  | 0x090078 => 3276800#32
  | 0x090080 => 1000#32
  | 0x090088 => 2000#32
  | 0x0A0010 => 10#32
  | 0x0B0020 => 30#32
  | 0x140070 => 400#32
  | 0x140078 => 0x00643A09#32
  | 0x140080 => 24#32
  | 0x150300 => 0xFF1E000A#32
  | 0x0E0130 => 0x1FF#32
  | 0x1C0030 => 10#32
  | 0x1C0038 => 0x00050014#32
  | 0x190010 => 0x03E8082B#32
  | 0x170010 => 0x03840FA2#32
  | o =>
    if 0x090400 ≤ o ∧ o < 0x090600 ∧ o % 0x40 = 0x30 then 0x00640000#32
    else if 0x0E0000 ≤ o ∧ o < 0x0F0000 ∧ o % 0x1000 = 0x108 then 0x2300#32
    else if 0x010100 ≤ o ∧ o < 0x010280 ∧ o % 0x40 = 0x14 then 100#32
    else if 0x0F0000 ≤ o ∧ o < 0x0F8800 then
      (if o % 0x400 = 0x380 ∨ o % 0x400 = 0x388 then 10000#32
       else if 0x300 ≤ o % 0x400 ∧ o % 0x400 < 0x380 ∧ (o % 0x400 - 0x300) / 8 < arbCount ((o - 0x0F0000) / 0x400) then 1#32 else 0#32)
    else 0#32

/-- A word software wrote, staged for an RWS field, or its reset value; the complement word of a pair rests at the complement. -/
def regWord (s : State) (off : Nat) : Word :=
  match tfind s.regs.words off with
  | some w => w
  | none => regReset off

/-- The complement word of a staged pair at value offset `off`. -/
def regComp (s : State) (off : Nat) : Word :=
  match tfind s.regs.words (off + 4) with
  | some w => w
  | none => ~~~ regWord s off

/-- The word in force of an RWS register. -/
def liveWord (s : State) (off : Nat) : Word :=
  match tfind s.regs.live off with
  | some w => w
  | none => regReset off

def setWord (off : Nat) (w : Word) (s : State) : State := { s with regs.words := tput s.regs.words off w }
def setLive (off : Nat) (w : Word) (s : State) : State := { s with regs.live := tput s.regs.live off w }

/-- Load a parameter set as a bitstream load does: staged and live, with matching complements. -/
def loadWords (l : List (Nat × Word)) (s : State) : State :=
  l.foldl (fun s e => setWord (e.1 + 4) (~~~ e.2) (setWord e.1 e.2 (setLive e.1 e.2 s))) s

/-- The value word in effect of a command pair (R10); writing both words of a pair at once replaces an unequal one. -/
def setPair (off : Nat) (w : Word) (s : State) : State :=
  { s with regs.words := tput s.regs.words off w, regs.half := terase s.regs.half off }

def lastTag (s : State) (off : Nat) : Nat := tget 0 s.regs.tags off
def setTag (off tag : Nat) (s : State) : State := { s with regs.tags := tset 0 s.regs.tags off tag }

/-! ### Fabric look-ups and the signal plane (R41–R46, R62) -/

def tileRec (s : State) (t : Nat) : TileRec := (s.gld.tiles[t]?).getD {}
def slotRec (s : State) (n : Nat) : SlotRec := ((tileRec s (n / 8)).slots[n % 8]?).getD {}
def tileSt (s : State) (t : Nat) : TileSt := tget {} s.gld.tile t
def slotSt (s : State) (n : Nat) : SlotSt := tget {} s.gld.slot n
def updTile (t : Nat) (f : TileSt → TileSt) (s : State) : State := { s with gld.tile := tupd {} s.gld.tile t f }
def updSlot (n : Nat) (f : SlotSt → SlotSt) (s : State) : State := { s with gld.slot := tupd {} s.gld.slot n f }

/-- Base of a tile's register window: sixteen tiles in each 64 KiB quarter. -/
def tileWindow (t : Nat) : Nat := 0x040400 + (t / 16) * 0x10000 + (t % 16) * 0x800

/-- Change-triggered slots (TRIGGER 7) on a signal. -/
def slotsOnSignal (s : State) (i : Nat) : List Nat :=
  (List.range 512).filter (fun n => (slotRec s n).prim != 0 && (slotRec s n).trigger == 7 && (slotRec s n).triggerSig == i)

/-- A producer writes a signal: value with complement, stale flag with its complement (R41); a change of value or stale flag makes the slots on it due (R62). -/
def writeSignal (i : Nat) (w : Word) (stale : Bool) (s : State) : State :=
  let o := tget {} s.gld.plane i
  let n := { o with value := w, comp := ~~~ w, stale := stale, staleC := !stale }
  let s := { s with gld.plane := tset {} s.gld.plane i n }
  if o.value = w ∧ o.stale = stale then s
  else { s with gld.due := (slotsOnSignal s i).foldl sadd s.gld.due }

/-- Mark a signal stale; its word stays. -/
def staleSignal (i : Nat) (s : State) : State := writeSignal i (tget {} s.gld.plane i).value true s

/-- A fixed block writes the signals whose records name it as PRODUCER with SOURCE `src` (R45, R85). -/
def writeFixedSignal (producer src : Nat) (w : Word) (stale : Bool) (s : State) : State :=
  forEach (s.gld.signals.filter (fun r => r.producer == producer && r.source == src)) (fun r s => writeSignal r.index w stale s) s

/-! ### Held pins (R16, R17) -/

def latchOf (s : State) (p : HeldPin) : Latch := tget {} s.und.latches p.num
def updLatch (p : Nat) (f : Latch → Latch) (s : State) : State := { s with und.latches := tupd {} s.und.latches p f }

/-- The owning block presents a level: the latch follows it while it runs, and keeps its level while held, noting a mismatch from its start (R16, R17). -/
def drivePin (p : HeldPin) (level : Nat) (s : State) : State :=
  updLatch p.num (fun l =>
    if l.held then
      { l with want := some level, since := if l.level = level then none else (match l.since with | some t => some t | none => some s.now) }
    else { l with level := level, want := none, since := none }) s

/-- The owning block presents the level the latch holds, so that the handover matches (R126, R465). -/
def presentHeld (p : HeldPin) (s : State) : State := updLatch p.num (fun l => if l.held then { l with want := some l.level, since := none } else l) s

/-! ### The raise of a fault (R454–R466) -/

def FUnit.isBlock : FUnit → Bool
  | .block _ => true
  | .twp _ => false

def uID : FUnit := .block 0x00
def uFPC : FUnit := .block 0x01
def uMBX : FUnit := .block 0x02
def uSEC : FUnit := .block 0x03
def uARB : FUnit := .block 0x0F
def uMEM : FUnit := .block 0x15
def uTBS : FUnit := .block 0x17
def uNVS : FUnit := .block 0x18
def uPMD : FUnit := .block 0x19
def uCAS : FUnit := .block 0x1A
def uIND : FUnit := .block 0x1B
def uUPD : FUnit := .block 0x1C

/-- What a raise brings to its capture words (R461); `w1 := none` leaves CAPTURE1 to the block's first register. `inj` says that an injected check failed (R466). -/
structure FaultInfo where
  unit : Nat := 0xFFFF
  item : Nat := 0
  path : Nat := 0x20
  w1   : Option Word := none
  w2   : Word := 0
  w3   : Word := 0
  inj  : Bool := false

def winOf (s : State) (u : FUnit) : FaultWin := tget {} s.fw u.key
def updWin (k : Nat) (f : FaultWin → FaultWin) (s : State) : State := { s with fw := tupd {} s.fw k f }
def note (n : Note) (s : State) : State := { s with notes := s.notes ++ [n] }

/-- The reaction record of a source, of the running bitstream (R88). -/
def reactRec (s : State) (block src : Nat) : Option ReactRec :=
  match s.cfg.running with
  | some b => b.react.find? (fun r => r.block == block && r.source == src)
  | none => none

/-- Reactions of a raise in the bit order of section 0x08: the record's, or interrupt only; a fatal source always asserts ERR_N (R88, R456). -/
def reactionsOf (s : State) (u : FUnit) (src : Nat) (cls : FClass) : Nat :=
  let m := match reactRec s u.blockCode src with | some r => r.reactions % 32 | none => 1
  if cls = .fatal then m ||| 16 else m

/-- CLASS of a comparator-to-fault source (R88, R455): its record's, uncorrected contained without one. -/
def cmpClassOf (s : State) (block src : Nat) : FClass :=
  match reactRec s block src with | some r => FClass.ofCode r.cls | none => .contained

/-- A source is set while its pending bit is (R457). -/
def sourceSet (s : State) (block src : Nat) : Bool :=
  s.fw.any (fun e => (e.1 / 16 == block || (block == 0x0E && e.1 / 16 == 0x0E)) && e.2.pending.contains src)

/-- THROTTLE level that set sources request of a slot's pins (R31, R88). -/
def faultThrottle (s : State) (k : Nat) : Nat :=
  match s.cfg.running with
  | some b => maxList (b.react.map (fun r => if (r.capSlots).testBit k ∧ sourceSet s r.block r.source then r.throttle else 0))
  | none => 0

/-- The thermal path's level 2 and the fault reactions' levels, as presented to a slot's THR latch (R31, R88, R185); level 3 and the fast trip enter after it. -/
def driveThr (k : Nat) (s : State) : State := drivePin (.thr k) (max (if tget 0 s.thm.thrReq k = 2 then 2 else 0) (faultThrottle s k)) s

/-- A source whose record carries a THROTTLE level moves the pins of the slots it names at once (R31, R88, R138). -/
def throttlePins (block src : Nat) (s : State) : State :=
  match reactRec s block src with
  | some r => if r.throttle = 0 then s else forEach (maskBits 8 r.capSlots) driveThr s
  | none => s

/-- The pins of every slot that a record with a THROTTLE level names, after a source has been cleared (R31, R88). -/
def releaseThr (s : State) : State :=
  match s.cfg.running with
  | some b => forEach ((List.range 8).filter (fun k => b.react.any (fun r => r.throttle != 0 && r.capSlots.testBit k))) driveThr s
  | none => s

/-- The recorder takes a trigger (R335): POST from RECORDING when enabled, counted in MISSED when FROZEN. -/
def rcdTrigger (n : Nat) (s : State) : State :=
  let r := s.mem.rcd
  if ¬ (fld (liveWord s 0x150300) 31 24).testBit n then s
  else if r.state = 1 then { s with mem.rcd := { r with state := 2, cause := n, trig := s.now, since := s.now } }
  else if r.state = 3 then { s with mem.rcd.missed := satInc 255 r.missed }
  else s

/-- ERR_N is asserted, for at least 2 µs from this raise (R464). -/
def assertErr (s : State) : State :=
  let low := (latchOf s .err).level == 0 && s.err.asserted
  drivePin .err 0 { s with err.pulseEnd := some (s.now + 2 * us), err.asserted := true, err.pulses := if low then s.err.pulses else satInc 65535 s.err.pulses }

/-- Unit number a block reset names within a window (R462 step 5): the ARB instance of CAPTURE0, else none. -/
def resetInst (u : FUnit) (i : FaultInfo) : Nat := if u = .block 0x0F then i.unit else 0xFFFF

/-- A raise asks for a block reset, unless it would be the fourth of that unit within 10 s (R462 step 5, R463). -/
def askBlockReset (u : FUnit) (inst : Nat) (s : State) : State :=
  let old := (winOf s u).resets.filter (fun e => e.1 == inst && decide (s.now < e.2 + 10 * sec))
  if 3 ≤ old.length then updWin u.key (fun w => { w with storm := true }) s
  else note (.blockReset u inst) (updWin u.key (fun w => { w with resets := old ++ [(inst, s.now)] ++ w.resets.filter (fun e => e.1 != inst) }) s)

/-- A raise asks for a chip reset with cause FAULT; the window's capture is saved to the Understory first (R460, R462 step 6). -/
def askChipReset (u : FUnit) (s : State) : State :=
  let w := winOf s u
  let sv : SavedCapture := { key := u.key, block := u.blockCode, source := w.first, cls := w.firstClass, time := w.time, capture := w.capture, injected := w.injected,
                             rFirst := w.rFirst }
  note (.chipReset 2) { s with und.saved := some sv }

/-- An entry of the fault log for a window that latched an uncorrected contained or fatal source (R477); a fatal entry commits at once, by the step's end. -/
def logEntryOf (u : FUnit) (w : FaultWin) : LogEntry :=
  { time := w.time, block := u.blockCode, source := w.first, cls := w.firstClass, injected := w.injected, restored := w.restored, merge := w.merge
    reactions := w.rFirst, capture := w.capture, entry := 0, boot := 0 }

/-- Raise a source in its unit's window and carry out its reactions (R457, R462). -/
def raise (u : FUnit) (src : Nat) (cls : FClass) (i : FaultInfo) (s : State) : State :=
  let r := reactionsOf s u src cls
  let w := winOf s u
  let w := { w with pending := sadd w.pending src, worst := max w.worst cls.code
                    severe := if cls = FClass.corrected then w.severe else satInc 65535 w.severe
                    corrected := if cls = FClass.corrected then satInc 65535 w.corrected else w.corrected }
  let empty := w.state == .empty
  let w :=
    if empty then
      { w with state := .latched, first := src, firstClass := cls, merge := 0, overflow := false, restored := false, injected := i.inj, worst := cls.code
               rFirst := r, rLater := 0, time := s.now
               capture := [w32 (i.unit * 65536 + i.item * 256 + i.path), i.w1.getD 0, i.w2, i.w3, 0, 0, 0, 0] }
    else
      { w with rLater := w.rLater ||| r, merge := if w.first = src then satInc 255 w.merge else w.merge, overflow := w.overflow || w.first != src }
  let w := if r.testBit 1 ∧ w.trapSince = none then { w with trapSince := some s.now } else w
  let s := throttlePins u.blockCode src (updWin u.key (fun _ => w) s)
  let s := if empty ∧ i.w1 = none then note (.capture1 u.key) s else s
  let s := if empty ∧ cls ≠ .corrected then
      { s with nvs.logPend := s.nvs.logPend ++ [logEntryOf u w], nvs.logSince := (match s.nvs.logSince with | some t => some t | none => some s.now) } else s
  let s := if empty ∧ cls = .fatal then note .logNow s else s
  let s := if r.testBit 4 then assertErr s else s
  let s := if cls = .fatal then rcdTrigger 5 s else s
  let s := if cls = .fatal ∨ cls = .contained then note (.severe (cls == .fatal)) s else s
  if r.testBit 3 then askChipReset u s
  else if r.testBit 2 then askBlockReset u (resetInst u i) s
  else s

/-- An injection is armed for the checks of a source on a unit (R466). -/
def injectArmed (u : FUnit) (src unit : Nat) (s : State) : Bool :=
  let w := winOf s u
  let o := u.key * 0x1000 + 0x40
  let n := match tfind s.regs.words o with | some x => fld x 15 0 | none => 0xFFFF
  decide (0 < w.injLeft) && w.injSource == src && (n == 0xFFFF || n == unit)

/-- One check takes up one of the armed inversions. -/
def injectUse (u : FUnit) (s : State) : State := updWin u.key (fun w => { w with injLeft := w.injLeft - 1 }) s

/-- The armed inversion is of two check bits: a SECDED checker sees an uncorrectable word (R466). -/
def injectDouble (u : FUnit) (s : State) : Bool := (winOf s u).injMode == 2

/-- One check of a source's checker (R466): its result, failed while an injection is armed, and the count it uses up. -/
def injectCheck (u : FUnit) (src unit : Nat) (ok : Bool) (s : State) : Bool × State :=
  if injectArmed u src unit s then (false, injectUse u s) else (ok, s)

/-- A pair as an armed injection shows it to its checker: complement inverted (R466). -/
def injectPair (u : FUnit) (src unit : Nat) (p : Pair) (s : State) : Pair × State :=
  if injectArmed u src unit s then ({ p with comp := ~~~ p.comp }, injectUse u s) else (p, s)

/-! ### Sense parameters (R131, R172) -/

/-- Parameter `i` of a sense channel in force, in the order of THM_C_PARAM, as the front-end die holds it. -/
def senseParOf (s : State) (c i : Nat) : Int := (liveWord s (0x0A8000 + 0x40 * c + 8 * i)).toInt

/-- Gain and offset of a channel, each in Q16.16 (R172). -/
def gainOffset (s : State) (c : Nat) (raw : Word) : Word := wInt (clampTo (-2147483648) 2147483647 (qdiv (senseParOf s c 0 * raw.toInt) 65536 + senseParOf s c 1)).1

/-- A reading of a channel of a kind, converted by SCALE and OFFSET (R172). A thermistor's is its resistance in 2^-8 Ω; any other's is in Q16.16 of the channel's unit before gain and offset (log 124). -/
def convertSense (s : State) (c kind : Nat) (raw : Word) : Word :=
  if kind = 2 then
    let r25 := (liveWord s (0x0A8008 + 0x40 * c)).toNat
    let beta := (liveWord s (0x0A8000 + 0x40 * c)).toNat
    match betaTemp raw.toNat r25 beta with
    | some t => wInt (clampTo (-2147483648) 2147483647 t).1
    | none => Config.thermistor raw.toNat r25 beta
  else gainOffset s c raw

/-! ### The non-volatile store: queueing a commit (R469–R471) -/

/-- Areas whose records hardware stages in the Understory before committing (R471). -/
def stagedArea (a : Nat) : Bool := a == 0x08 || a == 0x09 || a == 0x0B

/-- Queue a commit in rank order after those of its rank; a job being written is resumed after a higher rank (R470). -/
def insertJob (j : NvsJob) : List NvsJob → List NvsJob
  | [] => [j]
  | a :: r => if j.rank < a.rank then j :: a :: r else a :: insertJob j r

def nvsQueue (j : NvsJob) (s : State) : State :=
  let s := match j.payload with
    | some p => if stagedArea j.area then { s with und.nvsStaged := tput s.und.nvsStaged j.area p } else s
    | none => s
  { s with nvs.queue := insertJob j s.nvs.queue }

def bankA (s : State) (a : Nat) : NvsBank := tget {} s.mram.bankA a
def bankB (s : State) (a : Nat) : NvsBank := tget {} s.mram.bankB a

/-- Bank A holds the newest valid copy (R468). -/
def newestIsB (s : State) (a : Nat) : Bool := (bankB s a).valid && (!(bankA s a).valid || decide ((bankA s a).seq < (bankB s a).seq))

/-- The newest valid payload of an area; none when EMPTY. -/
def nvsNewest (s : State) (a : Nat) : Option NvsPayload :=
  let b := if newestIsB s a then bankB s a else bankA s a
  if b.valid then b.payload else none

/-- The staged record of an area, or the newest one committed (R471). -/
def nvsStagedOrNewest (s : State) (a : Nat) : Option NvsPayload :=
  match tfind s.und.nvsStaged a with
  | some p => some p
  | none => nvsNewest s a

/-- FW_SVN in force and SEC_CFG_ID (R409, R100). -/
def fwSvnOf (s : State) : Nat := s.sec.fwSvn
def cfgIdOf (s : State) : Nat := match s.cfg.running with | some b => topDigest b % 2 ^ 32 | none => 0

/-! ### A write from a path that a rule excludes -/

/-- The unit and source of a block's write-path row (the fault tables of each chapter); the ID block's row follows log 61, GCL's log 55. -/
def writePathSource (off : Nat) : FUnit × Nat :=
  let b := off / 0x10000
  if b = 0x00 then (uID, 3)
  else if b = 0x01 then (uFPC, 3)
  else if b = 0x02 then (uMBX, 3)
  else if b = 0x03 then (uSEC, 8)
  else if 0x04 ≤ b ∧ b ≤ 0x07 then (.block b, 6)
  else if b = 0x08 then (.block b, 6)
  else if b = 0x0A then (.block b, 9)
  else if b = 0x0B then (.block b, 9)
  else if b = 0x0C then (.block b, 4)
  else if b = 0x0E then (.twp (off / 0x1000 % 16), 8)
  else if b = 0x0F then (.block b, 4)
  else if 0x10 ≤ b ∧ b ≤ 0x13 then (.block 0x10, 10)
  else if b = 0x14 then (.block b, 10)
  else if b = 0x15 then (.block b, 6)
  else if b = 0x16 then (.block b, 12)
  else if b = 0x17 then (.block b, 4)
  else if b = 0x18 then (.block b, 6)
  else if b = 0x19 then (.block b, 2)
  else if b = 0x1A then (.block b, 4)
  else if b = 0x1B then (.block b, 0)
  else (.block b, 6)

/-- Discard a write and record it under the block's write-path source, naming path, offset and data (R461). -/
def denyWrite (path : Path) (off : Nat) (w : Word) (s : State) : State :=
  let r := writePathSource off
  raise r.1 r.2 .contained { path := pathCode path, w1 := some (w32 off), w2 := w } s

end Sys2Proof.Machine
end

