-- ==== Sys2Proof/WellFormed.lean ====
section
/-! DEFINITION. Which commands can arrive: operand ranges that the types of Syntax.lean leave wider than the chapters do. `exec` gives every command a meaning, well-formed or not; a
command that is not well-formed stands for nothing that happens to the device. -/

namespace Sys2Proof

open Sys2Proof.Machine

/-- A temperature channel has an INDEX of 128–161 or 197–212 (R172). -/
def tempChannel (c : Nat) : Bool := decide ((128 ≤ c ∧ c ≤ 161) ∨ (197 ≤ c ∧ c ≤ 212))

/-- What a tick brings names tiles 0–63 with tick classes 0–6 (R61), interfaces 0–7 (R327) and regions 0–23 (R19). -/
def tickOk (e : TickEnv) : Bool :=
  e.late.all (fun x => decide (x.1 < 64 ∧ x.2 ≤ 6)) && e.hot.all (fun i => decide (i < 8)) && e.pace.all (fun r => decide (r.1 < 24))

/-- A mailbox message carries at most 4,096 bytes, and no more payload words than its LENGTH tells (R390). -/
def mbxOk (m : MbxMsg) : Bool := decide (m.length < 65536 ∧ m.payload.length ≤ 1024 ∧ m.major < 256)

/-- Well-formed commands. -/
def Instr.wf : Instr → Bool
  | .tick env => tickOk env
  | .thermalSample c _ _ => tempChannel c
  | .channelPlausible c => tempChannel c
  | .sampleRateFall c => tempChannel c
  | .heartbeatReply _ r => decide (r.tach.length = 8 ∧ r.current.length = 8)
  | .remnantScrub flips => flips.all (fun f => decide (f.1 < 2 ^ 24 ∧ f.2.1 < 2 ^ 20))
  | .leafHashDone _ bytes => decide (bytes.length = 2 ^ 20)
  | .twpTargetRead _ _ r => decide (0 < r.count)
  | .transferDone _ _ d => decide (d.data.length ≤ 256)
  | .arbRequest i r b c _ => decide (r.val < arbCount i.val ∧ 0 < b ∧ 0 < c)
  | .beatComplete i r => decide (r.val < arbCount i.val)
  | .ping m => mbxOk m
  | .getInfo m => mbxOk m
  | .csrRead m => mbxOk m
  | .contractLoad m => mbxOk m
  | .contractArm m => mbxOk m
  | .contractCancel m => mbxOk m
  | .ledgerRead m => mbxOk m
  | .slotPower m => mbxOk m
  | .trayPower m => mbxOk m
  | .shutdownClear m => mbxOk m
  | .motorClear m => mbxOk m
  | .leakClear m => mbxOk m
  | .locate m => mbxOk m
  | .indicator m => mbxOk m
  | .modelLoad m => mbxOk m
  | .jobRestart m => mbxOk m
  | .canopyLoad m _ => mbxOk m
  | .canopyCtrl m => mbxOk m
  | .updateStage m => mbxOk m
  | .updateActivate m => mbxOk m
  | .updateStatus m => mbxOk m
  | .attest m => mbxOk m
  | .procRestart m => mbxOk m
  | .chipReset m => mbxOk m
  | .recorder m => mbxOk m
  | .relay m => mbxOk m
  | .memberRecord _ ws => decide (ws.length = 16)
  | .tapCertWrite bytes => decide (bytes.length = 3112)
  | .keySubmit _ _ record => decide (record.length ≤ 8192)
  | .tapKeyRecord _ _ record => decide (record.length ≤ 8192)
  | .powerOnReset | .standbySupplyLoss | .mainPgFall | .standbySupplyGood | .mainPgTimeout | .secRomRelease _ | .inputPowerGood | .upNoPeer | .resetCtrlKey _ _
  | .supervisionWatchdogBite | .handoverTimeout _ | .leasePinExpiry _ | .paceStepUp _ | .paceStepDown | .paceOverrun _ | .crystalFail | .registerWrite _ _ _
  | .rcRead _ _ | .unmappedAccess _ _ _ | .rwpPairTimeout _ | .blockCommit _ _ | .blockDiscard _ _ | .blockCommitApply _ | .signalChangeEvaluate _
  | .structureLoad | .structureLoadDone _ _ | .standbyApply | .paramEccError _ _ | .paramStageWrite _ _ _ _ _ | .tileCommit _ _ | .tileDiscard _ _
  | .tileCommitApply _ | .groupCommit _ | .groupCommitApply | .configCommitApply | .applyRetry | .seqSlotUp _ _ _ | .seqSlotDown _ _ _ | .seqTrayUp _ _ _
  | .seqTrayDown _ _ | .seqClear _ _ _ _ | .seqNop _ _ | .heldCommandRun | .stepDelayDone _ _ | .stepAdmit _ _ | .stepQualified _ _ | .stepTimeout _ _
  | .pgChange _ _ | .vsWindowFault _ | .powerFailHoldExpiry | .seqAdoptionStart | .adoptRailReadDone _ _ _ | .queueWaitLong _ _ | .ffrValidClear _
  | .traySample _ _ _ | .senseSample _ _ | .fastTrip _ | .tripLevelFall | .msgAck _ _ | .telemetryRecord _ _ _ | .telemetryStale _ | .stepHint _ _ _ _ _ _
  | .hintTimeout _ | .tailStart _ | .tailEnd _ | .vfWaitTimeout _ | .stepPinFall _ | .stepPinRise _ | .schedArm _ _ | .schedCancel _ _ | .scheduleCheckDone
  | .scheduleTakeOver | .trimSaturated | .minuteClose | .ledgerBlockSigned | .signingLate | .spoolWriteDone | .ledgerSpoolRestore | .ledgerResign
  | .staircaseStep _ | .staircaseRelease _ | .shdnClrRequest _ _ _ _ | .tcritConversion _ _ _ | .leakReading _ _ _ | .leakNoisy _ | .lkfClearRequest _ _ _
  | .flowSample _ _ | .flowAlarm _ | .flowAlarmEnd _ | .flowJudgeStart | .heartbeatReceive _ _ _ | .dieFailsafe _ | .setpointLost _ | .hostSilence _
  | .startWatchEnd _ _ _ | .reverseCoastEnd _ | .alignDone _ | .bemfLock _ | .rampNoLock _ | .restDone _ | .stallDetect _ | .runCountReset _ | .senseLost _
  | .senseRegained _ | .senseFail _ | .overcurrent _ | .openPhase _ | .speedLow _ | .speedLowClear _ | .hallInvalid _ | .vmotBusFault _ _ | .vmotBusRecover _ _
  | .motClearRequest _ _ _ | .segmentDone _ _ | .deadlineMiss _ | .cnpLoad _ _ _ | .cnpSuspend _ _ _ | .cnpResume _ _ _ | .cnpResetState _ _ _
  | .stagedHashDone | .loadCopyDone _ | .cnpStateEcc _ | .canopyBootLoad | .cusLoad _ _ _ _ | .cusPlanOnly _ _ _ _ | .cusCancel _ _ | .cusResume _ _
  | .manifestVerified _ _ _ | .treeDone _ _ | .capAnswer _ _ | .capQueryTimeout _ | .leafFetch | .clearAck _ _ | .clearAckTimeout _ _
  | .loadResumeAfterReset | .jobFault _ _ | .cusRestart _ _ | .cusHold _ _ | .cusRelease _ _ | .cusContinue _ _ | .abortHoldExpiry | .quiesceDone
  | .readyWaitDone | .readyWaitTimeout | .pwrRetry | .portRetrain _ _ _ | .portFullRetrain _ _ _ | .portDisable _ _ _ | .portEnable _ _ _ | .peerDetect _
  | .equaliseDone _ _ _ | .fecLockHeld _ | .configRecord _ _ | .trainTimeout _ | .downRetry _ | .codewordLockLoss _ | .lowPowerEnter _ | .lowPowerExit _
  | .recoveryLanesChosen _ _ _ | .flitReceive _ _ | .rdS _ _ _ | .rdUc _ _ _ _ | .csrRd _ _ _ | .csrWr _ _ _ _ | .wr _ _ _ | .completionReceived _ _ _ _
  | .completionTimeout _ _ | .snpInv _ | .snpRspI _ | .snoopResend _ | .timeSync _ _ | .timeReq _ | .timeRsp _ _ | .miTrainDone _ _ | .dramReadUe _ _
  | .rcdTrigger _ _ | .rcdRearm _ _ | .rcdPostExpire | .rcdAutoRearm | .rcdStagingOverflow | .twpTargetWrite _ _ _ | .twpBusError _ _ | .alertResponseRead _
  | .alertLineFall _ | .alertIgnoreEnd _ | .clkLowTimeout _ _ _ | .dataLowTimeout _ _ | .twpBusClearCmd _ _ _ _ | .twpResetPulse _ _ _ | .resetPinRelease _
  | .resetPinSettle _ _ | .stuckRetry _ _ | .fxTransferStart _ _ _ _ | .wakeAddressMatch _ _ | .windowRefill _ | .lockWatchdogBite _ _ | .procRelease _ _ _
  | .fpcRestart _ _ _ | .procReady _ _ _ | .procWdKick _ _ _ | .procWatchdog _ | .procTrap _ | .procMemoryError _ | .procRestoreDone _ _ | .procReloadDone _ _
  | .handlerResponse _ | .mailboxTimeout _ | .mbxAck _ _ | .rcvPull _ _ _ _ | .pullDone _ _ | .rcvAppendReset _ _ _ _ | .rcvAppend _ _ _ _ _
  | .rcvVerify _ _ _ _ | .rcvRelease _ _ _ | .fuseBlowDone _ | .stagingDone _ | .updArmTime _ _ | .updArmReset _ _ | .updCancel _ _
  | .updRollback _ _ | .activationTime | .deferEnd | .deferWindowEnd | .provingDone | .holdoffExpiry | .trialExpiry | .fallbackStart | .fwClaim _ _ _
  | .fwRelease _ _ _ | .pendingClear _ _ _ _ | .fwInjectRequest _ _ _ _ _ _ | .trapAckTimeout _ | .errPulseEnd | .errHold _ _ _ | .errRelease _ _ _
  | .faultLogCommit | .nvsCommit _ _ _ _ | .nvsRead _ _ _ | .nvsErase _ _ _ | .nvsMonoInc _ _ _ | .nvsCommitDone _ | .domainSupplyGood _ | .domainFail _
  | .wakeEvent _ | .locateButton | .locateTimeout | .tbsAlarm _ | .ppsEdge | .holdoverEnter | .holdoverLimit | .memberCap _ _ _ _ _ _ | .memberReport _ _ _ _ _
  | .boardRecordClose | .memberLost _ | .memberLeaseExpiry | .tapBypass | .tapIdcode | .tapSamplePreload | .tapExtest | .tapClamp | .tapHighz
  | .tapInject _ _ _ _ _ _ | .tapChipReset | .porNRelease _ _ _ => true

end Sys2Proof
end

