-- ==== Sys2Proof/Machine/Link.lean ====
section
/-! DEFINITION. The link layer's sending side: message classes and sizes, credits, flits and the replay buffer (10_gorino_coherent_link.md, R307–R313, R319),
and the home-agent directory (R316, R317). Port 0 is UP, 1–8 DN0–DN7, 9–10 CS0–CS1. -/

namespace Sys2Proof.Machine

def gclPort (s : State) (p : Nat) : GclPort := tget {} s.gcl.port p
def updPort (p : Nat) (f : GclPort → GclPort) (s : State) : State := { s with gcl.port := tupd {} s.gcl.port p f }
def dnPort (k : Nat) : Nat := k + 1
def portActive (s : State) (p : Nat) : Bool := (gclPort s p).state == 5

/-- The port has trained: it is ACTIVE, in LOW_POWER, or on its way back from RECOVERY (R300, R304). -/
def portTrained (s : State) (p : Nat) : Bool :=
  let q := gclPort s p
  q.state == 5 || q.state == 6 || q.state == 7 || (q.recovering && (q.state == 3 || q.state == 4))

/-- Class of a message (R310). -/
def msgClass : GclMsg → Nat
  | .rdUc .. => 0 | .csrRd .. => 0 | .csrWr .. => 0
  | .snpInv _ => 1 | .snpRsp _ => 1
  | .msgAck _ => 2 | .cmp .. => 2 | .cmpData .. => 2
  | .cap _ => 4 | .jobAbort _ => 4 | .jobResume => 4 | .restartDone _ => 4 | .doorbell .. => 4
  | .timeSync _ => 4 | .timeReq => 4 | .timeRsp _ => 4 | .memberCap .. => 4 | .memberRecord _ => 4
  | .memberReport .. => 5
  | .capQuery => 6 | .loadBegin .. => 6 | .qwrite .. => 6 | .clear .. => 6 | .loadEnd _ => 6 | .loadFailed _ => 6

/-- Slots of a message: the header slot and its body slots (R310, R319). -/
def msgSlots : GclMsg → Nat
  | .cap _ => 3
  | .loadBegin _ _ _ _ e => 2 + (24 * e.length + 15) / 16
  | .qwrite .. => 2 | .clear .. => 2 | .loadEnd _ => 2 | .loadFailed _ => 2 | .jobAbort _ => 2 | .restartDone _ => 2
  | .doorbell .. => 3
  | .timeSync _ => 2 | .timeRsp _ => 2 | .csrWr .. => 2
  | .memberCap .. => 2 | .memberReport .. => 3 | .memberRecord _ => 5
  | _ => 1

/-- Bytes a message carries in DATA flits. -/
def msgData : GclMsg → Nat
  | .qwrite _ _ n => n
  | .cmpData _ _ _ d => 4 * d.length
  | .doorbell _ _ _ d => 4 * d.length
  | _ => 0

def msgTag : GclMsg → Nat
  | .cmpData t _ _ _ => t
  | _ => 0

/-- Flits a port's replay buffer holds (R308). -/
def replayDepth (p : Nat) : Nat := if p = 0 then 512 else 128

/-- Order in which a SLOT flit is filled (R312): RSP, SNP, MSG, TLM, REQ, CUS. -/
def fillOrder : List Nat := [2, 1, 4, 5, 0, 6]

/-- Take from the queue, in order, the messages of a class that the credits and the room of the flit allow; a CUS slot message waits for the data of every
earlier CUS transfer (R311). Answers the messages taken, the queue left, and slots used. -/
def takeClass (cls credit room : Nat) (open_ : Bool) : List GclMsg → List GclMsg × List GclMsg × Nat
  | [] => ([], [], 0)
  | m :: r =>
    if msgClass m = cls then
      if (cls = 6 ∧ open_) ∨ credit < msgSlots m ∨ room < msgSlots m then ([], m :: r, 0)
      else
        let t := takeClass cls (credit - msgSlots m) (room - msgSlots m) (open_ || (decide (cls = 6) && decide (0 < msgData m))) r
        (m :: t.1, t.2.1, t.2.2 + msgSlots m)
    else let t := takeClass cls credit room open_ r; (t.1, m :: t.2.1, t.2.2)

def setNth (l : List Nat) (i v : Nat) : List Nat := (List.range (max l.length (i + 1))).map (fun j => if j = i then v else l.getD j 0)

/-- Fill one SLOT flit from the queue. -/
def fillFlit (q : GclPort) : List GclMsg × GclPort :=
  let r := fillOrder.foldl (fun (acc : List GclMsg × GclPort × Nat) c =>
    let q := acc.2.1
    let t := takeClass c (q.crSlot.getD c 0) acc.2.2 (q.xfers.any (fun x => x.cls == 6)) q.queue
    (acc.1 ++ t.1, { q with queue := t.2.1, crSlot := setNth q.crSlot c (q.crSlot.getD c 0 - t.2.2) }, acc.2.2 - t.2.2)) ([], q, 15)
  (r.1, r.2.1)

/-! ### Ranking (R368), shared with the Pass arbiter -/

def instReq (a : ArbInst) (r : Nat) : ArbReqS := tget {} a.reqs r
def instUpd (r : Nat) (f : ArbReqS → ArbReqS) (a : ArbInst) : ArbInst := { a with reqs := tupd {} a.reqs r f }

/-- Requester `r`, whose head was stamped `tr`, ranks strictly above `w`, whose head was stamped `tw` (R368). -/
def instBeats (a : ArbInst) (r tr w tw : Nat) : Bool :=
  let cr := max (instReq a r).credit 0
  let cw := max (instReq a w).credit 0
  decide (cw < cr) || (cr == cw && decide (tr < tw))

/-- What one granted beat of requester `r` counts (ch. 13, One arbitration): a decision lost for each of `others`, the beat's cost and the grant; `wait` at a first beat. -/
def instCharge (r : Nat) (others : List Nat) (cost : Nat) (wait : Option Nat) (a : ArbInst) : ArbInst :=
  let a := others.foldl (fun a q => instUpd q (fun x => { x with waits := satInc 4294967295 x.waits }) a) a
  instUpd r (fun x => { x with credit := x.credit - cost, grants := (x.grants + 1) % 2 ^ 48
                               longest := match wait with | some n => min 4294967295 (max x.longest n) | none => x.longest }) { a with owner := r }

/-- Requester of ARB_DNn that a DATA transfer's class stands for (R312, R365): custody writes, MSG payloads, else read data. -/
def dnReq (cls : Nat) : Nat := if cls = 6 then 0 else if cls = 4 then 2 else 1

/-- Heads of the DATA streams that hold a data-flit credit: the first transfer of each class. -/
def xferHeads (q : GclPort) : List Xfer :=
  [6, 3, 4].filterMap (fun c => (q.xfers.find? (fun x => x.cls == c)).filter (fun _ => decide (0 < q.crData.getD c 0)))

/-- The transfer whose flit goes next on a DN port, as ARB_DNn ranks the streams (R312, R368). -/
def dnXfer (a : ArbInst) (q : GclPort) : Option Xfer :=
  (xferHeads q).foldl (fun w x => match w with
    | none => some x
    | some y => if instBeats a (dnReq x.cls) x.stamp (dnReq y.cls) y.stamp then some x else some y) none

/-- The transfer whose flit goes next on a port without an arbiter, where transfers take turns (R312): the first with a credit. -/
def turnXfer (q : GclPort) : Option Xfer := q.xfers.find? (fun x => decide (0 < q.crData.getD x.cls 0))

/-- The transfers after one flit of `x`: it leaves with its last byte; on a port without an arbiter it goes to the back once another flit would pass 4 KiB (R312). -/
def xferStep (turns : Bool) (x : Xfer) (l : List Xfer) : List Xfer :=
  let y : Xfer := { x with left := x.left - 240, begun := true, turn := if 4096 < x.turn + 480 then 0 else x.turn + 240 }
  if x.left ≤ 240 then l.erase x
  else if turns ∧ y.turn = 0 then l.erase x ++ [y]
  else l.map (fun z => if z = x then y else z)

def putFlit (m : List GclMsg) (cls bytes : Nat) (leaf : Option Nat) (q : GclPort) : GclPort :=
  { q with buf := q.buf ++ [{ fseq := q.txSeq, msgs := m, dataCls := cls, bytes := bytes, leaf := leaf }], txSeq := (q.txSeq + 1) % 4096, nakDue := false }

def msgLeaf : GclMsg → Option Nat
  | .qwrite _ l _ => some l
  | _ => none

/-- One DATA flit of transfer `x`, charged to ARB_DNn on a DN port. -/
def sendData (dn : Bool) (now : Time) (x : Xfer) (q : GclPort) (a : ArbInst) : GclPort × ArbInst :=
  let others := ((xferHeads q).filter (fun y => y.cls != x.cls)).map (fun y => dnReq y.cls)
  let a := if dn then instCharge (dnReq x.cls) others 1 (if x.begun then none else some (now - x.stamp)) a else a
  (putFlit [] x.cls (min 240 x.left) x.leaf { q with crData := setNth q.crData x.cls (q.crData.getD x.cls 0 - 1), xfers := xferStep (!dn) x q.xfers }, a)

/-- Send what waits while credits and the replay buffer allow (R308, R309, R312): slot messages first, then the next DATA flit. `fuel` bounds the flits. -/
def pump (dn : Bool) (depth : Nat) (now : Time) : Nat → GclPort × ArbInst → GclPort × ArbInst
  | 0, z => z
  | fuel + 1, (q, a) =>
    if q.state ≠ 5 ∨ depth ≤ q.buf.length then (q, a)
    else
      let r := fillFlit q
      if r.1 ≠ [] then
        let new := (r.1.filter (fun m => 0 < msgData m)).map (fun m =>
          ({ cls := if msgClass m = 2 then 3 else msgClass m, tag := msgTag m, left := msgData m, stamp := now, leaf := msgLeaf m } : Xfer))
        pump dn depth now fuel (putFlit r.1 0 0 none { r.2 with xfers := r.2.xfers ++ new }, a)
      else match (if dn then dnXfer a q else turnXfer q) with
        | some x => pump dn depth now fuel (sendData dn now x q a)
        | none => (q, a)

/-- Send what waits on a port; the DATA flits of a DN port are ARB_DNn's beats (log 136). -/
def pumpPort (p : Nat) (s : State) : State :=
  if 1 ≤ p ∧ p ≤ 8 then
    let z := pump true (replayDepth p) s.now (replayDepth p) (gclPort s p, tget {} s.arb.inst (7 + p))
    { s with gcl.port := tset {} s.gcl.port p z.1, arb.inst := tset {} s.arb.inst (7 + p) z.2 }
  else updPort p (fun q => (pump false (replayDepth p) s.now (replayDepth p) (q, {})).1) s

/-- Queue a message on a port and send what can go. A port that is DISABLED or DOWN takes none (R324). -/
def gclSend (p : Nat) (m : GclMsg) (s : State) : State :=
  let st := (gclPort s p).state
  if st = 0 ∨ st = 8 then s else pumpPort p (updPort p (fun q => { q with queue := q.queue ++ [m] }) s)

/-- The next TAG, from `t` on, that no outstanding request carries. -/
def freeTag (l : List OutReq) : Nat → Nat → Nat
  | 0, t => t
  | n + 1, t => if l.any (fun r => r.tag == t) then freeTag l n ((t + 1) % 8192) else t

/-- Queue one device read and note it outstanding (R304); with every TAG in use it waits (log 137). -/
def putRead (now : Time) (e : ReqOwner × Nat × Nat) (q : GclPort) : GclPort :=
  if 8192 ≤ q.reqs.length then { q with waiting := q.waiting ++ [e] }
  else
    let t := freeTag q.reqs 8192 q.nextTag
    { q with nextTag := (t + 1) % 8192, reqs := q.reqs ++ [⟨t, e.1, now⟩], queue := q.queue ++ [.rdUc t e.2.1 e.2.2] }

/-- Queue device reads on a port and send what can go. A port that is DISABLED or DOWN takes none (R324). -/
def gclReads (p : Nat) (l : List (ReqOwner × Nat × Nat)) (s : State) : State :=
  let st := (gclPort s p).state
  if st = 0 ∨ st = 8 then s else pumpPort p (updPort p (fun q => l.foldl (fun q e => putRead s.now e q) q) s)

/-- A request is no longer outstanding; its TAG goes to the first read that waits for one. -/
def dropReq (p tag : Nat) (s : State) : State :=
  let s := updPort p (fun q => { q with reqs := q.reqs.filter (fun r => r.tag != tag) }) s
  match (gclPort s p).waiting with
  | [] => s
  | e :: r => gclReads p [e] (updPort p (fun q => { q with waiting := r }) s)

/-- The largest read RD_UC allows at `a` for `n` lines of 64 bytes still wanted (R313): at most 4 KiB, aligned to its length. -/
def readLen (a n : Nat) : Nat := ([4096, 2048, 1024, 512, 256, 128].find? (fun k => a % k == 0 && decide (k ≤ 64 * n))).getD 64

/-- Reads that cover `n` lines from the line address `a` on. -/
def readsFrom (owner : ReqOwner) : Nat → Nat → Nat → List (ReqOwner × Nat × Nat)
  | 0, _, _ => []
  | fuel + 1, a, n => if n = 0 then [] else (owner, a, readLen a n) :: readsFrom owner fuel (a + readLen a n) (n - readLen a n / 64)

/-- Fetch `len` bytes at a companion address as RD_UC reads (R313). -/
def gclFetch (p addr len : Nat) (s : State) : State :=
  let n := (addr + len + 63) / 64 - addr / 64
  gclReads p (readsFrom .fetch n (addr / 64 * 64) n) s

/-- The reads of a leaf (R275 step 1, R313): 256 of 4 KiB, sixteen to each 64 KiB part. -/
def leafReads (c l addr : Nat) : List (ReqOwner × Nat × Nat) :=
  (List.range 256).map (fun i => (.leaf c l (i / 16), addr + 4096 * i, 4096))

def isLeafOwner (c l : Nat) (o : ReqOwner) : Bool := match o with | .leaf c' l' _ => c' == c && l' == l | _ => false
def isAnyLeaf (o : ReqOwner) : Bool := match o with | .leaf .. => true | _ => false

/-- Reads that no attempt waits for any more: those that wait for a TAG are dropped, and completions of the others are ignored. -/
def staleReads (f : ReqOwner → Bool) (s : State) : State :=
  updPort 0 (fun q => { q with reqs := q.reqs.map (fun r => if f r.owner then { r with owner := .stale } else r), waiting := q.waiting.filter (fun e => !f e.1) }) s

/-- No custody write of leaf `l` on port `p` is queued, under way or unacknowledged (R275 step 3, R308; log 138). -/
def writesAcked (s : State) (p l : Nat) : Bool :=
  let q := gclPort s p
  q.queue.all (fun m => msgLeaf m != some l) && q.xfers.all (fun x => x.leaf != some l) &&
    q.buf.all (fun f => f.leaf != some l && f.msgs.all (fun m => msgLeaf m != some l))

/-! ### Directory (R316, R317) -/

/-- A change of a page's lines: at once in state I; in state S it is held, and a snoop is sent. -/
def holdOrDo (page : Nat) (c : HeldChange) (act : State → State) (s : State) : State :=
  if s.gcl.snoops.any (fun n => n.page == page) then
    { s with gcl.snoops := s.gcl.snoops.map (fun n => if n.page = page then { n with held := n.held ++ [c] } else n) }
  else if s.gcl.dirS.contains page then
    gclSend 0 (.snpInv page) { s with gcl.snoops := s.gcl.snoops ++ [{ page := page, sent := s.now, sends := 1, held := [c] }], gcl.sent := satInc 65535 s.gcl.sent }
  else act s

/-! ### Memory regions (R89, R328) -/

/-- Region sizes in MiB in record order, scratch taking the rest of 128 GiB. -/
def regionMib (s : State) (i : Nat) : Nat :=
  if i < 5 then s.mem.regions.getD i 0 else 131072 - sumList (s.mem.regions.take 5)
def regionBaseMib (s : State) (i : Nat) : Nat := sumList ((List.range i).map (regionMib s))

/-- Region of a device address: 0 remnant, 1 tree, 2 recorder, 3 Canopy weights, 4 ledger and logs, 5 scratch; 6 outside. -/
def regionOf (s : State) (a : Nat) : Nat :=
  if 137438953472 ≤ a then 6
  else ((List.range 6).find? (fun i => decide (a / 1048576 < regionBaseMib s i + regionMib s i))).getD 6

end Sys2Proof.Machine
end

