-- ==== Sys2Proof/Machine/RegMap.lean ====
section
/-! DEFINITION. Which paths a register accepts writes from (R38, R71, R188, R195, R226, R262, R292, R325, R339, R363, R381, R401, R402, R431, R452, R459, R466, R479 and the
closing sentences of the register maps of chapters 17 and 18). -/

namespace Sys2Proof.Machine

/-- Owner processor of a two-wire port's registers (R363). -/
def twpOwner (p : Nat) : Proc := if 1 ≤ p ∧ p ≤ 12 then .pwr else .hst

/-- Processor of firmware window k (R358). -/
def fxProc (k : Nat) : Proc := match k with | 0 => .pwr | 1 => .thm | 2 => .hst | 3 => .sec | _ => .recd

/-- Owner processor of an arbiter instance (R381). -/
def arbOwner (i : Nat) : Proc :=
  if i < 8 then .recd else if i < 16 then .cus
  else if i < 32 then twpOwner (i - 16)
  else if i = 32 then .hst else .sec

/-- The processor numbered `n` (R383). -/
def procOf (n : Nat) : Proc := match n with | 0 => .sec | 1 => .pwr | 2 => .thm | 3 => .cus | 4 => .hst | _ => .recd

/-- Processor that owns a block (R383); SEC for the blocks the table does not list and for the shared ARB window (R459). -/
def blockOwner (b : Nat) : Proc :=
  if b = 0x08 ∨ b = 0x09 then .pwr
  else if b = 0x0A ∨ b = 0x0B ∨ b = 0x0C ∨ b = 0x0D then .thm
  else if b = 0x14 then .cus
  else if b = 0x02 ∨ b = 0x1C ∨ b = 0x1B ∨ b = 0x16 then .hst
  else if b = 0x15 ∨ (0x10 ≤ b ∧ b ≤ 0x13) then .recd
  else .sec

/-- Owner of a fault window (R459): a GLD quarter's by the tile named in CAPTURE0. -/
def winOwner (s : State) (u : FUnit) : Proc :=
  match u with
  | .twp p => twpOwner p
  | .block b =>
    if 0x04 ≤ b ∧ b ≤ 0x07 then
      let t := fld ((winOf s u).capture.headD 0xFFFFFFFF#32) 31 16
      if t < 64 ∧ (tileRec s t).owner < 6 then procOf (tileRec s t).owner else .sec
    else blockOwner b

/-- The fault window a control and status offset lies in, if any (R33, R34). -/
def windowOf (off : Nat) : Option FUnit :=
  let b := off / 0x10000
  if b = 0x0E then (if off % 0x1000 < 0x100 then some (.twp (off / 0x1000 % 16)) else none)
  else if b < 0x1D ∧ 0xF000 ≤ off % 0x10000 ∧ off % 0x10000 < 0xF100 then some (.block b)
  else none

def isProc (path : Path) : Bool := match path with | .proc _ => true | _ => false
def isSec (path : Path) : Bool := path == .proc .sec
def isManager (path : Path) : Bool := path == .twp0 || path == .mbx4 || path == .cs0 || path == .cs1

/-- The fixed-point form of a register as an agreement record reads it (R98, R44): 0 Q16.16, 1 Q24.8, 3 an integer. -/
def regType (off : Nat) : Nat :=
  let b := off / 0x10000
  let o := off % 0x10000
  if b = 0x08 then (if (0x40 ≤ o ∧ o < 0x50) ∨ (0x2000 ≤ o ∧ o < 0x6000 ∧ (o % 0x40 = 0x10 ∨ o % 0x40 = 0x18)) then 0 else 3)
  else if b = 0x09 then (if o = 0x78 then 0 else 3)
  else if b = 0x0A then (if o < 0x1000 then 3 else if o < 0x8000 ∧ o % 0x40 = 0x38 then 3 else 0)
  else if b = 0x0C then 0
  else if b = 0x1A then 1
  else 3

/-- A live re-apply is under way, with the tile's parameters among its parts (R71, R96). -/
def inApply (s : State) : Bool := s.cfg.apply.isSome

/-- The register at `off` accepts a write from `path`. -/
def pathOk (s : State) (path : Path) (off : Nat) : Bool :=
  let b := off / 0x10000
  let o := off % 0x10000
  match windowOf off with
  | some u =>
    let f := off % 0x100
    if 0x38 ≤ f ∧ f < 0x40 then isSec path || path == .tap
    else if (0x30 ≤ f ∧ f < 0x38) ∨ (0x60 ≤ f ∧ f < 0x80) then isSec path || path == .proc (winOwner s u)
    else true
  | none =>
    if off = 0x000024 then isSec path || path == .twp0 || path == .mbx4
    else if off = 0x000110 ∨ off = 0x000114 then isSec path || path == .proc .hst
    else if b = 0x01 then
      (if 0x100 ≤ o ∧ o < 0x280 ∧ (o % 0x40 = 0x0C ∨ o % 0x40 = 0x10) then path == .proc (procOf ((o - 0x100) / 0x40)) else isSec path)
    else if b = 0x02 then path == .twp0
    else if b = 0x03 then
      (if (0x20 ≤ o ∧ o < 0x34) ∨ (0x4000 ≤ o ∧ o < 0x5000) then (path == .up || path == .twp0) && s.sec.phase == 3
       else if (0x200 ≤ o ∧ o < 0x208) ∨ (0x5000 ≤ o ∧ o < 0x7000) then path == .twp0 || path == .tap
       else true)
    else if 0x04 ≤ b ∧ b ≤ 0x07 ∧ 0x400 ≤ o ∧ o < 0x8400 then
      (let t := (b - 4) * 16 + (o - 0x400) / 0x800
       path == .proc (procOf (tileRec s t).owner) || (isSec path && inApply s))
    else if b = 0x08 then isSec path || path == .proc .pwr || !(decide (0x10 ≤ o) && decide (o < 0x18))
    else if b = 0x0A then isSec path || path == .proc .thm || !(decide (0x20 ≤ o) && decide (o < 0x28))
    else if b = 0x0B then isSec path || path == .proc .thm || !(decide (0x40 ≤ o) && decide (o < 0x48))
    else if b = 0x0C then isSec path || path == .proc .thm || !(decide (0x10 ≤ o) && decide (o < 0x18))
    else if b = 0x0E then
      (let p := o / 0x1000
       let f := o % 0x1000
       if 0x400 ≤ f ∧ f < 0xE00 then path == .proc (fxProc ((f - 0x400) / 0x200))
       else if f < 0x118 ∨ (0x124 ≤ f ∧ f < 0x140) then isSec path || path == .proc (twpOwner p)
       else true)
    else if b = 0x0F then
      (if o < 34 * 0x400 ∧ 0x300 ≤ o % 0x400 ∧ o % 0x400 < 0x394 then isSec path || path == .proc (arbOwner (o / 0x400)) else true)
    else if b = 0x10 then (if 0x10 ≤ o ∧ o < 0x80 then isSec path || path == .proc .recd else true)
    else if b = 0x14 then isSec path || path == .proc .cus
    else if b = 0x15 then isSec path || path == .proc .recd
    else if b = 0x16 then (if 0x1000 ≤ o then isSec path || path == .proc .hst else true)
    else if b = 0x17 then
      (if 0x100 ≤ o ∧ o < 0x180 then isSec path || path == .proc (procOf (fld (regWord s (0x170100 + 0x10 * ((o - 0x100) / 0x10) + 8)) 7 5))
       else isSec path || path == .proc .hst)
    else if b = 0x18 then isProc path
    else if b = 0x19 then isSec path || path == .proc .hst
    else if b = 0x1A then isSec path || path == .proc .pwr
    else if b = 0x1B then isSec path || path == .proc .hst
    else if b = 0x1C then isSec path || path == .proc .hst
    else true

/-- Carry out a write that the register's rule allows, or discard and record it. A fault window's own rules report to NVS (R459), a GLD tile's to its quarter with the
tile (R71). -/
def withAuthority (path : Path) (off : Nat) (w : Word) (f : State → State) (s : State) : State :=
  if pathOk s path off then f s
  else if (windowOf off).isSome then raise uNVS 6 .contained { path := pathCode path, w1 := some (w32 off), w2 := w } s
  else denyWrite path off w s

end Sys2Proof.Machine
end

