-- ==== Sys2Proof/Machine/Arb.lean ====
section
/-! DEFINITION. The Pass arbiter and the controller side of the two-wire ports that its ARB_TW instances serve (13_pass_arbiter.md, R365–R382; 12_two_wire_ports.md, R356–R361). -/

namespace Sys2Proof.Machine

def arbInst (s : State) (i : Nat) : ArbInst := tget {} s.arb.inst i
def updArb (i : Nat) (f : ArbInst → ArbInst) (s : State) : State := { s with arb.inst := tupd {} s.arb.inst i f }
def arbReq (s : State) (i r : Nat) : ArbReqS := instReq (arbInst s i) r
def updReq (i r : Nat) (f : ArbReqS → ArbReqS) (s : State) : State := updArb i (instUpd r f) s
def arbBase (i : Nat) : Nat := 0x0F0000 + 0x400 * i
def arbWeight (s : State) (i r : Nat) : Nat := (liveWord s (arbBase i + 0x300 + 8 * r)).toNat
def arbWindow (s : State) (i : Nat) : Nat := (liveWord s (arbBase i + 0x380)).toNat
def arbLockWd (s : State) (i : Nat) : Nat := (liveWord s (arbBase i + 0x388)).toNat

/-- REQr may lock: section 0x07's LOCKABLE, or the defaults of R380. -/
def arbMayLock (s : State) (i r : Nat) : Bool :=
  if (arbInst s i).loaded then ((arbInst s i).lockable).testBit r
  else (decide (16 ≤ i ∧ i < 32) && r == 0) || (i == 32 && decide (r < 2))

/-- The record of a two-wire port: section 0x06's, or the values TWP0 takes without one (TWP_P_CFG, TWP_P_ADDR). -/
def twpRec (s : State) (p : Nat) : TwpRec :=
  match tfind s.twpCfg p with
  | some r => r
  | none => if p = 0 then { role := 2, addrs := [0x40, 0xFF, 0xFF, 0xFF] } else {}

def isController (s : State) (p : Nat) : Bool := (twpRec s p).role == 1 || (twpRec s p).role == 3
def isTarget (s : State) (p : Nat) : Bool := (twpRec s p).role == 2 || (twpRec s p).role == 3

def twpPort (s : State) (p : Nat) : TwpPort := tget {} s.twp.port p
def updTwp (p : Nat) (f : TwpPort → TwpPort) (s : State) : State := { s with twp.port := tupd {} s.twp.port p f }
def twpFlag (p b : Nat) (s : State) : State := updTwp p (fun x => { x with flags := sadd x.flags b }) s
def hasPec (s : State) (p : Nat) : Bool := (twpRec s p).smbus / 2 % 2 == 1
def hasTimeout (s : State) (p : Nat) : Bool := (twpRec s p).smbus % 2 == 1

/-- Units per window at the resource's present rate (R365). -/
def arbUnits (s : State) (i : Nat) : Nat :=
  let w := arbWindow s i
  if i < 8 then w * 10666 / 10000
  else if i < 16 then w * 10333 * (gclPort s (dnPort (i - 8))).width / 100000
  else if i < 32 then
    let f := match (twpRec s (i - 16)).speed with | 0 => 100000 | 1 => 400000 | _ => 1000000
    w * f / 9 / 1000000000
  else if i = 32 then w * (if s.sec.phase = 0 then 200000000 else 400000000) / 256 / 1000000000
  else 4 * (w / 400)

/-- Sum of the weights of the present requesters. -/
def arbSum (s : State) (i : Nat) : Nat := sumList ((List.range (arbCount i)).map (arbWeight s i))

/-- C_r (R367). -/
def arbShare (s : State) (i r : Nat) : Nat := if arbSum s i = 0 then 0 else arbWeight s i r * arbUnits s i / arbSum s i

/-! ### Two-wire transfers -/

/-- Requester of a transfer's owner (R358). -/
def twReq : TwOwner → Nat
  | .seqRail _ => 0 | .shp _ => 1 | .mirror _ => 2 | .alert => 3 | .fx w => 4 + w | .other r => r

/-- A transaction of a transfer: a PAGE write, a VOUT_MODE read, a VOUT_COMMAND write, an OPERATION write or read, a STATUS_WORD read, or the transfer's own. -/
inductive TwPart where
  | page | voutMode | voutCommand | operation | readOperation | readStatus | own
  deriving DecidableEq, Repr

/-- The transactions of a transfer in order (R102, R103, R126, R362): only one that names a PAGE or needs VOUT_MODE has more than one. -/
def twParts (o : TwOp) : List TwPart :=
  let page := if o.page = 0xFF then [] else [TwPart.page]
  match o.kind with
  | .pmbusOn mv => page ++ (if mv = 0 then [] else [.voutMode, .voutCommand]) ++ [.operation]
  | .pmbusOff => page ++ [.operation]
  | .railStatus => page ++ [.readStatus]
  | .adoptRead => page ++ [.readOperation, .readStatus]
  | .mirrorRead => page ++ (if o.value = 0x8B then [.voutMode] else []) ++ [.own]
  | _ => [.own]

/-- The transaction that is next. -/
def twPart (o : TwOp) : TwPart := ((twParts o)[o.step]?).getD .own

/-- A PEC goes with the transfer: a cap message's Block Write always (R147), a firmware transfer's by its option, else the port's (R342). -/
def twPec (s : State) (p : Nat) (o : TwOp) : Bool :=
  match o.kind with
  | .capWrite _ => true
  | .fx _ _ opt => opt % 2 == 1
  | _ => hasPec s p

/-- Bytes the target sends in the next transaction, its PEC apart. -/
def twReads (o : TwOp) : Nat :=
  match twPart o with
  | .voutMode | .readOperation => 1
  | .readStatus => 2
  | .own =>
    match o.kind with
    | .mirrorRead | .drawRead | .demandRead => 2
    | .alertRead | .sidebandRead | .sidebandAdopt => 1
    | .fx _ r _ => r
    | _ => 0
  | _ => 0

/-- VOUT_COMMAND of VSET_MV in ULINEAR16 under VOUT_MODE (R103); between two codes, which one is open (log 141). -/
def voutWord (mv mode : Nat) : Nat :=
  let m := mode % 32
  let num := if 16 ≤ m then mv * 2 ^ (32 - m) else mv
  let den := if 16 ≤ m then 1000 else 1000 * 2 ^ m
  (if num % den = 0 then num / den else num / den + Config.voutRound mv m % 2) % 65536

/-- The 32 bytes of a cap message (R147). -/
def capBytes (m : CapMsg) : List Byte :=
  [0x31#8, BitVec.ofNat 8 m.flags] ++ leBytes 2 m.seq ++ wordBytes m.cap ++ wordBytes m.capC ++ wordBytes m.floor ++ leBytes 4 m.leaseUs ++ leBytes 4 m.sendUs ++ List.replicate 8 0#8

def fxBase (p k : Nat) : Nat := 0x0E0400 + 0x1000 * p + 0x200 * k

/-- The first bytes of TWP_P_FX_WDATA, in bus order. -/
def fxData (s : State) (p k n : Nat) : List Byte := ((List.range ((n + 3) / 4)).flatMap (fun i => wordBytes (regWord s (fxBase p k + 0x10 + 4 * i)))).take n

/-- Bytes of a firmware transfer before what it reads: the write part, then the read address; a Quick Command's address alone (TWP_P_FX registers). -/
def fxWire (s : State) (p : Nat) (o : TwOp) (w r opt : Nat) : List Byte :=
  let a := BitVec.ofNat 8 (2 * o.addr)
  let d := match o.owner with | .fx k => fxData s p k w | _ => []
  if w = 0 ∧ r = 0 then [if opt.testBit 2 then a + 1 else a]
  else (if w = 0 then [] else a :: d) ++ (if r = 0 then [] else [a + 1])

/-- The bytes the device drives in a transfer's next transaction: address, command and data of a write with its PEC, or what precedes the bytes that it reads. -/
def twWire (s : State) (p : Nat) (o : TwOp) : List Byte :=
  let a := BitVec.ofNat 8 (2 * o.addr)
  let get := fun (c : Nat) => [a, BitVec.ofNat 8 c, a + 1]
  let l := match twPart o with
    | .page => [a, 0x00#8, BitVec.ofNat 8 o.page]
    | .voutMode => get 0x20
    | .voutCommand => [a, 0x21#8] ++ leBytes 2 (match o.kind with | .pmbusOn mv => voutWord mv o.mode | _ => 0)
    | .operation => [a, 0x01#8, BitVec.ofNat 8 o.value]
    | .readOperation => get 0x01
    | .readStatus => get 0x79
    | .own =>
      match o.kind with
      | .sidebandOn => [a, BitVec.ofNat 8 o.value, 0x01#8]
      | .sidebandOff => [a, BitVec.ofNat 8 o.value, 0x00#8]
      | .capWrite m => [a, 0xC4#8, 32#8] ++ capBytes m
      | .alertRead => [a + 1]
      | .fx w r opt => fxWire s p o w r opt
      | .other => [a]
      | _ => get o.value
  if 0 < twReads o ∨ ¬ twPec s p o ∨ l.length < 2 then l else l ++ [pec l]

/-- Bytes on the bus of a transfer's next transaction, address and PEC bytes included (R365). -/
def twBytes (s : State) (p : Nat) (o : TwOp) : Nat := (twWire s p o).length + twReads o + (if 0 < twReads o ∧ twPec s p o then 1 else 0)

/-- A rail command of several transactions is a locked sequence of REQ0 (R102, R358), ended by its last transaction (log 117). -/
def twSeq (o : TwOp) : Bool := decide (1 < (twParts o).length) && twReq o.owner == 0

/-- The transfer is marked LOCK: a locked sequence of SEQ's, or one that its window marks (TWP_P_FX_OPT.LOCK). -/
def twLock (o : TwOp) : Bool :=
  match o.kind with
  | .fx _ _ opt => opt / 2 % 2 == 1
  | _ => twSeq o

/-- Bus clear on a controller port (R356): cleared at once with SDA high, else as `freed` says; a stuck bus drives the reset pin or repeats each second (R357). -/
def busClear (p : Nat) (freed : Bool) (s : State) : State :=
  if p = 0 ∨ ¬ isController s p then s
  else
    let x := twpPort s p
    let s := updTwp p (fun x => { x with clears := satInc 255 x.clears, needClear := false }) s
    if ¬ x.sdaLow ∨ freed then
      raise (.twp p) 3 .corrected {} (updTwp p (fun x => { x with sdaLow := false, stuck := false, retryAt := none }) s)
    else
      let s := raise (.twp p) 4 .contained {} (twpFlag p 9 s)
      let pin := (twpRec s p).resetPin
      let again : Bool := match x.lastPulse with | some t => decide (s.now < t + 10 * sec) | none => false
      if pin ≤ 127 ∧ ¬ again then
        drivePin (.en pin) 0 (updTwp p (fun x => { x with pulseAt := some s.now, lastPulse := some s.now }) s)
      else
        let ops := ((List.range 16).flatMap (fun r => (arbReq s (16 + p) r).queue.filterMap (·.op)))
        let s := updArb (16 + p) (fun a => { a with reqs := a.reqs.map (fun e => (e.1, { e.2 with queue := [] })), beats := [], lock := none }) s
        let s := updTwp p (fun x => { x with stuck := true, cur := none, curAbort := false, retryAt := some (s.now + sec), offer := [] }) s
        forEach (ops ++ x.offer) (fun o s => note (.twDone p o 6) s) s

/-! ### Decisions (R368–R373) -/

/-- Requesters with a head that can compete: pending, and not on an engine already. -/
def arbPending (s : State) (i : Nat) : List Nat :=
  (List.range (arbCount i)).filter (fun r => (arbReq s i r).queue != [] && !(arbInst s i).beats.any (fun b => b.req == r))

/-- `r` ranks strictly above `w` (R368). -/
def arbBeats (s : State) (i r w : Nat) : Bool :=
  let st : Nat → Nat := fun q => ((arbReq s i q).queue.head?.map (fun (e : ArbEntry) => e.stamp)).getD 0
  instBeats (arbInst s i) r (st r) w (st w)

def arbWinner (s : State) (i : Nat) : Option Nat :=
  (arbPending s i).foldl (fun w r => match w with | none => some r | some x => if arbBeats s i r x then some r else some x) none

/-- Grant the head of requester `r`: counters, waits, longest wait, the lock, and the port's transaction on an ARB_TW instance. -/
def arbGrant (i r : Nat) (s : State) : State :=
  match (arbReq s i r).queue with
  | [] => s
  | e :: _ =>
    let cost := match e.op with | some o => twBytes s (i - 16) o | none => e.cost
    let s := updArb i (instCharge r ((arbPending s i).filter (· != r)) cost (if e.done = 0 then some (s.now - e.stamp) else none)) s
    let s := updArb i (fun a => { a with beats := a.beats ++ [⟨r, s.now⟩]
                                         lock := match a.lock with | some l => some l | none => if e.lock then some ⟨r, s.now⟩ else none }) s
    match e.op with
    | some o => if 16 ≤ i ∧ i < 32 then updTwp (i - 16) (fun x => { x with cur := some o, wire := twWire s (i - 16) o }) s else s
    | none => s

/-- The resource can take another beat: four engines on ARB_FALCON, and on ARB_TW a bus that is not being cleared (R359, R365). -/
def arbFree (s : State) (i : Nat) : Bool :=
  if i = 33 then decide ((arbInst s i).beats.length < 4)
  else (arbInst s i).beats == [] && (if 16 ≤ i ∧ i < 32 then !(twpPort s (i - 16)).stuck && (twpPort s (i - 16)).pulseAt.isNone && (twpPort s (i - 16)).settleAt.isNone else true)

/-- Decide and grant while the resource is free; `n` bounds the grants. -/
def arbDecide (i : Nat) : Nat → State → State
  | 0, s => s
  | n + 1, s =>
    if ¬ arbFree s i then s
    else match (arbInst s i).lock with
      | some l => if (arbPending s i).contains l.owner then arbDecide i n (arbGrant i l.owner s) else s
      | none => match arbWinner s i with
        | some r => arbDecide i n (arbGrant i r s)
        | none => s

/-- The bus of an ARB_TW instance is cleared before its first transfer after a reset (R356). -/
def arbGo (i : Nat) (s : State) : State :=
  let s := if 16 ≤ i ∧ i < 32 ∧ (twpPort s (i - 16)).needClear ∧ (arbPending s i) ≠ [] then busClear (i - 16) false s else s
  arbDecide i 4 s

/-- A request reaches an instance (R371, R373). -/
def arbPut (i r beats cost : Nat) (lock : Bool) (op : Option TwOp) (s : State) : State :=
  if arbCount i ≤ r then s
  else if 8 ≤ (arbReq s i r).queue.length then
    let s := raise uARB 2 .corrected { unit := i, w2 := w32 r } (updReq i r (fun x => { x with full := true }) s)
    match op with
    | some o => if 16 ≤ i ∧ i < 32 then updTwp (i - 16) (fun x => { x with offer := x.offer ++ [o] }) s else s
    | none => s
  else
    let ok := lock && arbMayLock s i r
    let s := if lock ∧ ¬ ok then raise uARB 1 .corrected { unit := i, w2 := w32 r } s else s
    arbGo i (updReq i r (fun x => { x with queue := x.queue ++ [{ stamp := s.now, left := max beats 1, cost := cost, lock := ok, op := op }] }) s)

/-- A transfer enters its port's arbiter (R358); a port that is no controller, or a stuck bus, ends it at once (R357, R360). -/
def twSubmit (p : Nat) (o : TwOp) (s : State) : State :=
  if ¬ isController s p then note (.twDone p o 9) s
  else if (twpPort s p).stuck then note (.twDone p o 6) s
  else arbPut (16 + p) (twReq o.owner) (twParts o).length (twBytes s p o) (twLock o) (some o) s

/-- Offer again what an instance refused with FULL (R371). -/
def twReoffer (p : Nat) (s : State) : State :=
  match (twpPort s p).offer with
  | [] => s
  | o :: r => if (arbReq s (16 + p) (twReq o.owner)).queue.length < 8 then twSubmit p o (updTwp p (fun x => { x with offer := r }) s) else s

/-- The bytes of a transaction that its transfer keeps: VOUT_MODE, and what it read otherwise. -/
def twKeep (o : TwOp) (d : List Byte) : TwOp := if twPart o = .voutMode then { o with mode := (d.headD 0).toNat } else { o with got := o.got ++ d }

/-- The head request of `r` on a two-wire port goes on with its next transaction, keeping what the last one read; `last` says that none follows. -/
def twNext (p r : Nat) (d : List Byte) (last : Bool) (s : State) : State :=
  updReq (16 + p) r (fun x => { x with queue := match x.queue with
    | [] => []
    | e :: q => { e with left := if last then 1 else e.left, op := e.op.map (fun o => { twKeep o d with step := o.step + 1 }) } :: q }) s

/-- The beat of requester `r` ends: the request goes on, or leaves its queue, ending a lock whose last request it was (R372, R373); the next decision follows. -/
def arbBeatEnd (i r : Nat) (s : State) : State :=
  if ¬ (arbInst s i).beats.any (fun b => b.req == r) then s
  else
    let s := updArb i (fun a => { a with beats := a.beats.filter (fun b => b.req != r) }) s
    let s := match (arbReq s i r).queue with
      | [] => s
      | e :: q =>
        if e.left ≤ 1 then
          let s := updReq i r (fun x => { x with queue := q }) s
          if ¬ e.lock ∨ e.op.any twSeq then updArb i (fun a => { a with lock := match a.lock with | some l => if l.owner = r then none else some l | none => none }) s else s
        else updReq i r (fun x => { x with queue := { e with left := e.left - 1, done := satInc 65535 e.done } :: q }) s
    arbGo i s

/-- Flush a requester's pending entries with ABORTED as its block resets or its processor restarts (R376): an entry of a lock in progress with beats granted stays; another ends with the beat in progress. -/
def arbFlush (i r : Nat) (s : State) : State :=
  let a := arbInst s i
  let onBus := a.beats.any (fun b => b.req == r)
  let locked : Bool := match a.lock with | some l => l.owner == r | none => false
  let q := (arbReq s i r).queue
  let keep := match q with
    | [] => []
    | e :: _ => if locked ∧ (onBus ∨ 0 < e.done) then [e] else if onBus then [{ e with left := 1 }] else []
  let gone := (q.drop keep.length).filterMap (·.op)
  let s := updReq i r (fun x => { x with queue := keep }) s
  if 16 ≤ i ∧ i < 32 then forEach gone (fun o s => note (.twDone (i - 16) o 8) s) s else s

/-! ### Commands -/

/-- ARB_REQUEST (R371). On an ARB_TW instance the request is a transfer of a requester that the chapters name no block for. -/
def doArbRequest (inst : Fin 34) (req : Fin 16) (beats cost : Nat) (lock : Bool) (s : State) : State :=
  arbPut inst.val req.val beats cost lock
    (if 16 ≤ inst.val ∧ inst.val < 32 then some { owner := .other req.val, kind := .other, addr := 0, page := 0xFF, value := 0 } else none) s

/-- BEAT_COMPLETE (R368). A transaction of a named requester on a two-wire bus ends with TRANSFER_DONE instead. -/
def doBeatComplete (inst : Fin 34) (req : Fin 16) (s : State) : State :=
  if 16 ≤ inst.val ∧ inst.val < 32 then
    (match (twpPort s (inst.val - 16)).cur with
     | some o => if o.kind = .other ∧ twReq o.owner = req.val then arbBeatEnd inst.val req.val (updTwp (inst.val - 16) (fun x => { x with cur := none }) s) else s
     | none => s)
  else arbBeatEnd inst.val req.val s

/-- One requester's refill (R367, R379): the share replaces a positive balance, a debt is carried; an unequal live weight keeps the share of the previous window. -/
def refillReq (i r : Nat) (s : State) : State :=
  let j := injectCheck uARB 3 i true s
  let s := j.2
  let c := if j.1 then arbShare s i r else (arbReq s i r).share
  let s := updReq i r (fun x => { x with share := c, credit := (c : Int) + min x.credit 0 }) s
  if j.1 then s else raise uARB 3 .corrected { unit := i, inj := true, w3 := w32 (arbBase i + 0x300 + 8 * r), w1 := some (liveWord s (arbBase i + 0x300 + 8 * r)), w2 := liveWord s (arbBase i + 0x300 + 8 * r) } s

/-- WINDOW_REFILL (R367, R377): at a window boundary a pending bank becomes live and every counter is refilled. A bank committed in the boundary's own nanosecond waits for the next. -/
def doWindowRefill (inst : Fin 34) (s : State) : State :=
  let i := inst.val
  let w := arbWindow s i
  if w = 0 ∨ s.now / w ≤ (arbInst s i).refilled / w then s
  else
    let s := match (arbInst s i).swap with
      | some (ws, t) =>
        if t < s.now then
          let s := updArb i (fun a => { a with swap := none, bank := 1 - a.bank }) (ws.foldl (fun s e => setLive e.1 e.2 s) s)
          { s with regs.commits := tupd {} s.regs.commits (arbBase i + 0x390) (fun c => { c with pending := none, first := 0, result := 0, seq := inc8 c.seq }) }
        else s
      | none => s
    let s := updArb i (fun a => { a with refilled := s.now, windows := inc8 a.windows, units := arbUnits s i }) s
    forEach (List.range (arbCount i)) (refillReq i) s

/-- LOCK_WATCHDOG_BITE (R375, R359): a lock, or a beat, has lasted LOCK_WD_US. -/
def doLockWatchdogBite (inst : Fin 34) (sdaFreed : Bool) (s : State) : State :=
  let i := inst.val
  let a : ArbInst := arbInst s i
  let lim := arbLockWd s i * us
  let owner : Option Nat := match a.lock with
    | some l => if l.start + lim ≤ s.now then some l.owner else none
    | none => (a.beats.find? (fun b => decide (b.start + lim ≤ s.now))).map (·.req)
  match owner with
  | none => s
  | some r =>
    let ops := (arbReq s i r).queue.filterMap (·.op)
    let s := updArb i (fun a => { a with lock := none, bites := satInc 65535 a.bites, beats := a.beats.filter (fun b => b.req != r) }) s
    let s := updReq i r (fun x => { x with queue := [] }) s
    let s := raise uARB 0 .contained { unit := i, w2 := w32 r } s
    let s := if 16 ≤ i ∧ i < 32 then
        let p := i - 16
        let s := updTwp p (fun x => { x with cur := none, curAbort := false }) s
        let s := if (twpPort s p).sdaLow then busClear p sdaFreed s else s
        raise (.twp p) 6 .contained {} (forEach ops (fun o s => note (.twDone p o 8) s) s)
      else s
    arbGo i s

/-! ### Staged bank (R377, R378) -/

/-- First violation of an instance's staged set `W`, with FIRST and the code of SEQ_COMMIT_STATUS (2 RANGE, 3 ORDER); agreement records are checked by the caller. -/
def arbCheck (i : Nat) (W : Nat → Word) : Option (Nat × Nat) :=
  let b := arbBase i
  let wt := fun r => (W (b + 0x300 + 8 * r)).toNat
  match (List.range 16).find? (fun r => decide (65535 < wt r) || (decide (arbCount i ≤ r) && wt r != 0)) with
  | some r => some (r, 2)
  | none =>
    let wn := (W (b + 0x380)).toNat
    let wd := (W (b + 0x388)).toNat
    if wn < 1000 ∨ 1000000000 < wn ∨ wn % 1000 ≠ 0 then some (0x10, 2)
    else if wd < 1000 ∨ 1000000 < wd then some (0x11, 2)
    else if i < 8 ∧ wt 3 * 100 < 2 * sumList ((List.range 8).map wt) then some (3, 3)
    else none

/-- Words of a bank from section 0x07's parameters. -/
def arbParWords (b : Bitstream) : List (Nat × Word) :=
  b.arbPar.flatMap (fun e => (List.range 16).map (fun r => (arbBase e.1 + 0x300 + 8 * r, w32 (e.2.weights.getD r 0)))
    ++ [(arbBase e.1 + 0x380, w32 e.2.windowNs), (arbBase e.1 + 0x388, w32 e.2.lockWdUs)])

/-- WINDOW_NS, LOCK_WD_US and WEIGHT0–WEIGHT15 of an instance, whose reset values are R85's defaults. -/
def arbParReg (off : Nat) : Bool := decide (0x0F0000 ≤ off ∧ off < 0x0F8800 ∧ 0x300 ≤ off % 0x400 ∧ off % 0x400 < 0x390)

/-- Load section 0x07; without it every requester has the default weight, window and watchdog, and may not lock (R85). -/
def arbLoad (b : Bitstream) (s : State) : State :=
  if b.arb = [] then
    { (forEach (List.range 34) (fun i s => updArb i (fun a => { a with lockable := 0, loaded := false }) s) s) with
      regs.live := s.regs.live.filter (fun e => !arbParReg e.1), regs.words := s.regs.words.filter (fun e => !arbParReg e.1) }
  else loadWords (arbParWords b) (forEach b.arb (fun e s => updArb e.1 (fun a => { a with lockable := e.2.lockable, loaded := true }) s) s)

end Sys2Proof.Machine
end

