-- ==== Sys2Proof/Machine/Fabric.lean ====
section
/-! DEFINITION. The glade fabric: signal plane reads, the slot primitives, evaluation order, structure states, staged
parameters and commits (02_glade_fabric.md, R39–R77, R520), and the agreement records of 03 (R98, R99). -/

namespace Sys2Proof.Machine

/-! ### Working form (R44) -/

/-- Saturation at the signed 80-bit working form. -/
def wsat (x : Int) : Int :=
  if x > 604462909807314587353087 then 604462909807314587353087
  else if x < -604462909807314587353088 then -604462909807314587353088
  else x

/-- `n / d` rounded to nearest, ties away from zero; 0 for a zero divisor (no primitive divides by zero, R44). -/
def roundDiv (n d : Int) : Int :=
  if d = 0 then 0 else if 0 < d then roundDivPos n d.natAbs else roundDivPos (-n) d.natAbs

def wadd (a b : Int) : Int := wsat (a + b)
def wsub (a b : Int) : Int := wsat (a - b)
def wmul (a b : Int) : Int := wsat (roundDivPos (a * b) 4294967296)
def wdiv (a b : Int) : Int := wsat (roundDiv (a * 4294967296) b)
def wint (n : Int) : Int := n * 4294967296

/-- A word of a type in the working form (R43, R44). -/
def toWork (typ : Nat) (w : Word) : Int :=
  if typ = 0 then w.toInt * 65536
  else if typ = 1 then w.toInt * 16777216
  else if typ = 2 then w.toInt * 4
  else (w.toNat : Int) * 4294967296

/-- The working form as a word of a type, and whether it saturated (R44). -/
def fromWork (typ : Nat) (x : Int) : Word × Bool :=
  if typ = 0 then let r := clampTo (-2147483648) 2147483647 (roundDivPos x 65536); (wInt r.1, r.2)
  else if typ = 1 then let r := clampTo (-2147483648) 2147483647 (roundDivPos x 16777216); (wInt r.1, r.2)
  else if typ = 2 then let r := clampTo (-2147483648) 2147483647 (roundDivPos x 4); (wInt r.1, r.2)
  else let r := clampTo 0 4294967295 (roundDivPos x 4294967296); (wInt r.1, r.2)

/-- Microseconds, or nanoseconds, as seconds in the working form (R48). -/
def usWork (n : Nat) : Int := wdiv (wint n) (wint 1000000)
def nsWork (n : Nat) : Int := wdiv (wint n) (wint 1000000000)

/-! ### Structure look-ups -/

/-- Nanoseconds of tick class `c` (SLOT_CFG.TRIGGER). -/
def classNs (c : Nat) : Nat := 1000 * 10 ^ c

/-- A slot exists in the structure (PRIM 0 means no slot). -/
def slotExists (s : State) (n : Nat) : Bool := (slotRec s n).prim != 0

/-- Slot runs: the fabric, or its quarter after a block reset, is ADOPTING or RUNNING and neither tile nor slot is halted
(R67, R70). -/
def fabRuns (s : State) (t : Nat) : Bool :=
  (s.gld.state == .adopting || s.gld.state == .running) &&
  (tget FabState.running s.gld.quarter (t / 16) == .running || tget FabState.running s.gld.quarter (t / 16) == .adopting) &&
  !(tileSt s t).halted

/-- The live parameter `k` of slot `n` as a word, and in the working form of its recorded type (R44, R86). -/
def parWord (s : State) (n k : Nat) : Word :=
  (tget {} (tileSt s (n / 8)).live ((slotRec s n).paramBase + k)).value
def parType (s : State) (n k : Nat) : Nat :=
  (((tileRec s (n / 8)).ptype[(slotRec s n).paramBase + k]?).getD 0) % 8
def parWork (s : State) (n k : Nat) : Int := toWork (parType s n k) (parWord s n k)
def parNat (s : State) (n k : Nat) : Nat := (parWord s n k).toNat

/-! ### Inputs (R45, R46, R64) -/

/-- One input as a slot reads it: wired, its raw word, its value in the working form, and whether it counts as stale. -/
structure InVal where
  wired : Bool := false
  raw   : Word := 0
  val   : Int := 0
  stale : Bool := true
  deriving DecidableEq, Repr

/-- Read input `k` of slot `n` from the plane `pl` the evaluation sees: a failed complement check uses the last valid word,
and the third failure in a row makes the input stale until a read passes (R46). `inv` names the inputs whose complement an injection inverts (R466). Answers the input, whether
the check failed and the slot's updated record. -/
def readInput (s : State) (pl : Tab Signal) (inv : NSet) (n k : Nat) (q : SlotSt) : InVal × Bool × SlotSt :=
  let idx := ((slotRec s n).ins[k]?).getD 0xFFFF
  if idx = 0xFFFF then ({}, false, q)
  else
    let sg := tget {} pl idx
    let st := sg.stale || (sg.stale == sg.staleC)
    if sg.comp = ~~~ sg.value ∧ ¬ inv.contains k then
      ({ wired := true, raw := sg.value, val := toWork sg.typ sg.value, stale := st }, false,
       { q with inLast := tput q.inLast k sg.value, inBad := terase q.inBad k })
    else
      let bad := satInc 255 (tget 0 q.inBad k)
      let w := tget 0 q.inLast k
      ({ wired := true, raw := w, val := toWork sg.typ w, stale := st || decide (3 ≤ bad) }, true,
       { q with inBad := tput q.inBad k bad })

/-- The eight inputs read in order. -/
def readInputs (s : State) (pl : Tab Signal) (inv : NSet) (n : Nat) (q : SlotSt) : List InVal × List Nat × SlotSt :=
  (List.range 8).foldl (fun (acc : List InVal × List Nat × SlotSt) k =>
    let r := readInput s pl inv n k acc.2.2
    (acc.1 ++ [r.1], if r.2.1 then acc.2.1 ++ [k] else acc.2.1, r.2.2)) ([], [], q)

def inp (l : List InVal) (k : Nat) : InVal := (l[k]?).getD {}

/-! ### Primitives (R49–R59, initialisation R61) -/

/-- A primitive's answer: output in the working form, stale, updated record. -/
structure PrimOut where
  y     : Int
  stale : Bool
  q     : SlotSt
  deriving DecidableEq, Repr

/-- Clamp between two working-form bounds as R49 writes it: min(max(v, lo), hi). -/
def wclamp (lo hi v : Int) : Int := min (max v lo) hi

/-- R49 with initialisation R61. -/
def primPid (s : State) (n : Nat) (ins : List InVal) (t : Int) (q : SlotSt) : PrimOut :=
  let P := fun k => parWork s n k
  let pv := inp ins 0; let sp := inp ins 1; let ff := inp ins 2; let tr := inp ins 3
  let bad := pv.stale || !pv.wired || (sp.wired && sp.stale)
  let fresh := !q.inited || q.stale
  if bad || (fresh && tr.wired && tr.stale) then ⟨0, true, q⟩
  else
    let dir : Int := if (slotRec s n).mode = 0 then 1 else -1
    let spv := if sp.wired then sp.val else P 0
    let ffv := if ff.wired && !ff.stale then ff.val else 0
    let e := if (slotRec s n).mode = 0 then wsub spv pv.val else wsub pv.val spv
    let p := wmul (P 1) e
    let q := if fresh then
        { q with i := (if tr.wired then wclamp (P 6) (P 7) (wsub (wsub tr.val p) ffv) else 0), d := 0, pv := pv.val }
      else q
    let tf := usWork (parNat s n 4)
    let den := wadd tf t
    let a := if den = 0 then 0 else wdiv tf den
    let d := if t = 0 then q.d
      else wsub (wmul a q.d)
        (wdiv (wmul (wsat (wmul (wsub (wint 1) a) (P 3) * dir)) (wsub pv.val q.pv)) t)
    let v := wadd (wadd (wadd p q.i) d) ffv
    let u := wclamp (P 6) (P 7) v
    let i := wadd (wadd q.i (wmul (wmul (P 2) t) e)) (wmul (wmul (P 5) t) (wsub u v))
    ⟨u, false, { q with i := i, d := d, pv := pv.val, pstate := 1 }⟩

/-- R50 with initialisation R61. -/
def primTwoPos (s : State) (n : Nat) (ins : List InVal) (now : Time) (q : SlotSt) : PrimOut :=
  let P := fun k => parWork s n k
  let x := inp ins 0; let tr := inp ins 1
  let fresh := !q.inited || q.stale
  if x.stale || !x.wired || (fresh && tr.wired && tr.stale) then ⟨0, true, q⟩
  else
    let rising := (slotRec s n).mode = 0
    let onC : Bool := if rising then decide (P 0 ≤ x.val) else decide (x.val ≤ P 0)
    let offC : Bool := if rising then decide (x.val ≤ P 1) else decide (P 1 ≤ x.val)
    let q :=
      if fresh then
        { q with lastSwitch := none, on :=
            if onC then true else if offC then false
            else if tr.wired then decide ((tr.val - P 2).natAbs ≤ (tr.val - P 3).natAbs) else true }
      else
        let want := if onC then true else if offC then false else q.on
        let dwell := match q.lastSwitch with
          | none => true
          | some t0 => decide (parNat s n 4 * us ≤ now - t0)
        if want != q.on && dwell then { q with on := want, lastSwitch := some now } else q
    ⟨if q.on then P 2 else P 3, false, { q with pstate := 1 }⟩

/-- Insert in rising order, for the median. -/
def insSorted (x : Int) : List Int → List Int
  | [] => [x]
  | a :: r => if x ≤ a then x :: a :: r else a :: insSorted x r

/-- R51. -/
def primSelect (s : State) (n : Nat) (ins : List InVal) (q : SlotSt) : PrimOut :=
  let en := parNat s n 0
  let cand := (List.range 8).filter (fun k => (inp ins k).wired && !(inp ins k).stale && en.testBit k)
  let vals := cand.foldl (fun l k => insSorted (inp ins k).val l) []
  match vals with
  | [] => ⟨parWork s n 1, true, q⟩
  | _ =>
    let m := (slotRec s n).mode
    let y := if m = 0 then (vals[0]?).getD 0 else if m = 1 then (vals[vals.length - 1]?).getD 0
      else (vals[vals.length / 2]?).getD 0
    ⟨y, false, { q with aux := (cand.find? (fun k => (inp ins k).val == y)).getD 0, pstate := 1 }⟩

/-- R52 with initialisation R61. -/
def primRate (s : State) (n : Nat) (ins : List InVal) (t : Int) (q : SlotSt) : PrimOut :=
  let x := inp ins 0; let tr := inp ins 1
  let fresh := !q.inited || q.stale
  if x.stale || !x.wired || (fresh && tr.wired && tr.stale) then ⟨0, true, q⟩
  else
    let y0 := if fresh then (if tr.wired then tr.val else x.val) else q.i
    let y := wadd y0 (min (max (wsub x.val y0) (wsat (-(wmul (parWork s n 1) t)))) (wmul (parWork s n 0) t))
    ⟨y, false, { q with i := y, pstate := 1 }⟩

/-- R53 with initialisation R61. -/
def primFilter (s : State) (n : Nat) (ins : List InVal) (t : Int) (q : SlotSt) : PrimOut :=
  let x := inp ins 0
  if x.stale || !x.wired then ⟨0, true, q⟩
  else
    let y0 := if !q.inited || q.stale then x.val else q.i
    let den := wadd (usWork (parNat s n 0)) t
    let y := if den = 0 then x.val else wadd y0 (wmul (wdiv t den) (wsub x.val y0))
    ⟨y, false, { q with i := y, pstate := 1 }⟩

/-- R54: the segment that holds `x`, searched from point `i` over `k` further segments. -/
def pwlFrom (s : State) (n : Nat) (x : Int) : Nat → Nat → Int
  | 0, i => parWork s n (17 + i)
  | k + 1, i =>
    let xi := parWork s n (1 + i); let xj := parWork s n (2 + i)
    let yi := parWork s n (17 + i); let yj := parWork s n (18 + i)
    if x < xj then wadd yi (wdiv (wmul (wsub yj yi) (wsub x xi)) (wsub xj xi)) else pwlFrom s n x k (i + 1)

/-- R54. -/
def primPwl (s : State) (n : Nat) (ins : List InVal) (q : SlotSt) : PrimOut :=
  let x := inp ins 0
  if x.stale || !x.wired then ⟨0, true, q⟩
  else if x.val < parWork s n 1 then ⟨parWork s n 17, false, { q with pstate := 1 }⟩
  else ⟨pwlFrom s n x.val (parNat s n 0 - 1) 0, false, { q with pstate := 1 }⟩

/-- R55 with initialisation R61. PSTATE 8 IDLE, 1 RUN, 6 DONE, 5 FAILED, 7 ABORTED. A slot marked ADOPT takes its class from `seq.classed`, which adoption alone sets: DESIGN CHOICE (log 109),
after a power-on reset or an exit from D3, where SEQ adopts nothing (R125), its output stays stale. -/
def primSeq (s : State) (n : Nat) (ins : List InVal) (now : Time) (q : SlotSt) : PrimOut :=
  let go := inp ins 0; let qual := inp ins 1; let ab := inp ins 2
  let nSteps := parNat s n 0
  let goNow : Bool := if go.wired && !go.stale then go.raw != 0 else q.prevIn
  let qualOn : Bool := qual.wired && !qual.stale && qual.raw != 0
  let abOn : Bool := ab.wired && (ab.stale || ab.raw != 0)
  let adopt := (slotRec s n).adopt
  if (!q.inited || q.stale) && adopt && !s.seq.classed then ⟨0, true, q⟩
  else
    let q1 : SlotSt :=
      if !q.inited || q.stale then
        if adopt && s.seq.adoptedRunning then { q with pstate := 6, step := nSteps - 1, prevIn := goNow }
        else { q with pstate := 8, step := 0, prevIn := goNow }
      else
        let rise := goNow && !q.prevIn
        let q' := { q with prevIn := goNow }
        if q.pstate = 1 then
          let inStep := now - q.stepStart
          let mn := parNat s n (3 + 3 * q.step) * us
          let mx := parNat s n (4 + 3 * q.step) * us
          if abOn then { q' with pstate := 7 }
          else if decide (mn ≤ inStep) && qualOn then
            if nSteps ≤ q.step + 1 then { q' with pstate := 6 }
            else { q' with step := q.step + 1, stepStart := now }
          else if decide (mx ≠ 0) && decide (mx ≤ inStep) then { q' with pstate := 5 }
          else q'
        else if rise then { q' with pstate := 1, step := 0, stepStart := now }
        else q'
    let y := if q1.pstate = 1 then parWork s n (2 + 3 * q1.step)
      else if q1.pstate = 6 then parWork s n (2 + 3 * (nSteps - 1))
      else parWork s n 1
    ⟨y, false, { q1 with aux := q1.step }⟩

/-- R56 comparison across the wrap: `(expiry - now) mod 2^32` from 2 to 2^31. -/
def leaseBefore (expiry now : Nat) : Bool :=
  let d := (expiry + 4294967296 - now % 4294967296) % 4294967296
  decide (2 ≤ d) && decide (d ≤ 2147483648)

/-- The slot of a lease keeper: its VALUE input is signal 1,536 + k (R148). -/
def keeperSlot (s : State) (n : Nat) : Nat := ((slotRec s n).ins[0]?).getD 0 - 1536

/-- R56. An acknowledgement is a new word of ACK with bit 0 set; bits 31:1 are those of the acknowledged send time in µs (R148). At
initialisation the keeper takes the expiry that the Understory holds for its slot (R61). -/
def primLease (s : State) (n : Nat) (ins : List InVal) (now : Time) (q : SlotSt) : PrimOut :=
  let ack := inp ins 1
  let fresh := ack.wired && !ack.stale
  let q := if q.inited && !q.stale then q
    else { q with expiryUs := (tfind s.und.leaseExp (keeperSlot s n)).map (fun e => e.expiry / us % 4294967296)
                  ackSeen := if fresh then some ack.raw else none }
  let q := if fresh && bit ack.raw 0 && q.ackSeen != some ack.raw then
      { q with ackSeen := some ack.raw, expiryUs := some ((ack.raw.toNat / 2 * 2 + parNat s n 1) % 4294967296) }
    else q
  let exp := q.expiryUs.getD 0 / 2 * 2
  let valid := q.expiryUs.isSome && leaseBefore exp (now / us / 2 * 2)
  ⟨wint ((exp : Nat) + (if valid then 1 else 0)), false, { q with inited := true, pstate := 1 }⟩

/-- R57. The last valid value of LAW is kept in `pv`. -/
def primEnvelope (s : State) (n : Nat) (ins : List InVal) (q : SlotSt) : PrimOut :=
  let adv := inp ins 0; let law := inp ins 1
  let fl := parWork s n 0; let ce := parWork s n 1; let dev := parWork s n 2
  if law.stale || !law.wired then ⟨if q.on then q.pv else law.val, true, q⟩
  else
  let q := { q with pv := law.val, on := true }
  if adv.stale || !adv.wired then ⟨law.val, false, { q with pstate := 1 }⟩
  else if (slotRec s n).mode = 0 then
    let d := min (max (wsub law.val adv.val) 0) dev
    ⟨max (wsub law.val d) (min fl law.val), false, { q with pstate := 1 }⟩
  else
    let d := min (max (wsub adv.val law.val) 0) dev
    ⟨min (wadd law.val d) (max ce law.val), false, { q with pstate := 1 }⟩

/-- R58. -/
def primTimer (s : State) (n : Nat) (ins : List InVal) (now : Time) (tUs : Nat) (q : SlotSt) : PrimOut :=
  let x := inp ins 0; let r := inp ins 1
  if x.stale || !x.wired || (r.wired && r.stale) then ⟨0, true, q⟩
  else
    let q := if !q.inited || q.stale then { q with count := 0, since := none, on := false, prevIn := x.raw != 0 } else q
    if r.wired && r.raw != 0 then
      ⟨0, false, { q with count := 0, since := none, on := false, prevIn := x.raw != 0, aux := 0, pstate := 1 }⟩
    else
      let m := (slotRec s n).mode
      let inOn : Bool := x.raw != 0
      let tNs := parNat s n 0 * us
      let lim := parNat s n 1
      if m ≤ 1 then
        let active := if m = 0 then inOn else !inOn
        let since := if active then (match q.since with | some t0 => some t0 | none => some now) else none
        let done := match since with | some t0 => decide (tNs ≤ now - t0) | none => false
        let on := if m = 0 then done else if inOn then true else (q.on && !done)
        ⟨if on then wint 1 else 0, false, { q with since := since, on := on, prevIn := inOn, aux := 0, pstate := 1 }⟩
      else
        let c := if m = 2 then (if inOn && !q.prevIn then min (q.count + 1) lim else q.count)
          else if inOn then min (q.count + tUs) lim else q.count
        ⟨wint c, false, { q with count := c, prevIn := inOn, aux := c % 65536, pstate := 1 }⟩

/-- R59: the comparator before its fault is raised. `pend` says whether its source is set in the fault window; the clear of a latched source starts the qualification afresh. -/
def primComparator (s : State) (n : Nat) (ins : List InVal) (now : Time) (pend : Bool) (q : SlotSt) : PrimOut :=
  let x := inp ins 0
  let lvl := parWork s n 0; let hyst := parWork s n 1; let qual := parNat s n 2 * us
  let below := (slotRec s n).mode % 2 = 1
  let latched : Bool := (slotRec s n).mode / 2 % 2 = 1
  let st := x.stale || !x.wired
  let beyond : Bool := st || (if below then decide (x.val < lvl) else decide (lvl < x.val))
  let back : Bool := !st && (if below then decide (wadd lvl hyst < x.val) else decide (x.val < wsub lvl hyst))
  let q := if q.inited && !q.stale then q else { q with asserted := latched && pend, since := none }
  let q := if q.asserted && latched && !pend then { q with since := none } else q
  let since := if beyond then (match q.since with | some t0 => some t0 | none => some now) else none
  let qualified := match since with | some t0 => decide (qual ≤ now - t0) | none => false
  let a := if q.asserted then (if latched then pend else !back) else qualified
  ⟨if a then wint 1 else 0, false, { q with since := since, asserted := a, pstate := if a then 4 else 1 }⟩

/-- The fault unit and source of a comparator slot (R454). -/
def gldUnit (t : Nat) : FUnit := .block (0x04 + t / 16)
def cmpSource (n : Nat) : Nat := 0x80 + 8 * (n / 8 % 16) + n % 8

/-- The value of a slot's output type: the type of its plane index in the structure (R43). -/
def outType (s : State) (n : Nat) : Nat := (slotRec s n).outType

/-- The stale flag of a slot's output and its trigger follow-up (R42): value word, complement and stale pair written as one unit. -/
def slotWrite (n : Nat) (w : Word) (stale : Bool) (s : State) : State := writeSignal (1024 + n) w stale s

/-- The inputs of slot `n` whose complement check an armed injection inverts, in input order (R466). -/
def injectInputs (n : Nat) (s : State) : NSet × State :=
  (List.range 8).foldl (fun (a : NSet × State) k =>
    if ((slotRec a.2 n).ins[k]?).getD 0xFFFF ≠ 0xFFFF ∧ injectArmed (gldUnit (n / 8)) 0 (n / 8) a.2 then (a.1 ++ [k], injectUse (gldUnit (n / 8)) a.2) else a) ([], s)

/-- One evaluation of slot `n` on the plane `pl` with interval `t` in nanoseconds, 0 at an initialising evaluation (R48, R61). `inv` names the inputs whose check is injected. -/
def evalSlotOn (n : Nat) (pl : Tab Signal) (tNs : Nat) (inv : NSet) (s : State) : State :=
  let q0 := slotSt s n
  let r := readInputs s pl inv n q0
  let ins := r.1
  let q := { r.2.2 with inputBad := decide (r.2.1 ≠ []) }
  let fresh := !q.inited || q.stale
  let t : Int := if fresh then 0 else nsWork tNs
  let pend := (tget {} s.fw (gldUnit (n / 8)).key).pending.contains (cmpSource n)
  let prim := (slotRec s n).prim
  let o : PrimOut :=
    if prim = 1 then primPid s n ins t q
    else if prim = 2 then primTwoPos s n ins s.now q
    else if prim = 3 then primSelect s n ins q
    else if prim = 4 then primRate s n ins t q
    else if prim = 5 then primFilter s n ins t q
    else if prim = 6 then primPwl s n ins q
    else if prim = 7 then primSeq s n ins s.now q
    else if prim = 8 then primLease s n ins s.now q
    else if prim = 9 then primEnvelope s n ins q
    else if prim = 10 then primTimer s n ins s.now (if fresh then 0 else tNs / us) q
    else primComparator s n ins s.now pend q
  let wc := fromWork (outType s n) o.y
  let keep := o.stale && prim != 3 && prim != 9
  let w := if keep then q.out else wc.1
  let rising := o.q.asserted && !q0.asserted && prim == 11 && !(latchedHeld s n q0 pend)
  let q' := { o.q with
    stale := o.stale, out := w, sat := if keep then false else wc.2
    inited := o.q.inited || !o.stale, evals := satInc 4294967295 o.q.evals, lastEval := some s.now
    pstate := if o.stale then 2 else o.q.pstate }
  let s := updSlot n (fun _ => q') s
  let s := slotWrite n w o.stale s
  let s := forEach r.2.1 (fun k s =>
    raise (gldUnit (n / 8)) 0 .corrected
      { unit := n / 8, w1 := (tget {} pl (((slotRec s n).ins[k]?).getD 0)).value
        w2 := (tget {} pl (((slotRec s n).ins[k]?).getD 0)).comp, w3 := w32 (((slotRec s n).ins[k]?).getD 0), inj := inv.contains k } s) s
  whenDo rising (raise (gldUnit (n / 8)) (cmpSource n) (cmpClassOf s (0x04 + n / 128) (cmpSource n)) { unit := n / 8, w2 := w }) s
where
  /-- A latched comparator that initialises asserted does not raise its source again (R61). -/
  latchedHeld (s : State) (n : Nat) (q : SlotSt) (pend : Bool) : Bool :=
    (!q.inited || q.stale) && pend && (slotRec s n).mode / 2 % 2 == 1

/-- Halt a slot: its output goes stale. -/
def haltSlot (n : Nat) (s : State) : State :=
  slotWrite n (slotSt s n).out true (updSlot n (fun q => { q with halted := true, stale := true, pstate := 3 }) s)

/-- The SECDED checks of the live pairs that an evaluation reads (R70), under an armed injection (R466): one inverted check bit is corrected and recorded, two in a pair halt the slot. -/
def injectPairs (n : Nat) (s : State) : State :=
  let t := n / 8
  forEach (List.range (slotRec s n).paramCount) (fun k s =>
    if (slotSt s n).halted ∨ ¬ injectArmed (gldUnit t) 1 t s then s
    else if injectDouble (gldUnit t) s then raise (gldUnit t) 4 .contained { unit := t, item := 0, w2 := w32 n, inj := true } (haltSlot n (injectUse (gldUnit t) s))
    else raise (gldUnit t) 1 .corrected { unit := t, w1 := w32 ((slotRec s n).paramBase + k), inj := true } (injectUse (gldUnit t) s)) s

/-- One evaluation of a slot that is not halted. -/
def evalSlot (n : Nat) (pl : Tab Signal) (tNs : Nat) (s : State) : State :=
  if (slotSt s n).halted then s
  else
    let s := injectPairs n s
    if (slotSt s n).halted then s
    else
      let i := injectInputs n s
      evalSlotOn n pl tNs i.1 i.2

/-! ### Class evaluation order (R62–R64, R66) -/

/-- The tick-triggered slots of tile `t` in class `c`, in slot order. DESIGN CHOICE (log 111): TRIGGER alone says whether a slot is tick-triggered; a TRIGGER_SIG beside a tick class is not looked at. -/
def classSlots (s : State) (t c : Nat) : List Nat :=
  ((List.range 8).map (fun k => 8 * t + k)).filter (fun n => slotExists s n && (slotRec s n).trigger == c)

/-- The rank of tile `t` in class `c`; 7 means the class is unused (GT_RANK). -/
def tileRank (s : State) (t c : Nat) : Nat := ((tileRec s t).ranks[c]?).getD 7

/-- Plane as a slot of tile `t` sees it: the snapshot, with the fresh outputs of the tile's earlier slots of this class
evaluation (R64). -/
def slotView (snap : Tab Signal) (s : State) (earlier : List Nat) : Tab Signal :=
  earlier.foldl (fun pl m => tset {} pl (1024 + m) (tget {} s.gld.plane (1024 + m))) snap

/-- One class evaluation of one tile on its snapshot. -/
def evalTile (c t : Nat) (snap : Tab Signal) (s : State) : State :=
  (classSlots s t c).foldl (fun (acc : List Nat × State) n =>
    (acc.1 ++ [n], evalSlot n (slotView snap acc.2 acc.1) (classNs c) acc.2)) ([], s) |>.2

/-- A missed tick of class `c` on tile `t` (R66): the tile's count and quarter bit, late outputs stale for pace-dependent work, and the
fault. -/
def slotOverrun (c t : Nat) (s : State) : State :=
  let safe := (classSlots s t c).any (fun n => (slotRec s n).safety)
  let s := { s with gld.qOverrun := tput s.gld.qOverrun (t / 16) ((tget 0 s.gld.qOverrun (t / 16)) ||| w32 (2 ^ (t % 16))) }
  if safe then
    raise (gldUnit t) 3 .contained { unit := t, item := 0 } (updTile t (fun x => { x with ovSafety := satInc 65535 x.ovSafety }) s)
  else
    let s := updTile t (fun x => { x with ovPace := satInc 65535 x.ovPace }) s
    let s := forEach (classSlots s t c) (fun n s =>
      slotWrite n (slotSt s n).out true (updSlot n (fun q => { q with stale := true, pstate := 2 }) s)) s
    raise (gldUnit t) 2 .corrected { unit := t } s

/-- All tiles of one rank start together on one snapshot; the tiles of `late` have not completed their previous evaluation and skip
this tick (R64, R66). -/
def evalRank (c r : Nat) (late : List (Nat × Nat)) (s : State) : State :=
  let snap := s.gld.plane
  forEach (List.range 64) (fun t s =>
    if tileRank s t c = r && fabRuns s t && classSlots s t c != [] then
      (if late.contains (t, c) then slotOverrun c t s else evalTile c t snap s)
    else s) s

/-- A class has fired and completed: adoption's wait for it ends (R67). -/
def adoptClassDone (c : Nat) (s : State) : State :=
  { s with gld.adopt.classes := sdel s.gld.adopt.classes c
           gld.qAdopt := s.gld.qAdopt.map (fun e => (e.1, { e.2 with classes := sdel e.2.classes c })) }

/-- FABRIC_ADOPT_DONE (R67): every class in use has fired and completed and every change-triggered slot has been evaluated. DESIGN CHOICE (log 108): a change-triggered slot whose
tile is halted during ADOPTING never completes its evaluation, so the fabric stays in ADOPTING until that quarter is reset. -/
def adoptCheck (s : State) : State :=
  let s := if s.gld.state = .adopting ∧ s.gld.adopt.classes = [] ∧ s.gld.adopt.slots = [] then
      { s with gld.state := .running, thrForced := false }
    else s
  forEach (List.range 4) (fun q s =>
    if tget FabState.running s.gld.quarter q = .adopting ∧ (tget {} s.gld.qAdopt q).classes = [] ∧ (tget {} s.gld.qAdopt q).slots = [] then
      { s with gld.quarter := terase s.gld.quarter q, gld.qAdopt := terase s.gld.qAdopt q }
    else s) s

/-- The tick of class `c` in the fabric. -/
def fabricTick (c : Nat) (late : List (Nat × Nat)) (s : State) : State :=
  if s.gld.state = .adopting ∨ s.gld.state = .running then
    adoptCheck (adoptClassDone c (forEach (List.range 6) (fun r => evalRank c r late) s))
  else s

/-- SIGNAL_CHANGE_EVALUATE (R62): the coalesced evaluation of a change-triggered slot, at most one start in a microsecond; T is the time
since its previous evaluation, at most 1 s (R48). -/
def doSignalChangeEvaluate (slot : Fin 512) (s : State) : State :=
  let n := slot.val
  let q := slotSt s n
  let sameUs := match q.lastEval with | some t => decide (t / us = s.now / us) | none => false
  if s.gld.due.contains n && slotExists s n && (slotRec s n).trigger == 7 && fabRuns s (n / 8) && !sameUs then
    let t := match q.lastEval with | some t => min (s.now - t) sec | none => 0
    let s := { s with gld.due := sdel s.gld.due n }
    let s := evalSlot n s.gld.plane t s
    let s := { s with gld.adopt.slots := sdel s.gld.adopt.slots n
                      gld.qAdopt := s.gld.qAdopt.map (fun e => (e.1, { e.2 with slots := sdel e.2.slots n })) }
    (adoptCheck s)
  else s

/-! ### Structure load (R67–R70) -/

/-- The tick classes that tiles `ts` use, and their change-triggered slots. -/
def usedClasses (s : State) (ts : List Nat) : NSet :=
  (List.range 7).filter (fun c => ts.any (fun t => classSlots s t c != [] && tileRank s t c != 7))
def changeSlots (s : State) (ts : List Nat) : NSet :=
  (ts.flatMap (fun t => (List.range 8).map (fun k => 8 * t + k))).filter (fun n => slotExists s n && (slotRec s n).trigger == 7)

/-- The change-triggered slots whose trigger signal differs, in value or stale flag, from what it was on the plane `old` (R62). -/
def markChanged (old : Tab Signal) (s : State) : State :=
  let moved := fun (i : Nat) => let a := tget {} old i; let b := tget {} s.gld.plane i; a.value != b.value || a.stale != b.stale
  { s with gld.due := ((List.range 512).filter (fun n =>
      slotExists s n && (slotRec s n).trigger == 7 && moved (slotRec s n).triggerSig)).foldl sadd s.gld.due }

/-- Load tiles `ts` from the verified copy of section 0x01: slots forgotten, live and staged stores from the P part, outputs stale, which other slots see as a change (R62). -/
def loadTiles (b : Bitstream) (ts : List Nat) (s : State) : State :=
  markChanged s.gld.plane <| forEach ts (fun t s =>
    let ps := (b.pairs[t]?).getD []
    let tab : Tab Pair := (List.range ps.length).map (fun k => (k, (ps[k]?).getD {}))
    let s := updTile t (fun x => { x with halted := false, live := tab, staged := tab, pending := none }) s
    forEach (List.range 8) (fun k s =>
      let s := updSlot (8 * t + k) (fun _ => {}) s
      { s with gld.plane := tset {} s.gld.plane (1024 + (8 * t + k))
                 { value := 0, comp := 0xFFFFFFFF, stale := true, staleC := false
                   typ := (((((b.tiles[t]?).getD {}).slots)[k]?).getD {}).outType, prod := 8 * t + k } }) s) s

/-- The types of signals with a fixed producer that their chapters state other than Q16.16: the tray's input power, the leak states and the lease validities (R41, R133; log 110). -/
def fixedTypes : List (Nat × Nat) := (164, 1) :: (List.range 16).map (fun k => (165 + k, 4)) ++ (List.range 8).map (fun k => (1544 + k, 4))

/-- The types and producers the structure gives the other signals (R41–R43). -/
def loadSignals (b : Bitstream) (s : State) : State :=
  let s := forEach fixedTypes (fun e s => { s with gld.plane := tupd {} s.gld.plane e.1 (fun x => { x with typ := e.2 }) }) s
  forEach b.signals (fun g s =>
    { s with gld.plane := tupd {} s.gld.plane g.index (fun x => { x with typ := g.type, prod := g.producer }) }) s

/-- The structure-section digest of a bitstream (GLD_STRUCT_ID). -/
def sectionDigest (b : Bitstream) (code part : Nat) : Nat :=
  match b.dir.find? (fun d => d.code == code && d.part == part) with
  | some d => d.digest
  | none => 0

/-- SEC presents a verified structure section while the fabric has none or has cleared the old one: LOADING (R67). -/
def beginLoading (b : Bitstream) (s : State) : State :=
  let s := { s with
    gld.state := .loading, gld.tiles := b.tiles, gld.signals := b.signals, gld.loadFailed := false
    gld.structId := sectionDigest b 1 0 % 2 ^ 32, gld.loadCount := satInc 65535 s.gld.loadCount
    gld.due := [], gld.quarter := [], gld.qAdopt := [], gld.groupPend := none }
  loadSignals b (loadTiles b (List.range 64) s)

/-- The whole tray is in standby with every tray and slot rail off (R68). -/
def trayStandbyOff (s : State) : Bool := s.seq.trayState == 1 && s.seq.rail.all (fun e => e.2.state == .unused || e.2.state == .off)

/-- STRUCTURE_LOAD (R67, R68): the section SEC presents is that of the candidate of a structural re-apply that is under way, else that of the
running bitstream. A structure presented while one runs is refused outside standby, and SEC reports STANDBY. -/
def doStructureLoad (s : State) : State :=
  match s.cfg.running with
  | none => s
  | some b =>
    if s.gld.state = .noStructure then (beginLoading b s)
    else if s.gld.state = .standbyApply then (beginLoading b s)
    else if s.gld.state = .running then { s with cfg.result := 0x12 }
    else s

/-- Entry to ADOPTING (R62, R67): the classes and change-triggered slots still to be seen. -/
def beginAdopting (s : State) : State :=
  let ts := List.range 64
  let ch := changeSlots s ts
  adoptCheck { s with gld.state := .adopting, gld.adopt := { classes := usedClasses s ts, slots := ch }, gld.due := ch }

def beginQuarterAdopting (q : Nat) (s : State) : State :=
  let ts := (List.range 16).map (fun k => 16 * q + k)
  let ch := changeSlots s ts
  adoptCheck { s with gld.quarter := tput s.gld.quarter q .adopting
                      gld.qAdopt := tput s.gld.qAdopt q { classes := usedClasses s ts, slots := ch }
                      gld.due := ch.foldl sadd s.gld.due }

/-- No structure: every loop output stale (R67). -/
def dropStructure (s : State) : State :=
  let s := { s with gld := { s.gld with
    state := .noStructure, structId := 0, tiles := [], due := [], adopt := {}, quarter := [], qAdopt := [], slot := [], tile := [] } }
  forEach (List.range 512) (fun n s => { s with gld.plane := tupd {} s.gld.plane (1024 + n) (fun x => { x with stale := true, staleC := false }) }) s

/-- STRUCTURE_LOAD_DONE (R67, R70). -/
def doStructureLoadDone (quarter : Option (Fin 4)) (readbackOk : Bool) (s : State) : State :=
  match quarter with
  | none =>
    if s.gld.state = .loading then
      (if readbackOk then (beginAdopting s)
       else (raise (.block 0x04) 5 .contained {} { (dropStructure s) with gld.loadFailed := true }))
    else s
  | some q =>
    if tget FabState.running s.gld.quarter q.val = .loading then
      (if readbackOk then (beginQuarterAdopting q.val s)
       else (raise (.block (0x04 + q.val)) 5 .contained { unit := 16 * q.val }
          (forEach (List.range 16) (fun k => updTile (16 * q.val + k) (fun x => { x with halted := true })) s)))
    else s

/-! ### Halts (R70) -/

/-- Halt a tile: every slot's output goes stale (R60, R70). -/
def haltTile (t : Nat) (s : State) : State :=
  forEach (List.range 8) (fun k s => if slotExists s (8 * t + k) then haltSlot (8 * t + k) s else s)
    (updTile t (fun x => { x with halted := true, pending := none }) s)

/-- The slot whose parameters hold pair `p` of tile `t`. -/
def slotOfPair (s : State) (t p : Nat) : Option Nat :=
  ((List.range 8).map (fun k => 8 * t + k)).find? (fun n =>
    slotExists s n && decide ((slotRec s n).paramBase ≤ p) && decide (p < (slotRec s n).paramBase + (slotRec s n).paramCount))

/-- PARAM_ECC_ERROR (R70). -/
def doParamEccError (tile : Fin 64) (e : ParamEcc) (s : State) : State :=
  let t := tile.val
  match e with
  | .corrected => (raise (gldUnit t) 1 .corrected { unit := t } s)
  | .oneWord p => (raise (gldUnit t) 1 .corrected { unit := t, item := 1, w1 := w32 p.val } s)
  | .bothWords p =>
    match slotOfPair s t p.val with
    | some n => (raise (gldUnit t) 4 .contained { unit := t, item := 0, w2 := w32 n } (haltSlot n s))
    | none => s
  | .structureWord => (raise (gldUnit t) 4 .contained { unit := t, item := 1 } (haltTile t s))

/-! ### Staged parameters (R71–R74) -/

/-- PARAM_STAGE_WRITE (R71): one word of a staged pair, from the tile's owner, or from SEC during a live re-apply. -/
def stageWrite (path : Path) (t p : Nat) (comp : Bool) (value : Word) (s : State) : State :=
  let okOwner : Bool := match path with
    | .proc x => decide (x.num = (tileRec s t).owner) || (x == .sec && s.cfg.apply.isSome)
    | _ => false
  if okOwner then
    updTile t (fun x => { x with staged := tupd {} x.staged p (fun q => if comp then { q with comp := value } else { q with value := value }) }) s
  else
    raise (gldUnit t) 6 .contained
      { unit := t, path := pathCode path, w1 := w32 (tileWindow t + 0x400 + 8 * p + (if comp then 4 else 0)), w2 := value } s

def doParamStageWrite (path : Path) (tile : Fin 64) (pair : Fin 128) (comp : Bool) (value : Word) (s : State) :
    State := (stageWrite path tile.val pair.val comp value s)

/-- A parameter of a candidate set in its recorded type. -/
def setWork (s : State) (set : Tab Pair) (n k : Nat) : Int := toWork (parType s n k) (tget {} set ((slotRec s n).paramBase + k)).value
def setNat (s : State) (set : Tab Pair) (n k : Nat) : Nat := (tget {} set ((slotRec s n).paramBase + k)).value.toNat

/-- The commit checks of R47 for one slot: the first violated pair (within the slot) and its result code, RANGE 2 for a value out of the
primitive's range, ORDER 3 for two values that disagree (log 12). -/
def checkSlotSet (s : State) (set : Tab Pair) (n : Nat) : Option (Nat × Nat) :=
  let W := fun k => setWork s set n k
  let N := fun k => setNat s set n k
  let r := slotRec s n
  if r.prim = 1 then
    if W 7 < W 6 then some (6, 3) else if W 2 < 0 then some (2, 2) else if W 3 < 0 then some (3, 2)
    else if W 5 < 0 then some (5, 2) else none
  else if r.prim = 2 then
    if r.mode = 0 then (if W 1 < W 0 then none else some (0, 3)) else (if W 0 < W 1 then none else some (0, 3))
  else if r.prim = 3 then
    if (List.range 8).any (fun k => (N 0).testBit k && ((r.ins[k]?).getD 0xFFFF) != 0xFFFF) then none else some (0, 2)
  else if r.prim = 4 then
    if W 0 < 0 then some (0, 2) else if W 1 < 0 then some (1, 2) else none
  else if r.prim = 6 then
    if N 0 < 2 ∨ 16 < N 0 then some (0, 2)
    else match (List.range (N 0 - 1)).find? (fun i => decide (W (2 + i) ≤ W (1 + i))) with
      | some i => some (2 + i, 3)
      | none => none
  else if r.prim = 7 then
    if N 0 < 1 ∨ 16 < N 0 then some (0, 2)
    else match (List.range (N 0)).find? (fun k => decide (N (4 + 3 * k) ≠ 0 ∧ N (4 + 3 * k) < N (3 + 3 * k))) with
      | some k => some (4 + 3 * k, 3)
      | none => none
  else if r.prim = 8 then
    if N 1 < 2 * N 0 then some (1, 3) else if 60000000 < N 1 then some (1, 2) else none
  else if r.prim = 9 then
    if W 1 < W 0 then some (0, 3) else if W 2 < 0 then some (2, 2) else none
  else if r.prim = 11 then
    if W 1 < 0 then some (1, 2) else none
  else none

/-- The agreement records in force: those of the running bitstream, whatever state the fabric is in (R99). -/
def agreesOf (s : State) : List AgreeRec := match s.cfg.running with | some b => b.agrees | none => []

/-- An operand of an agreement record on a GLD pair: tile and pair (R98). -/
def agreeTile (ref : Nat) : Option (Nat × Nat) :=
  if 0x04 ≤ ref / 2 ^ 24 ∧ ref / 2 ^ 24 ≤ 0x07 then some (ref / 128 % 64, ref % 128) else none

/-- The type of a tile's pair in the running bitstream's structure. -/
def pairType (s : State) (t p : Nat) : Nat :=
  let l := if s.gld.tiles = [] then (match s.cfg.running with | some b => b.tiles | none => []) else s.gld.tiles
  ((((l[t]?).getD {}).ptype[p]?).getD 0) % 8

/-- A tile's live pair; while the fabric has no structure, the value the running bitstream loads it with. -/
def livePair (s : State) (t p : Nat) : Pair :=
  match tfind s.gld.tile t, s.cfg.running with
  | none, some b => (((b.pairs[t]?).getD [])[p]?).getD {}
  | _, _ => tget {} (tileSt s t).live p

/-- An operand at the value a commit of the tiles `sets` would give it: staged words there, live words elsewhere (R99). -/
def agreeVal (s : State) (sets : Tab (Tab Pair)) (words : Tab Word) (ref : Nat) : Int :=
  match agreeTile ref with
  | some (t, p) =>
    match tfind sets t with
    | some set => toWork (pairType s t p) (tget {} set p).value
    | none => toWork (pairType s t p) (livePair s t p).value
  | none =>
    let off := (ref / 2 ^ 24) * 65536 + ref % 65536
    let w := match tfind words off with | some w => w | none => liveWord s off
    toWork (regType off) w

/-- A record holds: A REL M × B + K in the working form (R98). -/
def agreeHolds (s : State) (sets : Tab (Tab Pair)) (words : Tab Word) (g : AgreeRec) : Bool :=
  let a := agreeVal s sets words g.a
  let rhs := wadd (wmul (g.m * 16777216) (agreeVal s sets words g.b)) (g.k * 65536)
  if g.rel = 0 then decide (a < rhs) else if g.rel = 1 then decide (a ≤ rhs) else decide (a = rhs)

/-- The first failing agreement record with an operand on tile `t`; answers the pair of tile `t` it names. -/
def agreeFail (s : State) (sets : Tab (Tab Pair)) (t : Nat) : Option Nat :=
  (agreesOf s).findSome? (fun g =>
    match agreeTile g.a, agreeTile g.b with
    | some (ta, pa), some (tb, pb) =>
      if (ta = t ∨ tb = t) ∧ !agreeHolds s sets [] g then some (if ta = t then pa else pb) else none
    | some (ta, pa), none => if ta = t ∧ !agreeHolds s sets [] g then some pa else none
    | none, some (tb, pb) => if tb = t ∧ !agreeHolds s sets [] g then some pb else none
    | none, none => none)

/-- Validation of a tile's staged set (R72, R47, R99): first violated pair and result code. PAIR comes first, over the whole store. -/
def validateTile (s : State) (sets : Tab (Tab Pair)) (t : Nat) : Option (Nat × Nat) :=
  let set := tget [] sets t
  match set.find? (fun e => !pairOk e.2) with
  | some e => some (e.1, 1)
  | none =>
    let slots := ((List.range 8).map (fun k => 8 * t + k)).filter (slotExists s)
    match slots.findSome? (fun n => (checkSlotSet s set n).map (fun r => ((slotRec s n).paramBase + r.1, r.2))) with
    | some r => some r
    | none =>
      match slots.find? (fun n => (slotRec s n).prim == 7 && (slotSt s n).pstate == 1 && setNat s set n 0 != parNat s n 0) with
      | some n => some ((slotRec s n).paramBase, 5)
      | none => (agreeFail s sets t).map (fun p => (p, 3))

/-- A commit request that completes with a result at once. -/
def tileResult (t code first : Nat) (s : State) : State :=
  updTile t (fun x => { x with result := code, firstPair := first, seq := inc8 x.seq }) s

/-- A validated configuration-wide commit that touches the tile waits for its boundary (R95, R96): the tiles whose parameters it changes. -/
def applyTouchesTile (s : State) (t : Nat) : Bool :=
  match s.cfg.apply with
  | some j => j.validated && (tfind j.tiles t).isSome
  | none => false

/-- A halted slot of the tile whose staged pairs differ from its live ones (R74, HALTED: "the addressed slot", log 12). -/
def addressesHalted (s : State) (t : Nat) : Bool :=
  ((List.range 8).map (fun k => 8 * t + k)).any (fun n => (slotSt s n).halted &&
    (List.range (slotRec s n).paramCount).any (fun k =>
      tget {} (tileSt s t).staged ((slotRec s n).paramBase + k) != tget {} (tileSt s t).live ((slotRec s n).paramBase + k)))

/-- Refusals of a commit request before validation: NO_STRUCTURE 8, HALTED 7, BUSY 4 (R74, R96). -/
def tileCommitRefusal (s : State) (t : Nat) : Option Nat :=
  if ¬(s.gld.state = .adopting ∨ s.gld.state = .running) then some 8
  else if (tileSt s t).halted ∨ addressesHalted s t then some 7
  else if (tileSt s t).pending.isSome ∨ applyTouchesTile s t then some 4
  else none

/-- TILE_COMMIT (R72): the staged set is validated whole; a valid set waits for its boundary. -/
def tileCommit (t : Nat) (s : State) : State :=
  match tileCommitRefusal s t with
  | some c => tileResult t c (tileSt s t).firstPair s
  | none =>
    let set := (tileSt s t).staged
    match validateTile s [(t, set)] t with
    | some r => tileResult t r.2 r.1 s
    | none => updTile t (fun x => { x with pending := some (s.now, set) }) s

/-- TILE_DISCARD (R74): the live set back into the staged set. -/
def tileDiscard (t : Nat) (s : State) : State := updTile t (fun x => { x with staged := x.live }) s

/-- Who may write GT_COMMIT: the tile's owner and SEC (R71, R383). -/
def mayCommitTile (s : State) (path : Path) (t : Nat) : Bool :=
  match path with
  | .proc x => decide (x.num = (tileRec s t).owner) || x == .sec
  | _ => false

/-- A write from a path not allowed on a tile (R71, R77 row 6). -/
def tilePathFault (path : Path) (t off : Nat) (w : Word) (s : State) : State :=
  raise (gldUnit t) 6 .contained { unit := t, path := pathCode path, w1 := w32 off, w2 := w } s

def doTileCommit (path : Path) (tile : Fin 64) (s : State) : State :=
  if mayCommitTile s path tile.val then (tileCommit tile.val s)
  else (tilePathFault path tile.val (tileWindow tile.val + 4) 0xC7 s)

def doTileDiscard (path : Path) (tile : Fin 64) (s : State) : State :=
  if mayCommitTile s path tile.val then (tileDiscard tile.val s)
  else (tilePathFault path tile.val (tileWindow tile.val + 4) 0x100C7 s)

/-- TILE_COMMIT_APPLY (R72): the set is copied to the live store at a microsecond boundary strictly after the request. -/
def tileApply (t : Nat) (s : State) : State :=
  match (tileSt s t).pending with
  | some (t0, set) =>
    if t0 / us < s.now / us ∧ !(s.gld.groupPend.any (fun g => g.2.contains t)) then
      updTile t (fun x => { x with live := set, pending := none, commits := inc8 x.commits, result := 0, seq := inc8 x.seq }) s
    else s
  | none => s

def doTileCommitApply (tile : Fin 64) (s : State) : State := (tileApply tile.val s)

/-- The tiles of GLD_GROUP_MASK_LO and _HI. -/
def groupTiles (s : State) : List Nat :=
  maskBits 64 ((regWord s 0x040010).toNat + (regWord s 0x040014).toNat * 2 ^ 32)

/-- What a group commit finds for each tile it names: no refusal, or the pair and the code (R73, R74). -/
def groupFindings (s : State) : List (Nat × Option (Nat × Nat)) :=
  let sets : Tab (Tab Pair) := (groupTiles s).map (fun t => (t, (tileSt s t).staged))
  (groupTiles s).map (fun t => (t, match tileCommitRefusal s t with
    | some c => some ((tileSt s t).firstPair, c)
    | none => validateTile s sets t))

/-- A tile of a refused group reports its own refusal, or code 6 (R73). -/
def groupTileResult (r : Nat × Option (Nat × Nat)) (s : State) : State :=
  match r.2 with
  | some v => tileResult r.1 v.2 v.1 s
  | none => tileResult r.1 6 (tileSt s r.1).firstPair s

def groupReject (first : Nat) (s : State) : State :=
  let s := forEach (groupFindings s) groupTileResult s
  { s with gld.groupResult := 6, gld.groupFirst := first, gld.groupSeq := inc8 s.gld.groupSeq }

def groupAccept (s : State) : State :=
  let ts := groupTiles s
  let s := forEach ts (fun t => updTile t (fun x => { x with pending := some (s.now, x.staged) })) s
  { s with gld.groupPend := some (s.now, ts) }

/-- GROUP_COMMIT (R73): every named tile is validated against the staged sets of the group (R99); any failure rejects all. A tile that itself
passes reports GROUP. A second request while one is pending is BUSY. -/
def groupCommit (s : State) : State :=
  if s.gld.groupPend.isSome then { s with gld.groupResult := 4, gld.groupSeq := inc8 s.gld.groupSeq }
  else
    match (groupFindings s).find? (fun r => r.2.isSome) with
    | some bad => groupReject bad.1 s
    | none => groupAccept s

def doGroupCommit (path : Path) (s : State) : State :=
  match path with
  | .proc p =>
    if p = .sec ∨ (groupTiles s).all (fun t => decide (p.num = (tileRec s t).owner)) then (groupCommit s)
    else (tilePathFault path ((groupTiles s).headD 0) 0x040018 0xC7 s)
  | _ => (tilePathFault path ((groupTiles s).headD 0) 0x040018 0xC7 s)

/-- GROUP_COMMIT_APPLY (R73): all named tiles at one microsecond boundary. -/
def groupApply (s : State) : State :=
  match s.gld.groupPend with
  | some (t0, ts) =>
    if t0 / us < s.now / us then
      let s := { s with gld.groupPend := none, gld.groupResult := 0, gld.groupSeq := inc8 s.gld.groupSeq }
      forEach ts tileApply s
    else s
  | none => s

def doGroupCommitApply (s : State) : State := (groupApply s)

end Sys2Proof.Machine
end

