-- ==== Sys2Proof/Machine/Seq.lean ====
section
/-! DEFINITION. Power sequencing and rail supervision: commands, the graph engine, the inrush budget, running-rail faults, power-downs,
the first-failing-rail record and adoption (04_power_sequencing.md, R101–R130). -/

namespace Sys2Proof.Machine

/-! ### Look-ups -/

def uSEQ : FUnit := .block 0x08

def railRec (s : State) (r : Nat) : RailRec := tget {} s.seq.rails r
def railSt (s : State) (r : Nat) : RailSt := tget {} s.seq.rail r
def updRail (r : Nat) (f : RailSt → RailSt) (s : State) : State := { s with seq.rail := tupd {} s.seq.rail r f }
def graphRun (s : State) (g : Nat) : GraphRun := tget {} s.seq.graph g
def updGraph (g : Nat) (f : GraphRun → GraphRun) (s : State) : State := { s with seq.graph := tupd {} s.seq.graph g f }
def graphSteps (s : State) (g : Nat) : List StepRec := tget [] s.seq.graphs g
def stepRec (s : State) (g i : Nat) : StepRec := ((graphSteps s g)[i]?).getD ⟨0, 0, [], 0⟩
def stepRun (s : State) (g i : Nat) : StepRun := tget {} (graphRun s g).steps i
def updStep (g i : Nat) (f : StepRun → StepRun) (s : State) : State :=
  updGraph g (fun x => { x with steps := tupd {} x.steps i f }) s
def slotState (s : State) (k : Nat) : Nat := tget 0 s.seq.slotState k
/-- A slot's new state; on entering POWERING_UP or ADOPTING no telemetry of it counts as fresh (R142), and a slot that turns ON with stale telemetry is reported (R171). -/
def setSlotState (k v : Nat) (s : State) : State :=
  { s with seq.slotState := tset 0 s.seq.slotState k v
           shp.slot := if v = 3 ∨ v = 7 then tupd {} s.shp.slot k (fun x => { x with seen := false }) else if v = 4 then tupd {} s.shp.slot k (fun x => { x with staleSaid := false }) else s.shp.slot }

/-- Rails in use (METHOD not UNUSED), of slot `k` or of the tray (0xFF). -/
def railsInUse (s : State) : List Nat := (s.seq.rails.filter (fun e => e.2.method != 0)).map (·.1)
def railsOf (s : State) (k : Nat) : List Nat := (railsInUse s).filter (fun r => (railRec s r).slot == k)
def slotHasRails (s : State) (k : Nat) : Bool := railsOf s k != []

/-- Live parameters of a rail and of the tray (SEQ_RAIL_PARAM, R104). -/
def railParOff (r f : Nat) : Nat := 0x082000 + 0x40 * r + f
def railInrush (s : State) (r : Nat) : Nat := (liveWord s (railParOff r 0x10)).toNat
def railSlew (s : State) (r : Nat) : Nat := (liveWord s (railParOff r 0x18)).toNat
def railQualUs (s : State) (r : Nat) : Nat := (liveWord s (railParOff r 0x20)).toNat
def railTimeoutUs (s : State) (r : Nat) : Nat := (liveWord s (railParOff r 0x28)).toNat
def railRestarts (s : State) (r : Nat) : Nat := fld (liveWord s (railParOff r 0x30)) 7 0
def railUv (s : State) (r : Nat) : Nat := fld (liveWord s (railParOff r 0x08)) 15 0
def railOv (s : State) (r : Nat) : Nat := fld (liveWord s (railParOff r 0x08)) 31 16
def railVset (s : State) (r : Nat) : Nat := fld (liveWord s (railParOff r 0x00)) 15 0
def shelfA (s : State) : Nat := (liveWord s 0x080040).toNat
def shelfSlew (s : State) : Nat := (liveWord s 0x080048).toNat
def holdUs (s : State) : Nat := (liveWord s 0x080050).toNat
def stepDelayUs (s : State) (g i : Nat) : Nat := (liveWord s (0x086000 + 8 * (64 * g + i))).toNat

/-- Slot of a graph: 0–7 for the slot graphs, 0xFF for the tray graphs. -/
def graphSlot (g : Nat) : Nat := if g < 16 then g % 8 else 0xFF

/-- Live steps: in DELAY, QUEUED or ACTIVE (R110). -/
def isLive (r : StepRun) : Bool := r.state == .delay || r.state == .queued || r.state == .active
def liveSteps (s : State) : Nat := sumList (s.seq.graph.map (fun e => (e.2.steps.filter (fun x => isLive x.2)).length))

/-! ### Rail commands (R102, R103) -/

/-- EN pin level for on or off, by EN_LOW. -/
def enLevel (r : RailRec) (on : Bool) : Nat := if (r.flags % 2 = 1) = on then 0 else 1

/-- The fabric is lost to SEQ (R76): no loop runs, so no step advances and no command is sent. -/
def fabricLost (s : State) : Bool := !(s.gld.state == .adopting || s.gld.state == .running)

/-- Issue a rail's enable or disable by its method; none is sent while the fabric is lost (R76). -/
def commandRail (r : Nat) (on : Bool) (s : State) : State :=
  if fabricLost s then s
  else
  let q := railRec s r
  let s := updRail r (fun x => { x with cmdOn := on, offIssued := !on }) s
  if q.method = 1 then drivePin (.en q.enOrCmd) (enLevel q on) s
  else if q.method = 2 then
    twSubmit q.port { owner := .seqRail r, kind := if on then .pmbusOn (railVset s r) else .pmbusOff, addr := q.addr, page := q.page
                      value := if on then q.enOrCmd % 256 else q.enOrCmd / 256 } s
  else if q.method = 3 then
    twSubmit q.port { owner := .seqRail r, kind := if on then .sidebandOn else .sidebandOff, addr := q.addr, page := 0xFF
                      value := q.enOrCmd % 256 } s
  else s

/-- Ask for one status read of a rail whose status comes over its port, if none is under way (R109, R119). -/
def readRailStatus (r : Nat) (s : State) : State :=
  let q := railRec s r
  if (q.method = 2 ∨ q.method = 3) ∧ ¬(railSt s r).reading then
    twSubmit q.port { owner := .seqRail r, kind := if q.method = 2 then .railStatus else .sidebandRead, addr := q.addr, page := q.page, value := q.enOrCmd / 256 }
      (updRail r (fun x => { x with reading := true }) s)
  else s

/-! ### Records of failures (R123, R124) -/

/-- Commit the RAIL area: the 16 newest episodes, the open one in its own place (R473). -/
def railCommit (s : State) : State :=
  match s.seq.episode with
  | none => s
  | some e =>
    let old := match nvsStagedOrNewest s 0x08 with | some (.rail l) => l | _ => []
    let l := old.filter (fun r => r.episode != e.episode) ++ [e]
    nvsQueue { rank := 1, area := 0x08, payload := some (.rail (l.drop (l.length - 16))), length := 1024 } s

/-- A failure among those of its own tick, by rail number (R124). -/
def sortByRail (x : Nat × Nat) : List (Nat × Nat) → List (Nat × Nat)
  | [] => [x]
  | y :: r => if x.1 < y.1 then x :: y :: r else y :: sortByRail x r

/-- Open the record of the first failure, or merge a further failure into the open one; `key` is the power-down (a slot, or 8 for the tray) that the failure causes
or falls into. Failures detected on the same tick, here at the same count, stand in rail order (R124). -/
def recordFailure (rail cause phase key : Nat) (s : State) : State :=
  let s := { s with seq.epDowns := sadd s.seq.epDowns key }
  match s.seq.episode with
  | none =>
    let e : EpisodeRec := { time := s.now, rail := rail, slot := (railRec s rail).slot, cause := cause, phase := phase
                            episode := s.seq.nextEpisode + 1, fwSvn := fwSvnOf s, cfgId := cfgIdOf s }
    rcdTrigger 0 <| railCommit { s with seq.episode := some e, seq.ffr := e, seq.ffrValid := true, seq.nextEpisode := s.seq.nextEpisode + 1
                                        seq.lastFail := s.now, seq.sameTick := 1 }
  | some e =>
    let n := if s.seq.lastFail = s.now then s.seq.sameTick else 0
    let l := (e.rail, e.cause) :: e.further
    let l := (l.take (l.length - n) ++ sortByRail (rail, cause) (l.drop (l.length - n))).take 9
    let f := l.headD (e.rail, e.cause)
    let first := f = (rail, cause) ∧ f ≠ (e.rail, e.cause)
    let e' := { e with merge := satInc 255 e.merge, rail := f.1, cause := f.2, further := l.drop 1
                       slot := if first then (railRec s rail).slot else e.slot, phase := if first then phase else e.phase }
    let s := { s with seq.episode := some e', seq.ffr := e', seq.lastFail := s.now, seq.sameTick := min 9 (n + 1) }
    if first then railCommit s else s

/-- The episode closes when the power-down it caused completes (R124); its record is committed again. -/
def closeEpisode (s : State) : State :=
  match s.seq.episode with
  | none => s
  | some e =>
    let e' := { e with closed := true, closeTime := s.now
                       slotStates := sumList ((List.range 8).map (fun k => slotState s k * 16 ^ k)) }
    { railCommit { s with seq.episode := some e', seq.ffr := e' } with seq.episode := none, seq.epDowns := [] }

/-- The power-down of `key` has completed: the episode closes when it was the last that the episode waits for. -/
def episodeDown (key : Nat) (s : State) : State :=
  if s.seq.epDowns.contains key then
    let s := { s with seq.epDowns := sdel s.seq.epDowns key }
    if s.seq.epDowns = [] then closeEpisode s else s
  else s

/-- The tray enters RUNNING: flow and pressure limits are judged from 10 s later (R197). -/
def enterTrayRunning (s : State) : State := { s with lkf.runSince := some s.now, lkf.judging := false }

/-- The tray leaves RUNNING. -/
def leaveTrayRunning (s : State) : State := { s with lkf.runSince := none, lkf.judging := false }

/-! ### Graph engine (R106–R113) -/

def stepKey (g i : Nat) : Nat := 64 * g + i

/-- Release the charges of every step that has left ACTIVE (R112, first half of a tick). -/
def releaseCharges (s : State) : State :=
  { s with seq.charges := s.seq.charges.filter (fun c => (stepRun s (c.step / 64) (c.step % 64)).state == .active) }

def budgetA (s : State) : Nat := sumList (s.seq.charges.map (·.a))
def budgetSlew (s : State) : Nat := sumList (s.seq.charges.map (·.slew))

/-- Steps whose dependencies are all DONE. -/
def depsDone (s : State) (g i : Nat) : Bool :=
  (stepRec s g i).deps.all (fun d => d == 0xFF || (stepRun s g d).state == .done)

/-- Mark every WAITING step of a running graph whose dependencies are complete with the time they completed (R110). -/
def markReady (g : Nat) (s : State) : State :=
  forEach (List.range (graphSteps s g).length) (fun i s =>
    if (graphRun s g).state = .running ∧ (stepRun s g i).state = .waiting ∧ (stepRun s g i).readyAt = none ∧ depsDone s g i then
      updStep g i (fun x => { x with readyAt := some s.now }) s
    else s) s

/-- The WAITING step that has been ready longest, over all graphs; ties to the lower graph and step (R110). -/
def oldestReady (s : State) : Option (Nat × Nat) :=
  let all := (List.range 18).flatMap (fun g => (List.range (graphSteps s g).length).filterMap (fun i =>
    match (stepRun s g i).readyAt, (stepRun s g i).state with
    | some t, .waiting => some (t, g, i)
    | _, _ => none))
  match all with
  | [] => none
  | a :: r => let m := r.foldl (fun (b x : Nat × Nat × Nat) => if x.1 < b.1 then x else b) a; some (m.2.1, m.2.2)

/-- Start the delay of ready steps, oldest first, while fewer than 288 are live (R110); `fuel` bounds the steps started. -/
def startReady : Nat → State → State
  | 0, s => s
  | fuel + 1, s =>
    if liveSteps s < 288 then
      match oldestReady s with
      | some (g, i) =>
        startReady fuel (updStep g i (fun x => { x with state := .delay, delayAt := s.now, delayUs := stepDelayUs s g i }) s)
      | none => s
    else s

def promote (g : Nat) (s : State) : State := startReady 1152 (markReady g s)

/-- Start a graph's run with every step WAITING. -/
def startGraph (g : Nat) (s : State) : State :=
  promote g (updGraph g (fun _ => { state := .running }) s)

/-- A step leaves QUEUED: SEQ_QUEUE.WAIT_MAX_US keeps the longest wait. -/
def queueWaited (g i : Nat) (s : State) : State :=
  { s with seq.waitMaxUs := min 65535 (max s.seq.waitMaxUs ((s.now - (stepRun s g i).queuedAt) / us)) }

/-- Abort a running graph: every step that is not DONE becomes ABORTED, queued rails return to OFF (R108, R116). -/
def abortGraph (g : Nat) (s : State) : State :=
  if (graphRun s g).state = .running then
    let s := forEach (List.range (graphSteps s g).length) (fun i s =>
      let s := if (stepRun s g i).state = .queued then
          queueWaited g i (updRail (stepRec s g i).rail (fun x => { x with state := .off }) s) else s
      updStep g i (fun x => if x.state = .done ∨ x.state = .failed then x else { x with state := .aborted }) s) s
    updGraph g (fun x => { x with state := if x.failStep = 0xFF then .aborted else .failed }) s
  else s

/-- Every slot is OFF, FAILED or ABSENT (R116). -/
def slotsDown (s : State) : Bool :=
  (List.range 8).all (fun k => slotState s k == 0 || slotState s k == 1 || slotState s k == 6)

/-- Every tray and slot rail is off (R114). -/
def seqAllOff (s : State) : Bool :=
  (railsInUse s).all (fun r => (railSt s r).state != .on && (railSt s r).state != .enabling && (railSt s r).state != .disabling)

/-- PFW_N is released on completion of the last power-down whose hold asserted it (R120 step 5, R187). -/
def releasePfw (s : State) : State :=
  if s.seq.pfw ∧ s.seq.pfwKeys = [] then drivePin .pfw 1 { s with seq.pfw := false } else s

/-- The tray's power-down is done: graph 17 has no step left, or none at all. -/
def trayDownDone (s : State) : State :=
  let failed := s.seq.trayEndFailed
  let s := { s with seq.trayState := if failed then 5 else 1, seq.trayEndFailed := false, seq.trayFaultDown := false
                    seq.pfwKeys := [], seq.holds := [] }
  note (.powerDown 0xFF) (releasePfw (closeEpisode s))

/-- Begin graph 17 once every slot is down (R116). -/
def trayDownContinue (s : State) : State :=
  if s.seq.trayState = 4 ∧ slotsDown s ∧ (graphRun s 17).state ≠ .running then
    if graphSteps s 17 = [] then trayDownDone (updGraph 17 (fun _ => { state := .done }) s) else startGraph 17 s
  else s

/-- POWER_DOWN_COMPLETE (R120 steps 5 and 6, R116, R124): the last step of a slot's or the tray's power-down is done. -/
def powerDownComplete (g : Nat) (s : State) : State :=
  let s := updGraph g (fun x => { x with state := .done }) s
  if g = 17 then trayDownDone s
  else
    let k := g - 8
    let failed := s.seq.endFailed.contains k
    let s := setSlotState k (if failed then 6 else 1) s
    let s := { s with seq.endFailed := sdel s.seq.endFailed k, seq.faultDown := sdel s.seq.faultDown k
                      seq.pfwKeys := sdel s.seq.pfwKeys k, seq.holds := terase s.seq.holds k }
    trayDownContinue (note (.powerDown k) (releasePfw (episodeDown k s)))

/-- A power-up graph is done (R114, R116): a slot is ON; the tray is RUNNING and its waiting slots start. -/
def powerUpComplete (g : Nat) (s : State) : State :=
  let s := updGraph g (fun x => { x with state := .done }) s
  if g = 16 then
    let s := enterTrayRunning { s with seq.trayState := 3 }
    forEach (List.range 8) (fun k s => if slotState s k = 2 then startGraph k (setSlotState k 3 s) else s) s
  else setSlotState g 4 s

/-- A graph whose steps are all DONE completes. -/
def graphCheck (g : Nat) (s : State) : State :=
  if (graphRun s g).state = .running ∧ (List.range (graphSteps s g).length).all (fun i => (stepRun s g i).state == .done) then
    if g < 8 ∨ g = 16 then powerUpComplete g s else powerDownComplete g s
  else s

/-- A step completes (R108): its rail is ON or OFF (a FAILED rail stays FAILED, R122), and the steps that depend on it start their delay. -/
def completeStep (g i : Nat) (s : State) : State :=
  let r := stepRec s g i
  let s := updStep g i (fun x => { x with state := .done }) s
  let s := if r.action = 1 then updRail r.rail (fun x => { x with state := .on, supervised := true, failReads := 0, vsOut := none }) s
    else if r.action = 2 then updRail r.rail (fun x =>
      { x with state := if x.state = .failed then .failed else .off, supervised := false }) s
    else s
  graphCheck g (promote g s)

/-- The rail's output pin has been handed over (R128: no command before that). -/
def railHanded (s : State) (r : Nat) : Bool :=
  !((railRec s r).method == 1 && (latchOf s (.en (railRec s r).enOrCmd)).held)

/-- Issue an ENABLE and begin its qualification (R108, R129). -/
def activateEnable (g i : Nat) (s : State) : State :=
  let r := (stepRec s g i).rail
  let s := updStep g i (fun x => { x with state := .active, cmdAt := s.now, drops := 0, goodReads := 0, badReads := 0, failReads := 0
                                          qualUs := railQualUs s r, timeoutUs := railTimeoutUs s r, restarts := railRestarts s r, fail := 0 }) s
  commandRail r true (updRail r (fun x => { x with state := .enabling, used := 0 }) s)

/-- A step acts after its delay (R106, R108, R113, R122). -/
def stepAct (g i : Nat) (s : State) : State :=
  let st := stepRec s g i
  let r := st.rail
  if st.action = 1 then
    if (railSt s r).state = .on then completeStep g i s
    else if (railRec s r).method ≠ 4 ∧ (railInrush s r ≠ 0 ∨ railSlew s r ≠ 0) then
      updRail r (fun x => { x with state := .queued }) (updStep g i (fun x => { x with state := .queued, queuedAt := s.now }) s)
    else activateEnable g i s
  else if st.action = 2 then
    if (railSt s r).state = .failed then
      completeStep g i (if (railSt s r).cmdOn ∧ ¬(railSt s r).offIssued then commandRail r false s else s)
    else if (railSt s r).state = .off ∨ (railSt s r).state = .queued ∨ (¬(railSt s r).cmdOn ∧ ¬(railSt s r).pg) then completeStep g i s
    else
      let s := updStep g i (fun x => { x with state := .active, cmdAt := s.now, drops := 0, goodReads := 0, badReads := 0, failReads := 0
                                              qualUs := railQualUs s r, timeoutUs := railTimeoutUs s r, restarts := railRestarts s r, fail := 0 }) s
      commandRail r false (updRail r (fun x => { x with state := .disabling, supervised := false }) s)
  else completeStep g i s

/-- The present count is that of a 10 µs tick, and the fabric is not lost (R76, R110): steps advance on such a tick only. -/
def stepTick (s : State) : Bool := s.tbs.tick10 == s.now && !fabricLost s

/-- A step's delay has passed; a step for a rail whose output is still on its latch waits for the handover (R128), a WAIT step for none. -/
def delayPassed (s : State) (g i : Nat) : Bool :=
  let r := stepRun s g i
  r.state == .delay && decide (r.delayAt + r.delayUs * us ≤ s.now) && (!((stepRec s g i).action == 1 || (stepRec s g i).action == 2) || railHanded s (stepRec s g i).rail)

/-- STEP_DELAY_DONE (R108, R110). -/
def doStepDelayDone (graph : Fin 18) (step : Fin 64) (s : State) : State :=
  if stepTick s ∧ delayPassed s graph.val step.val then (stepAct graph.val step.val s) else s

/-- The queue in age order (R112): queue time, then graph, then step. -/
def queueOf (s : State) : List (Nat × Nat × Nat) :=
  (List.range 18).flatMap (fun g => (List.range (graphSteps s g).length).filterMap (fun i =>
    if (stepRun s g i).state = .queued then some ((stepRun s g i).queuedAt, g, i) else none))

def queueHead (s : State) : Option (Nat × Nat) :=
  match queueOf s with
  | [] => none
  | a :: r => let m := r.foldl (fun (b x : Nat × Nat × Nat) => if x.1 < b.1 then x else b) a; some (m.2.1, m.2.2)

/-- STEP_ADMIT (R112): charges of steps that have left ACTIVE are released; the step is admitted if it is the head of the queue and fits. -/
def stepAdmit (g i : Nat) (s : State) : State :=
  let s := releaseCharges s
  let r := (stepRec s g i).rail
  if queueHead s = some (g, i) ∧ budgetA s + railInrush s r ≤ shelfA s ∧ budgetSlew s + railSlew s r ≤ shelfSlew s then
    activateEnable g i (queueWaited g i { s with seq.charges := s.seq.charges ++ [⟨stepKey g i, railInrush s r, railSlew s r⟩] })
  else s

/-- STEP_ADMIT (R112): on a 10 µs tick. -/
def doStepAdmit (graph : Fin 18) (step : Fin 64) (s : State) : State :=
  if stepTick s then (stepAdmit graph.val step.val s) else s

/-- Admit from the head of the queue until a step does not fit (R112); `n` bounds the admissions. -/
def admitQueue : Nat → State → State
  | 0, s => s
  | n + 1, s =>
    match queueHead s with
    | none => s
    | some h =>
      let t := stepAdmit h.1 h.2 s
      if (stepRun t h.1 h.2).state = .queued then t else admitQueue n t

/-- Status comes by reads (R109): METHOD's own status. -/
def byReads (s : State) (r : Nat) : Bool := (railRec s r).pg == 0xFFFF

/-- An ACTIVE step's rail has held the level it waits for through QUAL_US, counted from the later of the command and the level (R108), with
three reads where the level comes by reads (R109). -/
def stepQualifies (s : State) (g i : Nat) : Bool :=
  let st := stepRec s g i
  let x := stepRun s g i
  let rl := railSt s st.rail
  let level := st.action == 1
  x.state == .active && x.fail == 0 && (rl.pg == level) && decide (max x.cmdAt rl.pgSince + x.qualUs * us ≤ s.now) &&
  (!byReads s st.rail || decide (3 ≤ if level then x.goodReads else x.badReads))

/-- STEP_QUALIFIED (R108). -/
def doStepQualified (graph : Fin 18) (step : Fin 64) (s : State) : State :=
  if stepTick s ∧ stepQualifies s graph.val step.val then (completeStep graph.val step.val s) else s

/-! ### Power-downs and failures (R116, R118, R120–R122) -/

/-- Cancel a held power-up that names slot `k` (any slot for 0xFF): it reports SUPERSEDED (R117). -/
def supersede (s : State) : State :=
  match s.seq.held with
  | some w => { s with seq.held := none, seq.superTag := fld w 31 24, seq.superCount := inc8 s.seq.superCount }
  | none => s

def cancelHeldUp (k : Nat) (s : State) : State :=
  match s.seq.held with
  | some w =>
    if (fld w 3 0 = 1 ∨ fld w 3 0 = 3) ∧ (k = 0xFF ∨ (fld w 23 16).testBit k) then supersede s else s
  | none => s

/-- A power-down that is fault-initiated, and ends FAILED (R120, R122). -/
def markFault (key : Nat) (s : State) : State :=
  if key = 8 then { s with seq.trayFaultDown := true, seq.trayEndFailed := true }
  else { s with seq.faultDown := sadd s.seq.faultDown key, seq.endFailed := sadd s.seq.endFailed key }

/-- A hold runs for the slot, or for the tray (8): its power-down is under way and starts with the hold's end (R120, R121). -/
def holdRuns (s : State) (key : Nat) : Bool := (tfind s.seq.holds key).isSome || (tfind s.seq.holds 8).isSome

/-- Run the down-graph of slot `k`; during a hold that covers it, the hold's end runs it (R120 step 3, R121). -/
def slotDown (k : Nat) (fault : Bool) (s : State) : State :=
  let s := cancelHeldUp k s
  let s := if fault then markFault k s else s
  if slotState s k = 5 ∨ holdRuns s k then s
  else graphCheck (8 + k) (startGraph (8 + k) (setSlotState k 5 (abortGraph k s)))

/-- A tray power-down, as TRAY_DOWN does it (R116); during the tray's own hold, the hold's end runs it. A slot in a hold of its own goes down at that hold's end. -/
def trayDown (fault : Bool) (s : State) : State :=
  let s := cancelHeldUp 0xFF s
  let s := if fault then markFault 8 s else s
  if (tfind s.seq.holds 8).isSome then s
  else
  let s := abortGraph 16 s
  let s := { leaveTrayRunning s with seq.trayState := 4 }
  let s := forEach (List.range 8) (fun k s =>
    if slotState s k = 2 then setSlotState k 1 s
    else if slotState s k = 3 ∨ slotState s k = 4 then slotDown k false s
    else s) s
  trayDownContinue s

/-- Every running hold ends now, each power-down keeping its kind (R187, R192). -/
def endHolds (s : State) : State :=
  { (forEach s.seq.holds (fun e s => if e.2.commanded then s else markFault e.1 s) s) with seq.holds := [] }

/-- Abort the waiting slot power-ups of a failed graph 16 (R118). -/
def dropWaiting (s : State) : State :=
  forEach (List.range 8) (fun k s => if slotState s k = 2 then setSlotState k 1 s else s) s

/-- STEP_FAIL (R118) for an ENABLE step: the up-graph is aborted, the failing rail is disabled on the same tick and the slot or tray goes down. -/
def enableFail (g i cause : Nat) (s : State) : State :=
  let r := (stepRec s g i).rail
  let s := updStep g i (fun x => { x with state := .failed }) s
  let s := updGraph g (fun x => { x with failStep := i }) s
  let s := updRail r (fun x => { x with state := .failed, lastCause := cause, used := (stepRun s g i).drops }) s
  let s := recordFailure r cause 0 (if g = 16 then 8 else g) s
  let s := raise uSEQ 1 .contained { unit := r, w2 := w32 cause } s
  let s := commandRail r false (abortGraph g s)
  if g = 16 then trayDown true (dropWaiting s) else slotDown g true s

/-- The power-down of slot `k` (0xFF the tray) has started its graphs. -/
def downStarted (s : State) (k : Nat) : Bool :=
  if k = 0xFF then s.seq.trayState == 4 else slotState s k == 5

/-- The power-down of slot `k` (0xFF the tray) is under way, from the start of its hold (R121). -/
def goingDown (s : State) (k : Nat) : Bool := downStarted s k || holdRuns s (if k = 0xFF then 8 else k)

/-- A hold that a fault began covers slot `k` (0xFF the tray). -/
def faultHold (s : State) (k : Nat) : Bool :=
  (tfind s.seq.holds 8).any (fun h => !h.commanded) || (tfind s.seq.holds k).any (fun h => !h.commanded)

/-- A rail fails during power-down (R122): FAILED, merged or recorded by itself, and its ACTIVE disable completes at once. -/
def downFailure (r cause : Nat) (s : State) : State :=
  let k := (railRec s r).slot
  let faultInit := (k != 0xFF && s.seq.faultDown.contains k) || s.seq.trayFaultDown || faultHold s k
  let s := updRail r (fun x => { x with state := .failed, lastCause := cause, supervised := false }) s
  let s := recordFailure r cause (if faultInit then 2 else 3) (if k = 0xFF ∨ s.seq.trayState = 4 then 8 else k) s
  let s := if k = 0xFF then { s with seq.trayEndFailed := true } else { s with seq.endFailed := sadd s.seq.endFailed k }
  let s := raise uSEQ 2 .contained { unit := r, w2 := w32 cause } s
  let g := if k = 0xFF then 17 else 8 + k
  match (List.range (graphSteps s g).length).find? (fun i => (stepRec s g i).rail == r && (stepRec s g i).action == 2 && (stepRun s g i).state == .active) with
  | some i => completeStep g i s
  | none => s

/-- The hold that began first. -/
def firstHold : Tab HoldS → Option HoldS
  | [] => none
  | e :: r => some (r.foldl (fun m x => if x.2.start < m.start then x.2 else m) e.2)

/-- Assert PFW_N and start the hold of key `k` (a slot, or 8 for the tray) unless one that covers it runs. A tray hold that follows a slot's hold ends
with that hold (R121). -/
def startHold (k : Nat) (commanded : Bool) (s : State) : State :=
  if (tfind s.seq.holds k).isSome ∨ (tfind s.seq.holds 8).isSome then s
  else
    let h : HoldS :=
      match firstHold s.seq.holds with
      | some h0 => if k = 8 then { h0 with commanded := commanded } else ⟨s.now, holdUs s, commanded⟩
      | none => ⟨s.now, holdUs s, commanded⟩
    drivePin .pfw 0 { s with seq.pfw := true, seq.pfwKeys := sadd s.seq.pfwKeys k, seq.holds := tput s.seq.holds k h }

/-- The tray needs a power-down after its hold: none is added while one is under way, and it starts at once when a slot is going down after a hold of its own (R121, R187). -/
def startTrayHold (commanded : Bool) (s : State) : State :=
  if s.seq.trayState = 4 ∨ (tfind s.seq.holds 8).isSome then s
  else if s.seq.holds = [] ∧ ¬ s.seq.adopting ∧ (List.range 8).any (fun j => slotState s j == 5 && s.seq.pfwKeys.contains j) then
    trayDown (!commanded) (drivePin .pfw 0 { s with seq.pfw := true, seq.pfwKeys := sadd s.seq.pfwKeys 8 })
  else startHold 8 commanded s

/-- A second fault, in a slot that is going down already, needs the tray (R121): the tray's power-down starts when the first hold ends, or at once when none runs. -/
def trayDownToo (s : State) : State :=
  if s.seq.trayState = 4 ∨ (tfind s.seq.holds 8).isSome then s
  else if s.seq.holds = [] then trayDown true (drivePin .pfw 0 { s with seq.pfw := true, seq.pfwKeys := sadd s.seq.pfwKeys 8 })
  else startHold 8 false s

/-- RUNNING_RAIL_FAULT (R119–R122): PFW_N, the early disable for OV or OC, the hold, the record; in a power-down under way the rail fails as R122 says. `ovoc` says that the
read showed OV or OC, whatever cause is recorded (R123). -/
def runningFault (r cause : Nat) (ovoc : Bool) (s : State) : State :=
  let k := (railRec s r).slot
  let fatal := (railRec s r).flags / 4 % 2 = 1
  if goingDown s k then
    let s := downFailure r cause s
    let s := if ovoc ∧ ¬(railSt s r).offIssued then commandRail r false s else s
    if k ≠ 0xFF ∧ fatal then trayDownToo { s with seq.epDowns := sadd s.seq.epDowns 8 } else s
  else
    let needTray := k = 0xFF ∨ fatal
    let s := recordFailure r cause 1 (if needTray then 8 else k) s
    let s := updRail r (fun x => { x with lastCause := cause, supervised := false }) s
    let s := raise uSEQ 0 .contained { unit := r, w2 := w32 cause } s
    let s := if needTray then startTrayHold false s else startHold k false s
    let s := if ovoc then commandRail r false s else s
    note (.slotFault k) s

/-- POWER_FAIL_HOLD_EXPIRY (R120 step 4, R121, R187): every hold that has ended starts its power-down, slots before the tray. A hold that ends during adoption waits for
it: no slot is classed before (R126, log 99). -/
def doPowerFailHoldExpiry (s : State) : State :=
  if s.seq.adopting then s
  else
  let due := (s.seq.holds.filter (fun e => decide (e.2.start + e.2.holdUs * us ≤ s.now)))
  let s := { s with seq.holds := s.seq.holds.filter (fun e => !decide (e.2.start + e.2.holdUs * us ≤ s.now)) }
  (releasePfw (forEach due (fun e s =>
    if e.1 = 8 then
      (if s.seq.trayState = 2 ∨ s.seq.trayState = 3 then trayDown (!e.2.commanded) s
       else if s.seq.trayState = 4 then s else episodeDown 8 (note (.powerDown 0xFF) { s with seq.pfwKeys := sdel s.seq.pfwKeys 8 }))
    else if slotState s e.1 = 3 ∨ slotState s e.1 = 4 then slotDown e.1 (!e.2.commanded) s
    else if slotState s e.1 = 5 then s
    else
      let s := if slotState s e.1 = 2 then setSlotState e.1 1 s else s
      episodeDown e.1 (note (.powerDown e.1) { s with seq.pfwKeys := sdel s.seq.pfwKeys e.1 })) s))

/-- STEP_TIMEOUT (R108, R118, R122). -/
def doStepTimeout (graph : Fin 18) (step : Fin 64) (s : State) : State :=
  let g := graph.val; let i := step.val
  let x := stepRun s g i
  if stepTick s ∧ x.state = .active ∧ x.fail = 0 ∧ x.cmdAt + x.timeoutUs * us ≤ s.now ∧ ¬ stepQualifies s g i then
    if (stepRec s g i).action = 1 then (enableFail g i 0x08 s)
    else (downFailure (stepRec s g i).rail 0x0A s)
  else s

/-- A step has spent more than 1 s in QUEUED (R130 row 5): said once. -/
def queueLong (g i : Nat) (s : State) : State :=
  let x := stepRun s g i
  if x.state = .queued ∧ x.queuedAt + sec < s.now ∧ ¬ x.longSaid then
    (raise uSEQ 5 .corrected { unit := (stepRec s g i).rail } (updStep g i (fun y => { y with longSaid := true }) s))
  else s

/-- One step as the graph engine evaluates it on a tick (R108, R110): a failure decided since the last tick, a delay that has passed, a qualification, a timeout, a long wait. -/
def stepEval (g : Fin 18) (i : Fin 64) (s : State) : State :=
  let x := stepRun s g.val i.val
  match x.state with
  | .delay => doStepDelayDone g i s
  | .queued => queueLong g.val i.val s
  | .active =>
    if stepTick s ∧ x.fail ≠ 0 then
      (if (stepRec s g.val i.val).action = 1 then enableFail g.val i.val x.fail s else downFailure (stepRec s g.val i.val).rail x.fail s)
    else if stepQualifies s g.val i.val then doStepQualified g i s
    else doStepTimeout g i s
  | _ => s

/-- The graphs in the order of a tick: the tray's power-up before the slots it starts, its power-down after the slots it waits for. -/
def graphOrder : List (Fin 18) := [16, 0, 1, 2, 3, 4, 5, 6, 7, 8, 9, 10, 11, 12, 13, 14, 15, 17]

/-- The graph engine's part of a 10 µs tick (R110, R112): every step is evaluated, the charges of those that have left ACTIVE are released, and the queue is admitted. -/
def graphEngine (s : State) : State :=
  let s := forEach graphOrder (fun g s =>
    if (graphRun s g.val).state = .running then forEach ((List.finRange 64).take (graphSteps s g.val).length) (fun i s => stepEval g i s) s else s) s
  if fabricLost s then s else admitQueue 288 (releaseCharges s)

/-- A failure of an ACTIVE step is decided; the step fails on the 10 µs tick at or after it (R110). -/
def decideFail (g i cause : Nat) (s : State) : State :=
  let s := updStep g i (fun x => { x with fail := if x.fail = 0 then cause else x.fail }) s
  if h : g < 18 ∧ i < 64 then (if stepTick s then stepEval ⟨g, h.1⟩ ⟨i, h.2⟩ s else s) else s

/-- The ACTIVE ENABLE step of a rail, if any. -/
def activeEnable (s : State) (r : Nat) : Option (Nat × Nat) :=
  let g := if (railRec s r).slot = 0xFF then 16 else (railRec s r).slot
  ((List.range (graphSteps s g).length).find? (fun i =>
    (stepRec s g i).rail == r && (stepRec s g i).action == 1 && (stepRun s g i).state == .active)).map (fun i => (g, i))

/-- The DISABLE step of a rail in its down-graph is DONE. -/
def disableDone (s : State) (r : Nat) : Bool :=
  let g := if (railRec s r).slot = 0xFF then 17 else 8 + (railRec s r).slot
  (List.range (graphSteps s g).length).any (fun i =>
    (stepRec s g i).rail == r && (stepRec s g i).action == 2 && (stepRun s g i).state == .done)

/-- A rail's accepted power-good level (R108, R109, R119, R122). `pin` says that a pin gave it: its drop on a supervised rail is a running
fault at once, while a VS reading faults by its window (R119). A return of power-good during an ACTIVE DISABLE restarts its timer and is counted as no drop (DEDUCED, log 116). -/
def railPg (r : Nat) (good pin : Bool) (s : State) : State :=
  let x := railSt s r
  if x.pg = good then s
  else
    let s := updRail r (fun x => { x with pg := good, pgSince := s.now }) s
    if good then
      if (x.state = .off ∨ x.state = .failed) ∧ downStarted s (railRec s r).slot ∧ disableDone s r then downFailure r 0x0B s else s
    else
      match activeEnable s r with
      | some (g, i) =>
        let n := (stepRun s g i).drops + 1
        let s := updRail r (fun x => { x with used := min 255 n }) (updStep g i (fun x => { x with drops := n, goodReads := 0 }) s)
        if (stepRun s g i).restarts < n then decideFail g i 0x09 s else s
      | none =>
        if pin ∧ x.state = .on ∧ x.supervised then runningFault r 0x01 false s else s

/-- PG_CHANGE (R109): the pin's level after its deglitch, to every rail that names the pin. Failures of one tick come in rail order (R124). -/
def doPgChange (pin : Fin 128) (level : Bool) (s : State) : State :=
  (forEach ((railsInUse s).filter (fun r => (railRec s r).pg == pin.val)) (fun r s =>
    railPg r (level != ((railRec s r).flags / 2 % 2 == 1)) true s)
    { s with seq.pgPin := tput s.seq.pgPin pin.val (if level then 2 else 1) })

/-- A VS reading in millivolts for the rails that name the channel (R109, R119). -/
def railVsReading (ch mv : Nat) (s : State) : State :=
  forEach ((railsInUse s).filter (fun r => (railRec s r).pg == 0x8000 + ch)) (fun r s =>
    let low := decide (railUv s r ≠ 0 ∧ mv < railUv s r)
    let high := decide (railOv s r ≠ 0 ∧ railOv s r < mv)
    let s := updRail r (fun x => { x with
      vsSeen := true, vsOut := if low || high then (match x.vsOut with | some t => some t | none => some s.now) else none, vsHigh := high }) s
    railPg r (!low && !high) false s) s

/-- VS_WINDOW_FAULT (R119): an ON rail's reading has been outside its window for longer than QUAL_US. -/
def doVsWindowFault (rail : Fin 256) (s : State) : State :=
  let r := rail.val
  let x := railSt s r
  match x.vsOut with
  | some t =>
    if x.state = .on ∧ x.supervised ∧ t + railQualUs s r * us < s.now then
      (runningFault r (if x.vsHigh then 0x03 else 0x02) x.vsHigh s)
    else s
  | none => s

/-- A completed status read of a rail (R109, R119, R123): `res` 0 for a good read, 1 for a failure to acknowledge, 2 for an end that is neither and changes nothing; `ov`, `oc`,
`notGood` as the status shows, and `fault` for bit 1 of a sideband status. -/
def railStatusRead (r res : Nat) (ov oc notGood fault : Bool) (s : State) : State :=
  let ok : Bool := res == 0
  let s := updRail r (fun x => { x with reading := false, failReads := if ok then 0 else if res = 1 then x.failReads + 1 else x.failReads }) s
  if res = 2 then s
  else
  let method := (railRec s r).method
  let noResp := if method = 2 then 0x05 else 0x07
  let lost := if fault then 0x07 else 0x01
  match activeEnable s r with
  | some (g, i) =>
    if ¬ byReads s r then s
    else if ok then
      let s := updStep g i (fun x => { x with failReads := 0 }) s
      if ¬ notGood then railPg r true false (updStep g i (fun x => { x with goodReads := x.goodReads + 1 }) s)
      else railPg r false false s
    else
      let n := (stepRun s g i).failReads + 1
      let s := updStep g i (fun x => { x with failReads := n }) s
      if 3 ≤ n then decideFail g i noResp s else s
  | none =>
    if (railSt s r).state = .on ∧ (railSt s r).supervised then
      if ok then
        if ov then runningFault r 0x03 true s
        else if oc then runningFault r 0x04 true s
        else if notGood then runningFault r lost false s
        else s
      else if 3 ≤ (railSt s r).failReads then runningFault r noResp false s
      else s
    else if (railSt s r).state = .disabling ∧ byReads s r then
      let g := if (railRec s r).slot = 0xFF then 17 else 8 + (railRec s r).slot
      match (List.range (graphSteps s g).length).find? (fun i => (stepRec s g i).rail == r && (stepRun s g i).state == .active) with
      | some i =>
        if ok then
          if notGood then railPg r false false (updStep g i (fun x => { x with badReads := x.badReads + 1, failReads := 0 }) s)
          else railPg r true false (updStep g i (fun x => { x with badReads := 0, failReads := 0 }) s)
        else
          let n := (stepRun s g i).failReads + 1
          let s := updStep g i (fun x => { x with failReads := n }) s
          if 3 ≤ n then decideFail g i noResp s else s
      | none => s
    else s

/-- VOUT_MODE of an ENABLE is not ULINEAR16 (R103). -/
def railModeBad (r : Nat) (s : State) : State :=
  match activeEnable s r with
  | some (g, i) => decideFail g i 0x06 s
  | none => s

/-- QUEUE_WAIT_LONG (R130 row 5). -/
def doQueueWaitLong (graph : Fin 18) (step : Fin 64) (s : State) : State :=
  (queueLong graph.val step.val s)

/-! ### Commands (R115–R117) -/

/-- A thermal shutdown latch covers slot `k`, or the tray (R117, R188). -/
def shutLatched (s : State) (k : Nat) : Bool := s.und.shutLatch.contains 8 || (k != 0xFF && s.und.shutLatch.contains k)

def firstSlot (l : List Nat) (p : Nat → Bool) : Option Nat := l.find? p

/-- Judge a command word: result code and the first failing slot (R116, R117). -/
def judgeSeq (w : Word) (s : State) : Nat × Nat :=
  let op := fld w 3 0
  let mask := fld w 23 16
  let tray := bit w 15
  let ks := maskBits 8 mask
  let named := if op = 4 then [] else ks
  if s.seq.trayState = 0 then (7, 0)
  else if 6 ≤ op ∨ (tray ∧ op ≠ 5) ∨ ((op = 1 ∨ op = 2) ∧ mask = 0) ∨ (op = 5 ∧ mask = 0 ∧ ¬ tray) then (2, 0)
  else
    match firstSlot named (fun k => !slotHasRails s k) with
    | some k => (6, k)
    | none =>
      let latchedTray := (op = 1 ∨ op = 3) ∧ (s.seq.trayState = 5 ∨ shutLatched s 0xFF)
      match (if op = 1 ∨ op = 3 then firstSlot ks (fun k => slotState s k == 6 || shutLatched s k) else none) with
      | some k => (3, k)
      | none =>
        if latchedTray then (3, 0)
        else if op = 1 ∧ (s.seq.trayState = 1 ∨ s.seq.trayState = 4) then (5, 0)
        else if op = 1 then
          match firstSlot ks (fun k => slotState s k != 1 && slotState s k != 7) with
          | some k => (1, k)
          | none => (0, 0)
        else if op = 2 then
          match firstSlot ks (fun k => slotState s k != 2 && slotState s k != 3 && slotState s k != 4 && slotState s k != 7) with
          | some k => (1, k)
          | none => (0, 0)
        else if op = 3 then
          (if s.seq.trayState = 1 ∨ s.seq.trayState = 6 then
            match firstSlot ks (fun k => slotState s k != 1 && slotState s k != 7) with | some k => (1, k) | none => (0, 0)
           else (1, 0))
        else if op = 4 then (if s.seq.trayState = 2 ∨ s.seq.trayState = 3 ∨ s.seq.trayState = 6 then (0, 0) else (1, 0))
        else
          if tray ∧ s.seq.trayState ≠ 5 ∧ s.seq.trayState ≠ 6 then (1, 0)
          else match firstSlot ks (fun k => slotState s k != 6 && slotState s k != 7) with
            | some k => (1, k)
            | none => (0, 0)

/-- A hold applies to the command (R117): adoption holds all, a structural apply under way holds power-ups (R97). -/
def seqHolds (w : Word) (s : State) : Bool :=
  s.seq.adopting ||
  ((fld w 3 0 == 1 || fld w 3 0 == 3) && (s.gld.state == .standbyApply || (s.cfg.state == 4 && s.gld.state != .running)))

/-- The effect of a command that nothing refuses (R116). -/
def runSeq (w : Word) (s : State) : State :=
  let op := fld w 3 0
  let ks := maskBits 8 (fld w 23 16)
  if op = 1 then
    forEach ks (fun k s => if s.seq.trayState = 3 then startGraph k (setSlotState k 3 s) else setSlotState k 2 s) s
  else if op = 2 then
    forEach ks (fun k s => if slotState s k = 2 then cancelHeldUp k (setSlotState k 1 s) else slotDown k false s) s
  else if op = 3 then
    let s := forEach ks (fun k s => setSlotState k 2 s) { s with seq.trayState := 2 }
    graphCheck 16 (startGraph 16 s)
  else if op = 4 then trayDown false s
  else
    let s := forEach ks (fun k s => setSlotState k 1 (clearFailedRails k s)) s
    let s := if bit w 15 then { clearFailedRails 0xFF s with seq.trayState := 1 } else s
    { s with seq.ffr := {}, seq.ffrValid := false }
where
  /-- FAILED rails of a cleared slot or tray are off again. -/
  clearFailedRails (k : Nat) (s : State) : State :=
    forEach (railsOf s k) (fun r s => updRail r (fun x => if x.state = .failed then { x with state := .off } else x) s) s

/-- Judge, hold or run (R117). -/
def actSeq (w : Word) (s : State) : State :=
  let j := judgeSeq w s
  let s := { s with seq.cmdTag := fld w 31 24, seq.cmdSlot := j.2 }
  if j.1 ≠ 0 then { s with seq.cmdResult := j.1, seq.cmdCount := inc8 s.seq.cmdCount }
  else if seqHolds w s then { s with seq.held := some w, seq.cmdResult := 4 }
  else runSeq w { s with seq.cmdResult := 0, seq.cmdCount := inc8 s.seq.cmdCount }

/-- A new TAG in SEQ_CMD (R115, R117): OP 0 does nothing and its TAG counts as acted on; a command that arrives while another is held
replaces it. -/
def seqCommand (w : Word) (s : State) : State :=
  if fld w 31 24 = lastTag s 0x080010 then s
  else
    let s := setTag 0x080010 (fld w 31 24) s
    if fld w 3 0 = 0 ∧ ¬ bit w 15 then { s with seq.cmdTag := fld w 31 24 }
    else actSeq w (supersede s)

/-- SEQ_CMD accepts writes from PWR and SEC only (R115, R130 row 6). -/
def seqCmdWrite (path : Path) (w : Word) (s : State) : State :=
  if path = .proc .pwr ∨ path = .proc .sec then seqCommand w (setPair 0x080010 w s)
  else raise uSEQ 6 .contained { path := pathCode path, w1 := some 0x080010, w2 := w } s

def seqWord (op tag mask : Nat) (tray : Bool) : Word := w32 (tag * 2 ^ 24 + mask * 2 ^ 16 + (if tray then 32768 else 0) + op)

def doSeqSlotUp (path : Path) (tag mask : Byte) (s : State) : State :=
  (seqCmdWrite path (seqWord 1 tag.toNat mask.toNat false) s)
def doSeqSlotDown (path : Path) (tag mask : Byte) (s : State) : State :=
  (seqCmdWrite path (seqWord 2 tag.toNat mask.toNat false) s)
def doSeqTrayUp (path : Path) (tag mask : Byte) (s : State) : State :=
  (seqCmdWrite path (seqWord 3 tag.toNat mask.toNat false) s)
def doSeqTrayDown (path : Path) (tag : Byte) (s : State) : State :=
  (seqCmdWrite path (seqWord 4 tag.toNat 0 false) s)
def doSeqClear (path : Path) (tag mask : Byte) (tray : Bool) (s : State) : State :=
  (seqCmdWrite path (seqWord 5 tag.toNat mask.toNat tray) s)
def doSeqNop (path : Path) (tag : Byte) (s : State) : State :=
  (seqCmdWrite path (seqWord 0 tag.toNat 0 false) s)

/-- HELD_COMMAND_RUN (R117): the hold has ended; the command is judged again and runs if nothing refuses it. -/
def heldCommandRun (s : State) : State :=
  match s.seq.held with
  | some w => if seqHolds w s then s else actSeq w { s with seq.held := none }
  | none => s

def doHeldCommandRun (s : State) : State := (heldCommandRun s)

/-- FFR_VALID_CLEAR (R124): writing 1 to VALID clears the mirror. The register is written by SEQ's owner and SEC (R383). -/
def doFfrValidClear (path : Path) (s : State) : State :=
  (withAuthority path 0x080208 0x80000000 (fun s => { s with seq.ffr := {}, seq.ffrValid := false }) s)

/-! ### Loading the table, and adoption (R114, R125–R128) -/

/-- Words of section 0x02's parameter part, by register offset (R104, R129). -/
def seqParWords (b : Bitstream) : Tab Word :=
  let rw := b.railPar.flatMap (fun e =>
    let o := railParOff e.1; let p := e.2
    [(o 0, w32 p.vset), (o 8, w32 (p.ov * 65536 + p.uv)), (o 16, w32 p.inrush), (o 24, w32 p.slew), (o 32, w32 p.qualUs), (o 40, w32 p.timeoutUs),
     (o 48, w32 p.restarts)])
  let tw := [(0x080040, w32 b.trayPar.shelfA), (0x080048, w32 b.trayPar.shelfSlew), (0x080050, w32 b.trayPar.holdUs)]
  let dw := b.graphs.flatMap (fun g => (List.range g.2.length).flatMap (fun i =>
    let d := ((g.2[i]?).map (·.delayUs)).getD 0
    [(0x086000 + 8 * (64 * g.1 + i), w32 d)]))
  rw ++ tw ++ dw

/-- Power-good of a rail by its pin's last accepted level (R109). -/
def pgPinGood (s : State) (q : RailRec) : Bool :=
  let l := tget 0 s.seq.pgPin q.pg
  if q.flags / 2 % 2 = 1 then l == 1 else l == 2

/-- A rail takes the accepted level of its power-good pin (R109). -/
def takePgPin (r : Nat) (s : State) : State :=
  let q := railRec s r
  if q.pg < 128 then updRail r (fun x => { x with pg := pgPinGood s q, pgSince := s.now }) s else s

/-- Load section 0x02 into SEQ (R114): after a power-on reset, a D3 exit or a STANDBY_APPLY the tray is STANDBY, every slot with rails OFF and any other ABSENT, every rail in use OFF and
every EN pin in use driven inactive; after a chip or SEQ block reset the table waits for adoption (R125). -/
def seqLoad (b : Bitstream) (s : State) : State :=
  let s := loadWords (seqParWords b) { s with seq.loaded := true, seq.rails := b.rails, seq.graphs := b.graphs }
  if s.seq.mustAdopt then s
  else
    let s := { s with seq.trayState := 1, seq.rail := s.seq.rail.filter (fun e => (railRec s e.1).method != 0) }
    let s := forEach (List.range 8) (fun k s => setSlotState k (if slotHasRails s k then 1 else 0) s) s
    forEach (railsInUse s) (fun r s =>
      let s := takePgPin r (updRail r (fun x => { lastCause := x.lastCause, used := x.used, state := .off }) s)
      if (railRec s r).method = 1 then drivePin (.en (railRec s r).enOrCmd) (enLevel (railRec s r) false) s else s) s

/-- The adoption reads of a rail over its port: OPERATION and STATUS_WORD of a PMBUS rail, the status of a SIDEBAND rail (R126 step 1). -/
def adoptOp (r : Nat) (q : RailRec) : TwOp :=
  { owner := .seqRail r, kind := if q.method = 2 then .adoptRead else .sidebandAdopt, addr := q.addr, page := q.page, value := q.enOrCmd / 256 }

/-- SEQ_ADOPTION_START (R125, R126): section 0x02 has loaded after a chip or SEQ block reset. -/
def doSeqAdoptionStart (s : State) : State :=
  if s.seq.mustAdopt ∧ s.seq.loaded ∧ ¬ s.seq.adopting then
    let s := { s with seq.adopting := true, seq.trayState := 6 }
    let s := forEach (List.range 8) (fun k s => if slotHasRails s k then setSlotState k 7 s else s) s
    (forEach (railsInUse s) (fun r s =>
      let s := takePgPin r s
      if (railRec s r).method = 2 ∨ (railRec s r).method = 3 then twSubmit (railRec s r).port (adoptOp r (railRec s r)) s else s) s)
  else s

/-- Rails of a group are all of one class. -/
def groupClass (s : State) (k c : Nat) : Bool := (railsOf s k).all (fun r => (railSt s r).cls == c)

/-- Start the power-downs of R127 for groups whose every output has been handed over; a group that has gone down meanwhile is left. -/
def adoptTakeDown (s : State) : State :=
  let s := if s.seq.takeDownTray ∧ (railsOf s 0xFF).all (railHanded s) then
      (let s := { s with seq.takeDownTray := false }
       if s.seq.trayState = 3 ∨ s.seq.trayState = 4 then trayDown true s else s) else s
  forEach s.seq.takeDown (fun k s =>
    if (railsOf s k).all (railHanded s) then
      (let s := { s with seq.takeDown := sdel s.seq.takeDown k }
       if slotState s k = 4 ∨ slotState s k = 5 then slotDown k true s else s) else s) s

/-- Arm supervision of adopted rails whose outputs have been handed over (R126 step 4). -/
def adoptArm (s : State) : State :=
  forEach (railsInUse s) (fun r s =>
    if (railSt s r).cls ≠ 0 ∧ (railSt s r).state = .on ∧ ¬(railSt s r).supervised ∧ railHanded s r then
      updRail r (fun x => { x with supervised := true }) s else s) s

/-- ADOPT_CLASSIFY (R126 step 5, R127): with every rail classed, the tray and slots are classed and mixed groups marked to be taken down.
What a shutdown latch of the Understory covers and is found ON goes down after its hold (R187, log 99). -/
def adoptClassify (s : State) : State :=
  if s.seq.adopting ∧ (railsInUse s).all (fun r => (railSt s r).cls != 0) then
    let trayOff := groupClass s 0xFF 2 && (railsOf s 0xFF != [] || (railsInUse s).all (fun r => (railSt s r).cls == 2))
    let trayOn := groupClass s 0xFF 1
    let s := forEach (List.range 8) (fun k s =>
      if ¬ slotHasRails s k then s
      else if groupClass s k 2 then setSlotState k 1 s
      else if groupClass s k 1 then { setSlotState k 4 s with seq.adoptedOn := sadd s.seq.adoptedOn k }
      else
        let r := ((railsOf s k).find? (fun r => (railSt s r).cls == 3)).getD ((railsOf s k).headD 0)
        let s := recordFailure r 0x0C 4 k s
        let s := raise uSEQ 3 .contained { unit := k, w2 := w32 r } s
        { setSlotState k 4 s with seq.mismatch := sadd s.seq.mismatch k, seq.takeDown := sadd s.seq.takeDown k
                                  seq.adoptedOn := sadd s.seq.adoptedOn k }) s
    let s := if trayOff then { s with seq.trayState := 1 }
      else
        let s := enterTrayRunning { s with seq.trayState := 3, seq.adoptedRunning := true }
        if trayOn then s
        else
          let r := ((railsOf s 0xFF).find? (fun r => (railSt s r).cls == 3)).getD ((railsOf s 0xFF).headD 0)
          let s := recordFailure r 0x0C 4 8 s
          let s := raise uSEQ 3 .contained { unit := 0xFF, w2 := w32 r } s
          { s with seq.trayMismatch := true, seq.takeDownTray := true }
    let s := forEach s.und.shutLatch (fun k s =>
      if k = 8 then (if s.seq.trayState = 3 then startTrayHold true s else s)
      else if slotState s k = 4 then startHold k true s else s) s
    adoptTakeDown { s with seq.adopting := false, seq.mustAdopt := false, seq.classed := true, seq.adopted := true, seq.adoptDone := true }
  else s

/-- A rail is commanded on as its reads show (R126 step 1): a PIN rail by its latch, a FOLLOWER as its leader, any other by what its port's reads showed. -/
def adoptOn (s : State) (r : Nat) (on : Bool) : Bool :=
  let q := railRec s r
  if q.method = 1 then (latchOf s (.en q.enOrCmd)).level == enLevel q true
  else if q.method = 4 then (railSt s q.leader).cmdOn else on

/-- A rail's power-good as its reads show: the accepted level of its pin, the window of its channel once it has been compared, or the method's own status. -/
def adoptGood (s : State) (r : Nat) (good : Bool) : Bool :=
  let q := railRec s r
  if q.pg < 128 then pgPinGood s q
  else if q.pg ≠ 0xFFFF ∧ (railSt s r).vsSeen then (railSt s r).pg else good

/-- Class a rail whose reads are complete (R126 step 2); a FOLLOWER waits for its leader's class. -/
def adoptRail (r : Nat) (on good : Bool) (s : State) : State :=
  if (railRec s r).method = 4 ∧ (railSt s (railRec s r).leader).cls = 0 then s
  else
    let on := adoptOn s r on
    let good := adoptGood s r good
    let cls := if on && good then 1 else if !on && !good then 2 else 3
    updRail r (fun x => { x with cls := cls, cmdOn := on, pg := good, pgSince := s.now, state := if cls = 2 then .off else .on }) s

/-- ADOPT_RAIL_READ_DONE (R126 steps 1 and 2): `on` is what a PMBUS or SIDEBAND rail is commanded to by its readback, `good` the power-good of a rail whose own status gives it. -/
def doAdoptRailReadDone (rail : Fin 256) (on good : Bool) (s : State) : State :=
  let r := rail.val
  if s.seq.adopting ∧ (railRec s r).method ≠ 0 ∧ (railSt s r).cls = 0 then (adoptClassify (adoptRail r on good s)) else s

/-- A PIN or FOLLOWER rail is read within one 10 µs tick (R126): its power-good is known. -/
def readsAtTick (s : State) (r : Nat) : Bool :=
  let q := railRec s r
  (q.method == 1 || q.method == 4) && (railSt s r).cls == 0 && (decide (q.pg < 128) || (railSt s r).vsSeen)

/-- Adoption's part of a 10 µs tick (R126): PFW_N and each level held by a rail whose reads are complete are presented, and the PIN and FOLLOWER rails are read, a leader before its
followers. -/
def adoptTick (s : State) : State :=
  if ¬ s.seq.adopting then s
  else
    let s := presentHeld .pfw s
    let s := forEach ((railsInUse s).filter (fun r => (railRec s r).method == 1)) (fun r s => if readsAtTick s r then adoptRail r false false s else s) s
    let s := forEach ((railsInUse s).filter (fun r => (railRec s r).method == 4)) (fun r s => if readsAtTick s r then adoptRail r false false s else s) s
    forEach (railsInUse s) (fun r s =>
      let q := railRec s r
      let l := latchOf s (.en q.enOrCmd)
      if q.method = 1 ∧ (railSt s r).cls ≠ 0 ∧ l.held ∧ l.want = none then drivePin (.en q.enOrCmd) (enLevel q (railSt s r).cmdOn) s else s) s

/-- SEQ's part of a tick: holds that have ended, adoption and the graph engine on the 10 µs tick, status reads every 100 µs for a qualifying rail and every 10 ms for an ON rail
(R109, R110, R112, R119, R120, R126). -/
def seqTick (c : Nat) (s : State) : State :=
  if c = 1 then graphEngine (doPowerFailHoldExpiry (adoptTakeDown (adoptArm (adoptClassify (adoptTick s)))))
  else if c = 2 then
    forEach (railsInUse s) (fun r s =>
      if byReads s r ∧ ((railSt s r).state = .enabling ∨ (railSt s r).state = .disabling) then readRailStatus r s else s) s
  else if c = 4 then
    forEach (railsInUse s) (fun r s => if (railSt s r).state = .on then readRailStatus r s else s) s
  else s

end Sys2Proof.Machine
end

