-- ==== Sys2Proof/Machine/Shp.lean ====
section
/-! DEFINITION. Shaping and capping: tray metering, fast trip, the 10 µs pass, the cap combiner, leases and cap messages, valley fill, and
the contract (05_power_shaping_and_contract.md R131–R163, 01_tray_steward_architecture.md R28–R32). Powers are integers of 2^-16 W. -/

namespace Sys2Proof.Machine

def uSHP : FUnit := .block 0x09

def shpSlot (s : State) (k : Nat) : ShpSlot := tget {} s.shp.slot k
def updShp (k : Nat) (f : ShpSlot → ShpSlot) (s : State) : State := { s with shp.slot := tupd {} s.shp.slot k f }

/-- Watts as 2^-16 W. -/
def wq (w : Nat) : Int := (w : Int) * 65536

/-- RATED_W and FALLBACK_W of a slot (section 0x09 header, R157). -/
def contractSec (s : State) : ContractSec := match s.cfg.running with | some b => b.contract | none => {}
def ratedW (s : State) (k : Nat) : Int := wq (((contractSec s).rated[k]?).getD 0)
def fallbackW (s : State) (k : Nat) : Int := wq (((contractSec s).fallback[k]?).getD 0)

/-- A power as a Q16.16 register word, clamped to the register. -/
def qWord (x : Int) : Word := wInt (clampTo (-2147483648) 2147483647 x).1
/-- A power as a Q24.8 word. -/
def q8Word (x : Int) : Word := wInt (clampTo (-2147483648) 2147483647 (qdiv x 256)).1
/-- A non-negative power in whole watts. -/
def wattsOf (x : Int) : Nat := (qdiv (max x 0) 65536).toNat

/-- Live SHP parameters (SHP register map). -/
def tripHoldUs (s : State) : Nat := (liveWord s 0x090048).toNat
def rampUpWms (s : State) : Nat := (liveWord s 0x090060).toNat
def rampDownWms (s : State) : Nat := (liveWord s 0x090068).toNat
def staggerUs (s : State) : Nat := (liveWord s 0x090070).toNat
def trimKi (s : State) : Nat := (liveWord s 0x090078).toNat
def trimMaxW (s : State) : Nat := (liveWord s 0x090080).toNat
def vfTimeoutUs (s : State) : Nat := (liveWord s 0x090088).toNat
def vfEnabled (s : State) (k : Nat) : Bool := bit (liveWord s 0x090098) k
def vfPin (s : State) (k : Nat) : Bool := bit (liveWord s 0x090098) (8 + k)
def pinHint (s : State) (k : Nat) : Word := liveWord s (0x090430 + 0x40 * k)

/-! ### Contract time and the schedule in force (R157–R160) -/

def minuteCount (s : State) : Nat := s.now / minuteNs

/-- The minute of the day of minute count `m` (R157 with the day offset of TBS). -/
def dayMinute (s : State) (m : Nat) : Nat := (m + dayOffsetMin s) % 1440

/-- Entry in force at minute `md` of the day: the last whose START_MIN is not after it. -/
def entryAt (l : List SchedEntry) (md : Nat) : Nat :=
  (List.range l.length).foldl (fun b i => if ((l[i]?).map (·.startMin)).getD 0 ≤ md then i else b) 0

/-- The flat default of section 0x09 (R157 item 3). -/
def flatEntry (cap : Nat) : SchedEntry := ⟨0, cap, 0, 0, 0, 65536⟩

/-- SOURCE, entry index, and the entry in force; none when there is no tray allowance (R157). -/
def contractAt (s : State) (m : Nat) : Nat × Nat × Option SchedEntry :=
  let fromList := fun (src : Nat) (l : List SchedEntry) =>
    let i := entryAt l (dayMinute s m); (src, i, l[i]?)
  let c := contractSec s
  let dflt := if c.entries ≠ [] then fromList 2 c.entries
    else if c.defaultCap ≠ 0 then (1, 0, some (flatEntry c.defaultCap)) else (0, 0, none)
  match s.shp.armed with
  | some d =>
    if d.from_ ≤ m ∧ m < d.until_ then fromList 3 d.entries
    else match s.shp.inForce with
      | some d => if d.from_ ≤ m ∧ m < d.until_ then fromList 3 d.entries else dflt
      | none => dflt
  | none =>
    match s.shp.inForce with
    | some d => if d.from_ ≤ m ∧ m < d.until_ then fromList 3 d.entries else dflt
    | none => dflt

/-- The first later minute, within a day, at which another cap comes into force, with that cap (R160). -/
def nextCap : Nat → State → Nat → Nat → Option (Nat × Nat)
  | 0, _, _, _ => none
  | fuel + 1, s, m, cap =>
    match (contractAt s (m + 1)).2.2 with
    | some e => if e.capW ≠ cap then some (m + 1, e.capW) else nextCap fuel s (m + 1) cap
    | none => none

/-! ### Fast trip (R135–R139) -/

/-- TRIP_HI of channel 163 and TRIP_LO of channel 162 (Q16.16). -/
def tripHi163 (s : State) : Int := senseParOf s 163 6
def tripLo162 (s : State) : Int := senseParOf s 162 7

/-- Throttle level a comparator requests. -/
def compLevel : Comparator → Nat
  | .i1 => 1 | .i2 => 2 | .i3 => 3 | .uv => 3
def compNum : Comparator → Nat
  | .i1 => 0 | .i2 => 1 | .i3 => 2 | .uv => 3

/-- Percent of TRIP_HI at which a comparator trips (R135). -/
def compPct (s : State) (c : Nat) : Nat :=
  if c = 0 then fld (liveWord s 0x090040) 15 8 else if c = 1 then fld (liveWord s 0x090040) 23 16 else 100
def hystPct (s : State) : Nat := fld (liveWord s 0x090040) 31 24

def compEnabled (s : State) (c : Nat) : Bool := if c = 3 then tripLo162 s != 0 else tripHi163 s != 0

/-- A raw sample is inside a comparator's release threshold (R137), current `i` and voltage `v` in Q16.16. R137 takes HYST_PCT of TRIP_HI, which R135 ignores on channel 162: for UV
the model takes it of TRIP_LO (DESIGN CHOICE, log 121). -/
def compReleased (s : State) (c : Nat) (v i : Int) : Bool :=
  if c = 3 then decide (tripLo162 s * 100 + tripLo162 s * (hystPct s : Int) < v * 100)
  else decide (i * 100 < tripHi163 s * ((compPct s c : Int) - (hystPct s : Int)))

/-- A raw sample beyond a comparator's threshold (R135). -/
def compTrips (s : State) (c : Nat) (v i : Int) : Bool :=
  if c = 3 then decide (v < tripLo162 s) else decide (tripHi163 s * (compPct s c : Int) < i * 100)

def compOf (c : Nat) : Comparator := match c with | 0 => .i1 | 1 => .i2 | 2 => .i3 | _ => .uv

/-- A comparator of AFE0 trips (R135, R136): the level rises at once, whether the core die runs or not. -/
def afeTrip (c : Comparator) (s : State) : State :=
  if compEnabled s (compNum c) then
    { s with afe.tripLevel := max s.afe.tripLevel (compLevel c), afe.below := terase s.afe.below (compNum c), afe.on := sadd s.afe.on (compNum c) }
  else s

/-- FAST_TRIP (R136, R139, R171): the level rises at once, floors are withdrawn and the pins follow. A crossing that raises the level is recorded, and so is every crossing of UV: ITEM 0 and 1
for levels 1 and 2, and for level 3 and UV (R461). -/
def fastTrip (c : Comparator) (s : State) : State :=
  if compEnabled s (compNum c) then
    let was := s.afe.tripLevel
    let anew := !s.afe.on.contains (compNum c)
    let s := afeTrip c s
    let lvl := s.afe.tripLevel
    let s := writeFixedSignal 0x09 0x0030 (w32 lvl) false s
    let s := if was = 0 then { s with shp.cur.trips := satInc 65535 s.shp.cur.trips } else s
    let s := if was < 3 ∧ lvl = 3 then rcdTrigger 3 s else s
    if c = .uv then (if anew then raise uSHP 1 .contained { item := 1 } s else s)
    else if lvl ≤ was then s
    else if lvl = 3 then raise uSHP 1 .contained {} s
    else raise uSHP 0 .corrected { item := lvl - 1 } s
  else s

/-- In D3 the standby part of AFE0 alone runs (R14). -/
def doFastTrip (c : Comparator) (s : State) : State := if s.pmd.state = 3 then afeTrip c s else fastTrip c s

/-- TRIP_LEVEL_FALL (R137): every enabled comparator of the present level has been released for TRIP_HOLD_US, counted from the previous fall at the earliest (log 100). -/
def doTripLevelFall (s : State) : State :=
  let lvl := s.afe.tripLevel
  let cs := (if lvl = 1 then [0] else if lvl = 2 then [1] else if lvl = 3 then [2, 3] else []).filter (fun c => compEnabled s c)
  let ok := cs.all (fun c => match tfind s.afe.below c with
    | some t => decide (t + tripHoldUs s * us ≤ s.now)
    | none => false)
  if 0 < lvl ∧ ok ∧ s.afe.fellAt + tripHoldUs s * us ≤ s.now then
    let s := { s with afe.tripLevel := lvl - 1, afe.fellAt := s.now }
    if s.pmd.state = 3 then s else writeFixedSignal 0x09 0x0030 (w32 (lvl - 1)) false s
  else s

/-! ### Tray sampling (R131–R134) -/

/-- Current in Q16.16 A as AFE0 takes it: it saturates at 400 A (R132). -/
def satAmps (i : Word) : Int := min i.toInt 26214400

/-- What AFE0 does with a sample pair by itself (R14, R133, R135): signed power adds to the accumulator, and the window comparators judge the raw samples. Power is in 2^-32 W over 1 µs; a
millijoule is 1000 W·µs. -/
def afeSample (v i : Word) (s : State) : State :=
  let vi := v.toInt
  let ii := satAmps i
  let tot := s.afe.accFrac + vi * ii
  let mj : Int := tot / (1000 * 4294967296)
  let s := { s with afe.accum := s.afe.accum + mj, afe.accFrac := tot - mj * (1000 * 4294967296) }
  forEach [0, 1, 2, 3] (fun c s =>
    if compReleased s c vi ii then
      (match tfind s.afe.below c with
        | some _ => s
        | none => { s with afe.below := tput s.afe.below c s.now, afe.on := sdel s.afe.on c })
    else { s with afe.below := terase s.afe.below c }) s

/-- The comparators that a raw sample trips, lowest level first (R135). -/
def samplesTrip (v i : Word) (s : State) : List Nat := [0, 1, 2, 3].filter (fun c => compEnabled s c && compTrips s c v.toInt (satAmps i))

/-- Every tenth sample writes the means (R131), and feeds the 100 ms window once one has begun (R134). -/
def sampleMeans (s : State) : State :=
  if s.afe.samples < 10 then s
  else
    let mv := qdiv s.afe.sumV 10
    let mi := qdiv s.afe.sumI 10
    let mp := qdiv s.afe.sumP (10 * 65536)
    let s := { s with afe.samples := 0, afe.sumV := 0, afe.sumI := 0, afe.sumP := 0, shp.inV := mv, shp.inI := mi, shp.inP := mp }
    let s := if s.shp.winOpen then { s with shp.winSum := s.shp.winSum + mp, shp.winCount := s.shp.winCount + 1 } else s
    let bad := s.shp.meterFault
    (writeSignal 164 (q8Word mp) bad (writeSignal 163 (qWord mi) bad (writeSignal 162 (qWord mv) bad s)))

/-- The pair of a sample converted by SCALE and OFFSET of channels 162 and 163, where section 0x03 has records of them (R132, R172). -/
def trayConverted (s : State) (c : Nat) (raw : Word) : Word :=
  if s.und.senseRecs.any (fun r => r.index == c) then gainOffset s c raw else raw

/-- TRAY_SAMPLE: one sample pair in Q16.16 V and A, before its conversion. Current beyond 400 A saturates and marks the record METER_FAULT (R132). `ok` is false while AFE0 reports its metering
faulted. In D3 only AFE0's standby part takes the sample. -/
def doTraySample (v i : Word) (ok : Bool) (s : State) : State :=
  let v := trayConverted s 162 v
  let i := trayConverted s 163 i
  let s := afeSample v i s
  if s.pmd.state = 3 then forEach (samplesTrip v i s) (fun c s => afeTrip (compOf c) s) s
  else
    let s := if 26214400 < i.toInt ∨ ¬ ok then { s with shp.cur.flags := s.shp.cur.flags ||| 2 } else s
    let s := if ¬ ok ∧ ¬ s.shp.meterFault then raise uSHP 8 .contained {} { s with shp.meterFault := true }
      else if ok then { s with shp.meterFault := false } else s
    let s := forEach (samplesTrip v i s) (fun c s => fastTrip (compOf c) s) s
    sampleMeans { s with afe.samples := s.afe.samples + 1, afe.sumV := s.afe.sumV + v.toInt, afe.sumI := s.afe.sumI + satAmps i
                         afe.sumP := s.afe.sumP + v.toInt * satAmps i }

/-! ### Slot data (R142) -/

/-- The two-wire port whose SB_SLOT names a slot. -/
def sidebandPort (s : State) (k : Nat) : Option Nat := (s.twpCfg.find? (fun e => e.2.sbSlot == k)).map (·.1)
/-- A slot's port DN is ACTIVE, so its path is GCL. -/
def viaGcl (s : State) (k : Nat) : Bool := portActive s (dnPort k)
def freshNs (s : State) (k : Nat) : Nat := if viaGcl s k ∨ sidebandPort s k = none then ms else 50 * ms
def telStale (s : State) (k : Nat) : Bool :=
  match (shpSlot s k).freshAt with
  | some t => decide (t + freshNs s k < s.now)
  | none => true

/-- A slot whose rails are up or moving: POWERING_UP, ON, POWERING_DOWN or ADOPTING. -/
def slotPowered (s : State) (k : Nat) : Bool := slotState s k == 3 || slotState s k == 4 || slotState s k == 5 || slotState s k == 7

/-- A draw read over the sideband waits for the demand read that follows it (R142, log 118). -/
def telemetryDraw (k : Nat) (draw : Int) (s : State) : State := updShp k (fun x => { x with sbDraw := some draw }) s

/-- New draw and demand of a slot, from either path (R142). -/
def telemetry (k : Nat) (draw demand : Int) (s : State) : State :=
  let s := updShp k (fun x => { x with telDraw := draw, telDemand := demand, freshAt := some s.now, staleSaid := false, seen := true, sbDraw := none }) s
  writeFixedSignal 0x09 (0x0028 + k) (qWord demand) false (writeFixedSignal 0x09 (0x0020 + k) (qWord draw) false s)

/-- The demand read completes the pair of sideband reads. -/
def telemetryDemand (k : Nat) (demand : Int) (s : State) : State :=
  match (shpSlot s k).sbDraw with
  | some d => telemetry k d demand s
  | none => s

/-- The telemetry mirrors of GCL records: PRODUCER 0x16, bits 15:8 of SOURCE the field's offset in the body of R320, bits 7:0 the slot (DESIGN CHOICE, log 110). -/
def gclMirrors (s : State) : List SignalRec := s.gld.signals.filter (fun r => r.producer == 0x16)

/-- A GCL record refreshes the mirrors of its slot (R41, R320). -/
def gclMirror (k : Nat) (power demand hotspot : Word) (s : State) : State :=
  forEach ((gclMirrors s).filter (fun r => r.source % 256 == k)) (fun r s =>
    let f := r.source / 256
    let w := if f = 4 then power else if f = 8 then demand else hotspot
    writeSignal r.index (fromWork r.type (toWork 0 w)).1 false { s with twp.mirOk := tput s.twp.mirOk r.index s.now }) s

/-- A GCL mirror goes stale when no record has come for its REFRESH_MS (R45, R320). -/
def gclMirrorLate (s : State) : State :=
  forEach (gclMirrors s) (fun r s =>
    let late : Bool := match tfind s.twp.mirOk r.index with | some t => decide (t + r.refreshMs * ms < s.now) | none => false
    if late ∧ ¬ (tget {} s.gld.plane r.index).stale then staleSignal r.index s else s) s

/-- TELEMETRY_RECORD (R320, R142): over GCL from the slot's port. -/
def doTelemetryRecord (slot : Fin 8) (power demand hotspot : Word) (s : State) : State :=
  if viaGcl s slot.val then gclMirror slot.val power demand hotspot (telemetry slot.val power.toInt demand.toInt s) else s

/-- TELEMETRY_STALE (R142, R171): a raise only on an ON slot. -/
def doTelemetryStale (slot : Fin 8) (s : State) : State :=
  let k := slot.val
  if telStale s k ∧ slotState s k = 4 ∧ ¬(shpSlot s k).staleSaid then
    raise uSHP 4 .corrected { unit := k } (updShp k (fun x => { x with staleSaid := true }) s)
  else s

/-! ### Lease keepers (R147, R148) -/

/-- The lease keeper of a slot: the loop slot whose VALUE input is signal 1,536 + k (R148). -/
def keeperOf (s : State) (k : Nat) : Option Nat :=
  (List.range 512).find? (fun n => (slotRec s n).prim == 8 && ((slotRec s n).ins[0]?) == some (1536 + k))

/-- The keeper's VALUE, the slot's effective cap, is stale: the keeper asks for no renewal while it lasts (R56). -/
def valueStale (s : State) (k : Nat) : Bool :=
  let g := tget {} s.gld.plane (1536 + k)
  g.stale || g.stale == g.staleC

def keeperValid (s : State) (k : Nat) : Bool :=
  match keeperOf s k with
  | some n => !(slotSt s n).stale && bit (slotSt s n).out 0
  | none => false

/-- Write the lease acknowledgement signal of a slot: bits 31:1 of the send time, bit 0 set (R148). -/
def writeAck (k sendUs : Nat) (s : State) : State :=
  writeFixedSignal 0x09 (0x0001 + k) (w32 (sendUs / 2 * 2 + 1)) false s

/-- MSG_ACK (R148): the acknowledged cap message is the one sent with that SEQ. -/
def doMsgAck (slot : Fin 8) (seq : BitVec 16) (s : State) : State :=
  match (shpSlot s slot.val).sent.find? (fun e => e.1 == seq.toNat) with
  | some e =>
    (writeAck slot.val e.2 (updShp slot.val (fun x => { x with sent := x.sent.filter (fun y => y.1 != seq.toNat) }) s))
  | none => s

/-- The timebase nanosecond of an expiry kept in microseconds modulo 2^32: the one nearest the present time. -/
def leaseExpiryNs (s : State) (e : Nat) : Time :=
  let n := s.now / us
  let d := (e + 4294967296 - n % 4294967296) % 4294967296
  (if d < 2147483648 then n + d else n + d - 4294967296) * us

def notW64 (x : Nat) : Nat := 18446744073709551615 - x

/-- Mirror the keeper's VALID to signal 1,544 + k and LEASEk, and its expiry to the Understory (R16, R148); a lapse on an ON slot raises row 3. -/
def leaseMirror (k : Nat) (s : State) : State :=
  match keeperOf s k with
  | none => s
  | some n =>
    let v := keeperValid s k
    let q := slotSt s n
    let s := match q.expiryUs with
      | some e =>
        let exp := leaseExpiryNs s e
        if v ∧ (tfind s.und.leaseExp k).map (·.expiry) ≠ some exp then
          { s with und.leaseExp := tput s.und.leaseExp k ⟨exp, notW64 exp⟩ } else s
      | none => s
    let was := (shpSlot s k).leaseValid
    let s := updShp k (fun x => { x with leaseValid := v }) s
    let s := writeSignal (1544 + k) (w32 (b2n v)) false s
    let s := drivePin (.lease k) (b2n v) s
    if was ∧ ¬ v ∧ slotState s k = 4 then raise uSHP 3 .contained { unit := k } s else s

/-! ### The cap combiner (R28–R31) -/

/-- The fault-cap figure of a slot: the lowest of the set sources' figures, RATED_W when none names it (R88). -/
def faultCap (s : State) (k : Nat) : Int :=
  match s.cfg.running with
  | none => ratedW s k
  | some b => b.react.foldl (fun m r =>
      if (r.capSlots).testBit k ∧ sourceSet s r.block r.source then min m (qdiv (ratedW s k * r.capPct) 100) else m) (ratedW s k)

/-- Write a combiner input as a pair (R28). -/
def writeCap (k i : Nat) (v : Int) (s : State) : State := { s with shp.capIn := tput s.shp.capIn (4 * k + i) (mkPair (qWord v)) }

/-- One input as the combiner takes it (R30): its value, or after a failed complement check the lower of its last valid value and the slot's
fallback cap. -/
def combineInput (k i : Nat) (s : State) : Int × State :=
  let key := 4 * k + i
  match tfind s.shp.capIn key with
  | none => (match tfind s.shp.capLast key with | some l => min l (fallbackW s k) | none => fallbackW s k, s)
  | some p0 =>
    let j := injectPair uSHP 2 k p0 s
    if pairOk j.1 then
      (j.1.value.toInt, { j.2 with shp.capLast := tput j.2.shp.capLast key j.1.value.toInt })
    else
      let v := match tfind s.shp.capLast key with
        | some l => min l (fallbackW s k)
        | none => fallbackW s k
      (v, raise uSHP 2 .corrected { unit := k, item := i, w1 := j.1.value, w2 := j.1.comp, w3 := w32 (0x090400 + 0x40 * k + 4 + 4 * i), inj := j.1 != p0 } j.2)

/-- CAP_COMBINE for one slot: the minimum of the four inputs, with its complement, to signal 1,536 + k (R28). -/
def combineSlot (k : Nat) (s : State) : State :=
  let a := combineInput k 0 s
  let b := combineInput k 1 a.2
  let c := combineInput k 2 b.2
  let d := combineInput k 3 c.2
  let cap := min (min a.1 b.1) (min c.1 d.1)
  writeSignal (1536 + k) (qWord cap) false (updShp k (fun x => { x with eff := cap }) d.2)

def capCombine (s : State) : State := forEach (List.range 8) combineSlot s

/-! ### Cap messages (R147, R149) -/

/-- CAP_MESSAGE_SEND: the message of R147 over GCL, or over sideband at most once a millisecond (R149). -/
def sendCap (k : Nat) (s : State) : State :=
  let x := shpSlot s k
  let flags := (if 0 < x.floorGrant then 1 else 0) + (if x.headGo then 2 else 0) + (if x.vf = .ramp then 4 else 0)
  let nowUs := s.now / us
  let leaseUs := match keeperOf s k with | some n => parNat s n 1 | none => 0
  let sq := (x.msgSeq + 1) % 65536
  let done := fun s => updShp k (fun x => { x with msgSeq := sq, sent := (x.sent ++ [(sq, nowUs)]).drop (x.sent.length + 1 - 64)
                                                   lastCap := some x.eff, lastFloor := x.floorGrant, lastFlags := flags, headGo := false
                                                   lastSend := some s.now }) s
  let m : CapMsg := { flags := flags, seq := sq, cap := qWord x.eff, capC := ~~~ qWord x.eff, floor := if 0 < x.floorGrant then qWord x.floorGrant else 0
                      leaseUs := leaseUs, sendUs := nowUs % 4294967296 }
  if viaGcl s k then done (gclSend (dnPort k) (.cap m) s)
  else match sidebandPort s k with
    | some p =>
      if (match x.lastSide with | some t => decide (t + ms ≤ s.now) | none => true) then
        done (updShp k (fun x => { x with lastSide := some s.now })
          (twSubmit p { owner := .shp k, kind := .capWrite m, addr := (twpRec s p).sbAddr, page := 0xFF, value := 0xC4 } s))
      else s
    | none => s

/-- A message is due: cap, floor or release flags changed, or the keeper's renewal (R147); a stale VALUE requests none (R56). -/
def capDue (s : State) (k : Nat) : Bool :=
  let x := shpSlot s k
  let flags := (if 0 < x.floorGrant then 1 else 0) + (if x.headGo then 2 else 0) + (if x.vf = .ramp then 4 else 0)
  slotHasRails s k && (keeperOf s k).isSome &&
  (x.lastCap != some x.eff || x.lastFloor != x.floorGrant || x.lastFlags != flags ||
   (match keeperOf s k, x.lastSend with
    | some n, some t => !(slotSt s n).stale && !valueStale s k && decide (t + parNat s n 0 * us ≤ s.now)
    | some n, none => !(slotSt s n).stale && !valueStale s k
    | none, _ => false))

def sendDueCaps (s : State) : State := forEach (List.range 8) (fun k s => if capDue s k then sendCap k s else s) s

/-! ### The 10 µs pass (R140–R146, R152–R156, R160–R162) -/

/-- SHP_PASS step 1: draws and demands (R141, R142), with the signals that show them (R170). -/
def passDraws (s : State) : State :=
  forEach (List.range 8) (fun k s => showDraw k (slotDraw k s)) s
where
  /-- The draw and demand of a slot. -/
  slotDraw (k : Nat) (s : State) : State :=
    if slotPowered s k then
      updShp k (fun x =>
        let stale := telStale s k
        { x with draw := if stale then x.eff else x.telDraw
                 demand := if x.seen then x.telDemand else fallbackW s k }) s
    else updShp k (fun x => { x with draw := 0, demand := fallbackW s k }) s
  /-- Signals 0x0020–0x002F of R170. -/
  showDraw (k : Nat) (s : State) : State :=
    writeFixedSignal 0x09 (0x0028 + k) (qWord (shpSlot s k).demand) false (writeFixedSignal 0x09 (0x0020 + k) (qWord (shpSlot s k).draw) false s)

def drawSum (s : State) : Int := (List.range 8).foldl (fun a k => a + (shpSlot s k).draw) 0

/-- A 10 ms first-order filter at T = 10 µs, starting from its first input (R141, R53). -/
def filter10ms (y : Option Int) (x : Int) : Int :=
  match y with
  | none => x
  | some y => y + qdiv ((x - y) * 10) 10010

/-- Ramp an allowance toward a target at W/s limits over 10 µs; a limit of 0 is no limit (R157 item 3, R160). -/
def rampToward (cur target : Int) (up down : Nat) : Int :=
  if cur ≤ target then (if up = 0 then target else min target (cur + qdiv (wq up) 100000))
  else (if down = 0 then target else max target (cur - qdiv (wq down) 100000))

/-- The cap a follower runs under (R494): its member cap while that lease is valid, else CAS_FALLBACK_W, from Q24.8; none on the lead. -/
def memberCapOf (s : State) : Option Int :=
  if isLead s then none
  else
    let ok : Bool := match s.cas.leaseEnd with | some t => decide (s.now < t) | none => false
    some ((if ok then s.cas.cap else liveWord s 0x1A0008).toNat * 256 : Nat)

/-- Draw of the members of a lead's board, from their last reports, in 2^-16 W (R494). -/
def memberDraw (s : State) : Int :=
  if isLead s then (sumList ((s.cas.member.filter (fun e => e.2.present)).map (fun e => e.2.pin.toNat * 256)) : Nat) else 0

/-- The device leads a cascade with members. -/
def leadsBoard (s : State) : Bool := isLead s && s.cas.member.any (fun e => e.2.present)

/-- A lead's own share of the board's P_allow, once it has allocated one (R494). -/
def boardBudget (s : State) (a : Int) : Int :=
  if leadsBoard s then s.cas.share.getD a else a

/-- Pace term of R161, in 2^-16 W. -/
def paceTerm (s : State) (capW : Nat) : Int :=
  let t0 := (s.now / minuteNs) * minuteNs
  let elapsed := s.now - t0
  let remaining := max (minuteNs - elapsed) (10 * sec)
  let used := if s.shp.lastMinute < minuteCount s then 0 else s.afe.accum - s.shp.cur.startAccum
  wq capW + qdiv (wq capW * (elapsed : Int) - used * 65536 * 1000000 - s.cas.energy * 10000) (remaining : Int)

/-- P_in: signal 164, in 2^-16 W (R141). -/
def inPower (s : State) : Int := (tget {} s.gld.plane 164).value.toInt * 256

/-- Metering is faulted, or no mean has been written since the plane started: P_other and TRIM hold (R141). -/
def meterHeld (s : State) : Bool := s.shp.meterFault || (tget {} s.gld.plane 164).stale

/-- SHP_PASS step 2: allowance and budget (R141, R160–R163). The excess of a peak window lowers P_allow itself for the whole next window, beyond what the ramp limits give (R163). -/
def passBudget (s : State) : State :=
  let m := minuteCount s
  let c := contractAt s m
  let s := { s with shp.source := c.1, shp.entry := c.2.1, shp.capNow := match c.2.2 with | some e => e.capW | none => 0 }
  let allow : Option Int :=
    match memberCapOf s with
    | some cap => some cap
    | none =>
      match c.2.2 with
      | none => none
      | some e =>
        let look := nextCap 1440 s m e.capW
        let target0 := min (wq e.capW) (paceTerm s e.capW)
        let target := match look with
          | some (m', cap') =>
            if e.capW ≤ cap' then target0
            -- without ramp limits the descent takes the last tick
            else if e.rampDown = 0 then (if m' * minuteNs ≤ s.now + 10 * us then min target0 (wq cap') else target0)
            else min target0 (wq cap' + qdiv (wq e.rampDown * ((m' * minuteNs - s.now : Nat) : Int)) 1000000000)
          | none => target0
        some (rampToward (s.shp.ramped.getD target) target e.rampUp e.rampDown)
  let ramped := allow
  let allow := allow.map (fun a => a - s.shp.peakCut)
  let desc := match c.2.2, ramped with
    | some e, some a => decide (a < wq e.capW) && (match nextCap 1440 s m e.capW with
        | some (_, cap') => decide (cap' < e.capW) && decide (a < min (wq e.capW) (paceTerm s e.capW))
        | none => false)
    | _, _ => false
  let sum := drawSum s
  let s := if leadsBoard s then { s with cas.energy := s.cas.energy + memberDraw s } else s
  let fault := meterHeld s
  let pOther := if fault then s.shp.pOther else some (filter10ms s.shp.pOther (inPower s - sum))
  let pTray := if fault then s.shp.pTray else some (filter10ms s.shp.pTray (inPower s + memberDraw s))
  let trim := match allow with
    | none => s.shp.trim
    | some a => if fault then s.shp.trim
      else max (-(wq (trimMaxW s))) (min 0 (s.shp.trim + qdiv (qdiv ((trimKi s : Int) * (a - inPower s - memberDraw s)) 65536) 100000))
  let trimSince := if trim = -(wq (trimMaxW s)) then (match s.shp.trimSince with | some t => some t | none => some s.now) else none
  let s := { s with shp.allow := allow, shp.ramped := ramped, shp.pOther := pOther, shp.pTray := pTray, shp.trim := trim, shp.descent := desc
                    shp.trimSince := trimSince, shp.trimOn := s.shp.trimOn && trimSince.isSome
                    shp.budget := match allow with | some a => boardBudget s a - pOther.getD 0 + trim | none => 0 }
  let s := writeFixedSignal 0x09 0x0010 (q8Word (allow.getD 0)) false s
  let s := writeFixedSignal 0x09 0x0011 (q8Word s.shp.budget) false s
  writeFixedSignal 0x09 0x0012 (q8Word (wq s.shp.capNow)) false s

/-- Slots taking part in allocation: POWERING_UP or ON (R143). -/
def partSlots (s : State) : List Nat := (List.range 8).filter (fun k => slotState s k == 3 || slotState s k == 4)

/-- A slot's want (R143). -/
def wantOf (s : State) (k : Nat) : Int :=
  let x := shpSlot s k
  if slotState s k = 3 then fallbackW s k
  else if x.leaseValid then min (ratedW s k) x.demand
  else max x.draw (fallbackW s k)

/-- Slots in ascending want, ties to the lower slot. -/
def insertWant (s : State) (k : Nat) : List Nat → List Nat
  | [] => [k]
  | a :: r => if wantOf s k < wantOf s a then k :: a :: r else a :: insertWant s k r
def byWant (s : State) : List Nat := (partSlots s).foldl (fun l k => insertWant s k l) []

/-- SHP_PASS step 3: contract shares (R143). -/
def passShares (s : State) : State :=
  let parts := byWant s
  let s := forEach (List.range 8) (fun k => updShp k (fun x => { x with share := fallbackW s k })) s
  match s.shp.allow with
  | none => forEach parts (fun k => updShp k (fun x => { x with share := ratedW s k })) s
  | some _ =>
    let n := parts.length
    let r := parts.foldl (fun (acc : Int × Nat × State) k =>
      let sh := max (min (wantOf s k) (qdiv acc.1 acc.2.1)) 0
      (acc.1 - sh, acc.2.1 - 1, updShp k (fun x => { x with share := sh }) acc.2.2)) (s.shp.budget, n, s)
    let spare := if n = 0 then 0 else qdiv (max r.1 0) n
    forEach parts (fun k s => if (shpSlot s k).leaseValid then
      updShp k (fun x => { x with share := min (ratedW s k) (x.share + spare) }) s else s) r.2.2

/-- A slot leaves valley fill for IDLE; its rate is freed on the next tick (R152, R156). -/
def vfIdle (k : Nat) (s : State) : State := updShp k (fun x => { x with vf := .idle, vfAt := s.now, floor := 0, headReq := none }) s

/-- Slots in TAIL (R153). -/
def tailSlots (s : State) : List Nat := (List.range 8).filter (fun k => (shpSlot s k).vf == .tail)

/-- The limit of a slot in RAMP (R152, R154): floor plus granted rate since the release, up to HEAD_W. -/
def rampLimit (s : State) (k : Nat) : Int :=
  let x := shpSlot s k
  let r := min x.rate (qdiv (wq (rampUpWms s)) 1000)
  min x.hint.headW (x.floor + qdiv (r * ((s.now - x.released : Nat) : Int)) 1000)

/-- HEAD_RELEASE (R154): strictly oldest first within the ramp limit and the stagger. Rates are 2^-16 W per µs. -/
def oldestWaiting (s : State) : Option Nat :=
  let ws := (List.range 8).filter (fun k => (shpSlot s k).vf == .wait && (shpSlot s k).headReq.isSome)
  match ws with
  | [] => none
  | a :: r => some (r.foldl (fun b k => if ((shpSlot s k).headReq.getD 0) < ((shpSlot s b).headReq.getD 0) then k else b) a)

def risingRate (s : State) : Int := s.shp.rising.foldl (fun a e => a + e.2) 0

def headRelease : Nat → State → State
  | 0, s => s
  | fuel + 1, s =>
    match oldestWaiting s with
    | none => s
    | some k =>
      let x := shpSlot s k
      if 0 < s.afe.tripLevel then s
      else if (match s.shp.lastRelease with | some t => decide (s.now - t < staggerUs s * us) | none => false) then s
      else
        let rate := qdiv (max (x.hint.headW - x.floor) 0) (max x.hint.headRamp 1)
        let lim := qdiv (wq (rampUpWms s)) 1000
        if lim < risingRate s + rate ∧ ¬(lim < rate ∧ s.shp.rising = []) then s
        else
          let s := updShp k (fun x => { x with vf := .ramp, vfAt := s.now, released := s.now, rate := rate, headGo := true }) s
          headRelease fuel { s with shp.rising := s.shp.rising ++ [(k, rate)], shp.lastRelease := some s.now }

/-- SHP_PASS step 4: valley fill, shaping limits and floors (R144–R146, R152–R156, R162). -/
def passValley (s : State) : State :=
  let s := forEach (List.range 8) (fun k s =>
    let x := shpSlot s k
    if x.vf ≠ .idle ∧ (slotState s k ≠ 4 ∨ ¬ x.leaseValid ∨ telStale s k ∨ ¬ vfEnabled s k ∨ (vfPin s k ∧ x.vf ≠ .tail)) then vfIdle k s
    else if x.vf = .ramp ∧ x.hint.headW ≤ rampLimit s k then vfIdle k s
    else s) s
  let tails := tailSlots s
  let step := if tails = [] then 0 else qdiv (qdiv (wq (rampDownWms s)) 100) tails.length
  let s := forEach tails (fun k => updShp k (fun x => { x with floor := max 0 (x.floor - step) })) s
  -- free the rates of slots whose ramp has ended, and of pin heads whose ramp time has passed or whose lease has lapsed (R154–R156)
  let s := { s with shp.rising := s.shp.rising.filter (fun e =>
    (shpSlot s e.1).vf == .ramp ||
    (match (shpSlot s e.1).pinHead with
     | some t => decide (s.now < t + fld (pinHint s e.1) 31 16 * us) && slotState s e.1 == 4 && (shpSlot s e.1).leaseValid
     | none => false)) }
  let s := headRelease 8 s
  let n := max (partSlots s).length 1
  let head := qdiv (wq (rampUpWms s)) n
  let floorPart : Int :=
    let c := contractAt s (minuteCount s)
    let q := (List.range 8).filter (fun k => slotState s k == 4 && (shpSlot s k).leaseValid)
    match c.2.2 with
    | some e =>
      if s.seq.trayState = 3 ∧ s.shp.pTray.getD 0 < wq e.floorW ∧ q ≠ [] then
        max 0 (qdiv (wq e.floorW - s.shp.pOther.getD 0) q.length) else 0
    | none => 0
  let was := s.shp.cur.ungranted
  forEach (List.range 8) (fun k s =>
    let x := shpSlot s k
    let base := min (ratedW s k) (x.draw + head)
    let phys := if vfPin s k then base
      else match x.vf with
        | .tail => x.floor
        | .wait => x.floor
        | .ramp => rampLimit s k
        | _ => base
    let g := slotSt s (8 * 62 + k)
    let lim := if slotExists s (8 * 62 + k) ∧ ¬ g.stale then min phys (qdiv (toWork (outType s (8 * 62 + k)) g.out) 65536) else phys
    let vfFloor := if ¬ vfPin s k ∧ (x.vf = .tail ∨ x.vf = .wait) then x.floor else 0
    let req := if 0 < s.afe.tripLevel then 0
      else max vfFloor (if slotState s k = 4 ∧ x.leaseValid then floorPart else 0)
    let grant := max 0 (min req x.eff)
    -- a tick with a shortfall counts once (log 100)
    let s := if grant < req then { s with shp.cur.ungranted := satInc 65535 was } else s
    updShp k (fun x => { x with shaping := lim, floorReq := req, floorGrant := grant }) s) s

/-- SHP_PASS step 5: the contract share and shaping limit inputs (R140). -/
def passInputs (s : State) : State :=
  forEach (List.range 8) (fun k s => writeCap k 1 (shpSlot s k).shaping (writeCap k 0 (shpSlot s k).share s)) s

/-- The fault-cap inputs as the sources set by now make them (R31, R88): they stand before the tick latches the inputs. -/
def faultInputs (s : State) : State := forEach (List.range 8) (fun k s => writeCap k 3 (faultCap s k) s) s

/-- SHP_PASS on a 10 µs tick, after the combiner has latched its inputs (R28, R140). -/
def shpPass (s : State) : State := passInputs (passValley (passShares (passBudget (passDraws s))))

/-! ### Valley-fill events (R151–R155) -/

/-- STEP_HINT (R151, R152). With the PIN bit set the pin wins (R155). -/
def doStepHint (slot : Fin 8) (headReq : Bool) (tailIn tailLen headW headRamp : Word) (s : State) :
    State :=
  let k := slot.val
  let x := shpSlot s k
  if ¬ vfEnabled s k ∨ vfPin s k ∨ ¬ viaGcl s k ∨ slotState s k ≠ 4 then s
  else
    let h : Hint := { tailIn := tailIn.toNat, tailLen := tailLen.toNat, headW := headW.toInt, headRamp := headRamp.toNat
                      arrived := s.now, drawAt := x.draw }
    let x' := match x.vf with
      | .idle => { x with vf := .hinted, vfAt := s.now, hint := h, headReq := none }
      | .hinted => { x with hint := h }
      | .tail => if headReq then { x with vf := .wait, vfAt := s.now, headReq := some s.now, hint := { x.hint with headW := h.headW, headRamp := h.headRamp } } else x
      | .wait => if headReq ∧ x.headReq = none then { x with headReq := some s.now, hint := { x.hint with headW := h.headW, headRamp := h.headRamp } } else x
      | .ramp => x
    (updShp k (fun _ => x') s)

/-- HINT_TIMEOUT (R152). -/
def doHintTimeout (slot : Fin 8) (s : State) : State :=
  let x := shpSlot s slot.val
  if x.vf = .hinted ∧ x.hint.arrived + (x.hint.tailIn + 200) * us ≤ s.now then (vfIdle slot.val s) else s

/-- TAIL_START (R152): at TAIL_IN_US, or when the draw falls below 80 % of the draw at the hint. -/
def doTailStart (slot : Fin 8) (s : State) : State :=
  let k := slot.val
  let x := shpSlot s k
  let d := if telStale s k then x.eff else x.telDraw
  if x.vf = .hinted ∧ (x.hint.arrived + x.hint.tailIn * us ≤ s.now ∨ d * 5 < x.hint.drawAt * 4) then
    (updShp k (fun x => { x with vf := .tail, vfAt := s.now, floor := max 0 d }) s)
  else s

/-- TAIL_END (R152). -/
def doTailEnd (slot : Fin 8) (s : State) : State :=
  let x := shpSlot s slot.val
  if x.vf = .tail ∧ ¬ vfPin s slot.val ∧ x.vfAt + x.hint.tailLen * us ≤ s.now then
    (updShp slot.val (fun x => { x with vf := .wait, vfAt := s.now }) s)
  else s

/-- VF_WAIT_TIMEOUT (R152). -/
def doVfWaitTimeout (slot : Fin 8) (s : State) : State :=
  let x := shpSlot s slot.val
  if x.vf = .wait ∧ x.headReq = none ∧ x.vfAt + vfTimeoutUs s * us ≤ s.now then (vfIdle slot.val s) else s

/-- STEP_PIN_FALL (R155): TAIL with no floor; the shaping limit stays the headroom rule's (DESIGN CHOICE, log 122). -/
def doStepPinFall (slot : Fin 8) (s : State) : State :=
  let k := slot.val
  if vfPin s k ∧ vfEnabled s k ∧ slotState s k = 4 then
    (updShp k (fun x => { x with vf := .tail, vfAt := s.now, floor := 0 }) s)
  else s

/-- STEP_PIN_RISE (R155): the head starts at once and its rate is charged for HEAD_RAMP_US; STATE shows IDLE meanwhile, for no release is granted (DESIGN CHOICE, log 122). -/
def doStepPinRise (slot : Fin 8) (s : State) : State :=
  let k := slot.val
  if vfPin s k ∧ vfEnabled s k ∧ slotState s k = 4 then
    let ramp := max (fld (pinHint s k) 31 16) 1
    let rate := qdiv (wq (fld (pinHint s k) 15 0)) ramp
    let s := updShp k (fun x => { x with vf := .idle, vfAt := s.now, pinHead := some s.now, rate := rate }) s
    { s with shp.rising := (s.shp.rising.filter (fun e => e.1 != k)) ++ [(k, rate)] }
  else s

/-! ### Windows and escalation (R134, R162, R163) -/

/-- STAGE (R163). -/
def stageOf (s : State) : Nat := if s.shp.minuteOn then 3 else if s.shp.peakOn then 2 else if s.shp.trimOn then 1 else 0

/-- TRIM_SATURATED (R163): TRIM at its limit for 100 ms. -/
def doTrimSaturated (s : State) : State :=
  match s.shp.trimSince with
  | some t =>
    if t + 100 * ms ≤ s.now ∧ ¬ s.shp.trimOn then
      (raise uSHP 5 .corrected {} { s with shp.trimOn := true })
    else s
  | none => s

/-- A board's 100 ms average (R495): the lead's own plus each member's last reported one, or the granted cap of a member that has not reported in the window; and whether one was substituted. -/
def boardAvg (s : State) (avg : Int) : Int × Bool :=
  (s.cas.member.filter (fun e => e.2.present)).foldl (fun (acc : Int × Bool) e =>
    let ok : Bool := match e.2.lastRep with | some t => decide (s.now < t + 100 * ms) | none => false
    (acc.1 + ((if ok then e.2.avg else e.2.grant).toNat * 256 : Nat), acc.2 || !ok)) (avg, false)

/-- POWER_WINDOW_CLOSE on a 100 ms tick (R134, R162, R163, R165): the window that began on the last one ends, and the next begins. -/
def powerWindowClose (s : State) : State :=
  if s.shp.winCount = 0 then { s with shp.winOpen := true }
  else
    let own := qdiv s.shp.winSum s.shp.winCount
    let brd := if leadsBoard s then boardAvg s own else (own, false)
    let avg := brd.1
    let s := if brd.2 then { s with cas.substituted := true } else s
    let s := { s with shp.ownAvg := own, shp.ownEnd := s.now }
    let s := { s with shp.winOpen := true, shp.winSum := 0, shp.winCount := 0, shp.peakCut := 0 }
    let c := (contractAt s (minuteCount { s with tbs.count := s.tbs.count - 1 })).2.2
    let offMs := (s.now - ((s.now - 1) / minuteNs) * minuteNs) / ms
    let r := s.shp.cur
    let isPeak := match r.peak with | some p => decide (p < avg) | none => true
    let r := { r with peak := if isPeak then some avg else r.peak, peakOff := if isPeak then offMs else r.peakOff
                      minW := match r.minW with | some m => some (min m avg) | none => some avg }
    match c with
    | none => { s with shp.cur := r }
    | some e =>
      let above := decide (wq e.capW < avg)
      let r := { r with aboveMs := if above then r.aboveMs + 100 else r.aboveMs
                        floorMs := if s.seq.trayState = 3 ∧ avg < wq e.floorW then r.floorMs + 100 else r.floorMs }
      let s := { s with shp.cur := r }
      let peak := qdiv (wq e.capW * e.peakFactor) 65536
      if peak < avg then
        let s := { s with shp.peakCut := avg - peak }
        if s.shp.peakOn then s else raise uSHP 6 .contained { item := 0 } { s with shp.peakOn := true }
      else { s with shp.peakOn := s.shp.peakOn && above }

/-- The level a throttle pin pair carries (R31, R136, R185, R507): what its latch holds, and beyond the latch the fast trip and the thermal path's level 3. -/
def thrLevel (s : State) (k : Nat) : Nat :=
  if s.thrForced ∨ s.und.thrL3.contains k then 3 else max (latchOf s (.thr k)).level s.afe.tripLevel

/-- Time any THR pin stands above level 0, counted on 10 µs ticks (R165 THROTTLE_MS). -/
def throttleTime (s : State) : State :=
  if (List.range 8).any (fun k => thrLevel s k != 0) then { s with shp.cur.throttleNs := s.shp.cur.throttleNs + 10000 } else s

/-! ### Schedule delivery (R158–R160) -/

/-- The entry at index `i` of a bank's words (section 0x09 entry layout). -/
def entryOfWords (t : Tab Word) (i : Nat) : SchedEntry :=
  let w := fun j => tget 0 t (6 * i + j)
  ⟨(w 0).toNat % 65536, (w 1).toNat, (w 2).toNat, (w 3).toNat, (w 4).toNat, (w 5).toNat⟩

/-- The bytes of the first `n` entries. -/
def bankBytes (t : Tab Word) (n : Nat) : List Byte := (List.range (6 * n)).flatMap (fun j => wordBytes (tget 0 t j))

/-- The first entry that breaks R158. -/
def badEntry (l : List SchedEntry) : Option Nat :=
  (List.range l.length).find? (fun i =>
    let e := (l[i]?).getD ⟨0, 0, 0, 0, 0, 0⟩
    let p := ((l[i - 1]?).map (·.startMin)).getD 0
    !(decide (e.startMin < 1440) && (if i = 0 then decide (e.startMin = 0) else decide (p < e.startMin)) && decide (e.floorW ≤ e.capW) &&
      decide (1 ≤ e.rampUp) && decide (e.rampUp ≤ 1000000) && decide (1 ≤ e.rampDown) && decide (e.rampDown ≤ 1000000) &&
      decide (65536 ≤ e.peakFactor) && decide (e.peakFactor ≤ 131072)))

/-- A new TAG in SHP_SCHED_ACT (R159): ARM starts the check, or is BUSY while another is checked; CANCEL drops a pending bank. -/
def schedAct (w : Word) (s : State) : State :=
  let tag := fld w 31 24
  if tag = lastTag s 0x090130 then s
  else
    let s := setTag 0x090130 tag s
    if fld w 1 0 = 1 then
      if s.shp.checking.isSome then { s with shp.resTag := tag, shp.result := 5 }
      else
        let n := (regWord s 0x090128).toNat
        { s with shp.checking := some { tag := tag, from_ := (regWord s 0x090120).toNat, until_ := (regWord s 0x090124).toNat
                                        bank := 1 - s.shp.bank, entries := (List.range (min n 1440)).map (entryOfWords s.shp.bankWords) } }
    else if fld w 1 0 = 2 then { s with shp.armed := none, shp.resTag := tag, shp.result := 0 }
    else s

/-- SHP_SCHED_ACT is written by PWR, SHP's owner, and SEC (R159, R383). -/
def schedActWrite (path : Path) (w : Word) (s : State) : State :=
  withAuthority path 0x090130 w (fun s => schedAct w (setPair 0x090130 w s)) s

def doSchedArm (path : Path) (tag : Byte) (s : State) : State :=
  (schedActWrite path (w32 (tag.toNat * 16777216 + 1)) s)
def doSchedCancel (path : Path) (tag : Byte) (s : State) : State :=
  (schedActWrite path (w32 (tag.toNat * 16777216 + 2)) s)

/-- An armed bank whose VALID_FROM has come takes over (R159). -/
def takeOver (s : State) : State :=
  match s.shp.armed with
  | some d => if d.from_ ≤ minuteCount s then { s with shp.inForce := some d, shp.armed := none, shp.bank := d.bank, shp.bankWords := s.shp.bankOther, shp.bankOther := s.shp.bankWords } else s
  | none => s

def doScheduleTakeOver (s : State) : State := (takeOver s)

/-- A schedule comes too late for its descent (R160): from the allowance of this moment the ramp limit in force does not reach the cap of its first minute in the time left. -/
def scheduleLate (d : Delivered) (s : State) : Bool :=
  match s.shp.allow, d.entries[entryAt d.entries (dayMinute s (max d.from_ (minuteCount s)))]? with
  | some a, some e' =>
    let left := d.from_ * minuteNs - s.now
    let e := if left = 0 then some e' else (contractAt s (minuteCount s)).2.2
    match e with
    | some e => decide (wq e'.capW < a ∧ (e.rampDown ≠ 0 ∨ left = 0) ∧ wq e'.capW + qdiv (wq e.rampDown * (left : Int)) 1000000000 < a)
    | none => false
  | _, _ => false

/-- SCHEDULE_CHECK_DONE (R159, R160): CRC, the rules of R158, the window; a pending bank is superseded; a schedule that comes too late for its
descent raises SCHEDULE_LATE. TAG and RESULT show this arming, the older one even when a newer was answered BUSY meanwhile (DESIGN CHOICE, log 123). -/
def doScheduleCheckDone (s : State) : State :=
  match s.shp.checking with
  | none => s
  | some d =>
    let n := (regWord s 0x090128).toNat
    let s := { s with shp.checking := none, shp.resTag := d.tag, shp.resEntry := 0 }
    if n < 1 ∨ 1440 < n then { s with shp.result := 2 }
    else if crc32c (bankBytes s.shp.bankWords n) ≠ regWord s 0x09012C then { s with shp.result := 1 }
    else match badEntry d.entries with
      | some i => { s with shp.result := 2, shp.resEntry := i % 256 }
      | none =>
        if d.until_ ≤ d.from_ ∨ d.until_ ≤ minuteCount s then { s with shp.result := 3 }
        else
          let s := match s.shp.armed with | some p => { s with shp.superTag := p.tag } | none => s
          let late := scheduleLate d s
          let s := { s with shp.armed := some d, shp.result := 0 }
          let s := if late then
              raise uSHP 7 .corrected { item := 0 } { s with shp.cur.flags := s.shp.cur.flags ||| 64 }
            else s
          (takeOver s)

/-! ### Commit checks of SHP (R135, R137, R138, SHP register map) -/

/-- First failing value of an SHP staged set: FIRST and result, ORDER left to the agreement records. -/
def shpCheck (W : Nat → Word) : Option (Nat × Nat) :=
  let o := [0x40, 0x48, 0x60, 0x68, 0x70, 0x78, 0x80, 0x88, 0x98] ++ (List.range 8).map (fun k => 0x430 + 0x40 * k)
  let firstOf := fun (x : Nat) => if x = 0x40 then 0x3FF else x / 4
  match o.find? (fun x => W (0x090004 + x) != ~~~ W (0x090000 + x)) with
  | some x => some (firstOf x, 1)
  | none =>
    let n := fun x => (W (0x090000 + x)).toNat
    let rng := fun x lo hi => decide (lo ≤ n x) && decide (n x ≤ hi)
    let c := W 0x090040
    let okTrip := decide (1 ≤ fld c 31 24) && decide (fld c 31 24 ≤ 10) && decide (50 ≤ fld c 23 16) && decide (fld c 23 16 ≤ 99) &&
      decide (50 ≤ fld c 15 8) && decide (fld c 15 8 ≤ 98) && decide (fld c 15 8 < fld c 23 16)
    let ok := fun x =>
      if x = 0x40 then okTrip else if x = 0x48 then rng x 100 10000 else if x = 0x60 ∨ x = 0x68 then rng x 100 200000
      else if x = 0x70 then rng x 0 500 else if x = 0x88 then rng x 100 100000
      else if 0x400 ≤ x then decide (10 ≤ fld (W (0x090000 + x)) 31 16) && decide (fld (W (0x090000 + x)) 31 16 ≤ 1000)
      else true
    (o.find? (fun x => !ok x)).map (fun x => (firstOf x, 2))

end Sys2Proof.Machine
end

