-- ==== Sys2Proof/Machine/Ledger.lean ====
section
/-! DEFINITION. The contract ledger: minute records, blocks, checkpoints, signing and the spool
(05_power_shaping_and_contract.md R165–R169). -/

namespace Sys2Proof.Machine

/-- Words of a closed record before its CRC (R165). -/
def recordWords (r : OpenRec) (seq flags : Nat) (energy : Int) (excessJ : Nat) : List Word :=
  let e := (BitVec.ofInt 64 energy).toNat
  [lo32 r.start, hi32 r.start, w32 seq, w32 (flags % 65536 + 65536 * (r.entry % 65536)), lo32 e, hi32 e, w32 r.capW,
   w32 (wattsOf (r.peak.getD 0)), w32 r.peakOff, w32 r.aboveMs, w32 r.floorMs, w32 (r.ungranted + 65536 * r.trips),
   w32 (wattsOf (r.minW.getD 0)), w32 (r.throttleNs / ms), w32 excessJ]

/-- The record with its CRC-32C in the last word. -/
def sealRecord (ws : List Word) : LedgerRec := ws ++ [crc32c (ws.flatMap wordBytes)]

/-! ### The bytes of a block (R166) -/

/-- Bytes 0x000–0x43F of a block, which its signature covers. -/
def blockBody (b : LedgerBlock) (svn : Nat) : List Word :=
  let recs := b.records.flatMap id
  let r0 := b.records.headD []
  [0x474C584B#32, w32 (1 + 65536 * b.records.length), 0x4238584B#32, w32 svn, lo32 Config.unitId, hi32 Config.unitId, lo32 b.blockSeq, hi32 b.blockSeq,
   r0.getD 0 0, r0.getD 1 0] ++ digestWords b.prevDigest ++ List.replicate 6 0#32 ++ (recs ++ List.replicate (240 - recs.length) 0#32).take 240

/-- A signed block in its layout. -/
def blockWords (b : SignedBlock) : List Word := blockBody b.block b.svn ++ sigWords b.sig

/-- The digest that SEC signs. -/
def blockMessage (b : LedgerBlock) (svn : Nat) : Digest := shake256 (ascii "DVS-KX8B-LEDGER" ++ (blockBody b svn).flatMap wordBytes)

/-- PREV_DIGEST of the next block: over the whole block, signature included. -/
def blockDigest (b : LedgerBlock) (svn sig : Nat) : Digest := shake256 ((blockBody b svn ++ sigWords sig).flatMap wordBytes)

/-- A block as SEC signs it with the identity key in force; the signature is a free value (log 6). -/
def signBlock (b : LedgerBlock) (s : State) : SignedBlock :=
  let svn := s.sec.fwSvn
  let sig := Config.sign (identityKey svn) (blockMessage b svn) s.fresh
  { block := b, flags := 0, sig := sig, digest := blockDigest b svn sig, svn := svn }

/-! ### Checkpoint, records and blocks -/

/-- The checkpoint of the present ledger state (R167). -/
def checkpointOf (s : State) : Checkpoint :=
  { seq := s.shp.seq, openBlock := s.shp.blockOpen, accum := s.afe.accum, minuteTime := s.shp.cur.start
    awaiting := (s.shp.closed.getLast?).map (·.block) }

/-- Queue the checkpoint commit (R167, R470). -/
def writeCheckpoint (s : State) : State :=
  nvsQueue { rank := 2, area := 0x0A, payload := some (.ledger (checkpointOf s)), length := 2096 } s

/-- LEDGER_BLOCK_CLOSE (R166): at a minute count that is a multiple of 15 the open block is queued for signing. -/
def blockClose (s : State) : State :=
  if s.shp.blockOpen.records = [] then s
  else
    { s with shp.closed := s.shp.closed ++ [{ block := s.shp.blockOpen, closed := s.now }]
             shp.blockOpen := { blockSeq := s.shp.blockOpen.blockSeq + 1, prevDigest := 0, records := [] } }

/-- A record of the present minute with the entry in force at its start. -/
def freshRecord (accum : Int) (flags : Nat) (s : State) : OpenRec :=
  let c := contractAt s (minuteCount s)
  { start := minuteCount s * minuteNs, entry := c.2.1, startAccum := accum
    capW := match c.2.2 with | some e => e.capW | none => 0
    noCap := c.2.2.isNone
    flags := (if c.1 = 3 then 0 else 4) + flags }

/-- Start a new open record at the present minute. -/
def openRecord (s : State) : State :=
  { s with shp.lastMinute := minuteCount s, shp.cur := freshRecord s.afe.accum (if s.shp.meterFault then 2 else 0) s }

/-- Section 0x09 has loaded: a record that a reset opened before it takes the entry in force (R165). -/
def entryAtLoad (s : State) : State :=
  if s.shp.cur.flags.testBit 4 ∧ s.shp.cur.noCap ∧ s.shp.lastMinute = minuteCount s then
    let r := freshRecord s.shp.cur.startAccum 0 s
    { s with shp.cur.entry := r.entry, shp.cur.capW := r.capW, shp.cur.noCap := r.noCap, shp.cur.flags := (s.shp.cur.flags &&& 0xFFFB) ||| r.flags }
  else s

/-- Put a closed record in the ledger (R163, R165–R167): its excess escalates, its block closes when the minute count `m` is a multiple of 15, and the checkpoint is written. -/
def ledgerAppend (w : LedgerRec) (excess m : Nat) (s : State) : State :=
  let s := { s with shp.seq := s.shp.seq + 1, shp.lastRec := w, shp.blockOpen.records := s.shp.blockOpen.records ++ [w] }
  let s := if 0 < excess then
      raise uSHP 6 .contained { item := 1 } { s with shp.minuteOn := true }
    else { s with shp.minuteOn := false }
  writeCheckpoint (if m % 15 = 0 then blockClose s else s)

/-- Joules above the contract of a minute's energy (R163, R165). -/
def excessOf (capW : Nat) (energy : Int) : Nat :=
  let beyond := energy - (capW : Int) * 60000
  if 0 < beyond then (qdiv beyond 1000).toNat else 0

/-- MINUTE_CLOSE (R163, R165–R167, R495): the record of the minute that has ended is closed. A follower also sends it to its lead; the lead of a board keeps it for the board record, which
its ledger holds instead. -/
def minuteClose (s : State) : State :=
  if s.shp.lastMinute < minuteCount s then
    let r := s.shp.cur
    let energy := s.afe.accum - r.startAccum
    let board := leadsBoard s
    let excess := if board ∨ r.noCap then 0 else excessOf r.capW energy
    let flags := r.flags ||| (if s.tbs.undisc then 1 else 0) ||| (if 0 < excess then 32 else 0) ||| (if board ∧ s.cas.substituted then 16 else 0)
    let w := sealRecord (recordWords r (s.shp.seq + 1) flags energy excess)
    let s := { s with cas.substituted := false, cas.energy := 0 }
    if board then openRecord { s with cas.ownRec := some w, cas.boardDue := some (minuteCount s * minuteNs + 5 * sec) }
    else
      let s := if isLead s then s else gclSend 10 (.memberRecord w) s
      let m := minuteCount s
      ledgerAppend w excess m (openRecord s)
  else s

def doMinuteClose (s : State) : State := (minuteClose s)

/-- The first closed block that is not signed. -/
def firstUnsigned (l : List ClosedBlock) : Option ClosedBlock := l.find? (fun b => b.signed.isNone)

/-- Mark the first unsigned block signed. -/
def markSigned (sb : SignedBlock) : List ClosedBlock → List ClosedBlock
  | [] => []
  | b :: r => if b.signed.isNone then { b with signed := some sb } :: r else b :: markSigned sb r

/-- The block after a signed one carries its digest as PREV_DIGEST (R166). -/
def chainDigest (d : Digest) (q : Nat) (l : List ClosedBlock) : List ClosedBlock :=
  l.map (fun b => if b.block.blockSeq = q then { b with block := { b.block with prevDigest := d } } else b)

/-- A block in the ledger region (R168). -/
def appendBlock (b : SignedBlock) (s : State) : State := { s with dram.ledger := s.dram.ledger ++ [b] }

/-- Write a block to the ledger region, waiting for a snoop where a companion may hold the page (R316). Where in the region it falls is not stated: a free page (log 64). -/
def ledgerWrite (b : SignedBlock) (s : State) : State :=
  let page := regionBaseMib s 4 * 256 + Config.freeValue s.fresh % (max 1 (regionMib s 4 * 256))
  holdOrDo page (.ledgerWrite b) (appendBlock b) { s with fresh := s.fresh + 1 }

/-- LEDGER_BLOCK_SIGNED (R166): SEC completes the signature of the first closed block, whose digest the next block carries. The block goes to the ledger region, and its spool write is asked for
(R168, R169). -/
def doLedgerBlockSigned (s : State) : State :=
  match firstUnsigned s.shp.closed with
  | none => s
  | some b =>
    if s.sec.identityKey then
      let sb := signBlock b.block s
      let q := b.block.blockSeq + 1
      let s := { s with fresh := s.fresh + 1, shp.closed := chainDigest sb.digest q (markSigned sb s.shp.closed) }
      let s := if s.shp.blockOpen.blockSeq = q then { s with shp.blockOpen.prevDigest := sb.digest } else s
      (nvsQueue { rank := 4, area := 0x0E, payload := some (.spool sb), length := 2392 } (ledgerWrite sb s))
    else s

/-- SIGNING_LATE (R166). -/
def doSigningLate (s : State) : State :=
  match firstUnsigned s.shp.closed with
  | some b =>
    if b.closed + 60 * sec ≤ s.now ∧ ¬ b.late then
      (raise uSHP 7 .corrected { item := 1 }
        { s with shp.closed := s.shp.closed.map (fun x => if x.block.blockSeq = b.block.blockSeq then { x with late := true } else x) })
    else s
  | none => s

/-- SPOOL_WRITE_DONE (R169): SEC reports the spool write; SHP drops the block, and the next checkpoint no longer holds it. -/
def doSpoolWriteDone (s : State) : State :=
  { s with shp.closed := s.shp.closed.filter (fun b => match b.signed with
    | some sb => decide (tfind s.mram.spool (sb.block.blockSeq % 1024) ≠ some sb)
    | none => true) }

/-- Spool blocks in BLOCK_SEQ order. -/
def insertBlock (b : SignedBlock) : List SignedBlock → List SignedBlock
  | [] => [b]
  | a :: r => if b.block.blockSeq < a.block.blockSeq then b :: a :: r else a :: insertBlock b r

/-- LEDGER_SPOOL_RESTORE (R168): after a start that finds the region lost, HST writes every spooled block back in BLOCK_SEQ order. -/
def doLedgerSpoolRestore (s : State) : State :=
  if s.dram.ledgerLost ∧ (List.range 8).all s.mem.trained.contains then
    { s with dram.ledger := (s.mram.spool.map (·.2)).foldl (fun l b => insertBlock b l) [], dram.ledgerLost := false }
  else s

/-- The spool's block of a number, if its slot still holds it. -/
def spooled (s : State) (q : Nat) : Option SignedBlock :=
  match tfind s.mram.spool (q % 1024) with
  | some sb => if sb.block.blockSeq = q then some sb else none
  | none => none

/-- LEDGER_RESIGN (R169): the closed block of the checkpoint, which has no valid spool slot, is signed again with the key in force and spooled. -/
def doLedgerResign (s : State) : State :=
  match nvsNewest s 0x0A with
  | some (.ledger c) =>
    if c.awaiting.isSome ∧ c.awaiting = (firstUnsigned s.shp.closed).map (·.block) then doLedgerBlockSigned s else s
  | _ => s

/-- PREV_DIGEST of the open block after a reset: the checkpoint's, or once the block before it has been signed and spooled the digest of that block. -/
def resumedOpen (s : State) (b : LedgerBlock) : LedgerBlock :=
  if b.blockSeq = 0 then b
  else match spooled s (b.blockSeq - 1) with
    | some sb => { b with prevDigest := sb.digest }
    | none => b

/-- Resume the ledger from the checkpoint after a reset (R167): its closed block that no spool slot holds is queued for signing again (R169), energy counts from the checkpoint's accumulator, or from the
accumulator's restart while no checkpoint has been committed since, and the minute is PARTIAL after any reset. An EMPTY area starts at SEQ 0 and BLOCK_SEQ 0 (R472). -/
def ledgerResume (s : State) : State :=
  let s := match nvsNewest s 0x0A with
    | some (.ledger c) =>
      let wait : List ClosedBlock := match c.awaiting with
        | some b => if (spooled s b.blockSeq).isSome then [] else [{ block := b, closed := s.now }]
        | none => []
      { s with shp.seq := c.seq, shp.blockOpen := resumedOpen s c.openBlock, shp.closed := wait, shp.cur := freshRecord (if s.afe.ckpt then c.accum else 0) 16 s }
    | _ => { s with shp.cur := freshRecord 0 16 s }
  { s with shp.lastMinute := minuteCount s }

end Sys2Proof.Machine
end

