-- ==== Sys2Proof/Machine/Cascade.lean ====
section
/-! DEFINITION. The cascade: members, the board's allocation, reports, member caps and the board record (18_device_power_timebase_and_cascade.md, R492–R497). Powers of members are
Q24.8 words. Port 9 is CS0, toward the higher members, and port 10 is CS1, toward the lead. -/

namespace Sys2Proof.Machine

def member (s : State) (m : Nat) : Member := tget {} s.cas.member m
def updMember (m : Nat) (f : Member → Member) (s : State) : State := { s with cas.member := tupd {} s.cas.member m f }

/-- A Q24.8 word in units of 2^-16 W. -/
def q8Val (w : Word) : Int := (w.toNat * 256 : Nat)

/-- Rated and fallback power of member `m` (CAS_M_RATED, CAS_M_FALLBACK). -/
def memberRated (s : State) (m : Nat) : Int := q8Val (liveWord s (0x1A0110 + 0x20 * m))
def memberFallback (s : State) (m : Nat) : Int := q8Val (liveWord s (0x1A0118 + 0x20 * m))

/-- The device's own demand, as a member reports it: the wants of its participating slots and what the tray draws beside them (log 63). -/
def ownDemand (s : State) : Int := (partSlots s).foldl (fun a k => a + wantOf s k) (s.shp.pOther.getD 0)

/-- CS0 of a lead has become ACTIVE: the first member must carry CASCADE 1, or it is excluded and ROLE_MISMATCH is raised (R492). -/
def casPortUp (p : Nat) (s : State) : State :=
  if p = 9 ∧ isLead s then
    if (gclPort s 9).peerCas = 1 then updMember 1 (fun x => { x with present := true, mismatch := false }) s
    else raise uCAS 1 .contained { unit := 1, w1 := w32 (gclPort s 9).peerCas } (updMember 1 (fun x => { x with mismatch := true, present := false }) s)
  else s

/-- Silent members of a lead: accepted, and not reporting (R494, R496). -/
def silentMember (x : Member) : Bool := x.present && !x.linked

/-- What the lead reserves for its silent members (R494). -/
def reservedW (s : State) : Int :=
  (s.cas.member.filter (fun e => silentMember e.2)).foldl (fun a e => a + max (q8Val e.2.pin) (memberFallback s e.1)) 0

/-- A member's want; 0 stands for the lead itself (R494). -/
def memberWant (s : State) (m : Nat) : Int := if m = 0 then ownDemand s else min (memberRated s m) (q8Val (member s m).demand)

def insertMember (s : State) (m : Nat) : List Nat → List Nat
  | [] => [m]
  | a :: r => if memberWant s m < memberWant s a then m :: a :: r else a :: insertMember s m r

/-- Shares of the board's P_allow by R143 over the lead and its reporting members; what is left is spread evenly, up to a member's rated power (R494). -/
def boardShares (s : State) (allow : Int) : List (Nat × Int) :=
  let ms := (0 :: (s.cas.member.filter (fun e => e.2.present && e.2.linked)).map (·.1)).foldl (fun l m => insertMember s m l) []
  let r := ms.foldl (fun (acc : Int × Nat × List (Nat × Int)) m =>
    let sh := max (min (memberWant s m) (qdiv acc.1 acc.2.1)) 0
    (acc.1 - sh, acc.2.1 - 1, acc.2.2 ++ [(m, sh)])) (allow - reservedW s, ms.length, [])
  let spare := qdiv (max r.1 0) ms.length
  r.2.2.map (fun e => (e.1, if e.1 = 0 then e.2 + spare else min (memberRated s e.1) (e.2 + spare)))

/-- CASCADE_ALLOCATE on the 1 ms tick (R494): the lead divides the board's P_allow and sends each reporting member its cap; a follower sends its report. -/
def casTick (s : State) : State :=
  if isLead s then
    if leadsBoard s then
      match s.shp.allow with
      | none => { s with cas.share := none }
      | some a =>
        forEach (boardShares s a) (fun e s =>
          if e.1 = 0 then { s with cas.share := some e.2 }
          else gclSend 9 (.memberCap e.1 (q8Word e.2) 200000 (s.now / us % 4294967296)) (updMember e.1 (fun x => { x with grant := q8Word e.2 }) s)) s
    else s
  else gclSend 10 (.memberReport (q8Word (inPower s)) (q8Word (ownDemand s)) (q8Word s.shp.ownAvg) s.shp.ownEnd) s

/-- A follower hands on what is addressed to another member (R493): down the chain through CS0, up the chain through CS1. -/
def casRelay (down : Bool) (m : GclMsg) (s : State) : State :=
  if ¬ isLead s ∧ portActive s (if down then 10 else 9) then gclSend (if down then 9 else 10) m s else s

/-- MEMBER_CAP (R493, R494): a follower whose cap and complement match acknowledges it and takes it as its P_allow until the lease ends; one addressed to another member is relayed. -/
def doMemberCap (port : Fin 11) (m : Fin 4) (seq : BitVec 16) (cap capC leaseUs sendUs : Word) (s : State) : State :=
  if m.val ≠ s.und.straps.casRole then (if port.val = 10 then casRelay true (.memberCap m.val cap leaseUs.toNat sendUs.toNat) s else s)
  else if ¬ isLead s ∧ 9 ≤ port.val ∧ portActive s port.val ∧ capC = ~~~ cap then
    (gclSend port.val (.msgAck seq.toNat)
      { s with cas.cap := cap, cas.lapsed := false
               cas.leaseEnd := some (leaseExpiryNs s ((sendUs.toNat + leaseUs.toNat) % 4294967296)) })
  else s

/-- MEMBER_REPORT (R493, R494, R496): the lead takes a member's report; the first after a silence releases its reserve. Member 1 must have been accepted at its CONFIG. A follower relays it. -/
def doMemberReport (m : Fin 4) (pin demand avg : Word) (windowEnd : BitVec 64) (s : State) : State :=
  if isLead s ∧ m.val ≠ 0 ∧ portActive s 9 ∧ ¬ (member s m.val).mismatch then
    (updMember m.val (fun x => { x with present := true, linked := true, pin := pin, demand := demand, avg := avg, winEnd := windowEnd.toNat, lastRep := some s.now }) s)
  else casRelay false (.memberReport pin demand avg windowEnd.toNat) s

/-- MEMBER_RECORD (R493, R495). -/
def doMemberRecord (m : Fin 4) (words : List Word) (s : State) : State :=
  if isLead s ∧ m.val ≠ 0 ∧ (member s m.val).present then (updMember m.val (fun x => { x with record := some (words.take 16) }) s) else casRelay false (.memberRecord (words.take 16)) s

/-- Word `i` of a record as a number. -/
def recWord (w : List Word) (i : Nat) : Nat := (w.getD i 0).toNat
def recEnergy (w : List Word) : Int := (BitVec.ofNat 64 (recWord w 4 + 4294967296 * recWord w 5)).toInt

/-- BOARD_RECORD_CLOSE (R495): five seconds after the minute, the lead's own record with the members' energies added, AGGREGATED, and PARTIAL where a record or a window is missing. -/
def doBoardRecordClose (s : State) : State :=
  match s.cas.boardDue, s.cas.ownRec with
  | some t, some w =>
    if s.now < t then s
    else
      let ms := s.cas.member.filter (fun e => e.2.present)
      let recs := ms.filterMap (fun e => e.2.record)
      let energy := recs.foldl (fun a r => a + recEnergy r) (recEnergy w)
      let part := recs.length < ms.length ∨ recs.any (fun r => (recWord r 3).testBit 4) ∨ (recWord w 3).testBit 4
      let excess := if recWord w 6 = 0 then 0 else excessOf (recWord w 6) energy
      let flags := recWord w 3 ||| 8 ||| (if part then 16 else 0) ||| (if 0 < excess then 32 else 0)
      let e := (BitVec.ofInt 64 energy).toNat
      let ws := [w.getD 0 0, w.getD 1 0, w32 (s.shp.seq + 1), w32 flags, lo32 e, hi32 e] ++ ((w.drop 6).take 8) ++ [w32 excess]
      let s := { s with cas.ownRec := none, cas.boardDue := none, cas.member := s.cas.member.map (fun e => (e.1, { e.2 with record := none })) }
      let s := if part then raise uCAS 3 .corrected { w1 := w32 (s.shp.seq + 1) } s else s
      (ledgerAppend (sealRecord ws) excess ((t - 5 * sec) / minuteNs) s)
  | _, _ => s

/-- MEMBER_LOST (R496): a member has not reported for more than its 1 ms, or CS0 is down; it and those beyond it are reserved. -/
def doMemberLost (m : Fin 4) (s : State) : State :=
  let x := member s m.val
  let silent : Bool := match x.lastRep with | some t => decide (t + ms < s.now) | none => true
  if isLead s ∧ x.present ∧ x.linked ∧ (silent ∨ ¬ portActive s 9) then
    (raise uCAS 0 .contained { unit := m.val } { s with cas.member := s.cas.member.map (fun e => if m.val ≤ e.1 then (e.1, { e.2 with linked := false }) else e) })
  else s

/-- MEMBER_LEASE_EXPIRY (R496). -/
def doMemberLeaseExpiry (s : State) : State :=
  match s.cas.leaseEnd with
  | some t => if ¬ isLead s ∧ t ≤ s.now ∧ ¬ s.cas.lapsed then (raise uCAS 2 .contained {} { s with cas.lapsed := true }) else s
  | none => s

/-- First failing value of a CAS staged set: a pair; FIRST holds the member, 0 for the follower's fallback. -/
def casCheck (W : Nat → Word) : Option (Nat × Nat) :=
  if W 0x1A000C != ~~~ W 0x1A0008 then some (0, 1)
  else ([1, 2, 3].find? (fun m => [0x10, 0x18].any (fun o => W (0x1A0104 + 0x20 * m + o) != ~~~ W (0x1A0100 + 0x20 * m + o)))).map (fun m => (m, 1))

end Sys2Proof.Machine
end

