-- ==== Sys2Proof/Machine/CnpMath.lean ====
section
/-! DEFINITION. The arithmetic of the Canopy engine: operand formats, accumulation, requantisation, the nine operations and the twin sums (08_canopy_engine.md, R231–R239, R245). A value is an integer
in units of 2^-150, a product or a sum of products one in units of 2^-300, which is the least bit of the exact accumulator (R234). Format codes are those of R245: 0 INT8, 1 FP8 E4M3, 2 FP8 E5M2,
3 MXFP4, 4 BF16, 5 FP32. -/

namespace Sys2Proof.Machine

/-! ### Formats and rounding (R231, R232) -/

/-- A signed number divided by 2^k, rounded to nearest with ties to even. -/
def rne (a : Int) (k : Nat) : Int :=
  let q := a / 2 ^ k
  let r := a - q * 2 ^ k
  if 2 ^ k < 2 * r ∨ (2 * r = 2 ^ k ∧ q % 2 ≠ 0) then q + 1 else q

/-- Round `v`, in units of 2^-(150 + sh), to a floating-point format of `p` significant bits whose least step is 2^lsb and largest finite value `top`, both in units of 2^-150: nearest, ties to even,
saturating; with the mark whether it saturated. -/
def roundFloat (p lsb : Nat) (top : Int) (sh : Nat) (v : Int) : Int × Bool :=
  let q := max (v.natAbs.log2 + 1 - p) (lsb + sh)
  clampTo (-top) top (rne v q * 2 ^ (q - sh))

def toBf16 (sh : Nat) (v : Int) : Int × Bool := roundFloat 8 17 (255 * 2 ^ 270) sh v
def toFp32 (sh : Nat) (v : Int) : Int × Bool := roundFloat 24 1 (16777215 * 2 ^ 254) sh v

/-- Convert one value to a format other than MXFP4. -/
def toFormat (fmt sh : Nat) (v : Int) : Int × Bool :=
  match fmt with
  | 0 => let r := clampTo (-128) 127 (rne v (150 + sh)); (r.1 * 2 ^ 150, r.2)
  | 1 => roundFloat 4 141 (448 * 2 ^ 150) sh v
  | 2 => roundFloat 3 134 (57344 * 2 ^ 150) sh v
  | 4 => toBf16 sh v
  | _ => toFp32 sh v

/-- The exponent of the scale that a block of MXFP4 shares, offset by 150: that of its largest magnitude less the element's greatest exponent, 2, within E8M0. -/
def mxExp (sh : Nat) (l : List Int) : Nat := min (max (maxList (l.map (fun v => v.natAbs.log2)) - sh - 2) 23) 277

def toMxBlock (sh : Nat) (l : List Int) : List (Int × Bool) :=
  let e := mxExp sh l
  l.map (roundFloat 2 (e - 1) (6 * 2 ^ e) sh)

def toMx : Nat → Nat → List Int → List (Int × Bool)
  | 0, _, _ => []
  | n + 1, sh, l => toMxBlock sh (l.take 32) ++ toMx n sh (l.drop 32)

/-- Convert a vector, in units of 2^-(150 + sh), to a format; with the number of values that saturated (R232). -/
def toFormats (fmt sh : Nat) (l : List Int) : List Int × Nat :=
  let r := if fmt = 3 then toMx (l.length / 32 + 1) sh l else l.map (toFormat fmt sh)
  (r.map (·.1), (r.filter (·.2)).length)

/-- The value of a floating-point code of `eb` exponent and `mb` fraction bits below its sign. -/
def codeFloat (eb mb code : Nat) : Int :=
  let m := code % 2 ^ mb
  let e := code / 2 ^ mb % 2 ^ eb
  let b := 2 ^ (eb - 1) - 1 + mb
  let v : Int := ((if e = 0 then m * 2 ^ (151 - b) else (2 ^ mb + m) * 2 ^ (150 + e - b) : Nat) : Int)
  if code / 2 ^ (eb + mb) % 2 = 1 then -v else v

/-- The value of a weight code; none for a NaN or infinity (R232). -/
def weightCode (fmt code : Nat) : Option Int :=
  match fmt with
  | 0 => some ((BitVec.ofNat 8 code).toInt * 2 ^ 150)
  | 1 => if code % 128 = 127 then none else some (codeFloat 4 3 code)
  | 2 => if code / 4 % 32 = 31 then none else some (codeFloat 5 2 code)
  | 3 => some (codeFloat 2 1 code)
  | 4 => if code / 128 % 256 = 255 then none else some (codeFloat 8 7 code)
  | _ => if code / 8388608 % 256 = 255 then none else some (codeFloat 8 23 code)

/-- Bits of a weight code. -/
def weightWidth (fmt : Nat) : Nat := match fmt with | 0 => 8 | 1 => 8 | 2 => 8 | 3 => 4 | 4 => 16 | _ => 32

/-! ### Weights of a layer (R243, R244) -/

def layerBytes (img : ImageRec) (l : ImgLayer) : List Byte := (img.weights.drop l.weightOffset).take l.weightLength

/-- `w` bits of a layer's weights: item (row, col) of array 0 weights, 1 scales of MXFP4 blocks, 2 requantisation multipliers, 3 shifts (log 130). -/
def weightBits (img : ImageRec) (l : ImgLayer) (arr row col w : Nat) : Nat :=
  let o := Config.weightPos l.op l.dimIn l.dimOut arr row col
  leNat (((layerBytes img l).drop (o / 8)).take (w / 8 + 1)) / 2 ^ (o % 8) % 2 ^ w

/-- A weight, with the scale of its block under MXFP4; none for a code or scale that R232 refuses. -/
def weightAt (img : ImageRec) (l : ImgLayer) (row col : Nat) : Option Int :=
  match weightCode l.wfmt (weightBits img l 0 row col (weightWidth l.wfmt)) with
  | none => none
  | some v =>
    if l.wfmt = 3 then
      let sc := weightBits img l 1 row (col / 32) 8
      if sc = 255 then none else some (v * 2 ^ sc / 2 ^ 127)
    else some v

/-- Rows and columns of a layer's weights (R245): a dense row or convolution kernel for each output, the gate rows of a recurrent cell over its input and its hidden vector, the gain and bias of a layer norm,
and the X and Y values of an activation's points. -/
def weightShape (l : ImgLayer) : Nat × Nat :=
  match l.op with
  | 1 => (l.dimOut, l.dimIn)
  | 2 => (l.dimOut, l.p0 * l.dimIn)
  | 3 => (3 * l.dimOut, l.dimIn + l.dimOut)
  | 4 => (4 * l.dimOut, l.dimIn + l.dimOut)
  | 5 => (2, l.dimIn)
  | 8 => (2, l.p0)
  | _ => (0, 0)

/-- Whether an operation multiplies weights with activations, and so pairs their formats (R231). -/
def isPaired (l : ImgLayer) : Bool := decide (1 ≤ l.op ∧ l.op ≤ 4)

/-- No weight code of the layer is a NaN, an infinity or a scale of 0xFF (R232), and no shift of a requantisation lies above 47 (R233). -/
def weightsOk (img : ImageRec) (l : ImgLayer) : Bool :=
  let z := weightShape l
  (List.range z.1).all (fun r => (List.range z.2).all (fun c => (weightAt img l r c).isSome)) &&
    (!(isPaired l && l.wfmt == 0) || (List.range z.1).all (fun r => decide (weightBits img l 3 r 0 8 ≤ 47)))

def weightRow (img : ImageRec) (l : ImgLayer) (row first n : Nat) : List Int := (List.range n).map (fun i => (weightAt img l row (first + i)).getD 0)

/-! ### Products and sums (R231, R233–R235) -/

/-- The three BF16 parts of an FP32 operand. -/
def parts3 (v : Int) : Int × Int × Int :=
  let h := (toBf16 0 v).1
  let m := (toBf16 0 (v - h)).1
  (h, m, (toBf16 0 (v - h - m)).1)

/-- The products of two operands: one, or the six cross products where either is FP32. -/
def products (fp32 : Bool) (w x : Int) : List Int :=
  if fp32 then
    let a := parts3 w
    let b := parts3 x
    [a.1 * b.1, a.1 * b.2.1, a.2.1 * b.1, a.2.1 * b.2.1, a.1 * b.2.2, a.2.2 * b.1]
  else [w * x]

def terms (fp32 : Bool) (w x : List Int) : List Int := (List.zipWith (products fp32) w x).flatMap id

/-- The exact sum of reproducible mode and of integer layers. -/
def exactSum (l : List Int) : Int := l.foldl (· + ·) 0

/-- The elements of a list in the order of their keys. -/
def insertKey (e : Nat × Int) : List (Nat × Int) → List (Nat × Int)
  | [] => [e]
  | a :: r => if e.1 < a.1 then e :: a :: r else a :: insertKey e r
def orderBy (l : List (Nat × Int)) : List Int := (l.foldr insertKey []).map (·.2)

/-- Add in FP32, rounding each sum to nearest even (R235): a value in units of 2^-150. -/
def fp32Sum (l : List Int) : Int := l.foldl (fun a t => (toFp32 150 (a * 2 ^ 150 + t)).1) 0

/-- How a model runs: its image, its mode, the number of its tiles, the number of its start and the run since then. -/
structure CnpRun where
  img   : ImageRec
  repro : Bool
  tiles : Nat
  start : Nat
  run   : Nat
  deriving DecidableEq, Repr

/-- The sum of a layer's products in fast mode (R235): each tile adds its share in the fixed order of its array, and the shares are added as they arrive (log 131). -/
def fastSum (c : CnpRun) (ts : List Int) : Int :=
  let share := fun (t : Nat) => ts.zipIdx.filterMap (fun e =>
    if Config.termTile c.tiles ts.length e.2 % max c.tiles 1 = t then some (Config.termOrder ts.length e.2, e.1) else none)
  let parts := (List.range (max c.tiles 1)).map (fun t => (if c.tiles ≤ 1 then t else Config.arrival c.start c.run ts t, fp32Sum (orderBy (share t)) * 2 ^ 150))
  fp32Sum (orderBy parts) * 2 ^ 150

/-- A sum in units of 2^-300: exact in reproducible mode and for integers. -/
def sumTerms (c : CnpRun) (wfmt : Nat) (ts : List Int) : Int := if c.repro ∨ wfmt = 0 then exactSum ts else fastSum c ts

/-- The exact INT8 dot product of R233. -/
def dotInt8 (w x : List Int) : Int := (List.zipWith (· * ·) w x).foldl (· + ·) 0

/-- Requantisation (R233): the sum times a Q1.31 multiplier, shifted right by `sh`, rounded to nearest with ties away from zero, saturated to INT8. -/
def requantise (sum mult : Int) (sh : Nat) : Int := (clampTo (-128) 127 (roundDivPos (sum * mult) (2 ^ (31 + sh)))).1

/-- Whether that requantisation saturates, which the SAT count counts. -/
def requantSat (sum mult : Int) (sh : Nat) : Bool := (clampTo (-128) 127 (roundDivPos (sum * mult) (2 ^ (31 + sh)))).2

/-! ### Twin operands (R239) -/

/-- The twin operand of an INT8 activation is its bitwise complement (R239). -/
def twinInt8 (x : List Int) : List Int := x.map (fun v => -v - 1)

/-- The twin of an activation of a format, in units of 2^-150: the complement of an INT8 value, else the inverted sign. -/
def twinAct (afmt : Nat) (x : List Int) : List Int := x.map (fun v => if afmt = 0 then -v - 2 ^ 150 else -v)

/-- The twin check on the sums of one output (R239): S1 + S2 + ΣW = 0 for INT8, S1 + S2 = 0 otherwise. -/
def twinOk (afmt : Nat) (e : Int × Int × Int) : Bool := if afmt = 0 then e.1 + e.2.1 + e.2.2 == 0 else e.1 + e.2.1 == 0

/-! ### Layers (R245) -/

/-- Positions of a convolution's operand: its history, then the input cut into vectors of DIM_IN channels. -/
def chunks : Nat → Nat → List Int → List (List Int)
  | 0, _, _ => []
  | n + 1, d, l => if l = [] then [] else l.take d :: chunks n d (l.drop d)

def convHist (l : ImgLayer) (st : List (List Int)) : List (List Int) :=
  let n := (l.p0 - 1) * l.p2
  List.replicate (n - st.length) (List.replicate l.dimIn 0) ++ st

def convSeq (l : ImgLayer) (a : List Int) (st : List (List Int)) : List (List Int) := convHist l st ++ chunks a.length l.dimIn a

/-- First positions of a convolution's windows: every stride. -/
def convStarts (l : ImgLayer) (a : List Int) : List Nat :=
  let n := (chunks a.length l.dimIn a).length
  (List.range n).filter (fun t => t % max l.p1 1 = 0)

/-- The hidden vector of a recurrent cell, zero after a start (R249). -/
def hidden (l : ImgLayer) (st : List (List Int)) (k : Nat) : List Int := st.getD k (List.replicate l.dimOut 0)

/-- The weight rows and operands whose products a layer sums, output by output (R245). -/
def layerRows (img : ImageRec) (l : ImgLayer) (a : List Int) (st : List (List Int)) : List (List Int × List Int) :=
  match l.op with
  | 1 => (List.range l.dimOut).map (fun j => (weightRow img l j 0 l.dimIn, a))
  | 2 =>
    let q := convSeq l a st
    (convStarts l a).flatMap (fun t =>
      let x := (List.range l.p0).flatMap (fun k => q.getD (t + k * l.p2) [])
      (List.range l.dimOut).map (fun o => (weightRow img l o 0 (l.p0 * l.dimIn), x)))
  | 3 => (List.range (3 * l.dimOut)).flatMap (fun r => [(weightRow img l r 0 l.dimIn, a), (weightRow img l r l.dimIn l.dimOut, hidden l st 0)])
  | 4 => (List.range (4 * l.dimOut)).flatMap (fun r => [(weightRow img l r 0 l.dimIn, a), (weightRow img l r l.dimIn l.dimOut, hidden l st 0)])
  | _ => []

def isFp32 (l : ImgLayer) : Bool := l.wfmt == 5 || l.afmt == 5

def layerSums (c : CnpRun) (l : ImgLayer) (a : List Int) (st : List (List Int)) : List Int :=
  (layerRows c.img l a st).map (fun e => sumTerms c l.wfmt (terms (isFp32 l) e.1 e.2))

/-- The end of a dense or convolution output (R233, R234): requantised by its channel for INT8, else rounded once to the layer's format. -/
def finishSums (c : CnpRun) (l : ImgLayer) (sums : List Int) : List Int × Nat :=
  if l.wfmt = 0 then
    let r := sums.zipIdx.map (fun e =>
      let ch := e.2 % max l.dimOut 1
      let m := (BitVec.ofNat 32 (weightBits c.img l 2 ch 0 32)).toInt
      let k := weightBits c.img l 3 ch 0 8
      (requantise (e.1 / 2 ^ 300) m k, requantSat (e.1 / 2 ^ 300) m k))
    (r.map (fun e => e.1 * 2 ^ 150), (r.filter (·.2)).length)
  else toFormats l.afmt 150 sums

/-- A piecewise-linear activation (R54, R245) of one value, in units of 2^-300. -/
def pwlAct (xs ys : List Int) : Int → Int
  | x =>
    let n := xs.length
    if x < xs.getD 0 0 then ys.getD 0 0 * 2 ^ 150
    else
      match (List.range (n - 1)).find? (fun i => decide (x < xs.getD (i + 1) 0)) with
      | some i =>
        let dx := xs.getD (i + 1) 0 - xs.getD i 0
        ys.getD i 0 * 2 ^ 150 + qdiv ((ys.getD (i + 1) 0 - ys.getD i 0) * (x - xs.getD i 0) * 2 ^ 150) dx
      | none => ys.getD (n - 1) 0 * 2 ^ 150

/-- A cell's new vector (R245, R236): the function unit combines the gate sums of an element with its old hidden and cell values (log 130). `part` 0 is the hidden and 1 the cell vector. -/
def cellOut (l : ImgLayer) (part gates : Nat) (sums : List Int) (st : List (List Int)) : List Int × Nat :=
  toFormats l.afmt 0 ((List.range l.dimOut).map (fun j =>
    Config.canopyFn l.op part ((List.range gates).flatMap (fun g => [sums.getD (2 * (g * l.dimOut + j)) 0, sums.getD (2 * (g * l.dimOut + j) + 1) 0])
      ++ [(hidden l st 0).getD j 0, (hidden l st 1).getD j 0])))

/-- The result of a layer: its vector, its saturated conversions and its state after the job (R245). Operands are converted to its format first (R232). -/
def evalLayer (c : CnpRun) (l : ImgLayer) (a0 b0 : List Int) (st : List (List Int)) : (List Int × Nat) × List (List Int) :=
  let ca := toFormats l.afmt 0 a0
  let a := ca.1
  let done := fun (r : List Int × Nat) (st : List (List Int)) => ((r.1, ca.2 + r.2), st)
  match l.op with
  | 1 => done (finishSums c l (layerSums c l a st)) []
  | 2 => done (finishSums c l (layerSums c l a st)) (let q := convSeq l a st; q.drop (q.length - (l.p0 - 1) * l.p2))
  | 3 => let h := cellOut l 0 3 (layerSums c l a st) st; done h [h.1]
  | 4 =>
    let s := layerSums c l a st
    let h := cellOut l 0 4 s st
    let k := cellOut l 1 4 s st
    done (h.1, h.2 + k.2) [h.1, k.1]
  | 5 =>
    let sum := sumTerms c 1 (a.map (· * 2 ^ 150))
    let sq := sumTerms c 1 (a.map (fun x => x * x))
    done (toFormats l.afmt 0 (a.zipIdx.map (fun e =>
      Config.canopyFn 5 l.p0 [a.length, e.1, sum, sq, (weightAt c.img l 0 e.2).getD 0, (weightAt c.img l 1 e.2).getD 0]))) []
  | 6 =>
    let es := a.map (fun x => Config.canopyFn 6 0 [x])
    let sum := sumTerms c 1 (es.map (· * 2 ^ 150))
    done (toFormats l.afmt 0 (es.map (fun e => Config.canopyFn 6 1 [e, sum]))) []
  | 7 =>
    let cb := toFormats l.afmt 0 b0
    let r :=
      match l.p0 with
      | 0 => toFormats l.afmt 0 (List.zipWith (· + ·) a cb.1)
      | 1 => toFormats l.afmt 0 (List.zipWith (· - ·) a cb.1)
      | 2 => toFormats l.afmt 150 (List.zipWith (· * ·) a cb.1)
      | 3 => (List.zipWith max a cb.1, 0)
      | _ => (List.zipWith min a cb.1, 0)
    done (r.1, r.2 + cb.2) []
  | 8 => done (toFormats l.afmt 150 (a.map (pwlAct (weightRow c.img l 0 0 l.p0) (weightRow c.img l 1 0 l.p0)))) []
  | _ =>
    let ring := st ++ [a]
    done (toFormats l.afmt 0 ((List.range l.dimOut).map (fun i => Config.canopyFn 9 i (l.p0 :: l.p2 :: ring.flatMap id)))) (ring.drop (ring.length - l.p1))

/-! ### A job (R247, R248, R250) -/

/-- The state of a model by layer, its results so far and its saturated conversions. -/
structure CnpEval where
  state : Tab (List (List Int))
  outs  : List (List Int)
  sat   : Nat
  deriving DecidableEq, Repr

/-- The operand that a layer index names; 0xFFFF is the input vector. -/
def operandOf (input : List Int) (outs : List (List Int)) (k : Nat) : List Int := if k = 0xFFFF then input else outs.getD k []

/-- Evaluate the layers in order. -/
def evalLayers (c : CnpRun) (input : List Int) (st : Tab (List (List Int))) (ls : List ImgLayer) : CnpEval :=
  ls.zipIdx.foldl (fun e l =>
    let r := evalLayer c l.1 (operandOf input e.outs l.1.srcA) (operandOf input e.outs l.1.srcB) (tget [] st l.2)
    { state := tset [] e.state l.2 r.2, outs := e.outs ++ [r.1.1], sat := e.sat + r.1.2 }) { state := st, outs := [], sat := 0 }

/-- The input vector of a job (R247): each value, in units of 2^-32, times 2^SHIFT, converted to the first layer's format. -/
def inputVec (img : ImageRec) (vals : List Int) : List Int × Nat :=
  let shifts := img.inputs.flatMap (fun e => List.replicate (if e.kind = 0 then 1 else e.window) e.shift)
  toFormats ((img.layers.head?.map (·.afmt)).getD 0) 0 (List.zipWith (fun v sh => v * 2 ^ (118 + sh).toNat) vals shifts)

/-- One completed job on a model's state. -/
def evalJob (c : CnpRun) (st : Tab (List (List Int))) (vals : List Int) : CnpEval :=
  let i := inputVec c.img vals
  let e := evalLayers c i.1 st c.img.layers
  { e with sat := e.sat + i.2 }

/-- The state that the completed releases since the last start leave, oldest first (R237, R250). -/
def stateAfter (c : CnpRun) (hist : List (List Int × Bool)) : Tab (List (List Int)) :=
  hist.zipIdx.foldl (fun st e => if e.1.2 then (evalJob { c with run := e.2 } st e.1.1).state else st) []

/-- The job that follows a history. -/
def jobAfter (c : CnpRun) (hist : List (List Int × Bool)) (vals : List Int) : CnpEval :=
  evalJob { c with run := hist.length } (stateAfter c hist) vals

/-- The twin sums of a layer of a job (R239), S1, S2 and ΣW of each output, with the faults that the data path showed added to S1 and S2 of the outputs they name. -/
def twinSums (c : CnpRun) (hist : List (List Int × Bool)) (vals : List Int) (k : Nat) (faults : List (Nat × Int × Int)) : List (Int × Int × Int) :=
  match c.img.layers[k]? with
  | none => []
  | some l =>
    let c' := { c with run := hist.length }
    let st := stateAfter c hist
    let i := (inputVec c.img vals).1
    let e := evalLayers c' i st (c.img.layers.take k)
    let a := (toFormats l.afmt 0 (operandOf i e.outs l.srcA)).1
    (layerRows c.img l a (tget [] st k)).zipIdx.map (fun r =>
      let f := tget (0, 0) faults r.2
      let t := fun (x : List Int) => exactSum (terms (isFp32 l) r.1.1 x)
      (t r.1.2 + f.1, t (twinAct l.afmt r.1.2) + f.2, exactSum (r.1.1.map (· * 2 ^ 150))))

/-- Output conversion (R248): an element in units of 2^-150, times 2^SHIFT, rounded to Q16.16 with ties away from zero and saturated. -/
def outWord (elem shift : Int) : Word :=
  let e := 16 + shift - 150
  let v := if 0 ≤ e then elem * 2 ^ e.toNat else roundDivPos elem (2 ^ (-e).toNat)
  wInt (clampTo (-2147483648) 2147483647 v).1

end Sys2Proof.Machine
end

