-- ==== Sys2Proof/Machine/Thm.lean ====
section
/-! DEFINITION. Thermal supervision: channels and plausibility, groups and the staircase, shutdown latches, the strap comparator and the mirrors
(06_thermal_leak_and_flow.md, R172–R202), and the crossings of sense channels (R138). Temperatures are Q16.16 integers. -/

namespace Sys2Proof.Machine

def uTHM : FUnit := .block 0x0A
def uAFE : FUnit := .block 0x0D

def senseRec (s : State) (n : Nat) : Option SenseRec := s.und.senseRecs.find? (fun r => r.index == n)
def thermCh (s : State) (n : Nat) : ThermCh := tget {} s.thm.ch n
def updCh (n : Nat) (f : ThermCh → ThermCh) (s : State) : State := { s with thm.ch := tupd {} s.thm.ch n f }
def groupS (s : State) (g : Nat) : GroupS := tget {} s.thm.group g
def updGrp (g : Nat) (f : GroupS → GroupS) (s : State) : State := { s with thm.group := tupd {} s.thm.group g f }

/-- Live group parameter `i` of THM_G_PARAM: 0 WARN, 1 THROTTLE, 2 SHUTDOWN, 3 HYST_W, 4 HYST_T, 5 HYST_S, 6 STEP_PCT, 7 STEP_MS. -/
def grpPar (s : State) (g i : Nat) : Int := (liveWord s (0x0A2000 + 0x40 * g + 8 * i)).toInt
def stepMs (s : State) (g : Nat) : Nat := (liveWord s (0x0A2038 + 0x40 * g)).toNat
def capMinPct (s : State) : Int := (fld (liveWord s 0x0A0010) 7 0 : Int) * 65536

/-- Temperature kinds (R172). -/
def isTempKind (k : Nat) : Bool := k == 2 || k == 3 || k == 4

def members (s : State) (g : Nat) : List Nat :=
  (s.und.senseRecs.filter (fun r => isTempKind r.kind && r.group == g)).map (·.index)

/-- The group-input loop slot of group `g` (R174). -/
def groupInput (g : Nat) : Nat := 8 * (56 + g / 8) + g % 8

/-- A group with no member and no group input is unused (R173). -/
def groupUsed (s : State) (g : Nat) : Bool := members s g != [] || slotExists s (groupInput g)

/-! ### Sense-channel crossings (R138) -/

/-- SENSE_CHANNEL_TRIP: a crossing of TRIP_HI or TRIP_LO raises the AFE source of the channel, ITEM 0 for high and 1 for low (log 30). A limit of 0 is
unused. -/
def senseTrip (n : Nat) (v : Int) (s : State) : State :=
  let hi := senseParOf s n 6
  let lo := senseParOf s n 7
  let go := fun (key : Nat) (on : Bool) (item : Nat) (s : State) =>
    if on ∧ ¬ s.afe.tripped.contains key then
      raise uAFE (n % 256) .contained { unit := n, item := item, w1 := wInt v } { s with afe.tripped := sadd s.afe.tripped key }
    else if ¬ on then { s with afe.tripped := sdel s.afe.tripped key } else s
  go (2 * n + 1) (decide (lo ≠ 0 ∧ v < lo)) 1 (go (2 * n) (decide (hi ≠ 0 ∧ hi < v)) 0 s)

/-- SENSE_SAMPLE (R172, R179): a voltage or current channel, converted to Q16.16 V or A, to its signal, to the rails it supervises and to its comparators. -/
def doSenseSample (channel : Fin 128) (raw : Word) (s : State) : State :=
  let n := channel.val
  match senseRec s n with
  | none => s
  | some r =>
    let w := convertSense s n r.kind raw
    let s := writeSignal n w false s
    let s := if n < 64 then railVsReading n ((qdiv (w.toInt * 1000) 65536).toNat) s else s
    (senseTrip n w.toInt s)

/-! ### Plausibility and sampling (R177, R178, R180) -/

/-- The reading a channel had 100 ms ago, or its earliest within the last 100 ms. -/
def reading100 (l : List (Time × Int)) : Option Int := (l.head?).map (·.2)

/-- Keep the readings of the last 100 ms and one older. -/
def prune (now : Time) : List (Time × Int) → List (Time × Int)
  | a :: b :: r => if b.1 + 100 * ms ≤ now then prune now (b :: r) else a :: b :: r
  | l => l

/-- A usable neighbour's value (R177): a temperature channel that is neither stale nor implausible, or a fresh advisory. -/
def neighbour (s : State) (n : Nat) : Option Int :=
  if n = 0xFFFF then none
  else
    let g := tget {} s.gld.plane n
    let fresh := !(g.stale || (g.stale == g.staleC))
    if 768 ≤ n then (if fresh then some g.value.toInt else none)
    else if fresh ∧ ¬(thermCh s n).implaus ∧ (thermCh s n).seen then some (thermCh s n).value else none

/-- The rate band of a reading (R180): 0, 1 or 2. -/
def rateBand (s : State) (g : Nat) (v : Int) (implaus : Bool) : Nat :=
  if implaus ∨ grpPar s g 0 ≤ v then 2 else if grpPar s g 0 - 655360 ≤ v then 1 else 0

/-- THERMAL_SAMPLE (R172, R177, R178, R180): the conversion, the four tests, the signal and the rate. `value` is the reading before its conversion (log 26, log 124);
`feFault` that the front-end reports the sensor open or shorted. -/
def doThermalSample (channel : Nat) (value : Word) (feFault : Bool) (s : State) : State :=
  match senseRec s channel with
  | none => s
  | some r =>
    if ¬ isTempKind r.kind then s
    else
      let n := channel
      let value := convertSense s n r.kind value
      let v := value.toInt
      let x := thermCh s n
      let P := senseParOf s n
      let hist := prune s.now x.recent
      let range := decide (¬(P 2 = 0 ∧ P 3 = 0) ∧ (v < P 2 ∨ P 3 < v))
      let rate := match reading100 hist with
        | some v0 => decide (P 4 ≠ 0 ∧ P 4 < ((v - v0).natAbs : Int) * 10)
        | none => false
      let nb := [neighbour s r.neighA, neighbour s r.neighB].filterMap id
      let neigh := decide (P 5 ≠ 0) && nb != [] && nb.all (fun m => decide (P 5 < ((v - m).natAbs : Int)))
      let fail := feFault || range || rate || neigh
      let implaus := x.implaus || fail
      let band := rateBand s r.group v implaus
      let srate := if x.srate ≤ band then band else x.srate
      let low := if band < srate then (match x.lowSince with | some t => some t | none => some s.now) else none
      let x' := { x with value := v, seen := true, recent := hist ++ [(s.now, v)], feFault := feFault, range := range, rate := rate, neigh := neigh
                         implaus := implaus, passSince := if fail then none else (match x.passSince with | some t => some t | none => some s.now)
                         srate := srate, lowSince := low }
      let s := updCh n (fun _ => x') s
      let s := writeSignal n value feFault s
      let s := if fail ∧ ¬ x.implaus then raise uTHM 0 .corrected { unit := n, w1 := value } s else s
      (senseTrip n v s)

/-- CHANNEL_PLAUSIBLE (R178). -/
def doChannelPlausible (channel : Nat) (s : State) : State :=
  let x := thermCh s channel
  match x.passSince with
  | some t => if x.implaus ∧ t + sec ≤ s.now then (updCh channel (fun x => { x with implaus := false }) s) else s
  | none => s

/-- SAMPLE_RATE_FALL (R180). -/
def doSampleRateFall (channel : Nat) (s : State) : State :=
  let x := thermCh s channel
  match x.lowSince with
  | some t =>
    if 0 < x.srate ∧ t + 5 * sec ≤ s.now then
      let r' := x.srate - 1
      let g := match senseRec s channel with | some r => r.group | none => 0
      let low := if rateBand s g x.value x.implaus < r' then some s.now else none
      (updCh channel (fun x => { x with srate := r', lowSince := low }) s)
    else s
  | none => s

/-! ### What LKF and MOT force (R186, R198, R224) -/

def lkfCh (s : State) (c : Nat) : LkfCh := tget {} s.lkf.ch c

/-- A channel triggers its ACTION (R198): WET, LOW and HIGH, and with FAULT_AS_TRIGGER the fault states. -/
def lkfTrigger (s : State) (c : Nat) : Bool :=
  let st := (lkfCh s c).state
  let asTrig := (tget {} s.lkf.recs c).reaction.testBit 7
  if c < 16 then s.und.wet.contains c || (asTrig && decide (2 ≤ st ∧ st ≤ 4)) else st == 1 || st == 2 || (asTrig && st == 3)

/-- A THROTTLE_ZONE trigger forces the group (R186, R198). -/
def lkfForces (s : State) (g : Nat) : Bool :=
  (List.range 32).any (fun c => (tget {} s.lkf.recs c).reaction % 4 == 1 && (tget {} s.lkf.recs c).zone == g && lkfTrigger s c)

/-- A leak channel of the zone is latched WET, or a flow or pressure channel of it is in alarm (R188). -/
def lkfZoneAlarm (s : State) (g : Nat) : Bool :=
  (List.range 32).any (fun c => (tget {} s.lkf.recs c).zone == g &&
    (if c < 16 then s.und.wet.contains c else (lkfCh s c).state == 1 || (lkfCh s c).state == 2))

def motRec (s : State) (c : Nat) : MotRec := tget {} s.mot.recs c
def motRep (s : State) (c : Nat) : MotRep := tget {} s.mot.rep c

/-- Fault codes that put every other channel at full speed (R222, R224). -/
def stopsAll (f : Nat) : Bool := f == 1 || f == 2 || f == 3 || f == 5

/-- A fault that names other channels forces its ZONE group while it stays set (R224, R186). -/
def motForces (s : State) (g : Nat) : Bool :=
  (List.range 16).any (fun f => (stopsAll (motRep s f).fault || (motRep s f).fault == 4) && (motRec s f).zone == g && (motRec s f).kind != 0)

/-! ### Shutdown latches (R187–R189, R192) -/

/-- Slots a latch or a group covers: a slot by its number, 8 all (R173). -/
def coveredSlots (k : Nat) : List Nat := if k < 8 then [k] else List.range 8
def groupLatch (g : Nat) : Nat := if g < 8 then g else 8

/-- Commit the shutdown record (R189). -/
def commitShut (r : ShutRec) (s : State) : State :=
  let old := match nvsStagedOrNewest s 0x09 with | some (.shutdown l) => l | _ => []
  let l := (old.filter (fun e => e.episode != r.episode)) ++ [r]
  nvsQueue { rank := 1, area := 0x09, payload := some (.shutdown (l.drop (l.length - 16))), length := 1024 } s

def latchBits (s : State) : Nat := bitsMask s.und.shutLatch

/-- The power-down of latch `k` is under way, or its hold runs (R121, R187). -/
def downUnderWay (s : State) (k : Nat) : Bool :=
  if k = 8 then s.seq.trayState == 4 || (tfind s.seq.holds 8).isSome
  else slotState s k == 5 || (tfind s.seq.holds k).isSome || (tfind s.seq.holds 8).isSome || s.seq.trayState == 4

/-- SHUTDOWN_LATCH_SET (R187, R189): the latch, its record, PFW_N and the hold. `atOnce` is the strap's way without HOLD_US (R192). -/
def setShutLatch (k kind idx : Nat) (value : Int) (hottest steps : Nat) (atOnce : Bool) (s : State) : State :=
  let s := note (.latchFault k) { s with und.shutLatch := sadd s.und.shutLatch k }
  let s := match s.thm.shut with
    | some r =>
      let r' := { r with merge := satInc 255 r.merge, latches := latchBits s }
      { s with thm.shut := some r' }
    | none =>
      let r : ShutRec := { time := s.now, kind := kind, index := idx, scope := if k = 8 then 0xFF else k, value := value, hottest := hottest
                           steps := steps, latches := latchBits s, tcrit0 := tget 0 s.afe.critVal 0, tcrit1 := tget 0 s.afe.critVal 1
                           episode := s.thm.nextShut + 1, fwSvn := fwSvnOf s }
      rcdTrigger 1 <| commitShut r { s with thm.shut := some r, thm.nextShut := s.thm.nextShut + 1 }
  let s := forEach [0x0400] (fun src => writeFixedSignal 0x0A src (w32 (latchBits s)) false) s
  if atOnce then
    let s := drivePin .pfw 0 { s with seq.pfw := true, seq.pfwKeys := sadd s.seq.pfwKeys 8 }
    if s.seq.trayState = 2 ∨ s.seq.trayState = 3 then trayDown false (endHolds s)
    else if s.seq.trayState = 6 then { s with seq.holds := tput s.seq.holds 8 ⟨s.now, 0, true⟩ }
    else if s.seq.trayState = 4 then s
    else note (.powerDown 0xFF) (releasePfw { s with seq.pfwKeys := sdel s.seq.pfwKeys 8 })
  else if k = 8 then
    if 2 ≤ s.seq.trayState ∧ s.seq.trayState ≠ 5 then startTrayHold true (forEach [16, 0, 1, 2, 3, 4, 5, 6, 7] abortGraph s)
    else note (.powerDown 0xFF) s
  else if downUnderWay s k then s
  else if slotState s k = 3 ∨ slotState s k = 4 ∨ slotState s k = 7 then startHold k true (abortGraph k s)
  else if slotState s k = 2 then note (.powerDown k) (setSlotState k 1 s)
  else note (.powerDown k) s

/-- A power-down that a latch started, or that had nothing to power down, completes (R185, R187, R189): the level-3 request of its slots ends and the record closes. -/
def shutdownPowerDownDone (key : Nat) (s : State) : State :=
  let s := { s with und.thrL3 := if key = 0xFF then [] else sdel s.und.thrL3 key }
  match s.thm.shut with
  | some r =>
    if key = 0xFF ∨ r.scope = key then
      let r' := { r with closeTime := s.now }
      commitShut r' { s with thm.shut := none, thm.lastShut := some r' }
    else s
  | none => s

/-- Set a latch that is not already set by this cause's onset. -/
def latchForGroup (g : Nat) (s : State) : State :=
  let k := groupLatch g
  let x := groupS s g
  let s := { s with und.thrL3 := (coveredSlots k).foldl sadd s.und.thrL3 }
  setShutLatch k 0 g x.value x.hottest x.k false s

/-! ### Staircase (R183, R184) -/

/-- The smallest count for which 100 − k × STEP_PCT ≤ THM_CAP_MIN; a STEP_PCT of 0 never steps. -/
def stepLimit (s : State) (g : Nat) : Nat :=
  let p := grpPar s g 6
  if p ≤ 0 then 0 else ((6553600 - capMinPct s + p - 1) / p).toNat

/-- Cap of slot `k` under `n` steps of group `g` (R184). -/
def stairCap (s : State) (k g n : Nat) : Int :=
  qdiv (ratedW s k * max (6553600 - (n : Int) * grpPar s g 6) (capMinPct s)) 6553600

/-- Mirror a group's step count and state into the Understory (R200). -/
def mirrorGroup (g : Nat) (s : State) : State :=
  let x := groupS s g
  { s with und.thmMirror := tput s.und.thmMirror g (mkPair (w32 (x.k * 256 + x.state))) }

/-- k rises by one, at most to its limit. -/
def stepUp (g : Nat) (s : State) : State :=
  updGrp g (fun x => { x with k := if x.k < stepLimit s g then x.k + 1 else x.k }) s

/-- Level 2 is asked while the count is at its limit and the value at or above THROTTLE at a due instant (R185, R202 row 2). -/
def judgeLimit (g : Nat) (s : State) : State :=
  let x := groupS s g
  let at_ := decide (stepLimit s g ≤ x.k) && decide (grpPar s g 1 ≤ x.value)
  let s := updGrp g (fun x => { x with atLimit := at_ }) s
  if at_ ∧ ¬ x.atLimit then raise uTHM 2 .contained { unit := g, w1 := wInt x.value } s else s

/-- STAIRCASE_STEP (R183 item 2): a due instant of the running schedule. -/
def doStaircaseStep (group : Fin 32) (s : State) : State :=
  let g := group.val
  let x := groupS s g
  match x.sched with
  | some t =>
    if x.state = 2 ∧ t + (x.schedN + 1) * stepMs s g * ms ≤ s.now then
      let s := updGrp g (fun x => { x with schedN := x.schedN + 1 }) s
      (mirrorGroup g (judgeLimit g (if grpPar s g 1 ≤ x.value then stepUp g s else s)))
    else s
  | none => s

/-- STAIRCASE_RELEASE (R183 item 3). -/
def doStaircaseRelease (group : Fin 32) (s : State) : State :=
  let g := group.val
  let x := groupS s g
  match x.release with
  | some t =>
    if x.state = 2 ∧ 0 < x.k ∧ t + stepMs s g * ms ≤ s.now then
      (mirrorGroup g (updGrp g (fun x => { x with k := x.k - 1, release := some (t + stepMs s g * ms), atLimit := false }) s))
    else s
  | none => s

/-! ### Group evaluation (R175, R181, R182, R186) -/

/-- The forced groups: THROTTLE_ZONE triggers of LKF and zones of faulted motor channels (R186). -/
def forcedGroup (s : State) (g : Nat) : Bool := lkfForces s g || motForces s g

/-- The group value, its hottest member, and whether no member is plausible and no input fresh (R175). -/
def groupValue (s : State) (g : Nat) : Int × Nat × Bool :=
  let thr := grpPar s g 1
  let mv := ((members s g).filter (fun n => (thermCh s n).seen)).map (fun n => if (thermCh s n).implaus then (thr, n) else ((thermCh s n).value, n))
  let n := groupInput g
  let q := slotSt s n
  let inFresh := slotExists s n && !q.stale
  let stand : Bool := if g < 8 then slotState s g == 3 || slotState s g == 4 else s.seq.trayState == 3
  let iv : List (Int × Nat) :=
    if slotExists s n then (if q.stale then (if stand then [(thr, 0xFF)] else []) else [(q.out.toInt, 0xFF)]) else []
  let fv : List (Int × Nat) := if forcedGroup s g then [(thr, 0xFF)] else []
  let blind := (members s g).all (fun n => (thermCh s n).implaus) && !inFresh && groupUsed s g
  let best := (mv ++ iv ++ fv).foldl (fun (b : Option (Int × Nat)) x => match b with
    | some y => if y.1 < x.1 then some x else some y
    | none => some x) none
  match best with
  | some (v, h) => if blind then (max v thr, h, true) else (v, h, false)
  | none => (thr, 0xFF, true)

/-- No member has been read yet since the reset and nothing else gives a value: the group keeps the count and state it resumed (R200, log 101), and a schedule or value that a forcing gave it ends with that. -/
def groupUnread (s : State) (g : Nat) : Bool :=
  members s g != [] && (members s g).all (fun n => !(thermCh s n).seen) && !(slotExists s (groupInput g) && !(slotSt s (groupInput g)).stale) && !forcedGroup s g

/-- GROUP_EVALUATE for one group (R181, R183). -/
def evalGroup (g : Nat) (s : State) : State :=
  if ¬ groupUsed s g then s
  else if groupUnread s g then updGrp g (fun x => { x with value := 0, hottest := 0xFF, sched := none, atLimit := false }) s
  else
    let r := groupValue s g
    let v := r.1
    let was := groupS s g
    let W := grpPar s g 0; let T := grpPar s g 1; let S := grpPar s g 2
    let run := if S ≤ v then was.shutRun + 1 else 0
    let s := updGrp g (fun x => { x with value := v, hottest := r.2.1, shutRun := run }) s
    let s := if r.2.2 ∧ ¬ was.blindSaid then raise uTHM 3 .contained { unit := g } s else s
    let s := updGrp g (fun x => { x with blindSaid := r.2.2 }) s
    if was.state = 3 then s
    else if 3 ≤ run then
      let s := updGrp g (fun x => { x with state := 3, sched := none, release := none }) s
      let s := raise uTHM 4 .contained { unit := g, w1 := wInt v } s
      mirrorGroup g (latchForGroup g s)
    else
      -- entry to and exit from THROTTLE
      let enter := decide (T ≤ v)
      let s :=
        if was.state ≠ 2 ∧ enter then
          raise uTHM 1 .corrected { unit := g, item := 1, w1 := wInt v } (updGrp g (fun x => { x with state := 2 }) s)
        else s
      let x := groupS s g
      let s :=
        if x.state = 2 then
          if T ≤ v then
            let s := updGrp g (fun x => { x with release := none }) s
            if x.sched.isNone then
              stepUp g (updGrp g (fun x => { x with sched := some s.now, schedN := 0 }) s)
            else s
          else if v < T - grpPar s g 4 then
            updGrp g (fun x => { x with sched := none, atLimit := false, release := match x.release with | some t => some t | none => some s.now }) s
          else updGrp g (fun x => { x with release := none }) s
        else s
      let x := groupS s g
      let s :=
        if x.state = 2 then
          if x.k = 0 ∧ v < T - grpPar s g 4 then
            let low : Bool := decide (v < W - grpPar s g 3)
            let s := updGrp g (fun x => { x with state := if low then 0 else 1, sched := none, release := none }) s
            if low then s else raise uTHM 1 .corrected { unit := g, item := 0, w1 := wInt v } s
          else s
        else if x.state = 0 ∧ W ≤ v then
          raise uTHM 1 .corrected { unit := g, item := 0, w1 := wInt v } (updGrp g (fun x => { x with state := 1 }) s)
        else if x.state = 1 ∧ v < W - grpPar s g 3 then updGrp g (fun x => { x with state := 0 }) s
        else s
      mirrorGroup g s

/-! ### Thermal caps and pin requests (R184, R185) -/

/-- The governing group of a slot: the lowest cap over its own group and the tray groups in use. -/
def stairOf (s : State) (k : Nat) : Int × Nat :=
  (([k] ++ (List.range 24).map (· + 8)).filter (fun g => groupUsed s g)).foldl (fun (b : Int × Nat) g =>
    let c := stairCap s k g (groupS s g).k
    if c < b.1 then (c, g) else b) (ratedW s k, k)

/-- THM writes the staircase and thermal caps, and its pin requests, on the 1 ms tick (R184, R185, R201). -/
def writeThermal (k : Nat) (s : State) : State :=
  let st := stairOf s k
  let g := slotSt s (8 * 61 + k)
  let th := if slotExists s (8 * 61 + k) ∧ ¬ g.stale then min st.1 (qdiv (toWork (outType s (8 * 61 + k)) g.out) 65536) else st.1
  let l2 := ([k] ++ (List.range 24).map (· + 8)).any (fun g => groupUsed s g && (groupS s g).state == 2 && (groupS s g).atLimit)
  let req := if s.und.thrL3.contains k then 3 else if l2 then 2 else 0
  let s := { s with thm.stair := tput s.thm.stair k st.1, thm.govern := tput s.thm.govern k st.2, thm.thermal := tput s.thm.thermal k th
                    thm.thrReq := tput s.thm.thrReq k req }
  let s := writeCap k 2 th s
  let s := writeFixedSignal 0x0A (0x0300 + k) (qWord st.1) false s
  driveThr k s

/-- The part of THM's 1 ms tick that follows LKF's reactions (R182). -/
def thmTick (s : State) : State :=
  if s.thm.loaded then
    let s := forEach (List.range 32) evalGroup s
    let s := writeFixedSignal 0x0A 0x0400 (w32 (latchBits s)) false (forEach (List.range 8) writeThermal s)
    forEach (List.range 32) (fun g s =>
      if groupUsed s g then
        writeFixedSignal 0x0A (0x0200 + g) (w32 ((groupS s g).state + 256 * (groupS s g).k)) false
          (writeFixedSignal 0x0A (0x0100 + g) (wInt (groupS s g).value) false s)
      else s) s
  else s

/-! ### Clearing (R188) -/

/-- The groups that cover a latch: a slot's own and every tray group for the tray. -/
def latchGroups (k : Nat) : List Nat := if k < 8 then [k] else (List.range 24).map (· + 8)

def namedLatches (mask : Nat) (tray : Bool) : List Nat := maskBits 8 mask ++ (if tray then [8] else [])

/-- Judge a clear: result and the group or zone (R188). -/
def judgeShdnClr (s : State) (named : List Nat) : Nat × Nat :=
  match named.find? (fun k => !s.und.shutLatch.contains k) with
  | some _ => (1, 0)
  | none =>
    match (named.flatMap (fun k => if k < 8 then [k] ++ (List.range 24).map (· + 8) else (List.range 24).map (· + 8))).find? (fun g =>
        groupUsed s g && decide (grpPar s g 2 - grpPar s g 5 ≤ (groupS s g).value)) with
    | some g => (2, g)
    | none =>
      match (named.flatMap latchGroups).find? (fun g => lkfZoneAlarm s g) with
      | some g => (3, g)
      | none => if s.und.sysShdn then (4, 0) else (0, 0)

/-- A new TAG in THM_SHDN_CLR (R188). -/
def shdnClr (w : Word) (s : State) : State :=
  let tag := fld w 31 24
  if tag = lastTag s 0x0A0020 then s
  else
    let s := setTag 0x0A0020 tag s
    let named := namedLatches (fld w 23 16) (bit w 15)
    let j := judgeShdnClr s named
    let s := { s with thm.resTag := tag, thm.result := j.1, thm.resGroup := j.2 }
    if j.1 ≠ 0 then s
    else
      let s := { s with und.shutLatch := named.foldl sdel s.und.shutLatch }
      let s := forEach (named.flatMap latchGroups) (fun g s =>
        if (groupS s g).state = 3 then mirrorGroup g (updGrp g (fun x => { x with state := 0, shutRun := 0, k := 0 }) s) else s) s
      let s := writeFixedSignal 0x0A 0x0400 (w32 (latchBits s)) false s
      match s.thm.shut with
      | some r => if s.und.shutLatch = [] then
          commitShut { r with clearTime := s.now } { s with thm.lastShut := some { r with clearTime := s.now }, thm.shut := none } else s
      | none => match s.thm.lastShut with
        | some r => let r' := { r with clearTime := s.now }; commitShut r' { s with thm.lastShut := some r' }
        | none => s

/-- THM_SHDN_CLR accepts writes from THM and SEC only (R188, R202 row 9). -/
def shdnClrWrite (path : Path) (w : Word) (s : State) : State :=
  if path = .proc .thm ∨ path = .proc .sec then shdnClr w (setPair 0x0A0020 w s)
  else raise uTHM 9 .contained { path := pathCode path, w1 := some 0x0A0020, w2 := w } s

def doShdnClrRequest (path : Path) (tag mask : Byte) (tray : Bool) (s : State) : State :=
  (shdnClrWrite path (w32 (tag.toNat * 16777216 + mask.toNat * 65536 + (if tray then 32768 else 0))) s)

/-! ### Strap comparator (R190–R192) -/

/-- Critical temperature in Q16.16 °C. -/
def critTemp (s : State) : Int := (95 + 5 * (s.und.straps.therm : Int)) * 65536

/-- Consecutive critical conversions of a diode with this one (R190, R191). -/
def critCount (i : Nat) (value : Word) (faulted : Bool) (s : State) : Nat :=
  if ¬ faulted ∧ critTemp s ≤ value.toInt then tget 0 s.afe.critRun i + 1 else 0

/-- A conversion as AFE0 keeps it. -/
def critKeep (i : Nat) (value : Word) (faulted : Bool) (s : State) : State :=
  { s with afe.critVal := tput s.afe.critVal i value.toInt, afe.critFault := if faulted then sadd s.afe.critFault i else sdel s.afe.critFault i
           afe.critRun := tput s.afe.critRun i (min (critCount i value faulted s) 3) }

def tcritAsleep (i : Nat) (value : Word) (faulted : Bool) (s : State) : State :=
  let run := critCount i value faulted s
  let s := critKeep i value faulted s
  if 3 ≤ run ∧ ¬ s.und.sysShdn then { s with und.sysShdn := true, und.shutLatch := sadd s.und.shutLatch 8 } else s

def tcritAwake (i : Nat) (value : Word) (faulted : Bool) (s : State) : State :=
  let anew : Bool := faulted && !s.afe.critFault.contains i
  let run := critCount i value faulted s
  let w := if (senseRec s (160 + i)).isSome then gainOffset s (160 + i) value else value
  let s := writeSignal (160 + i) w faulted (critKeep i value faulted s)
  let s := if (senseRec s (160 + i)).isSome ∧ ¬ faulted then senseTrip (160 + i) w.toInt s else s
  let s := if anew then
      let s := raise uTHM 5 .contained { unit := i } s
      if s.afe.critFault.length = 2 then raise uTHM 6 .contained {} s else s
    else s
  if 3 ≤ run ∧ ¬ s.und.sysShdn then
    let s := raise uTHM 7 .fatal { unit := i, w1 := value } (rcdTrigger 4 { s with und.sysShdn := true })
    (setShutLatch 8 4 0 value.toInt 0 0 true s)
  else s

/-- TCRIT_CONVERSION (R190–R192): three consecutive critical conversions assert SYS_SHDN_N until power-on reset; THM sets the tray latch with cause
STRAP at once. An open or shorted diode does not count (R191). The comparator takes the conversion itself, the signal and the limits take it by SCALE and OFFSET (log 124). In D3 the comparator runs on without the core die (R14): the pin falls and the latch in the Understory is set. -/
def doTcritConversion (diode : Fin 2) (value : Word) (faulted : Bool) (s : State) : State :=
  if s.pmd.state = 3 then tcritAsleep diode.val value faulted s else tcritAwake diode.val value faulted s

/-! ### Load, mirrors and commit checks (R172, R176, R200) -/

/-- Words of section 0x03's parameter part. -/
def thmParWords (b : Bitstream) : Tab Word :=
  let put := fun (o : Nat) (v : Word) => [(o, v)]
  let cw := b.sensePar.flatMap (fun e =>
    let o := 0x0A8000 + 0x40 * e.1; let p := e.2
    put o (wInt p.scale) ++ put (o + 8) (wInt p.offset) ++ put (o + 16) (wInt p.rangeLo) ++ put (o + 24) (wInt p.rangeHi) ++
    put (o + 32) (wInt p.rateMax) ++ put (o + 40) (wInt p.neighDev) ++ put (o + 48) (wInt p.tripHi) ++ put (o + 56) (wInt p.tripLo))
  let gw := b.groupPar.flatMap (fun e =>
    let o := 0x0A2000 + 0x40 * e.1; let p := e.2
    put o (wInt p.warn) ++ put (o + 8) (wInt p.throttle) ++ put (o + 16) (wInt p.shutdown) ++ put (o + 24) (wInt p.hystW) ++
    put (o + 32) (wInt p.hystT) ++ put (o + 40) (wInt p.hystS) ++ put (o + 48) (wInt p.stepPct) ++ put (o + 56) (w32 p.stepMs))
  cw ++ gw

/-- Load section 0x03 (R14, R172): THM and the front-end dies take it. -/
def thmLoad (b : Bitstream) (s : State) : State :=
  let ws := thmParWords b
  loadWords ws { s with thm.loaded := true, und.senseRecs := b.sense, afe.loaded := true }

/-- MIRROR_RESUME for THM (R200): each group from its mirror; a pair that does not match gives the count whose cap first falls to or below the slot's
FALLBACK_W, or the tray's lowest, and a corrected fault. `s` still holds the parameters the groups ran under. -/
def resumeGroup (g : Nat) (s : State) : GroupS × Bool :=
  match tfind s.und.thmMirror g with
  | none => ({}, false)
  | some p =>
    if pairOk p then ({ state := fld p.value 7 0, k := fld p.value 31 8 }, false)
    else
      let ks := if g < 8 then [g] else List.range 8
      let want := minList 0 (ks.map (fun k => (fallbackW s k).toNat))
      let n := ((List.range (stepLimit s g + 1)).find? (fun n => ks.any (fun k => decide (stairCap s k g n ≤ (want : Int))))).getD (stepLimit s g)
      ({ state := 2, k := n }, true)

/-- First failing value of a THM staged set (R176, THM_COMMIT): FIRST and result 1 PAIR, 2 RANGE, 3 ORDER. -/
def thmCheck (s : State) (W : Nat → Word) : Option (Nat × Nat) :=
  let bad := fun (o : Nat) => W (o + 4) != ~~~ W o
  let chans := s.und.senseRecs.map (·.index)
  let groups := (List.range 32).filter (fun g => groupUsed s g)
  match chans.find? (fun n => (List.range 8).any (fun i => bad (0x0A8000 + 0x40 * n + 8 * i))) with
  | some n => some (n, 1)
  | none =>
    match groups.find? (fun g => (List.range 8).any (fun i => bad (0x0A2000 + 0x40 * g + 8 * i))) with
    | some g => some (0xE0 + g, 1)
    | none =>
      if bad 0x0A0010 then some (0xDF, 1)
      else
        let kindOf := fun n => match senseRec s n with | some r => r.kind | none => 0
        let zero := fun n => if n == 164 then [2, 3, 4, 5, 6, 7] else if isTempKind (kindOf n) then [] else [2, 3, 4, 5]
        match chans.find? (fun n => (zero n).any (fun i => W (0x0A8000 + 0x40 * n + 8 * i) != 0)) with
        | some n => some (n, 2)
        | none =>
          let P := fun g i => (W (0x0A2000 + 0x40 * g + 8 * i)).toInt
          let okG := fun g => decide (P g 0 < P g 1) && decide (P g 1 < P g 2) &&
            [3, 4, 5].all (fun i => decide (0 ≤ P g i) && decide (P g i < 1310720)) &&
            decide (65536 ≤ P g 6) && decide (P g 6 ≤ 3276800) && decide (100 ≤ P g 7) && decide (P g 7 ≤ 60000)
          match groups.find? (fun g => !okG g) with
          | some g => some (0xE0 + g, 3)
          | none => if 5 ≤ fld (W 0x0A0010) 7 0 ∧ fld (W 0x0A0010) 7 0 ≤ 50 then none else some (0xDF, 2)

end Sys2Proof.Machine
end

