-- ==== Sys2Proof/Machine/Lkf.lean ====
section
/-! DEFINITION. Leak, flow and pressure channels and their reactions (06_thermal_leak_and_flow.md, R193–R199, R203). -/

namespace Sys2Proof.Machine

def uLKF : FUnit := .block 0x0C

def updLkf (c : Nat) (f : LkfCh → LkfCh) (s : State) : State := { s with lkf.ch := tupd {} s.lkf.ch c f }
/-- Live parameter `i` of channel `c`: 0 LEVEL_A, 1 LEVEL_B, 2 SCALE, 3 OFFSET. -/
def lkfPar (s : State) (c i : Nat) : Int := (liveWord s (0x0C1000 + 0x20 * c + 8 * i)).toInt
def lkfParN (s : State) (c i : Nat) : Nat := (liveWord s (0x0C1000 + 0x20 * c + 8 * i)).toNat

/-- Plane index of a channel's signal (R41). -/
def lkfSignal (c : Nat) : Nat := if c < 16 then 165 + c else if c < 24 then 181 + (c - 16) else 189 + (c - 24)

/-- The state a WET latch makes a leak channel report, whatever qualifies, until it is cleared (R195). -/
def leakState (s : State) (c : Nat) (st : Nat) : Nat := if s.und.wet.contains c then 1 else st

/-- The WET latches with their mirror in the Understory (R195, R200). -/
def setWet (l : NSet) (s : State) : State := { s with und.wet := l, und.wetMirror := mkPair (w32 (bitsMask l)) }

/-- Enter a state: signal, and the fault source of R203 at each transition. -/
def enterLkf (c st : Nat) (s : State) : State :=
  let was := (lkfCh s c).state
  let s := updLkf c (fun x => { x with state := st }) s
  let s := if c < 16 then writeSignal (165 + c) (w32 st) (decide (2 ≤ st)) s
    else if st = 3 then writeSignal (lkfSignal c) (wInt (lkfCh s c).value) true s else s
  if st = was then s
  else if c < 16 then
    (if st = 1 then raise uLKF 0 .contained { unit := c, w2 := w32 st } s
     else if 2 ≤ st ∧ st ≤ 4 then raise uLKF 1 .contained { unit := c, item := st - 2, w2 := w32 st } s else s)
  else if st = 1 ∨ st = 2 then raise uLKF 2 .contained { unit := c, item := st - 1, w2 := w32 st } s
  else if st = 3 then raise uLKF 3 .contained { unit := c, w2 := w32 st } s
  else s

/-- The band of a leak reading (R194): 0 DRY, 1 WET, 2 OPEN, 3 SHORT, 0xFF none. `r` and `q` in Q16.16. -/
def leakBand (s : State) (c : Nat) (r q : Int) : Nat :=
  if 32768 < q then 0xFF
  else if 131072 ≤ r then 2
  else if lkfPar s c 0 ≤ r then 0
  else if lkfPar s c 1 ≤ r then 1
  else 3

/-- A resistance in 2^-8 Ω as a ratio to SCALE, in Q16.16 (R193). -/
def leakRatio (s : State) (c : Nat) (ohms : Word) : Int := (clampTo 0 2147483647 (qdiv ((ohms.toNat : Int) * 256) (max (lkfParN s c 2) 1))).1

/-- LEAK_READING (R193–R195): the in-phase and quadrature resistance that the demodulated current gives, in 2^-8 Ω, become r and q; five consecutive readings in a band take its state; WET
latches. -/
def doLeakReading (channel : Fin 16) (r q : Word) (s : State) : State :=
  let c := channel.val
  let x := lkfCh s c
  if x.state = 7 then s
  else
    let ri := leakRatio s c r
    let qi := leakRatio s c q
    let b := leakBand s c ri qi
    let run := if b = x.band then x.run + 1 else 1
    let s := updLkf c (fun x => { x with band := b, run := min run 5, value := ri, aux := qi }) s
    if b ≠ 0xFF ∧ 5 ≤ run then
      let s := updLkf c (fun x => { x with qualAt := s.now, taken := b }) s
      let s := if b = 1 ∧ ¬ s.und.wet.contains c then setWet (sadd s.und.wet c) s else s
      (enterLkf c (leakState s c b) s)
    else s

/-- LEAK_NOISY (R194). -/
def doLeakNoisy (channel : Fin 16) (s : State) : State :=
  let c := channel.val
  let x := lkfCh s c
  if x.state ≠ 7 ∧ x.qualAt + 500 * ms ≤ s.now then (enterLkf c (leakState s c 4) (updLkf c (fun x => { x with taken := 4 }) s)) else s

/-- LKF_CLEAR (R195): every named channel must have DRY qualified, or the clear is refused with NOT_DRY. -/
def lkfClear (w : Word) (s : State) : State :=
  let tag := fld w 31 24
  if tag = lastTag s 0x0C0010 then s
  else
    let s := setTag 0x0C0010 tag s
    let named := maskBits 16 (fld w 15 0)
    match named.find? (fun c => (lkfCh s c).taken != 0) with
    | some c => { s with lkf.resTag := tag, lkf.result := 1, lkf.resCh := c }
    | none =>
      let s := setWet (named.foldl sdel s.und.wet) { s with lkf.resTag := tag, lkf.result := 0, lkf.resCh := 0 }
      forEach named (fun c s => if (lkfCh s c).state = 1 then enterLkf c 0 s else s) s

/-- LKF_CLEAR accepts writes from THM and SEC only (R195, R203 row 4). -/
def lkfClearWrite (path : Path) (w : Word) (s : State) : State :=
  if path = .proc .thm ∨ path = .proc .sec then lkfClear w (setPair 0x0C0010 w s)
  else raise uLKF 4 .contained { path := pathCode path, w1 := some 0x0C0010, w2 := w } s

def doLkfClearRequest (path : Path) (tag : Byte) (mask : BitVec 16) (s : State) : State :=
  (lkfClearWrite path (w32 (tag.toNat * 16777216 + mask.toNat)) s)

/-- Beyond a limit in use: low, high (R197). -/
def flowLow (s : State) (c : Nat) (v : Int) : Bool := decide (lkfPar s c 0 ≠ 0 ∧ v < lkfPar s c 0)
def flowHigh (s : State) (c : Nat) (v : Int) : Bool := decide (lkfPar s c 1 ≠ 0 ∧ lkfPar s c 1 < v)
/-- Inside the limit of an alarm by 5 % of that limit. -/
def flowInside (s : State) (c st : Nat) (v : Int) : Bool :=
  if st = 1 then decide (lkfPar s c 0 * 105 ≤ v * 100) else decide (v * 100 ≤ lkfPar s c 1 * 95)

/-- Mode 1 (R196): the frequency of the newest pulses, held between pulses and 0 from 2 s after the last; the ten newest samples are the 100 ms that f is averaged over. -/
def flowPulse (x : LkfCh) (now : Time) (f : Int) : LkfCh :=
  let last := if 0 < f then some now else x.pulseAt
  let quiet : Bool := match last with | some t => decide (t + 2 * sec ≤ now) | none => true
  let g := if 0 < f then f else if quiet then 0 else x.freqs.headD 0
  { x with pulseAt := last, freqs := if quiet then [] else (g :: x.freqs).take 10 }

/-- The mean of the frequencies kept. -/
def flowMean (l : List Int) : Int := if l = [] then 0 else qdiv (l.foldl (· + ·) 0) l.length

/-- FLOW_SAMPLE (R196, R197). `x` is the frequency in Q16.16 Hz of the pulses since the last sample, 0 for none, the input in Q16.16 V, or the ratio in Q16.16, by mode. -/
def doFlowSample (channel : Fin 16) (x : Word) (s : State) : State :=
  let c := 16 + channel.val
  let m := (tget {} s.lkf.recs c).mode
  let q := lkfCh s c
  if m = 0 ∨ q.state = 7 then s
  else
    let q := if m = 1 then flowPulse q s.now x.toInt else q
    let s := updLkf c (fun _ => q) s
    let xi := if m = 1 then flowMean q.freqs else x.toInt
    let sc := lkfParN s c 2
    let v := if m = 1 then qdiv (60 * xi) (max sc 1) else qdiv (lkfPar s c 2 * xi) 65536 + lkfPar s c 3
    let bad := if m = 1 then decide (5000 * 65536 < xi)
      else if m = 2 then decide (xi * 1000 < 66 * 65536) || decide (3234 * 65536 < xi * 1000)
      else decide (xi * 100 < 5 * 65536) || decide (95 * 65536 < xi * 100)
    let aux := if m = 1 then xi else (clampTo (-2147483648) 2147483647 (xi * 16384)).1
    let low := flowLow s c v; let high := flowHigh s c v
    let beyond := if s.lkf.judging ∧ (low ∨ high) then
        (match q.beyond with | some t => if q.beyondHi = high then some t else some s.now | none => some s.now) else none
    let inside := if s.lkf.judging ∧ flowInside s c q.state v then (match q.inside with | some t => some t | none => some s.now) else none
    let s := updLkf c (fun x => { x with value := v, aux := aux, beyond := beyond, beyondHi := high, inside := inside }) s
    let s := writeSignal (lkfSignal c) (qWord v) bad s
    if bad then (enterLkf c 3 s)
    else if q.state = 3 then (enterLkf c 0 s)
    else s

/-- FLOW_ALARM (R197). -/
def doFlowAlarm (channel : Fin 16) (s : State) : State :=
  let c := 16 + channel.val
  let x := lkfCh s c
  match x.beyond with
  | some t => if s.lkf.judging ∧ x.state = 0 ∧ t + 2 * sec ≤ s.now then (enterLkf c (if x.beyondHi then 2 else 1) s) else s
  | none => s

/-- FLOW_ALARM_END (R197). -/
def doFlowAlarmEnd (channel : Fin 16) (s : State) : State :=
  let c := 16 + channel.val
  let x := lkfCh s c
  match x.inside with
  | some t => if s.lkf.judging ∧ (x.state = 1 ∨ x.state = 2) ∧ t + 2 * sec ≤ s.now then (enterLkf c 0 s) else s
  | none => s

/-- FLOW_JUDGE_START (R197). -/
def doFlowJudgeStart (s : State) : State :=
  match s.lkf.runSince with
  | some t => if s.seq.trayState = 3 ∧ t + 10 * sec ≤ s.now then { s with lkf.judging := true } else s
  | none => s

/-- LKF_REACTION on THM's 1 ms tick (R198): at the onset of a trigger, DOWN_ZONE and DOWN_TRAY set the latch. Forcing is read by the groups. -/
def lkfReaction (s : State) : State :=
  forEach (List.range 32) (fun c s =>
    let r := tget {} s.lkf.recs c
    let trig := lkfTrigger s c
    if trig ∧ ¬(lkfCh s c).acted then
      let s := updLkf c (fun x => { x with acted := true }) s
      let kind := if c < 16 then 1 else if c < 24 then 2 else 3
      if r.reaction % 4 = 2 then setShutLatch (groupLatch r.zone) kind c (lkfCh s c).value 0xFF 0 false s
      else if r.reaction % 4 = 3 then setShutLatch 8 kind c (lkfCh s c).value 0xFF 0 false s
      else s
    else if ¬ trig then updLkf c (fun x => { x with acted := false }) s
    else s) s

/-- A thermal emergency is in force (R199). -/
def thermalEmergency (s : State) : Bool :=
  (List.range 32).any (fun g => groupUsed s g && decide (2 ≤ (groupS s g).state)) || s.und.shutLatch != [] || s.und.wet != [] || s.und.sysShdn

/-- Words of section 0x05's parameter part. -/
def lkfParWords (b : Bitstream) : Tab Word :=
  b.lkfPar.flatMap (fun e =>
    let o := 0x0C1000 + 0x20 * e.1; let p := e.2
    let put := fun (o : Nat) (v : Word) => [(o, v)]
    put o (wInt p.levelA) ++ put (o + 8) (wInt p.levelB) ++ put (o + 16) (wInt p.scale) ++ put (o + 24) (wInt p.offset))

/-- The WET latches as LKF resumes them from their mirror after a reset (R200); where the pair does not match, a latch that either half shows (log 125). -/
def resumeWet (s : State) : NSet :=
  let p := s.und.wetMirror
  maskBits 16 (fld (p.value ||| ~~~ p.comp) 15 0)

/-- Load section 0x05 (R85: absent, every channel is disabled); a WET latch of the Understory is resumed (R200). -/
def lkfLoad (b : Bitstream) (s : State) : State :=
  let s := loadWords (lkfParWords b) { s with lkf.recs := b.lkf }
  forEach (List.range 32) (fun c s =>
    let en := (tget {} b.lkf c).mode != 0 || (decide (c < 16) && (tfind b.lkf c).isSome && (tget {} b.lkf c).mode == 0 && decide ((tget {} b.lkfPar c).scale ≠ 0))
    updLkf c (fun x => { x with state := if en then (if c < 16 ∧ s.und.wet.contains c then 1 else if x.state = 7 then 0 else x.state) else 7
                                qualAt := s.now }) s) s

/-- First failing value of an LKF staged set (R194, R197): FIRST holds the channel. -/
def lkfCheck (s : State) (W : Nat → Word) : Option (Nat × Nat) :=
  let P := fun c i => (W (0x0C1000 + 0x20 * c + 8 * i)).toInt
  let bad := fun c => (List.range 4).any (fun i => W (0x0C1004 + 0x20 * c + 8 * i) != ~~~ W (0x0C1000 + 0x20 * c + 8 * i))
  let on := (List.range 32).filter (fun c => (lkfCh s c).state != 7)
  match on.find? bad with
  | some c => some (c, 1)
  | none =>
    let okc := fun c =>
      if c < 16 then decide (P c 1 * 1000 ≥ 65536) && decide (P c 1 < P c 0) && decide (P c 0 * 100 ≤ 95 * 65536) && decide (P c 3 = 0)
      else decide (P c 0 = 0) || decide (P c 1 = 0) || decide (P c 0 < P c 1)
    match on.find? (fun c => !okc c) with
    | some c => some (c, 3)
    | none =>
      (on.find? (fun c => decide (c < 16) && (decide ((W (0x0C1010 + 0x20 * c)).toNat < 1000) || decide (200000 < (W (0x0C1010 + 0x20 * c)).toNat)))).map
        (fun c => (c, 2))

end Sys2Proof.Machine
end

