-- ==== Sys2Proof/Machine/Mot.lean ====
section
/-! DEFINITION. The motor dies, their channels, heartbeats, setpoints, overrides and clears (07_motor_drive.md, R204–R229). Speeds are Q16.16 rpm integers. -/

namespace Sys2Proof.Machine

def uMOT : FUnit := .block 0x0B

def motDie (s : State) (d : Nat) : MotDie := tget {} s.mdie d
def updDie (d : Nat) (f : MotDie → MotDie) (s : State) : State := { s with mdie := tupd {} s.mdie d f }
def motCh (s : State) (c : Nat) : MotCh := tget {} s.mch c
def updMot (c : Nat) (f : MotCh → MotCh) (s : State) : State := { s with mch := tupd {} s.mch c f }
def dieOf (c : Nat) : Nat := c / 8
def dieChs (d : Nat) : List Nat := (List.range 8).map (fun i => 8 * d + i)

/-- Live parameter `i` of MOTc: 0 PWM_KHZ, 1 START_TRIES, 2 I_LIMIT, 3 RPM_MAX, 4 RPM_FAULT, 5 FAULT_MS, 6 START_I, 7 REST_MS. -/
def motPar (s : State) (c i : Nat) : Nat := (liveWord s (0x0B1000 + 0x40 * c + 8 * i)).toNat

/-- The boot profile in the order of `motPar` (R220): 25 kHz, no limit of attempts (0), 10 A, START_I 3 A and a rest of 5 s. -/
def bootPar : List Nat := [25, 0, 10 * 65536, 0, 0, 0, 3 * 65536, 5000]

/-- The parameter as the die applies it; before a configuration is delivered, the boot profile (R220). -/
def dieIsBoot (s : State) (c : Nat) : Bool := (motDie s (dieOf c)).state == .boot
def chPar (s : State) (c i : Nat) : Nat := (if dieIsBoot s c then bootPar else (motCh s c).par).getD i 0
def restNs (s : State) (c : Nat) : Nat := (motCh s c).capRest * ms

/-- Full speed and the handoff speed (R208: 10 % of RPM_MAX; R220: an electrical 50 Hz, taken for one pole pair, log 40). -/
def rpmMaxQ (s : State) (c : Nat) : Int := (chPar s c 3 : Int) * 65536
def handoffQ (s : State) (c : Nat) : Int := if dieIsBoot s c then 3000 * 65536 else qdiv (rpmMaxQ s c) 10

/-! ### Overrides (R222, R224) -/

/-- Channel `c` is covered by an override caused by channel `f` with fault `code` and zone `z`. -/
def covers (z zc : Nat) (code f c : Nat) : Bool :=
  (stopsAll code && f != c) || (code == 4 && (f == c || (z == zc && z != 0xFF)))

/-- The fault code a channel shows (R222): of several, the one that holds it FAULTED, then SPEED_LOW, SENSE_LOST and HALL_INVALID (log 127). -/
def faultCode (x : MotCh) : Nat :=
  if x.fault ≠ 0 then x.fault else if x.slow then 4 else if x.state = 5 then 6 else if x.hallInv then 7 else 0

/-- The die's own override on its own channels (R224). -/
def dieOverride (s : State) (c : Nat) : Bool :=
  !dieIsBoot s c && (dieChs (dieOf c)).any (fun f => covers (motCh s f).cfg.zone (motCh s c).cfg.zone (faultCode (motCh s f)) f c)

/-- The override as MOT knows it from the replies. -/
def motOverride (s : State) (c : Nat) : Bool :=
  (List.range 16).any (fun f => covers (motRec s f).zone (motRec s c).zone (motRep s f).fault f c)

/-! ### Channel states (R208–R210) -/

/-- The speed a channel is commanded to (R215–R220, R224); full speed is RPM_MAX, and in BOOT full duty, for which 1 stands. -/
def chTarget (s : State) (c : Nat) : Int :=
  let d := motDie s (dieOf c)
  if d.state = .boot then 1
  else if d.state = .failsafe ∨ d.silent ∨ (motCh s c).lost ∨ dieOverride s c then rpmMaxQ s c
  else (motCh s c).setpoint

/-- Time in RUN or OPEN_LOOP counts as running time (MOT_C_RUNTIME). -/
def isRunning (st : Nat) : Bool := st == 4 || st == 5

/-- The states whose six gate outputs are off: UNUSED, STOPPED, REST and FAULTED (R205). -/
def isOff (st : Nat) : Bool := st == 0 || st == 1 || st == 6 || st == 7

/-- The drive of the gates in a state (R205, R211, R220): blocks in TRAPEZOIDAL mode and in the boot profile, sinusoidal in FOC mode. -/
def gatesIn (s : State) (c st : Nat) : GateDrive :=
  if isOff st then .off else if dieIsBoot s c ∨ (motCh s c).cfg.commut = 0 then .block else .sine

/-- Enter a state. STOPPED returns the attempt count to 0 (R209) and, as FAULTED, ends a start; STOPPED, REST and FAULTED end a Hall lock-out (R225). -/
def enterCh (c st : Nat) (s : State) : State :=
  let g := gatesIn s c st
  updMot c (fun x =>
    let x := if isRunning x.state then { x with runNs := x.runNs + (s.now - x.at_) } else x
    let off := isOff st
    { x with state := st, at_ := s.now, watch := none, coast := none, gates := g
             tries := if st = 1 then 0 else x.tries
             starting := x.starting && !(st == 1 || st == 7)
             hall := x.hall && !off
             hallBad := x.hallBad && !off
             speed := if off then 0 else x.speed }) s

/-- Set a channel fault and note it for the next reply; codes 1–5 count (MOT_C_COUNTS). SENSE_LOST is the state OPEN_LOOP itself. -/
def chFault (c code : Nat) (s : State) : State :=
  updMot c (fun x => { x with fault := if stopsAll code then code else x.fault
                              slow := x.slow || code == 4, slowAt := if code = 4 then s.now else x.slowAt
                              report := sadd x.report code
                              faults := if code ≤ 5 then satInc 65535 x.faults else x.faults }) s

/-! ### The drive of a channel (R205, R211, R212) -/

/-- The speed regulator's reference now (R211): a fall takes effect at once, the motor coasting down; a rise runs at RPM_MAX per 2 s. -/
def regNow (s : State) (c : Nat) : Int :=
  let x := motCh s c
  if x.goal ≤ x.ref then x.goal else min x.goal (x.ref + rpmMaxQ s c * ((s.now - x.refAt : Nat) : Int) / ((2 * sec : Nat) : Int))

/-- Turn the regulator to the commanded speed; a rise begins at the motor's own speed where that is above the reference (log 126). -/
def setGoal (c : Nat) (s : State) : State :=
  let g := chTarget s c
  let r := regNow s c
  updMot c (fun x => { x with ref := max r (min x.speed g), refAt := s.now, goal := g }) s

/-- The open-loop speed of RAMP (R208): linear to the handoff speed over 1,000 ms. -/
def rampSpeed (s : State) (c : Nat) : Int := handoffQ s c * ((min (s.now - (motCh s c).at_) (1000 * ms) : Nat) : Int) / ((1000 * ms : Nat) : Int)

/-- The band in which the regulator holds the speed: ±1 % of the setpoint or ±20 rpm, whichever is larger (R211). -/
def regBand (goal : Int) : Int := max (goal / 100) (20 * 65536)

/-- What drives a channel now (R205, R208, R211, R220). -/
def chDrive (s : State) (c : Nat) : MotDrive :=
  let x := motCh s c
  if isOff x.state then .none
  else match x.state with
    | 2 => .vector x.capI
    | 3 => .rotate (rampSpeed s c) x.capI
    | 5 => .rotate x.speed (chPar s c 2)
    | _ =>
      let r := regNow s c
      if dieIsBoot s c then .full (chPar s c 2)
      else if r + regBand x.goal < x.speed then .less
      else if x.speed < r - regBand x.goal then .more
      else .hold

/-- The high-side and the low-side gate output of a phase, 0–2 (R205): both off with the drive off, on a phase that floats, and in the dead time; else one of the two. -/
def gateOut (s : State) (c p : Nat) : Bool × Bool :=
  let x := motCh s c
  if isOff x.state ∨ x.gates = .off ∨ (x.gates = .block ∧ Config.floatPhase c s.now % 3 = p) then (false, false)
  else match Config.gateSide c p s.now with
    | none => (false, false)
    | some b => (b, !b)

/-- Bring STOPPED channels to the watch, running ones to their commanded speed, and started ones to a stop where that is 0 (R208, R210, R217, R221). A channel in REST finishes its
rest and the watch after it. -/
def applyTarget (c : Nat) (s : State) : State :=
  let x := motCh s c
  let d := motDie s (dieOf c)
  if d.busFault then s
  else if chTarget s c ≠ 0 ∧ ¬(d.state = .parked) then
    (if x.state = 1 ∧ x.watch = none ∧ x.coast = none then updMot c (fun x => { x with watch := some s.now }) s
     else if x.state = 4 then setGoal c s
     else s)
  else if x.state = 1 then updMot c (fun x => { x with watch := none, coast := none }) s
  else if x.state = 2 ∨ x.state = 3 ∨ x.state = 4 then enterCh c 1 s
  else s

def applyDie (d : Nat) (s : State) : State := forEach (dieChs d) applyTarget s
def applyDies (s : State) : State := applyDie 1 (applyDie 0 s)

/-- FAULTED with a fault of R222. -/
def faultCh (c code : Nat) (s : State) : State := applyDie (dieOf c) (chFault c code (enterCh c 7 s))

/-- A start begins and keeps START_TRIES, REST_MS and START_I as they are now (R207), unless one is under way: a start covers its attempts and rests until the channel has run
10 s in RUN, is stopped or faults (log 128). -/
def beginStart (c : Nat) (s : State) : State :=
  let t := chPar s c 1
  let r := chPar s c 7
  let i := chPar s c 6
  updMot c (fun x => if x.starting then x else { x with starting := true, capTries := t, capRest := r, capI := i }) s

/-- A failed start attempt (R209): REST, or FAULTED with LOCKED_ROTOR when it was attempt START_TRIES; the boot profile has no limit (R220). -/
def failAttempt (c : Nat) (s : State) : State :=
  let s := beginStart c s
  let x := motCh s c
  let s := updMot c (fun x => { x with tries := satInc 15 x.tries }) s
  if x.capTries ≠ 0 ∧ x.capTries ≤ x.tries + 1 then faultCh c 1 s
  else updMot c (fun x => { x with report := sadd x.report 0 }) (enterCh c 6 s)

/-- Count a start attempt (MOT_C_COUNTS); a start ends HALL_INVALID (R222). -/
def countStart (c : Nat) (s : State) : State :=
  updMot c (fun x => { x with starts := satInc 65535 x.starts, hallInv := false }) (beginStart c s)

/-- A start attempt begins in a state (R208). -/
def beginAttempt (c st : Nat) (s : State) : State := enterCh c st (countStart c s)

/-- Enter RUN at a speed; the regulator takes over from it (R208, R211). -/
def runCh (c : Nat) (v : Int) (s : State) : State :=
  applyTarget c (updMot c (fun x => { x with speed := v, ref := v, refAt := s.now, goal := v }) (enterCh c 4 s))

/-- An invalid Hall code (R225): sensorless until the channel next enters STOPPED, REST or FAULTED. -/
def hallLost (c : Nat) (s : State) : State :=
  updMot c (fun x => { x with hall := false, hallBad := true, hallInv := true, report := sadd x.report 7 }) s

/-- Whether Hall commutation serves a channel: SENSE is HALL and its die has left the boot profile, which is sensorless (R220). -/
def hasHall (s : State) (c : Nat) : Bool := (motCh s c).cfg.sense == 1 && !dieIsBoot s c

/-- Hall commutation with valid codes, and HALL_INVALID with invalid ones, at a start (R208, R225). -/
def startHall (c : Nat) (ok : Bool) (s : State) : State :=
  if ¬ hasHall s c then s else if ok then updMot c (fun x => { x with hall := true }) s else hallLost c s

/-! ### Die events -/

/-- START_WATCH_END (R210): caught on the fly, left to coast, ALIGN, or a Hall start in RUN (R208); STOPPED where the setpoint has become 0 since a rest began. `speed` is the speed seen,
`hallOk` that the Hall codes are valid. -/
def doStartWatchEnd (channel : Fin 16) (speed : Word) (hallOk : Bool) (s : State) : State :=
  let c := channel.val
  let x := motCh s c
  match x.watch with
  | none => s
  | some t =>
    if s.now < t + 50 * ms then s
    else if chTarget s c = 0 then enterCh c 1 s
    else if handoffQ s c ≤ speed.toInt then startHall c hallOk (runCh c speed.toInt (updMot c (fun x => { x with hallInv := false }) (beginStart c s)))
    else if speed.toInt < - handoffQ s c then (updMot c (fun x => { x with watch := none, coast := some s.now }) s)
    else if hasHall s c ∧ hallOk then startHall c true (runCh c (max 0 speed.toInt) (countStart c s))
    else startHall c false (beginAttempt c 2 s)

/-- REVERSE_COAST_END (R210). -/
def doReverseCoastEnd (channel : Fin 16) (s : State) : State :=
  let c := channel.val
  if (motCh s c).coast.isNone then s
  else if chTarget s c = 0 then enterCh c 1 s
  else (beginAttempt c 2 s)

/-- ALIGN_DONE (R208). -/
def doAlignDone (channel : Fin 16) (s : State) : State :=
  let c := channel.val
  if (motCh s c).state = 2 ∧ (motCh s c).at_ + 250 * ms ≤ s.now then (enterCh c 3 s) else s

/-- BEMF_LOCK (R208): after the handoff speed is reached, 1000 ms into RAMP. -/
def doBemfLock (channel : Fin 16) (s : State) : State :=
  let c := channel.val
  if (motCh s c).state = 3 ∧ (motCh s c).at_ + 1000 * ms ≤ s.now then (runCh c (handoffQ s c) s) else s

/-- RAMP_NO_LOCK (R209): 200 ms after the handoff speed. -/
def doRampNoLock (channel : Fin 16) (s : State) : State :=
  let c := channel.val
  if (motCh s c).state = 3 ∧ (motCh s c).at_ + 1200 * ms ≤ s.now then (failAttempt c s) else s

/-- REST_DONE (R208, R210): the watch that precedes the next attempt begins. -/
def doRestDone (channel : Fin 16) (s : State) : State :=
  let c := channel.val
  let x := motCh s c
  if x.state = 6 ∧ x.watch = none ∧ x.coast = none ∧ x.at_ + restNs s c ≤ s.now ∧ ¬(motDie s (dieOf c)).busFault then
    (updMot c (fun x => { x with watch := some s.now }) s)
  else s

/-- STALL_DETECT (R209): for 500 ms the phase current has been at least `cur`, which is I_LIMIT, and `fund` tells whether it shows a fundamental at the commutation frequency. -/
def doStallDetect (channel : Fin 16) (cur : Word) (fund : Bool) (s : State) : State :=
  let c := channel.val
  if (motCh s c).state = 4 ∧ (motCh s c).at_ + 500 * ms ≤ s.now ∧ chPar s c 2 ≤ cur.toNat ∧ ¬ fund then (failAttempt c s) else s

/-- RUN_COUNT_RESET (R209). -/
def doRunCountReset (channel : Fin 16) (s : State) : State :=
  let c := channel.val
  if (motCh s c).state = 4 ∧ (motCh s c).at_ + 10 * sec ≤ s.now then (updMot c (fun x => { x with tries := 0, starting := false }) s) else s

/-- SENSE_LOST (R223): open-loop commutation at the last speed; `mag` is the mean current magnitude over the second before. -/
def doSenseLost (channel : Fin 16) (mag : Word) (s : State) : State :=
  let c := channel.val
  if (motCh s c).state = 4 then (updMot c (fun x => { x with magLoss := mag.toNat }) (chFault c 6 (enterCh c 5 s))) else s

/-- SENSE_REGAINED (R223). -/
def doSenseRegained (channel : Fin 16) (s : State) : State :=
  let c := channel.val
  if (motCh s c).state = 5 then (runCh c (motCh s c).speed s) else s

/-- A current signature in OPEN_LOOP is plausible (R223): its fundamental, in Q16.16 Hz, lies within ±5 % of the commutation frequency, its magnitude within 0.5–1.5 times the mean
before the loss, and the current below I_LIMIT, the one now in force. -/
def plausible (s : State) (c fund mag cur : Nat) : Bool :=
  let x := motCh s c
  let f : Int := x.speed * (max 1 x.cfg.polePairs : Nat)
  decide ((((fund : Int) * 60 - f).natAbs : Int) * 20 ≤ f) && decide (x.magLoss ≤ 2 * mag) && decide (2 * mag ≤ 3 * x.magLoss) && decide (cur < chPar s c 2)

/-- SENSE_FAIL (R222): the signature of the last 500 ms, implausible throughout. -/
def doSenseFail (channel : Fin 16) (fund mag cur : Word) (s : State) : State :=
  let c := channel.val
  if (motCh s c).state = 5 ∧ (motCh s c).at_ + 500 * ms ≤ s.now ∧ ¬ plausible s c fund.toNat mag.toNat cur.toNat then (faultCh c 5 s) else s

/-- Two current-sense samples, in microvolts over the 2 mΩ shunts of phases A and B, reach a channel's overcurrent level (R204, R222): phase C carries minus their sum, the level is the lower of
1.5 × I_LIMIT and 48 A, and an input at its full scale of 100 mV always counts. -/
def overLevel (s : State) (c : Nat) (a b : Int) : Bool :=
  let peak := max (max a.natAbs b.natAbs) (a + b).natAbs
  decide (100000 ≤ a.natAbs) || decide (100000 ≤ b.natAbs) || decide (min (3 * chPar s c 2) (96 * 65536) * 2000 ≤ peak * 2 * 65536)

/-- OVERCURRENT (R222): in any driven state. -/
def doOvercurrent (channel : Fin 16) (a b : Word) (s : State) : State :=
  let c := channel.val
  let st := (motCh s c).state
  if 2 ≤ st ∧ st ≤ 5 ∧ overLevel s c a.toInt b.toInt then (faultCh c 3 s) else s

/-- OPEN_PHASE (R222, R220): a driven phase carries `cur`, less than 10 % of START_I. -/
def doOpenPhase (channel : Fin 16) (cur : Word) (s : State) : State :=
  let c := channel.val
  if (motCh s c).state = 2 ∧ (motCh s c).at_ + 50 * ms ≤ s.now ∧ 10 * cur.toNat < (motCh s c).capI then (faultCh c 2 s) else s

/-- SPEED_LOW (R222): not in the first FAULT_MS of RUN; `tach` is the highest reading of the last FAULT_MS. -/
def doSpeedLow (channel : Fin 16) (tach : Word) (s : State) : State :=
  let c := channel.val
  let x := motCh s c
  if x.state = 4 ∧ ¬ x.slow ∧ ¬ dieIsBoot s c ∧ x.at_ + 2 * chPar s c 5 * ms ≤ s.now ∧ tach.toInt < chPar s c 4 * 65536 then
    (applyDie (dieOf c) (chFault c 4 s))
  else s

/-- SPEED_LOW_CLEAR (R222): `tach` is the lowest reading of the last FAULT_MS, all of them since the fault. -/
def doSpeedLowClear (channel : Fin 16) (tach : Word) (s : State) : State :=
  let c := channel.val
  let x := motCh s c
  if x.slow ∧ x.state = 4 ∧ x.slowAt + chPar s c 5 * ms ≤ s.now ∧ (11 * chPar s c 4 * 65536 : Nat) ≤ 10 * tach.toInt then
    (applyDie (dieOf c) (updMot c (fun x => { x with slow := false }) s))
  else s

/-- HALL_INVALID (R225): on the first invalid code of a driven channel. -/
def doHallInvalid (channel : Fin 16) (s : State) : State :=
  let c := channel.val
  let x := motCh s c
  if hasHall s c ∧ ¬ x.hallBad ∧ 2 ≤ x.state ∧ x.state ≤ 5 then hallLost c s else s

/-- VMOT_BUS_FAULT (R227): above 62 V or below 9.5 V every channel of the die coasts; an interrupted attempt does not count. -/
def doVmotBusFault (die : Fin 2) (mv : BitVec 16) (s : State) : State :=
  let d := die.val
  if 62000 < mv.toNat ∨ mv.toNat < 9500 then
    (let s := updDie d (fun x => { x with vmotMv := mv.toNat, busFault := true, busAt := s.now, repBus := x.repBus || !x.busFault }) s
     (forEach (dieChs d) (fun c s =>
       let st := (motCh s c).state
       if st = 0 ∨ st = 7 then s else enterCh c 1 s) s))
  else s

/-- VMOT_BUS_RECOVER (R227): VMOT has lain within 10.8–60 V for 100 ms, and each channel restarts through the watch. -/
def doVmotBusRecover (die : Fin 2) (mv : BitVec 16) (s : State) : State :=
  let d := die.val
  let x := motDie s d
  if x.busFault ∧ x.busAt + 100 * ms ≤ s.now ∧ 10800 ≤ mv.toNat ∧ mv.toNat ≤ 60000 then
    (applyDie d (updDie d (fun x => { x with vmotMv := mv.toNat, busFault := false }) s))
  else s

/-! ### Heartbeats (R213–R221) -/

/-- The minimum run speed (R213). -/
def minRunQ (s : State) (c : Nat) : Int := min (qdiv ((motPar s c 4 : Int) * 65536 * 5) 4) ((motPar s c 3 : Int) * 65536)

/-- The setpoint MOT forms for a used channel, and its FULL flag (R213; the first row that holds decides). -/
def formSetpoint (s : State) (c : Nat) : Int × Bool :=
  let top : Int := (motPar s c 3 : Int) * 65536
  let sig := (motRec s c).setpoint
  let g := tget {} s.gld.plane sig
  let bad := sig ≠ 0xFFFF ∧ (g.stale ∨ g.stale = g.staleC ∨ g.comp ≠ ~~~ g.value)
  let v : Int := if sig = 0xFFFF then top else g.value.toInt
  if bad ∨ motOverride s c then (top, true)
  else if v = 0 ∧ s.seq.trayState ≤ 1 then (0, false)
  else if v < minRunQ s c then (minRunQ s c, false)
  else if top < v then (top, false)
  else (v, false)

def motUsed (s : State) (c : Nat) : Bool := (motRec s c).kind != 0

/-- RESUME may be set for a die (R218). -/
def mayResume (s : State) (d : Nat) : Bool :=
  s.gld.state == .running && (dieChs d).all (fun c => !motUsed s c ||
    (s.mot.tachRead.contains c && ((motRec s c).setpoint == 0xFFFF || !(tget {} s.gld.plane (motRec s c).setpoint).stale)))

/-- The configuration in force as MOT delivers it to a die (R207, R214). -/
def dieCfgOf (s : State) (d : Nat) : DieCfg :=
  { recs := (dieChs d).map (motRec s), pars := (dieChs d).map (fun c => (List.range 8).map (motPar s c)), silenceS := fld (liveWord s 0x0B0020) 15 0 }

/-- MOT takes the channels that a heartbeat clears as stopped: their overrides and their forcing end on that heartbeat (R226). -/
def clearReps (s : State) : State :=
  forEach s.mot.clearing (fun c s => { s with mot.rep := tupd {} s.mot.rep c (fun x => { x with state := 1, fault := 0, tries := 0 }) }) s

/-- MOT_HEARTBEAT_SEND on the 1 ms tick (R213, R214, R218, R219, R221). A die whose reply is missing since the last heartbeat makes its tachometer signals
stale (R228). -/
def motTick (s : State) : State :=
  if ¬ s.mot.loaded then s
  else
    let s := clearReps s
    let used := (List.range 16).filter (motUsed s)
    let form := used.map (fun c => (c, formSetpoint s c))
    let sent : Tab Int := form.filterMap (fun e => if e.2.1 = 0 then none else some (e.1, e.2.1))
    let full := bitsMask ((form.filter (fun e => e.2.2)).map (·.1))
    let park := s.seq.trayState = 1 ∧ sent = []
    let s := forEach [0, 1] (fun d s =>
      if (tfind s.mot.hb d).isSome ∧ ¬ s.mot.replied.contains d then
        forEach (dieChs d) (fun c s => writeFixedSignal 0x0B (0x0100 + c) (motRep s c).tach true s) s
      else s) s
    let hb := fun d => (⟨inc8 s.mot.seq, (dieChs d).map (fun c => tget 0 sent c), full / 256 ^ d % 256, s.mot.heard, decide (s.seq.trayState = 1),
      mayResume s d, decide park, cfgIdOf s, some (dieCfgOf s d), bitsMask (s.mot.clearing.filter (fun c => dieOf c == d)) / 256 ^ d⟩ : Heartbeat)
    { s with mot.sent := sent, mot.full := full, mot.seq := inc8 s.mot.seq, mot.hb := [(0, hb 0), (1, hb 1)], mot.replied := []
             mot.heardAt := if s.mot.heard then s.now else s.mot.heardAt, mot.heard := false }

/-- The die loads the configuration that a heartbeat delivers (R216, R220, R207). -/
def dieLoadCfg (d id : Nat) (g : DieCfg) (s : State) : State :=
  let s := updDie d (fun x => { x with silenceS := g.silenceS, cfgId := some id }) s
  forEach (List.range 8) (fun i s =>
    let c := 8 * d + i
    let r := g.recs.getD i {}
    let s := updMot c (fun x => { x with cfg := r, par := g.pars.getD i []
                                         gates := if x.gates = .off then .off else if r.commut = 0 then .block else .sine }) s
    if r.kind = 0 then
      updMot c (fun x => { x with fault := 0, tries := 0, slow := false, hallInv := false, starting := false }) (enterCh c 0 s)
    else if (motCh s c).state = 0 then enterCh c 1 s
    else s) s

/-- The die clears its channels that a heartbeat names, those that are FAULTED (R226). -/
def dieClear (d mask : Nat) (s : State) : State :=
  forEach (List.range 8) (fun i s =>
    let c := 8 * d + i
    if mask.testBit i ∧ (motCh s c).state = 7 then updMot c (fun x => { x with fault := 0 }) (enterCh c 1 s) else s) s

/-- HEARTBEAT_RECEIVE (R214–R216, R219): `badPairs` bit n: the pair of the die's channel n does not match. -/
def doHeartbeatReceive (die : Fin 2) (crcOk : Bool) (badPairs : Byte) (s : State) : State :=
  let d := die.val
  match tfind s.mot.hb d with
  | none => s
  | some h =>
    let x := motDie s d
    if ¬ crcOk ∨ x.lastSeq = some h.seq then (updDie d (fun x => { x with discarded := x.discarded + 1 }) s)
    else
      let id := if h.cfg.isSome then some h.cfgId else x.cfgId
      let boot := x.state = .boot ∧ id = some h.cfgId
      let resumeRun := if h.resume then x.resumeRun + 1 else 0
      let st : DieState :=
        if boot then .run
        else match x.state with
          | .boot => .boot
          | .run => if h.park then .parked else .run
          | .failsafe => if 10 ≤ resumeRun then .run else .failsafe
          | .parked => if h.park ∧ ¬ x.parkLine then .parked else .run
      let sil := if x.standby then x.silNs else x.silNs + (s.now - x.lastValid)
      let s := match h.cfg with | some g => dieLoadCfg d h.cfgId g s | none => s
      let s := dieClear d h.clear s
      let s := forEach (List.range 8) (fun i s =>
        let c := 8 * d + i
        if (motCh s c).state = 0 then s
        else if injectArmed uMOT 4 c s then updMot c (fun x => { x with report := sadd x.report 9 }) (injectUse uMOT s)
        else if badPairs.getLsbD i then updMot c (fun x => { x with report := sadd x.report 8 }) s
        else updMot c (fun y => { y with setpoint := h.setpoints.getD i 0, pairAt := s.now, lost := false }) s) s
      let s := updDie d (fun x => { x with state := st, lastSeq := some h.seq, lastValid := s.now, parkLine := false, resumeRun := if st = .failsafe then resumeRun else 0
                                           standby := h.standby, silNs := if h.heard then 0 else sil
                                           silent := x.silent && !h.heard }) s
      (applyDie d s)

/-- DIE_FAILSAFE (R216, R217): 19.6–20.4 ms by the timebase, so the event may occur from 19.6 ms on. -/
def doDieFailsafe (die : Fin 2) (s : State) : State :=
  let d := die.val
  let x := motDie s d
  if x.state = .run ∧ x.lastValid + 19600 * us ≤ s.now then
    (applyDie d (updDie d (fun x => { x with state := .failsafe, resumeRun := 0, repFailsafe := true }) s))
  else s

/-- SETPOINT_LOST (R215). -/
def doSetpointLost (channel : Fin 16) (s : State) : State :=
  let c := channel.val
  let x := motCh s c
  if x.state ≠ 0 ∧ (motDie s (dieOf c)).state = .run ∧ x.pairAt + 19600 * us ≤ s.now then
    (applyTarget c (updMot c (fun x => { x with lost := true }) s))
  else s

/-- HOST_SILENCE (R219): the count runs only while heartbeats carry STANDBY clear. -/
def doHostSilence (die : Fin 2) (s : State) : State :=
  let d := die.val
  let x := motDie s d
  let n := if x.standby then x.silNs else x.silNs + (s.now - x.lastValid)
  if ¬ x.silent ∧ x.state ≠ .boot ∧ x.silenceS * sec ≤ n then
    (applyDie d (updDie d (fun x => { x with silent := true, repSilent := true }) s))
  else s

/-- The speed a reply reports (R212): 0 with the gates off, the commanded open-loop speed in ALIGN, RAMP and OPEN_LOOP, else the speed `v` derived from commutation. -/
def repTach (s : State) (c : Nat) (v : Word) : Word :=
  match (motCh s c).state with
  | 3 => wInt (rampSpeed s c)
  | 4 => v
  | 5 => wInt (motCh s c).speed
  | _ => 0
def repEst (st : Nat) : Bool := st == 2 || st == 3 || st == 5

/-- Raise the sources of the events a reply reports (R229); ITEM is the place of the fault in its row. Codes 8 and 9 are a setpoint pair that did not match, 9 by an injection
(R466). -/
def raiseChannelReport (c code : Nat) (s : State) : State :=
  let r := fun (src : Nat) (cls : FClass) (item : Nat) => raise uMOT src cls { unit := c, item := item, w2 := w32 code } s
  match code with
  | 0 => r 0 .corrected 0
  | 1 => r 1 .contained 0
  | 2 => r 1 .contained 1
  | 3 => r 1 .contained 2
  | 4 => r 2 .contained 0
  | 5 => r 1 .contained 3
  | 6 => r 3 .corrected 0
  | 7 => r 3 .corrected 1
  | 8 => r 4 .corrected 0
  | _ => raise uMOT 4 .corrected { unit := c, w2 := w32 8, inj := true } s

/-- The clears still to be carried once a die has replied: those of a heartbeat that it has taken are done (R226). -/
def clearsLeft (s : State) (d : Nat) (last : Option Nat) : NSet :=
  match tfind s.mot.hb d with
  | some h => if last = some h.seq then s.mot.clearing.filter (fun c => !(dieOf c == d && h.clear.testBit (c % 8))) else s.mot.clearing
  | none => s.mot.clearing

/-- HEARTBEAT_REPLY (R214, R224, R228): the MOT registers, the signals, the override and the fault sources follow the reply. -/
def doHeartbeatReply (die : Fin 2) (r : DieReply) (s : State) : State :=
  let d := die.val
  let bad := fun (inj : Bool) (s : State) => raise uMOT 5 .corrected { unit := d, inj := inj } { s with mot.hbBad := tupd 0 s.mot.hbBad d (satInc 255) }
  let z := injectCheck uMOT 5 d r.crcOk s
  let s := z.2
  if ¬ z.1 then (bad r.crcOk s)
  else
    let x := motDie s d
    let s := forEach (dieChs d) (fun c s =>
      let m := motCh s c
      let i := c - 8 * d
      let tach := repTach s c (r.tach.getD i 0)
      let runNs := m.runNs + (if isRunning m.state then s.now - m.at_ else 0)
      let rep : MotRep := { state := m.state, fault := faultCode m, tries := m.tries, hall := m.hall, est := repEst m.state, tach := tach
                            current := r.current.getD i 0, starts := m.starts, faults := m.faults, runS := runNs / sec }
      let s := { s with mot.rep := tset {} s.mot.rep c rep, mot.tachRead := sadd s.mot.tachRead c }
      let s := writeFixedSignal 0x0B (0x0100 + c) tach (repEst m.state) s
      let s := writeFixedSignal 0x0B (0x0200 + c) (r.current.getD i 0) false s
      let s := writeFixedSignal 0x0B (0x0300 + c) (w32 (m.state + 256 * faultCode m)) false s
      let s := forEach m.report (raiseChannelReport c) s
      updMot c (fun x => { x with report := [], speed := if x.state = 4 then tach.toInt else x.speed }) s) s
    let s := writeFixedSignal 0x0B (0x0400 + d) (wInt (qdiv ((r.vmotMv : Int) * 65536) 1000)) false s
    let s := forEach (List.range (min x.discarded 255)) (fun _ s => bad false s) s
    let s := if x.repFailsafe then raise uMOT 6 .contained { unit := d } s else s
    let s := if x.repSilent then raise uMOT 7 .contained { unit := d } s else s
    let s := if x.repBus then raise uMOT 8 .contained { unit := d, w1 := w32 x.vmotMv } s else s
    let put := fun (l : NSet) (b : Bool) => if b then sadd l d else sdel l d
    let s := { s with mot.repDie := tset .boot s.mot.repDie d x.state, mot.repVmot := tset 0 s.mot.repVmot d r.vmotMv
                      mot.repBus := put s.mot.repBus x.busFault, mot.repSilent := put s.mot.repSilent x.silent
                      mot.fsSeen := if x.repFailsafe ∨ x.state = .failsafe then sadd s.mot.fsSeen d else s.mot.fsSeen
                      mot.replied := sadd s.mot.replied d
                      mot.clearing := clearsLeft s d x.lastSeq }
    let at_ := if 10800 ≤ r.vmotMv ∧ r.vmotMv ≤ 60000 then x.busAt else s.now
    (updDie d (fun x => { x with discarded := 0, repFailsafe := false, repSilent := false, repBus := false, vmotMv := r.vmotMv, busAt := at_ }) s)

/-! ### MOT_CLEAR (R226) -/

/-- Act on a MOT_CLEAR pair: the first channel refused decides; the check reads the replies, and the next heartbeat carries the clear to the dies. -/
def motClear (w : Word) (s : State) : State :=
  let tag := fld w 31 24
  if tag = lastTag s 0x0B0040 then s
  else
    let s := setTag 0x0B0040 tag s
    let named := maskBits 16 (fld w 15 0)
    let code := fun c => if (motRep s c).state ≠ 7 then 1 else if s.mot.repBus.contains (dieOf c) then 2 else 0
    match named.find? (fun c => code c != 0) with
    | some c => { s with mot.resTag := tag, mot.result := code c, mot.resCh := c }
    | none =>
      { s with mot.resTag := tag, mot.result := 0, mot.resCh := 0, mot.clearing := named.foldl sadd s.mot.clearing }

/-- MOT_CLEAR accepts writes from THM and SEC only (R226, R229). -/
def motClearWrite (path : Path) (w : Word) (s : State) : State :=
  if path = .proc .thm ∨ path = .proc .sec then motClear w (setPair 0x0B0040 w s)
  else raise uMOT 9 .contained { path := pathCode path, w1 := some 0x0B0040, w2 := w } s

/-- MOT_CLEAR_REQUEST. -/
def doMotClearRequest (path : Path) (tag : Byte) (mask : BitVec 16) (s : State) : State :=
  (motClearWrite path (w32 (tag.toNat * 16777216 + mask.toNat)) s)

/-! ### Section 0x04 -/

def motParWords (b : Bitstream) : Tab Word :=
  [(0x0B0020, w32 b.hostSilenceS)] ++
  b.motPar.flatMap (fun e =>
    let o := 0x0B1000 + 0x40 * e.1; let p := e.2
    let put := fun (i v : Nat) => [(o + 8 * i, w32 v)]
    put 0 p.pwmKhz ++ put 1 p.startTries ++ put 2 p.iLimit ++ put 3 p.rpmMax ++ put 4 p.rpmFault ++ put 5 p.faultMs ++ put 6 p.startI ++ put 7 p.restMs)

/-- Load section 0x04 (R85: absent, the dies stay in BOOT and MOT sends nothing). -/
def motLoad (b : Bitstream) (s : State) : State :=
  loadWords (motParWords b) { s with mot.recs := b.mot, mot.loaded := b.mot != [] }

/-- First failing value of a MOT staged set (R207): FIRST holds the channel, 0xFF for MOT_HOST_SILENCE. -/
def motCheck (s : State) (W : Nat → Word) : Option (Nat × Nat) :=
  let P := fun c i => (W (0x0B1000 + 0x40 * c + 8 * i)).toNat
  let bad := fun c => (List.range 8).any (fun i => W (0x0B1004 + 0x40 * c + 8 * i) != ~~~ W (0x0B1000 + 0x40 * c + 8 * i))
  let used := (List.range 16).filter (motUsed s)
  let range := fun c => decide (20 ≤ P c 0 ∧ P c 0 ≤ 80 ∧ 1 ≤ P c 1 ∧ P c 1 ≤ 5 ∧ 32768 ≤ P c 2 ∧ P c 2 ≤ 45 * 65536 ∧ 500 ≤ P c 3 ∧ P c 3 ≤ 30000 ∧
    100 ≤ P c 4 ∧ 500 ≤ P c 5 ∧ P c 5 ≤ 30000 ∧ 32768 ≤ P c 6 ∧ 1000 ≤ P c 7 ∧ P c 7 ≤ 60000)
  let order := fun c => decide (P c 4 < P c 3 ∧ P c 6 ≤ P c 2 ∧ P c 3 * (motRec s c).polePairs ≤ 240000)
  match used.find? bad with
  | some c => some (c, 1)
  | none =>
    if W 0x0B0024 ≠ ~~~ W 0x0B0020 then some (0xFF, 1)
    else match used.find? (fun c => !range c || !order c) with
      | some c => some (c, if range c then 3 else 2)
      | none => let h := (W 0x0B0020).toNat; if 10 ≤ h ∧ h ≤ 600 then none else some (0xFF, 2)

/-- Motor dies that power up at a D3 exit (R216): PARKED, channels stopped. -/
def parkedDies (now : Time) : Tab MotDie × Tab MotCh :=
  ([(0, { state := .parked, lastValid := now, parkLine := true }), (1, { state := .parked, lastValid := now, parkLine := true })],
   (List.range 16).map (fun c => (c, { state := 1, at_ := now })))

end Sys2Proof.Machine
end

