-- ==== Sys2Proof/Machine/Keys.lean ====
section
/-! DEFINITION. Fused keys, the acceptance of a signature, and the items of the set in force (15_boot_keys_and_attestation.md R406–R413; 03_configuration_bitstream.md R82, R83). -/

namespace Sys2Proof.Machine

/-- The digest fused in a key slot, of a programmed slot whose copies agree (R410, R411). -/
def slotDigest (s : State) (k : Nat) : Option Digest :=
  if 16 ≤ k ∨ ¬ s.fuses.programmed.testBit k ∨ s.fuses.badSlots.contains k then none
  else if k < 8 then some (Config.fusedDigest k)
  else tfind s.fuses.enrolled k

/-- Acceptance of a signature over digest `h` by a key of Dvorum's class or of an integrator's (R82, R83, R412, R413): 0, or the boot code 6 KEY, 7 REVOKED, 8 SIGNATURE. DESIGN CHOICE (log 113): an ALG
other than 1, a PUBKEY_LEN other than 1,793 and a SIG_LEN above 1,280 count as a signature that does not verify. -/
def keyCheck (s : State) (dvorum : Bool) (g : SigSec) (h : Digest) : Nat :=
  if decide (8 ≤ g.keySlot) = dvorum then 6
  else match slotDigest s g.keySlot with
    | none => 6
    | some d =>
      if d ≠ sigKeyDigest g then 6
      else if s.fuses.revoked.testBit g.keySlot then 7
      else if g.alg = 1 ∧ g.pubLen = 1793 ∧ g.sigLen ≤ 1280 ∧ sigVerifies g h then 0 else 8

/-- Lengths, offsets and VECTOR of a firmware image or the trim (R408). -/
def fwLengthsOk (proc : Nat) (i : FwImage) : Bool :=
  i.reservedZero && i.sigOffset == 0x80 + i.code.length + i.data.length && i.total == i.sigOffset + 3088
    && (if proc = 0x10 then i.vector == 0 && i.code == [] && decide (i.data.length ≤ 65536)
        else decide (i.vector < i.code.length ∧ i.code.length ≤ 262144 ∧ i.data.length ≤ 131072))

/-- The header and key checks of a firmware image or the trim (R408, R412): 0 or a code of R430. `proc` is the processor number, 0x10 the trim. -/
def fwCheck (s : State) (proc : Nat) (i : FwImage) : Nat :=
  if i.magic ≠ 0x5746584B ∨ i.fmtMajor ≠ 1 ∨ i.fmtMinor ≠ 0 then 5
  else if i.hwtype ≠ 0x4238584B then 4
  else if i.proc ≠ proc ∨ ¬ fwLengthsOk proc i then 5
  else keyCheck s true i.sig (fwDigest i)

/-- The required items once each, no item twice, 8 to 48 in all (R406). -/
def setValid (l : List (Nat × Nat)) : Bool :=
  decide (8 ≤ l.length) && decide (l.length ≤ 48) && decide (l.eraseDups.length = l.length)
    && ((List.range 6).map (fun p => (1, p)) ++ [(2, 0), (4, 0)]).all (fun e => l.contains e)
    && l.all (fun e => (e.1 == 1 && decide (e.2 < 6)) || (e.1 == 2 && e.2 == 0) || (e.1 == 3 && decide (e.2 < 32)) || (e.1 == 4 && e.2 == 0))

/-- A directory is accepted (R406). -/
def dirOk (t : FlashSet) : Bool :=
  t.magic == 0x4453584B && t.fmt == 1 && t.hwtype == 0x4238584B && setValid (t.items.map (fun i => (i.kind, i.index))) && itemsApart t.items && t.crc == crc32c (dirBytes t)

/-- Each read of an item that mismatches its CRC is a corrected fault (R407). -/
def rereads (l : List FlashItem) (s : State) : State :=
  forEach l (fun i s => forEach (List.range (badReads i)) (fun _ s => raise uSEC 0 .corrected { unit := i.kind, item := i.index } s) s) s

/-- Items of a set by kind: 1 firmware, 2 bitstream, 3 model image, 4 front-end trim (R406). -/
def setFw (t : FlashSet) (p : Nat) : Option FwImage :=
  t.items.findSome? (fun i => if i.index = p then match i.body with | .fw f => some f | _ => none else none)
def setBits (t : FlashSet) : Option Bitstream := t.items.findSome? (fun i => match i.body with | .bits b => some b | _ => none)
def setTrim (t : FlashSet) : Option FwImage := t.items.findSome? (fun i => match i.body with | .trim f => some f | _ => none)
def setModels (t : FlashSet) : List ImageRec := t.items.filterMap (fun i => match i.body with | .model m => some m | _ => none)

/-- Model images of the set this boot runs (R258). -/
def imagesInForce (s : State) : List ImageRec := match s.sec.set with | some t => setModels t | none => []

/-- A model image's own signature, by an integrator slot (R83, R412). -/
def imageSigned (s : State) (i : ImageRec) : Bool := keyCheck s false i.sig (imageDigest i) == 0

/-- All interfaces of LPDDR5X are trained (R329). -/
def dramTrained (s : State) : Bool := (List.range 8).all (fun i => s.mem.trained.contains i)

end Sys2Proof.Machine
end

