-- ==== Sys2Proof/Machine/Recorder.lean ====
section
/-! DEFINITION. The flight recorder: streams, pages and the window (11_memory_subsystem.md, R334–R336). Streams are numbered 0 FAST, 1 TRAY, 2 PLANE, 3 EVENT. -/

namespace Sys2Proof.Machine

/-- Pages of the window: the recorder region less the 16 MiB live ring (R334). -/
def rcdPages (s : State) : Nat := (regionMib s 2 - 16) * 256

/-- The recorder writes the window in RECORDING and POST (R335). -/
def rcdWrites (s : State) : Bool := s.mem.rcd.state == 1 || s.mem.rcd.state == 2

/-- Bytes of a page (R334): a header of 32 bytes with the stream, the sequence number, the time, the sample count and the CRC-32C, then 4,064 bytes of samples. The places within the header are
not stated, so only what the CRC covers is given: the header's values and the samples, the CRC itself apart (log 62). -/
def pageCrc (stream seq : Nat) (time : Time) (ws : List Word) : Word :=
  crc32c (leBytes 4 stream ++ leBytes 8 seq ++ leBytes 8 time ++ leBytes 4 ws.length ++ ws.flatMap wordBytes)

/-- Write a full page at HEAD; what it overwrites leaves the window (R334). -/
def rcdPut (stream : Nat) (time : Time) (ws : List Word) (s : State) : State :=
  let r := s.mem.rcd
  let n := rcdPages s
  if n = 0 then s
  else
    { s with mem.rcd := { r with page := tput r.page r.head ⟨stream, r.seq, time, ws, pageCrc stream r.seq time ws⟩, head := (r.head + 1) % n, seq := r.seq + 1
                                 badPages := sdel r.badPages r.head
                                 events := r.events.filter (fun e => decide (r.seq + 1 ≤ e.page + n)) } }

/-- Write the full pages of a stream's words, oldest first; the words left over, newest first, stay in the page being filled. -/
def rcdFlush : Nat → Nat → Time → List Word → State → State
  | 0, stream, t, ws, s => { s with mem.rcd.words := tset [] s.mem.rcd.words stream ws.reverse, mem.rcd.first := tset 0 s.mem.rcd.first stream t }
  | n + 1, stream, t, ws, s => rcdFlush n stream s.now (ws.drop 1016) (rcdPut stream t (ws.take 1016) s)

/-- Add sample words of a stream; every 1,016 fill a page of 4,064 bytes, which is written at HEAD (R334). -/
def rcdWords (stream : Nat) (ws : List Word) (s : State) : State :=
  if rcdWrites s then
    let old := tget [] s.mem.rcd.words stream
    let all := old.reverse ++ ws
    rcdFlush (all.length / 1016) stream (if old = [] then s.now else tget 0 s.mem.rcd.first stream) all s
  else s

/-- An entry of the EVENT stream (R334). Its length and encoding are not stated, so its words are a free number of free values (log 62). -/
def rcdEvent (e : RcdEntry) (s : State) : State :=
  if rcdWrites s then
    let n := Config.freeValue s.fresh % 1016
    let ws := (List.range n).map (fun i => BitVec.ofNat 32 (Config.freeValue (s.fresh + 1 + i)))
    rcdWords 3 ws { s with fresh := s.fresh + 1 + n, mem.rcd.events := s.mem.rcd.events ++ [⟨s.mem.rcd.seq, s.now, e⟩] }
  else s

/-- The present value of a signal. -/
def planeWord (s : State) (i : Nat) : Word := (tget {} s.gld.plane i).value

/-- Samples of a tick (R334): TRAY each microsecond, FAST each 10 µs to the window and the live ring, PLANE each millisecond. `c` is the tick class. -/
def rcdTick (c : Nat) (s : State) : State :=
  if s.mem.rcd.state = 0 then s
  else if c = 0 then rcdWords 1 [planeWord s 162, planeWord s 163] s
  else if c = 1 then
    rcdWords 0 ((List.range 128).map (planeWord s))
      { s with mem.rcd.live := (List.range 128).map (fun i => (i, (planeWord s i :: tget [] s.mem.rcd.live i).take 1024)) }
  else if c = 3 then rcdWords 2 ((List.range 2048).map (planeWord s)) s
  else s

/-- The last `n` samples of a channel, newest first; what the region holds before as many have been written is open, so free values fill the rest (R247, log 62). -/
def rcdWindow (ch n : Nat) (s : State) : List Word × State :=
  let l := (tget [] s.mem.rcd.live ch).take n
  let k := n - l.length
  (l ++ (List.range k).map (fun i => BitVec.ofNat 32 (Config.freeValue (s.fresh + i))), { s with fresh := s.fresh + k })

end Sys2Proof.Machine
end

