-- ==== Sys2Proof/Machine/Canopy.lean ====
section
/-! DEFINITION. The Canopy engine: descriptors, images, loading, releases, scheduling, twin checks, outputs and gating (08_canopy_engine.md, R230–R263).
What the layers compute stands in CnpMath.lean. -/

namespace Sys2Proof.Machine

def cnpUnit (q : Nat) : FUnit := .block (0x10 + q)
def uCNP : FUnit := .block 0x10

def descOf (s : State) (m : Nat) : Option DescRec := s.cnp.descs.find? (fun d => d.model == m)
def cnpModel (s : State) (m : Nat) : CnpModel := tget {} s.cnp.model m
def updModel (m : Nat) (f : CnpModel → CnpModel) (s : State) : State := { s with cnp.model := tupd {} s.cnp.model m f }
def cnpTile (s : State) (t : Nat) : CnpTile := tget {} s.cnp.tile t
def updCt (t : Nat) (f : CnpTile → CnpTile) (s : State) : State := { s with cnp.tile := tupd {} s.cnp.tile t f }
def maskTiles (d : DescRec) : List Nat := maskBits 16 d.tileMask
def isRepro (d : DescRec) : Bool := d.flags / 2 % 2 == 1
def isCritical (d : DescRec) : Bool := d.flags / 4 % 2 == 1

/-! ### What a model computes (R237) -/

/-- The values of a snapshot by the types of the signals its inputs name, in units of 2^-32 (R43, R247). -/
def snapVals (s : State) (img : ImageRec) (snap : List Word) : List Int :=
  let ix := img.inputs.flatMap (fun e => List.replicate (if e.kind = 0 then 1 else e.window) e.index)
  List.zipWith (fun w i => toWork (tget {} s.gld.plane i).typ w) snap ix

/-- A model's run: in reproducible mode its results are a function of its image, its snapshots and which of its releases completed. -/
def runOf (d : DescRec) (img : ImageRec) (x : CnpModel) : CnpRun :=
  { img := img, repro := isRepro d, tiles := (maskTiles d).length, start := if isRepro d then 0 else x.start, run := 0 }

def histVals (s : State) (img : ImageRec) (h : List (List Word × Bool)) : List (List Int × Bool) := h.map (fun e => (snapVals s img e.1, e.2))

/-- The job under way, evaluated on the model's committed state (R250). -/
def jobEval (s : State) (d : DescRec) (img : ImageRec) (x : CnpModel) (j : CnpJob) : CnpEval :=
  jobAfter (runOf d img x) (histVals s img x.history) (snapVals s img j.snap)

/-- The words of a model's outputs: elements of the last layer's result (R248). -/
def outWords (img : ImageRec) (e : CnpEval) : List Word := img.outputs.map (fun o => outWord ((e.outs.getLastD []).getD o.source 0) o.shift)

/-! ### Outputs, job ends and state changes -/

def outIndices (d : DescRec) : List Nat := (List.range d.outCount).map (fun i => d.outBase + i)

/-- The model's outputs turn stale (R45, R249). -/
def staleOutputs (m : Nat) (s : State) : State :=
  match descOf s m with
  | none => s
  | some d =>
    let s := updModel m (fun x => { x with outStale := true }) s
    forEach (outIndices d) (fun i s => writeSignal i (tget {} s.gld.plane i).value true s) s

/-- A release record goes to REC, or waits in the engine's 256-record buffer while REC restarts (R237, R259). -/
def relRecord (r : RelRec) (s : State) : State :=
  if procRunning s .recd then rcdEvent (.release r) s
  else if s.cnp.records.length < 256 then { s with cnp.records := s.cnp.records ++ [r] }
  else raise uCNP 11 .corrected { unit := r.model } { s with cnp.dropped := satInc 65535 s.cnp.dropped }

/-- Enter WARMUP (R249): the model's state is cleared. -/
def enterWarmup (m : Nat) (s : State) : State :=
  let s := staleOutputs m s
  let n := s.fresh
  updModel m (fun x =>
    let w := match x.image with | some i => i.warmup | none => 0
    { x with state := if w = 0 then 5 else 4, warmLeft := w, history := [], inLast := [], inBad := [], inHeld := [], warmNext := false
             suspendReq := false, loadReq := false, byGate := false, releases := 0, misses := 0, skips := 0, start := n }) { s with fresh := n + 1 }

/-- What waits for a model's job to end: a load, or a suspension (R256 step 3, R260). -/
def afterJob (m : Nat) (s : State) : State :=
  let x := cnpModel s m
  if x.job.isSome then s
  else if x.loadReq then updModel m (fun x => { x with state := 3, loadReq := false, suspendReq := false, warmNext := false }) { (staleOutputs m s) with cnp.step := 4 }
  else if x.suspendReq then updModel m (fun x => { x with state := 6, suspendReq := false, warmNext := false }) (staleOutputs m s)
  else s

/-- Count a miss or skip, and raise PERSISTENT_MISS at the 64th in a row (R255). -/
def countMiss (m : Nat) (s : State) : State :=
  let r := satInc 255 (cnpModel s m).missRun
  let s := updModel m (fun x => { x with missRun := r }) s
  if r = 64 then raise uCNP 1 .contained { unit := m } s else s

/-- The ready job with the earliest deadline that still has a segment for tile `t`; ties to the lower model (R252). -/
def nextJob (s : State) (t : Nat) : Option Nat :=
  let l := (List.range 32).filterMap (fun m =>
    match (cnpModel s m).job with
    | some j => if 0 < tget 0 j.left t then some (j.deadline, m) else none
    | none => none)
  match l with
  | [] => none
  | a :: r => some (r.foldl (fun (b x : Nat × Nat) => if x.1 < b.1 then x else b) a).2

/-- Tile SRAM is powered off once the engine is gated and no job is left (R260). -/
def sramOff (s : State) : State :=
  if s.cnp.gated ∧ s.cnp.model.all (fun e => e.2.job.isNone) then { s with cnp.tile := s.cnp.tile.map (fun e => (e.1, { e.2 with held := [] })) } else s

/-- Give every idle tile its next segment. A gated engine has no job but those still to finish (R260). -/
def dispatchTiles (s : State) : State :=
  sramOff (forEach (List.range 16) (fun t s =>
    let x := cnpTile s t
    if x.halted ∨ x.running.isSome then s else updCt t (fun x => { x with running := nextJob s t }) s) s)

/-- End a model's job without outputs: abandoned segments, stale outputs, the state as it was (R240, R254). -/
def dropJob (m last : Nat) (s : State) : State :=
  match (cnpModel s m).job with
  | none => s
  | some j =>
    let s := updModel m (fun x => { x with job := none, last := last, history := x.history ++ [(j.snap, false)] }) s
    let s := forEach (List.range 16) (fun t s => if (cnpTile s t).running = some m then updCt t (fun x => { x with running := none }) s else s) s
    dispatchTiles (afterJob m (relRecord ⟨m, j.release, j.snap, last, []⟩ (staleOutputs m s)))

/-- Segments of layer `i` on each tile: a twin layer runs twice (R239). -/
def layerSegs (d : DescRec) (l : ImgLayer) : Nat := if isCritical d ∧ l.flags % 2 = 1 then 2 * l.segments else l.segments

/-- JOB_COMPLETE (R248, R249, R250): outputs at one instant, state committed. -/
def jobComplete (m : Nat) (s : State) : State :=
  let x := cnpModel s m
  match x.job, descOf s m, x.image with
  | some j, some d, some img =>
    let e := jobEval s d img x j
    let hist := x.history ++ [(j.snap, true)]
    let ns := s.now - j.release
    let write := x.state = 5
    let s := updModel m (fun x => { x with job := none, last := 1, missRun := 0, history := hist, lastNs := ns, worstNs := max x.worstNs ns
                                           sat := min 65535 (x.sat + e.sat), warmLeft := x.warmLeft - 1
                                           state := if x.state = 4 ∧ x.warmLeft ≤ 1 then 5 else x.state
                                           outStale := if write then false else x.outStale }) s
    let out := outWords img e
    let s := if write then forEach ((outIndices d).zip out) (fun o s => writeSignal o.1 o.2 false s) s else s
    afterJob m (relRecord ⟨m, j.release, j.snap, 1, out⟩ s)
  | _, _, _ => s

/-- Move a job past layers with no segment left, completing it after the last (`fuel` bounds the layers). -/
def advanceJob : Nat → Nat → State → State
  | 0, _, s => s
  | fuel + 1, m, s =>
    match (cnpModel s m).job, descOf s m, (cnpModel s m).image with
    | some j, some d, some img =>
      if j.left.all (fun e => e.2 == 0) then
        (match img.layers[j.layer + 1]? with
         | some l =>
           advanceJob fuel m (updModel m (fun x => { x with job := some { j with layer := j.layer + 1
                                                                                 left := (maskTiles d).map (fun t => (t, layerSegs d l)) } }) s)
         | none => jobComplete m s)
      else s
    | _, _, _ => s

/-! ### Twin checks (R239, R240) -/

/-- A model of a halted tile goes to FAULTED (R240); one whose job a load waited for goes on loading instead. -/
def faultModel (m : Nat) (s : State) : State :=
  let s := dropJob m 5 (staleOutputs m s)
  if 4 ≤ (cnpModel s m).state then updModel m (fun x => { x with state := 7, suspendReq := false, byGate := false, warmNext := false }) s else s

/-- A tile halts; every model that names it goes to FAULTED (R240). -/
def haltCt (t : Nat) (src : Nat) (inj : Bool) (s : State) : State :=
  let s := updCt t (fun x => { x with halted := true, running := none }) s
  let s := raise (cnpUnit (t / 4)) src .contained { unit := t, inj := inj } s
  forEach (List.range 32) (fun m s =>
    match descOf s m with
    | some d => if (maskTiles d).contains t ∧ 4 ≤ (cnpModel s m).state then faultModel m s else s
    | none => s) s

/-- The tile of a twin pass (R239): the partner where the mask holds both of the pair, else the same tile. -/
def twinTile (d : DescRec) (t : Nat) : Nat :=
  let p := if t % 2 = 0 then t + 1 else t - 1
  if (maskTiles d).contains p then p else t

/-- TWIN_CHECK_FAIL (R240): the capture names the layer and both tiles; W1 is the layer, W2 the tile of the first pass with that of the second in bits 15:8, W3 the model (log 132). -/
def twinFail (d : DescRec) (m t layer : Nat) (inj : Bool) (s : State) : State :=
  let s := updModel m (fun x => { x with twinFail := satInc 255 x.twinFail }) s
  let s := raise (cnpUnit (t / 4)) 3 .corrected { unit := t, w1 := w32 layer, w2 := w32 (t + 256 * twinTile d t), w3 := w32 m, inj := inj } s
  let s := dropJob m 4 s
  let run := satInc 255 (cnpTile s t).twinRun
  let s := updCt t (fun x => { x with twinRun := run }) s
  if 3 ≤ run then haltCt t 4 false s else s

/-! ### Injected SECDED errors (R466) -/

/-- The ECC source whose checker a segment's reads pass with an injection armed: the tile's SRAM (5), the model's state (6, a STATEFUL layer), resident
weights (7) or streamed weights (8). -/
def segArmed (t m : Nat) (l : ImgLayer) (s : State) : Option Nat :=
  let q := cnpUnit (t / 4)
  if injectArmed q 5 t s then some 5
  else if l.flags / 4 % 2 = 1 ∧ injectArmed uCNP 6 m s then some 6
  else if l.flags / 2 % 2 = 1 ∧ injectArmed q 7 t s then some 7
  else if l.flags / 2 % 2 = 0 ∧ injectArmed q 8 t s then some 8
  else none

/-- What an armed injection shows a segment's checkers: one check bit is a corrected error; two are an uncorrectable one in the state, or in the resident or streamed weights. -/
inductive SegInject
  | none | corrected | state | weights (f : SegFault)
  deriving DecidableEq, Repr

def segInject (t m : Nat) (l : ImgLayer) (s : State) : SegInject × State :=
  match segArmed t m l s with
  | .none => (.none, s)
  | some src =>
    let u := if src = 6 then uCNP else cnpUnit (t / 4)
    let k := if ¬ injectDouble u s then .corrected
             else if src = 6 then .state
             else if src = 8 ∨ (src = 5 ∧ l.flags / 2 % 2 = 0) then .weights .streamed
             else .weights .resident
    (k, injectUse u s)

/-- The layer a job is at; a job whose layer the image does not hold stands at an empty one. -/
def jobLayer (s : State) (m : Nat) : ImgLayer :=
  match (cnpModel s m).job, (cnpModel s m).image with
  | some j, some img => (img.layers[j.layer]?).getD ⟨0, 0, 0, 0, 0, 0, 0, 0, 0, 0, 0, 0, 0, 0, 1⟩
  | _, _ => ⟨0, 0, 0, 0, 0, 0, 0, 0, 0, 0, 0, 0, 0, 0, 1⟩

/-- An uncorrectable error in a model's state (R250): a load or suspension that waits for the job comes before the restart. -/
def stateEcc (m : Nat) (inj : Bool) (s : State) : State :=
  let s := raise uCNP 6 .contained { unit := m, inj := inj } (dropJob m 5 s)
  let st := (cnpModel s m).state
  dispatchTiles (if st = 4 ∨ st = 5 then enterWarmup m s else s)

/-- A weight error of a segment (R263): the tile halts for its resident memory, the job ends for a streamed weight. -/
def weightFault (t m : Nat) (f : SegFault) (inj : Bool) (s : State) : State :=
  match f with
  | .resident => dispatchTiles (haltCt t 7 inj s)
  | .streamed => dispatchTiles (raise (cnpUnit (t / 4)) 8 .contained { unit := t, w1 := w32 m, inj := inj } (dropJob m 5 s))

/-- A segment's results (R252, R239): one segment less on the tile, the twin check at a twin layer's end, then the next layer or the job's end. -/
def segmentResult (t m : Nat) (r : SegEnd) (s : State) : State :=
  match (cnpModel s m).job, descOf s m, (cnpModel s m).image with
  | some j, some d, some img =>
    let l := jobLayer s m
    let left := tget 0 j.left t - 1
    let x := cnpModel s m
    let ok := (twinSums (runOf d img x) (histVals s img x.history) (snapVals s img j.snap) j.layer r.flips).all (twinOk l.afmt)
    let s := updModel m (fun x => { x with job := some { j with left := tput j.left t left } }) s
    let twin := isCritical d ∧ l.flags % 2 = 1 ∧ left = 0
    if ¬ twin then dispatchTiles (advanceJob 512 m s)
    else
      let c := injectCheck (cnpUnit (t / 4)) 3 t ok s
      if ¬ c.1 then dispatchTiles (twinFail d m t j.layer ok c.2)
      else dispatchTiles (advanceJob 512 m (updCt t (fun x => { x with twinRun := 0 }) c.2))
  | _, _, _ => dispatchTiles s

/-- SEGMENT_DONE (R252, R240, R248, R250). -/
def doSegmentDone (tile : Fin 16) (r : SegEnd) (s : State) : State :=
  let t := tile.val
  match (cnpTile s t).running with
  | none => s
  | some m =>
    let g := segInject t m (jobLayer s m) s
    let bad := r.fault.isSome || g.1 == .state || (match g.1 with | .weights _ => true | _ => false)
    let s := updCt t (fun x => { x with running := none, steps := x.steps + r.steps, busyUs := min 4294967295 (x.busyUs + r.busyUs)
                                        corrected := if r.corrected ∨ g.1 = .corrected then satInc 65535 x.corrected else x.corrected
                                        uncorrected := if bad then satInc 65535 x.uncorrected else x.uncorrected }) g.2
    let s := if r.corrected ∨ g.1 = .corrected then raise (cnpUnit (t / 4)) 5 .corrected { unit := t, inj := !r.corrected } s else s
    match r.fault, g.1 with
    | some f, _ => weightFault t m f false s
    | none, .weights f => weightFault t m f true s
    | none, .state => stateEcc m true s
    | none, _ => segmentResult t m r s

/-- A job ends at its deadline without outputs (R254). -/
def missJob (m : Nat) (j : CnpJob) (s : State) : State :=
  let s := updModel m (fun x => { x with misses := satInc 4294967295 x.misses }) s
  countMiss m (raise uCNP 0 .corrected { unit := m, w1 := lo32 j.release, w2 := hi32 j.release } (dropJob m 2 s))

/-- DEADLINE_MISS (R254). -/
def doDeadlineMiss (model : Fin 32) (s : State) : State :=
  match (cnpModel s model.val).job with
  | none => s
  | some j => if s.now < j.deadline then s else missJob model.val j s

/-- Jobs whose deadline has passed are ended (R254), whether or not DEADLINE_MISS came at the deadline itself. -/
def expireJobs (s : State) : State :=
  forEach s.cnp.descs (fun d s =>
    match (cnpModel s d.model).job with
    | some j => if j.deadline < s.now then missJob d.model j s else s
    | none => s) s

/-! ### Releases (R247, R251) -/

/-- One input of the snapshot (R247): its words, whether the release must be skipped, and the input's records in the model. -/
def snapInput (m k : Nat) (e : ImgIn) (acc : List Word × Bool × State) : List Word × Bool × State :=
  let s := acc.2.2
  if e.kind = 1 then
    (let r := rcdWindow e.index e.window s
     (acc.1 ++ r.1, acc.2.1, r.2))
  else
    let g := tget {} s.gld.plane e.index
    let x := cnpModel s m
    let inj := injectArmed uCNP 2 m s
    let s := if inj then injectUse uCNP s else s
    let ok := (if inj then ~~~ g.comp else g.comp) = ~~~ g.value
    let bad := if ok then 0 else satInc 255 (tget 0 x.inBad k)
    let w := if ok then g.value else tget 0 x.inLast k
    let stale := g.stale ∨ g.stale = g.staleC ∨ 3 ≤ bad
    let held := if stale then satInc 255 (tget 0 x.inHeld k) else 0
    let word := if stale then tget 0 x.inLast k else w
    let skip := decide stale && (decide (e.policy = 1) || decide (16 < held))
    let s := updModel m (fun x => { x with inBad := tset 0 x.inBad k bad, inHeld := tset 0 x.inHeld k held
                                           inLast := if stale then x.inLast else tput x.inLast k w }) s
    let s := if ok then s else raise uCNP 2 .corrected { unit := m, w1 := g.value, w2 := g.comp, w3 := w32 e.index, inj := inj } s
    (acc.1 ++ [word], acc.2.1 || skip, s)

/-- The start that a load or RESET_STATE leaves to the next release (R256 step 5, R249): WARMUP, or FAULTED while a tile of the mask is halted (R240). -/
def startModel (d : DescRec) (s : State) : State :=
  if (maskTiles d).any (fun t => (cnpTile s t).halted) then updModel d.model (fun x => { x with state := 7, warmNext := false }) (staleOutputs d.model s)
  else enterWarmup d.model s

/-- MODEL_RELEASE (R251): the snapshot is taken and a job made ready, or the release is skipped. -/
def releaseModel (d : DescRec) (s : State) : State :=
  let m := d.model
  let s := match (cnpModel s m).job with
    | some j => if j.deadline ≤ s.now then missJob m j s else s
    | none => s
  let s := if (cnpModel s m).warmNext then startModel d s else s
  let x := cnpModel s m
  match x.image with
  | none => s
  | some img =>
    if ¬(x.state = 4 ∨ x.state = 5) ∨ x.job.isSome ∨ x.suspendReq ∨ x.loadReq then s
    else
      let s := updModel m (fun x => { x with releases := satInc 4294967295 x.releases }) s
      let r := (img.inputs.zipIdx).foldl (fun acc e => snapInput m e.2 e.1 acc) ([], false, s)
      let s := r.2.2
      if r.2.1 then
        let s := updModel m (fun x => { x with last := 3, skips := satInc 4294967295 x.skips, history := x.history ++ [(r.1, false)] }) s
        countMiss m (relRecord ⟨m, s.now, r.1, 3, []⟩ (staleOutputs m s))
      else
        match img.layers with
        | [] => s
        | l :: _ =>
          advanceJob 512 m (updModel m (fun x => { x with job := some { release := s.now, deadline := s.now + d.deadlineUs * us, snap := r.1, layer := 0
                                                                        left := (maskTiles d).map (fun t => (t, layerSegs d l)) } }) s)

/-- Releases of one tick class (R251), in model order. -/
def cnpTick (c : Nat) (s : State) : State :=
  if c = 0 then expireJobs s
  else if s.cnp.gated then s
  else
    let n := s.now / classNs c
    dispatchTiles (forEach s.cnp.descs (fun d s =>
      if d.tick = c ∧ d.flags % 2 = 1 ∧ d.phase ≤ n ∧ (n - d.phase) % (max d.period 1) = 0 then releaseModel d s else s) s)

/-! ### Loading (R244, R245, R256–R258) -/

/-- Lengths and offsets of R243, and fields that must be zero. -/
def imgLengthsOk (i : ImageRec) : Bool :=
  i.reservedZero && i.tablesLength == 8 * i.inputs.length + 8 * i.outputs.length + 32 * i.layers.length && i.weights.length == i.weightBytes
    && decide (imgWeightAt i + i.weightBytes ≤ i.sigOffset) && i.total == i.sigOffset + 3088

/-- Lengths and formats of R243. -/
def imgFormatOk (img : ImageRec) (len : Nat) : Bool :=
  img.magic == 0x4D4E584B && img.fmtMajor == 1 && img.fmtMinor == 0 && img.hwtype == 0x4238584B && imgLengthsOk img && img.total == len &&
  decide (img.inputs.length ≤ 128) && decide (1 ≤ img.outputs.length ∧ img.outputs.length ≤ 64) &&
  decide (1 ≤ img.layers.length ∧ img.layers.length ≤ 512) && decide (img.warmup ≤ 1024) &&
  img.inputs.all (fun e => decide (e.kind ≤ 1 ∧ e.policy ≤ 1 ∧ -32 ≤ e.shift ∧ e.shift ≤ 31) &&
    (if e.kind = 0 then e.window == 1 else decide (1 ≤ e.window ∧ e.window ≤ 1024)))

/-- R244. -/
def imgShapeOk (d : DescRec) (img : ImageRec) : Bool :=
  img.model == d.model && img.outputs.length == d.outCount && decide (img.weightBytes ≤ d.weightBytes) && decide (img.sramKib ≤ d.sramKib) &&
  decide (img.stateKib ≤ d.stateKib) && decide (img.boundNs ≤ d.boundNs) && decide (d.minSvn ≤ img.svn) &&
  (d.imageId == 0 || imageDigest img % 2 ^ 256 == d.imageId)

/-- Width of the vector that a layer takes from an operand: the input vector has one value for each PLANE input and WINDOW values for each RECORDER input. -/
def inputWidth (img : ImageRec) : Nat := sumList (img.inputs.map (fun e => if e.kind = 0 then 1 else e.window))

/-- Width of a layer's result (R245). A convolution gives DIM_OUT channels for each stride of its operand's positions. -/
def outWidth (l : ImgLayer) (a : Nat) : Nat :=
  match l.op with
  | 2 => l.dimOut * ((a / max l.dimIn 1 + max l.p1 1 - 1) / max l.p1 1)
  | _ => l.dimOut

/-- Widths of the layers' results in order. -/
def layerWidths (img : ImageRec) : List Nat :=
  img.layers.foldl (fun ws l => ws ++ [outWidth l (if l.srcA = 0xFFFF then inputWidth img else ws.getD l.srcA 0)]) []

/-- The operands of layer `k` are the input vector or earlier layers, and their widths fit its own (R244; log 133). -/
def operandsOk (img : ImageRec) (k : Nat) (l : ImgLayer) : Bool :=
  let src := fun (n : Nat) => n == 0xFFFF || decide (n < k)
  let w := fun (n : Nat) => if n = 0xFFFF then inputWidth img else (layerWidths img).getD n 0
  src l.srcA &&
  (match l.op with
   | 1 => w l.srcA == l.dimIn
   | 2 => decide (0 < l.dimIn ∧ 0 < w l.srcA) && w l.srcA % l.dimIn == 0
   | 3 => w l.srcA == l.dimIn
   | 4 => w l.srcA == l.dimIn
   | 7 => src l.srcB && w l.srcA == l.dimIn && w l.srcB == l.dimIn && l.dimOut == l.dimIn
   | 9 => true
   | _ => w l.srcA == l.dimIn && l.dimOut == l.dimIn)

/-- Codes, flags and parameters of one layer against R231, R245 and R246. INT8 pairs only with INT8; FP32 weights on dense, convolution and recurrent layers only. -/
def layerCodes (l : ImgLayer) : Bool :=
  decide (l.wfmt ≤ 5 ∧ l.afmt ≤ 5) && (!isPaired l || ((l.wfmt == 0) == (l.afmt == 0))) && decide (l.flags < 8) && decide (1 ≤ l.segments) &&
  (l.wfmt != 5 || decide (1 ≤ l.op ∧ l.op ≤ 4)) &&
  (match l.op with
   | 1 => decide (l.dimIn ≤ 8192 ∧ l.dimOut ≤ 8192)
   | 2 => decide (1 ≤ l.p0 ∧ l.p0 ≤ 32 ∧ 1 ≤ l.p1 ∧ l.p1 ≤ 8 ∧ 1 ≤ l.p2 ∧ l.p2 ≤ 16 ∧ l.dimIn ≤ 1024 ∧ l.dimOut ≤ 1024)
   | 3 => decide (l.dimOut ≤ 2048)
   | 4 => decide (l.dimOut ≤ 2048)
   | 5 => decide (1 ≤ l.p0 ∧ l.p0 ≤ 20)
   | 6 => decide (l.dimIn ≤ 256)
   | 7 => decide (l.p0 ≤ 4)
   | 8 => decide (2 ≤ l.p0 ∧ l.p0 ≤ 16)
   | 9 => decide (1 ≤ l.p0 ∧ l.p0 ≤ 16 ∧ 1 ≤ l.p1 ∧ l.p1 ≤ 256 ∧ 8 ≤ l.p2 ∧ l.p2 ≤ 128)
   | _ => false)

/-- Layer `k` of an image is accepted (R232, R245): its codes and operands, weights within the image's, and no weight code refused. -/
def layerOk (img : ImageRec) (k : Nat) (l : ImgLayer) : Bool :=
  layerCodes l && operandsOk img k l && decide (l.weightOffset + l.weightLength ≤ img.weightBytes) && weightsOk img l

/-- The layers and the elements that the outputs name (R245, R244). -/
def layersOk (img : ImageRec) : Bool :=
  img.layers.zipIdx.all (fun e => layerOk img e.2 e.1) && img.outputs.all (fun o => decide (o.source < (layerWidths img).getLastD 0))

/-- Report a command's outcome in CNP_LOAD_RESULT (R257). -/
def cnpReport (tag res step m : Nat) (s : State) : State := { s with cnp.resTag := tag, cnp.result := res, cnp.step := step, cnp.resModel := m }

/-- Report a load's outcome; a refused load or a copy mismatch is a corrected source (R263). -/
def cnpResult (tag res step m : Nat) (s : State) : State :=
  let s := cnpReport tag res step m s
  if res = 0 then s else raise uCNP 9 .corrected { unit := m, item := res, w1 := w32 step } s

/-- The D_model word registers CNP_LOAD_DIGEST as one number. -/
def loadDigest (s : State) : Nat := (List.range 16).foldl (fun a i => a + (regWord s (0x100040 + 4 * i)).toNat * 2 ^ (32 * i)) 0

def loadRefusal (s : State) (m : Nat) : Option Nat :=
  match descOf s m with
  | none => some 1
  | some d =>
    if d.flags % 2 = 0 then some 2
    else if s.cnp.gated then some 0xA
    else if s.cnp.load.isSome then some 8
    else if (maskTiles d).any (fun t => (cnpTile s t).halted) then some 9
    else none

/-- Step 1 of R256 on a staged image: the refusal codes of R257, checked in the order NO_DESCRIPTOR, DISABLED, GATED, BUSY, HALTED, SOURCE, FORMAT, SHAPE,
LAYER (log 46). -/
def cnpAccept (tag m : Nat) (img : Option ImageRec) (srcOk : Bool) (len : Nat) (dg : Digest) (s : State) : State :=
  match loadRefusal s m with
  | some r => cnpResult tag r 0 m s
  | none =>
    if ¬ srcOk then cnpResult tag 7 1 m s
    else match img, descOf s m with
      | some i, some d =>
        if ¬ imgFormatOk i len then cnpResult tag 3 1 m s
        else if ¬ imgShapeOk d i then cnpResult tag 4 1 m s
        else if ¬ layersOk i then cnpResult tag 5 1 m s
        else { s with cnp.load := some ⟨m, i, dg, 2⟩, cnp.resTag := tag, cnp.result := 0, cnp.step := 2, cnp.resModel := m }
      | _, _ => cnpResult tag 3 1 m s

/-- Act on a CNP_LOAD_CMD pair (R256, R249). -/
def cnpCommand (w : Word) (s : State) : State :=
  let tag := fld w 31 24
  let op := fld w 23 20
  let m := fld w 4 0
  if tag = lastTag s 0x100010 then s
  else
    let s := setTag 0x100010 tag s
    let x := cnpModel s m
    if op = 1 then
      let src := (regWord s 0x100018).toNat
      let len := (regWord s 0x10001C).toNat
      let top := regionMib s 5 * 1048576
      cnpAccept tag m (tfind s.mem.scratch src) (decide (src * 4096 + len ≤ top)) len (loadDigest s) s
    else if 2 ≤ op ∧ op ≤ 4 then
      match descOf s m with
      | none => cnpReport tag 1 0 m s
      | some d =>
        if d.flags % 2 = 0 then cnpReport tag 2 0 m s
        else if op = 2 then
          (if x.state = 5 then afterJob m (updModel m (fun x => { x with suspendReq := true }) (cnpReport tag 0 0 m s)) else cnpReport tag 0xB 0 m s)
        else if op = 3 then
          (if x.state = 6 then
             (if s.cnp.gated then cnpReport tag 0xA 0 m s else enterWarmup m (cnpReport tag 0 0 m s))
           else cnpReport tag 0xB 0 m s)
        else (if x.state = 4 ∨ x.state = 5 then updModel m (fun x => { x with warmNext := true }) (cnpReport tag 0 0 m s) else cnpReport tag 0xB 0 m s)
    else s

/-- CNP_LOAD_CMD accepts writes from REC and SEC only (R256, R262). -/
def cnpCmdWrite (path : Path) (w : Word) (s : State) : State :=
  if path = .proc .recd ∨ path = .proc .sec then cnpCommand w (setPair 0x100010 w s)
  else raise uCNP 10 .contained { path := pathCode path, w1 := some 0x100010, w2 := w } s

def cnpWord (op tag m : Nat) : Word := w32 (tag * 16777216 + op * 1048576 + m)

/-- CNP_LOAD. -/
def doCnpLoad (path : Path) (tag : Byte) (model : Fin 32) (s : State) : State :=
  (cnpCmdWrite path (cnpWord 1 tag.toNat model.val) s)
/-- CNP_SUSPEND. -/
def doCnpSuspend (path : Path) (tag : Byte) (model : Fin 32) (s : State) : State :=
  (cnpCmdWrite path (cnpWord 2 tag.toNat model.val) s)
/-- CNP_RESUME. -/
def doCnpResume (path : Path) (tag : Byte) (model : Fin 32) (s : State) : State :=
  (cnpCmdWrite path (cnpWord 3 tag.toNat model.val) s)
/-- CNP_RESET_STATE. -/
def doCnpResetState (path : Path) (tag : Byte) (model : Fin 32) (s : State) : State :=
  (cnpCmdWrite path (cnpWord 4 tag.toNat model.val) s)

/-- The next image of the boot sequence that finds no load in progress (R258); REC skips an image whose load is refused. -/
def bootNext : Nat → State → State
  | 0, s => s
  | n + 1, s =>
    if s.cnp.load.isSome then s
    else match s.cnp.boot with
      | [] => s
      | i :: r => bootNext n (cnpAccept s.cnp.resTag i.model (some i) true i.total (imageDigest i) { s with cnp.boot := r })

/-- STAGED_HASH_DONE (R256 steps 2 and 3). -/
def doStagedHashDone (s : State) : State :=
  match s.cnp.load with
  | some l =>
    if l.step ≠ 2 then s
    else if imageDigest l.image = l.digest then
      (afterJob l.model (updModel l.model (fun x => { x with loadReq := true }) { s with cnp.load := some { l with step := 4 }, cnp.step := 3 }))
    else (bootNext 32 (cnpResult s.cnp.resTag 6 2 l.model { s with cnp.load := none }))
  | none => s

/-- The copied bytes where the bytes written differ from the staged ones at the places named: header and tables, then weights. -/
def copyBytes (i : ImageRec) (flips : List (Nat × Byte)) : List Byte :=
  flipBytes (imgHeadBytes i ++ imgTables i ++ i.weights) flips

/-- The hash of the copy matches D_model and WEIGHT_DIGEST (R256 step 5, R243). -/
def copyOk (l : CnpLoad) (flips : List (Nat × Byte)) : Bool :=
  let b := copyBytes l.image flips
  let n := (imgHeadBytes l.image ++ imgTables l.image).length
  shake256 (ascii "DVS-KX8B-CNPM" ++ b.take n) == l.digest && shake256 (b.drop n) == l.image.weightDigest

/-- The tiles hold a model's graph and resident weights from its load on (R256 step 4, R246). -/
def holdModel (m : Nat) (on : Bool) (s : State) : State :=
  match descOf s m with
  | some d => forEach (maskTiles d) (fun t s => updCt t (fun x => { x with held := if on then sadd x.held m else sdel x.held m }) s) s
  | none => s

/-- LOAD_COPY_DONE (R256 steps 4 and 5): the copy is hashed as it is written; `flips` are the bytes that were written wrong. -/
def doLoadCopyDone (flips : List (Nat × Byte)) (s : State) : State :=
  match s.cnp.load with
  | some l =>
    if l.step ≠ 4 ∨ (cnpModel s l.model).state ≠ 3 then s
    else
      let s := { s with cnp.load := none }
      if copyOk l flips then
        (bootNext 32 (cnpResult s.cnp.resTag 0 5 l.model (holdModel l.model true
          (updModel l.model (fun x => { x with image := some l.image, warmNext := true, weightsBad := false, last := 0, missRun := 0 }) s))))
      else (bootNext 32 (cnpResult s.cnp.resTag 6 5 l.model (holdModel l.model false (updModel l.model (fun x => { x with image := none, state := 2 }) s))))
  | none => s

/-- CNP_STATE_ECC (R250). -/
def doCnpStateEcc (model : Fin 32) (s : State) : State :=
  let m := model.val
  if (cnpModel s m).state = 4 ∨ (cnpModel s m).state = 5 then stateEcc m false s else s

/-- CANOPY_BOOT_LOAD (R258): once LPDDR5X has trained and REC runs, every enabled model's image of the set in force, in turn. -/
def doCanopyBootLoad (s : State) : State :=
  if dramTrained s ∧ procRunning s .recd then
    let imgs := (imagesInForce s).filter (fun i => imageSigned s i && (match descOf s i.model with
      | some d => d.flags % 2 == 1 && (cnpModel s i.model).state == 2
      | none => false))
    (bootNext 32 { s with cnp.boot := imgs })
  else s

/-! ### Descriptors, gating and block resets (R241, R260, R240) -/

/-- Load section 0x0B: every model ABSENT, DISABLED or EMPTY; outputs stale. A halted tile stays halted (R240). -/
def cnpLoadDescs (b : Bitstream) (s : State) : State :=
  let d := (b.dir.find? (fun e => e.code == 0x0B)).map (·.digest)
  let s := { s with cnp.descs := b.descs, cnp.descId := lo32 (d.getD 0), cnp.model := b.descs.map (fun d => (d.model, { state := if d.flags % 2 = 1 then 2 else 1 }))
                    cnp.tile := s.cnp.tile.map (fun e => (e.1, { e.2 with running := none })), cnp.load := none, cnp.boot := [] }
  forEach b.descs (fun d s => staleOutputs d.model s) s

/-- Tiles reload the graphs and resident weights of every loaded model from the Canopy weights region (R240, R260); a model whose weights there fail its WEIGHT_DIGEST enters EMPTY (R249, R332). -/
def reloadTiles (ts : List Nat) (s : State) : State :=
  forEach s.cnp.descs (fun d s =>
    let x := cnpModel s d.model
    if ¬(maskTiles d).any ts.contains ∨ x.image.isNone then s
    else if x.weightsBad then holdModel d.model false (updModel d.model (fun x => { x with state := if 4 ≤ x.state then 2 else x.state, image := none, byGate := false }) s)
    else holdModel d.model true s) s

/-- ENGINE_GATE (R260). -/
def engineGate (s : State) : State :=
  let s := forEach s.cnp.descs (fun d s =>
    let x := cnpModel s d.model
    if x.state = 4 ∨ x.state = 5 then afterJob d.model (updModel d.model (fun x => { x with suspendReq := true, byGate := true }) s) else s) s
  sramOff { s with cnp.gated := true }

/-- ENGINE_UNGATE (R260): a reload that fails leaves its model EMPTY (R332). -/
def engineUngate (s : State) : State :=
  let s := reloadTiles (List.range 16) { s with cnp.gated := false }
  dispatchTiles (forEach s.cnp.descs (fun d s =>
    let x := cnpModel s d.model
    if x.state = 6 ∧ x.byGate then enterWarmup d.model s else s) s)

/-- A model in WARMUP, RUNNING or FAULTED: its tiles hold its graph and state. -/
def restartable (st : Nat) : Bool := st == 4 || st == 5 || st == 7

/-- Block reset of CNP quarter `q` (R240): the tiles start anew with their resident weights and graphs, and each of their models that no halted tile holds
FAULTED restarts through WARMUP. -/
def cnpQuarterReset (q : Nat) (s : State) : State :=
  let ts := (List.range 4).map (fun i => 4 * q + i)
  let s := forEach (List.range 32) (fun m s =>
    match descOf s m with
    | some d => if (maskTiles d).any ts.contains then dropJob m 5 s else s
    | none => s) s
  let s := forEach ts (fun t s => updCt t (fun x => { x with halted := false, running := none, twinRun := 0 }) s) s
  dispatchTiles (forEach (List.range 32) (fun m s =>
    match descOf s m with
    | some d =>
      if (maskTiles d).any ts.contains ∧ restartable (cnpModel s m).state ∧ ¬(maskTiles d).any (fun t => (cnpTile s t).halted) then enterWarmup m s else s
    | none => s) (reloadTiles ts s))

/-- The next release of any model lies beyond `ns` from now (R260, R483). -/
def noReleaseWithin (ns : Nat) (s : State) : Bool :=
  s.cnp.descs.all (fun d =>
    let x := cnpModel s d.model
    if (x.state = 4 ∨ x.state = 5 ∨ x.warmNext) ∧ ¬ x.suspendReq then
      let p := (max d.period 1) * classNs d.tick
      let off := d.phase * classNs d.tick
      let next := if s.now < off then off else off + ((s.now - off) / p + 1) * p
      x.job.isNone && decide (s.now + ns < next)
    else x.job.isNone)

end Sys2Proof.Machine
end

