-- ==== Sys2Proof/Machine/Custody.lean ====
section
/-! DEFINITION. Model custody: manifests, the tree, placement, streaming and clearing, the remnant tier and the whole-job restart
(09_model_custody.md, R264–R293). -/

namespace Sys2Proof.Machine

def uCUS : FUnit := .block 0x14

def updCursor (c : Nat) (f : Cursor → Cursor) (s : State) : State := { s with cus.cursors := tupd {} s.cus.cursors c f }
def cursor (s : State) (c : Nat) : Cursor := tget {} s.cus.cursors c
def loadSlots (s : State) : List Nat := maskBits 8 s.cus.mask
def shardsOf (s : State) : List Shard := match s.cus.man with | some m => m.shards | none => []
def shardAt (s : State) (i : Nat) : Shard := ((shardsOf s)[i]?).getD ⟨0, 0, 0, 0, 0, 0, 0⟩

/-- Leaves of a shard: its size padded to whole 1 MiB leaves (R265). -/
def shardLeaves (sh : Shard) : Nat := (sh.size + 1048575) / 1048576
def remIdx (s : State) : List Nat := s.cus.plan.rem.map (·.1)

/-- Shards a cursor walks: a slot's resident shards, or every remnant shard (R274). -/
def cursorShards (s : State) (c : Nat) : List Shard :=
  ((shardsOf s).zipIdx.filter (fun e => if c = 8 then (remIdx s).contains e.2 else e.1.slot == c && !(remIdx s).contains e.2)).map (·.1)

/-- Leaves of a cursor from leaf `l` on, and the lowest of them. -/
def leavesFrom (s : State) (c l : Nat) : Nat := sumList ((cursorShards s c).map (fun sh => sh.first + shardLeaves sh - max sh.first l))
def nextLeaf (s : State) (c l : Nat) : Option Nat :=
  let ls := (cursorShards s c).filterMap (fun sh => if max sh.first l < sh.first + shardLeaves sh then some (max sh.first l) else none)
  match ls with
  | [] => none
  | a :: r => some (r.foldl min a)

/-- The lowest leaf from `l` on that is not in `skip`; `fuel` exceeds the length of `skip`. -/
def nextNotIn (s : State) (c : Nat) (skip : NSet) : Nat → Nat → Option Nat
  | 0, _ => none
  | fuel + 1, l => match nextLeaf s c l with
    | some x => if skip.contains x then nextNotIn s c skip fuel (x + 1) else some x
    | none => none

def leafEnd (s : State) : Nat := match s.cus.man with | some m => m.leafCount | none => 0
def shardOfLeaf (s : State) (l : Nat) : Option Nat :=
  ((shardsOf s).zipIdx.find? (fun e => decide (e.1.first ≤ l ∧ l < e.1.first + shardLeaves e.1))).map (·.2)

/-! ### Records and results -/

def clearJobNote (s : State) : State := { s with und.cusJob := none }

/-- Keep the Understory's note of the job up to date (log 50). -/
def noteJob (s : State) : State :=
  let n : Option JobNote := if s.cus.job ∨ s.cus.restart ≠ 0 then some ⟨s.cus.jobSlots, s.cus.plan.rem != [], s.cus.restart != 0⟩ else none
  { s with und.cusJob := n }

/-- The resume record of a load in STREAM or PAUSED (R282), with its complement. -/
def recordResume (s : State) : State :=
  match s.cus.man with
  | some m =>
    let r : ResumeRec := ⟨manDigest m, m.root, s.cus.manAddr, s.cus.manLen, s.cus.leafAddr, s.cus.sgAddr, s.cus.sgCount, s.cus.mask, s.cus.allow, s.cus.plan,
      (List.range 9).map (fun c => (cursor s c).water), s.cus.state⟩
    { s with und.resume := some r, und.resumeC := some r, cus.cursors := s.cus.cursors.map (fun e => (e.1, { e.2 with recorded := e.2.water })) }
  | none => s

/-- Enter a load state; every state change updates the resume record (R282). -/
def setLoad (st : Nat) (s : State) : State := recordResume { s with cus.state := st }

def cusResult (res slot : Nat) (s : State) : State := { s with cus.result := res, cus.resSlot := slot }

/-- A refusal at MANIFEST, TREE or PLAN (R280, R293 row 2). -/
def refuseLoad (res slot : Nat) (s : State) : State :=
  raise uCUS 2 .corrected { unit := if slot < 8 then slot else 0xFFFF, item := res } (setLoad 8 (cusResult res slot s))

/-- Stop every cursor and free every buffer. -/
def stopCursors (st : Nat) (s : State) : State :=
  let s := { s with cus.cursors := s.cus.cursors.map (fun e => (e.1, { e.2 with infl := [], state := if e.2.state = 1 ∨ e.2.state = 2 then st else e.2.state })) }
  staleReads isAnyLeaf s

/-- A load fails (R277): LOAD_FAILED to every slot. ITEM of row 1: 0 LEAF, 1 LINK, 2 RESUME. -/
def failLoad (res slot item : Nat) (s : State) : State :=
  let s := setLoad 7 (cusResult res slot (stopCursors 4 s))
  let s := forEach (loadSlots s) (fun k s => gclSend (dnPort k) (.loadFailed res) s) s
  raise uCUS 1 .contained { unit := if slot < 8 then slot else 0xFFFF, item := item, w1 := w32 s.cus.failLeaf } s

/-! ### Placement (R270, R271) -/

def up64k (n : Nat) : Nat := (n + 65535) / 65536 * 65536

/-- Planner order (R270): ascending PRIORITY, then descending SIZE, then ascending FIRST_LEAF. -/
def beforePlan (a b : Shard) : Bool :=
  if a.priority ≠ b.priority then decide (a.priority < b.priority)
  else if a.size ≠ b.size then decide (b.size < a.size) else decide (a.first < b.first)
def insertBy (lt : Shard → Shard → Bool) (x : Nat × Shard) : List (Nat × Shard) → List (Nat × Shard)
  | [] => [x]
  | y :: r => if lt x.2 y.2 then x :: y :: r else y :: insertBy lt x r
def sortBy (lt : Shard → Shard → Bool) (l : List (Nat × Shard)) : List (Nat × Shard) := l.foldl (fun a x => insertBy lt x a) []

def packedSize (l : List (Nat × Shard)) : Nat := sumList (l.map (fun e => up64k e.2.size))
def exactEnd (l : List (Nat × Shard)) : Nat := maxList (l.map (fun e => e.2.target + e.2.size))

/-- Move candidates out until the slot fits (R270). -/
def moveOut (cap : Nat) : List (Nat × Shard) → List (Nat × Shard) → List (Nat × Shard) × List (Nat × Shard)
  | [], res => (res, [])
  | c :: r, res =>
    if cap < packedSize res then
      let t := moveOut cap r (res.filter (fun e => e.1 != c.1))
      (t.1, c :: t.2)
    else (res, [])

/-- Addresses of a packed slot (R270): ascending TARGET_ADDR, each at the next 64 KiB boundary. -/
def packAddrs (l : List (Nat × Shard)) : Tab Nat :=
  ((sortBy (fun a b => decide (a.target < b.target)) l).foldl (fun (acc : Tab Nat × Nat) e => (tput acc.1 e.1 acc.2, acc.2 + up64k e.2.size)) ([], 0)).1

/-- Plan one slot: the layout, and the shards moved in planner order. -/
def planSlot (s : State) (k : Nat) : SlotPlan × List (Nat × Shard) :=
  let mine := ((shardsOf s).zipIdx.filter (fun e => e.1.slot == k)).map (fun e => (e.2, e.1))
  let cap := tget 0 s.cus.caps k
  if exactEnd mine ≤ cap then
    ({ layout := 1, addrs := mine.foldl (fun t e => tput t e.1 e.2.target) [], need := exactEnd mine }, [])
  else
    let cand := if s.cus.allow then sortBy beforePlan (mine.filter (fun e => e.2.flags % 2 == 1)) else []
    let r := moveOut cap cand mine
    ({ layout := 2, addrs := packAddrs r.1, need := packedSize r.1, short := packedSize r.1 - cap
       remnant := sumList (r.2.map (fun e => e.2.size)) }, r.2)

def ceilDiv (a b : Nat) : Nat := if b = 0 then 0 else (a + b - 1) / b

/-- PENALTY in µs (R271): Σ (SIZE × READS ÷ 256) over the lower of the DN payload rate, 24.8 GB/s a lane, and CUS_PLAN_MEM ÷ k. -/
def penaltyUs (s : State) (k n : Nat) (moved : List (Nat × Shard)) : Nat :=
  let b := sumList (moved.map (fun e => e.2.size * (if e.2.reads = 0 then 256 else e.2.reads)))
  max (ceilDiv (b * 10) (256 * 248000 * (gclPort s (dnPort k)).width)) (ceilDiv (b * n) (256 * 1000 * (liveWord s 0x140070).toNat))

/-- The planner (R270, R271): the plan, the remnant shortfall in bytes, and whether it is accepted. -/
def makePlan (s : State) : CusPlan × Nat :=
  let ps := (loadSlots s).map (fun k => (k, planSlot s k))
  let n := (ps.filter (fun e => e.2.2 != [])).length
  let place := (ps.flatMap (fun e => e.2.2)).foldl (fun (acc : List (Nat × Nat) × Nat) e => (acc.1 ++ [(e.1, acc.2)], acc.2 + shardLeaves e.2)) ([], 0)
  ({ slots := ps.map (fun e => (e.1, { e.2.1 with penalty := if e.2.2 = [] then 0 else penaltyUs s e.1 n e.2.2 })), rem := place.1 },
   (place.2 - regionMib s 0) * 1048576)

/-! ### Device addresses of the remnant tier (R270, R314) -/

/-- The leaf a remnant MiB holds, by the plan in force. -/
def remLeafAt (s : State) (mib : Nat) : Option Nat :=
  (s.cus.plan.rem.findSome? (fun e => let sh := shardAt s e.1; if e.2 ≤ mib ∧ mib < e.2 + shardLeaves sh then some (sh.first + (mib - e.2)) else none))
def remMibOf (s : State) (l : Nat) : Option Nat :=
  (s.cus.plan.rem.findSome? (fun e => let sh := shardAt s e.1; if sh.first ≤ l ∧ l < sh.first + shardLeaves sh then some (e.2 + (l - sh.first)) else none))
def remSlotOf (s : State) (l : Nat) : Option Nat := (shardOfLeaf s l).map (fun i => (shardAt s i).slot)
/-- 4 KiB pages of a remnant leaf. -/
def leafPages (s : State) (l : Nat) : List Nat := match remMibOf s l with
  | some m => (List.range 256).map (fun i => m * 256 + i)
  | none => []

/-! ### Loading (R266–R273, R280) -/

/-- Send the capacity queries and wait for the answers (R269). -/
def queryCaps (s : State) : State :=
  forEach (loadSlots s) (fun k s => gclSend (dnPort k) .capQuery { s with cus.queried := tput s.cus.queried k s.now }) { s with cus.caps := [], cus.queried := [] }

def enterPlan (s : State) : State := queryCaps (setLoad 3 s)

/-- LOAD_BEGIN entries of a slot, at most eight a message (R272, R319). -/
def loadBeginOf (s : State) (k : Nat) : List (Nat × Bool × Nat × Nat) :=
  (shardsOf s).zipIdx.filterMap (fun e =>
    if e.1.slot ≠ k then none
    else match s.cus.plan.rem.find? (fun r => r.1 == e.2) with
      | some r => some (e.2, true, 140737488355328 + r.2 * 1048576, e.1.size)
      | none => some (e.2, false, tget 0 (tget {} s.cus.plan.slots k).addrs e.2, e.1.size))
def chunk8 {α : Type} : Nat → List α → List (List α)
  | 0, _ => []
  | n + 1, l => if l.isEmpty then [] else l.take 8 :: chunk8 n (l.drop 8)
def sendLoadBegin (k : Nat) (s : State) : State :=
  let e := loadBeginOf s k
  let parts := chunk8 (e.length + 1) e
  forEach parts.zipIdx (fun p s => gclSend (dnPort k) (.loadBegin p.2 parts.length e.length (match s.cus.man with | some m => m.modelTag | none => 0) p.1) s) s

/-- Every cursor has cleared its last leaf. -/
def allCleared (s : State) : Bool := (List.range 9).all (fun c => (cursor s c).cleared == leavesFrom s c 0)

/-- LOAD_END (R278): DONE, and a job exists. A restart reload ends with RESTART_DONE (R288). -/
def loadEnd (s : State) : State :=
  let s := forEach (loadSlots s) (fun k s => gclSend (dnPort k) (.loadEnd (leavesFrom s k 0)) s) s
  let s := setLoad 6 (cusResult 0 0xF { s with cus.cursors := s.cus.cursors.map (fun e => (e.1, { e.2 with state := 3 })) })
  let s := { s with cus.job := true, cus.jobSlots := s.cus.mask, cus.scrubAt := s.now, und.resume := none, und.resumeC := none }
  if s.cus.restart = 6 then
    let t := (s.now - s.cus.abortAt) / ms
    noteJob (gclSend 0 (.restartDone t) { s with cus.restart := 0, cus.seq := inc8 s.cus.seq, cus.lastMs := t, cus.reload := false })
  else noteJob { s with cus.reload := false }

/-- A new load reuses the remnant tier (R316): what a snoop held of the old content falls away, and the pages that the companion may hold are snooped. -/
def reuseRegion (s : State) : State :=
  let s := { s with gcl.snoops := s.gcl.snoops.map (fun n => { n with held := n.held.filter (fun c => match c with | .refetch _ => false | _ => true) }) }
  forEach (s.gcl.dirS.filter (fun p => regionOf s (p * 4096) == 0)) (fun p s => holdOrDo p (.withdraw 0) (fun s => s) s) s

/-- Start of the STREAM phase: cursors at the beginning, at their recorded watermarks after a chip reset (R282), or past the remnant leaves that stayed
cleared in a restart (R288). -/
def startStream (s : State) : State :=
  let keep := if s.cus.reload then s.cus.remCleared else []
  let water := match s.cus.resuming with | some r => r.water | none => []
  let s := forEach (List.range 9) (fun c s =>
    let from_ := if c < 8 then water.getD c 0 else 0
    let done := if c = 8 then (keep.filter (fun l => (remMibOf s l).isSome)) else []
    let w := (nextNotIn s c done (done.length + 1) from_).getD (leafEnd s)
    updCursor c (fun _ => { state := if leavesFrom s c 0 = 0 then 3 else 1, next := from_, water := w, above := done.filter (fun l => decide (w < l)), recorded := w
                            cleared := leavesFrom s c 0 - leavesFrom s c from_ + done.length }) s) { s with cus.cursors := [] }
  let s := { s with cus.remCleared := if s.cus.reload then s.cus.remCleared else [], cus.withdrawn := if s.cus.reload then s.cus.withdrawn else [], cus.lost := [] }
  let s := setLoad 4 (if s.cus.reload then { s with cus.resuming := none } else reuseRegion { s with cus.resuming := none })
  if allCleared s then loadEnd s else s

/-- PLAN_DONE (R270, R272): every answer is in. -/
def planDone (s : State) : State :=
  let p := makePlan s
  let old := s.cus.plan
  let s := { s with cus.plan := p.1, cus.remShort := p.2 }
  match s.cus.resuming with
  | some r => if r.plan = p.1 then startStream (forEach (loadSlots s) sendLoadBegin s) else failLoad 0x12 0xF 2 s
  | none =>
    match (loadSlots s).find? (fun k => (tget ({} : SlotPlan) s.cus.plan.slots k).short != 0) with
    | some k => refuseLoad 0x0C k s
    | none =>
      if p.2 ≠ 0 then refuseLoad 0x0D 0xF s
      else
        if s.cus.planOnly then setLoad 0 (cusResult 0 0xF { s with cus.plan := { p.1 with rem := [] } })
        else startStream (forEach (loadSlots s) sendLoadBegin (if s.cus.reload ∧ old.rem ≠ p.1.rem then { s with cus.remCleared := [] } else s))

/-- CAP_ANSWER (R269); answers also count while a restart waits in READY_WAIT (R288). -/
def doCapAnswer (slot : Fin 8) (bytes : BitVec 64) (s : State) : State :=
  let k := slot.val
  if (s.cus.state = 3 ∧ (tfind s.cus.queried k).isSome) then
    let s := { s with cus.caps := tput s.cus.caps k bytes.toNat }
    if (loadSlots s).all (fun k => (tfind s.cus.caps k).isSome) then (planDone s) else s
  else if s.cus.restart = 5 then { s with cus.caps := tput s.cus.caps k bytes.toNat }
  else s

/-- CAP_QUERY_TIMEOUT (R269). -/
def doCapQueryTimeout (slot : Fin 8) (s : State) : State :=
  let k := slot.val
  match tfind s.cus.queried k with
  | some t => if s.cus.state = 3 ∧ tfind s.cus.caps k = none ∧ t + 10 * ms ≤ s.now then (refuseLoad 0x0B k s) else s
  | none => s

/-- After the manifest: TREE, or PLAN when a tree of the same root is retained (R268). -/
def afterManifest (s : State) : State :=
  match s.cus.man, s.cus.tree with
  | some m, some t => if t.root = m.root then enterPlan s else setLoad 2 { s with cus.tree := none }
  | _, _ => setLoad 2 { s with cus.tree := none }

/-- Shard-table rules of R266, in order. -/
def shardRunsOk : Nat → Nat → List Shard → Bool
  | pos, end_, [] => pos == end_
  | pos, end_, sh :: r => sh.first == pos && decide (1 ≤ sh.size) && decide (sh.slot < 8) && decide (sh.flags < 2) && shardRunsOk (pos + shardLeaves sh) end_ r
def shardsDisjoint (l : List Shard) : Bool :=
  l.zipIdx.all (fun a => l.zipIdx.all (fun b => a.2 == b.2 || a.1.slot != b.1.slot ||
    decide (a.1.target + a.1.size ≤ b.1.target) || decide (b.1.target + b.1.size ≤ a.1.target)))

/-- The manifest checks of R266, in order: the first failure's result and slot. The owner keys are those that the load began with (R90). -/
def manifestCheck (s : State) (m : ManifestRec) : Option Nat :=
  let owner : Option OwnerKey := s.cus.owners.find? (fun o => o.owner == m.sig.keySlot)
  if ¬(m.magic = 0x464D584B ∧ m.fmtMajor = 1 ∧ m.fmtMinor = 0 ∧ m.leafLog2 = 20 ∧ m.imageBytes = m.leafCount * 1048576 ∧ m.reservedZero ∧
       1 ≤ m.shards.length ∧ m.shards.length ≤ 65536 ∧ 1 ≤ m.leafCount ∧ m.leafCount ≤ 16777216 ∧
       m.sigOffset = 0x80 + 32 * m.shards.length ∧ m.total = m.sigOffset + 3088) then some 2
  else if m.hwtype ≠ 0x4238584B then some 3
  else if m.bind % 2 = 1 ∧ m.unit ≠ Config.unitId then some 4
  else if m.sig.alg ≠ 1 ∨ m.sig.pubLen ≠ 1793 ∨ 1280 < m.sig.sigLen ∨ ¬ sigVerifies m.sig (manDigest m) then some 5
  else if ¬ owner.any (fun o => o.enabled && o.pubkey == m.sig.pubkey) then some 6
  else if ¬ shardRunsOk 0 m.leafCount m.shards then some 7
  else if ¬(shardsDisjoint m.shards ∧ m.shards.all (fun sh => sh.target % 65536 == 0)) then some 7
  else if ¬ m.shards.all (fun sh => s.cus.mask.testBit sh.slot) then some 7
  else none

/-- Scatter list (R273). -/
def sgOk (s : State) (m : ManifestRec) (sg : List SgEntry) : Bool :=
  sg.length == s.cus.sgCount && sg.all (fun e => e.addr % 4096 == 0) && sumList (sg.map (·.leaves)) == m.leafCount

/-- MANIFEST_VERIFIED (R266): the verified copy decides. After a chip reset its digest must equal the resume record's (R282). `sg` is the scatter list as
fetched; `fetchOk` that both fetches completed. -/
def doManifestVerified (m : ManifestRec) (fetchOk : Bool) (sg : List SgEntry) (s : State) : State :=
  if s.cus.state ≠ 1 then s
  else if ¬ fetchOk then (refuseLoad 8 0xF s)
  else match manifestCheck s m with
    | some r => if s.cus.resuming.isSome then (failLoad 0x12 0xF 2 s) else (refuseLoad r 0xF s)
    | none =>
      let diff := match s.cus.resuming with | some r => decide (r.dman ≠ manDigest m) | none => false
      if diff then (failLoad 0x12 0xF 2 s)
      else if ¬ sgOk s m sg then (refuseLoad 8 0xF s)
      else (afterManifest { s with cus.man := some m, cus.manId := lo32 (manDigest m), cus.sg := sg })

/-- TREE_DONE (R267, R268): `leaves` is the leaf list as fetched; the engine computes every parent and compares the top with ROOT. -/
def doTreeDone (leaves : List Digest) (s : State) : State :=
  if s.cus.state ≠ 2 then s
  else match s.cus.man with
    | none => s
    | some m =>
      if merkleRoot leaves = m.root ∧ leaves.length = m.leafCount then (enterPlan { s with cus.tree := some ⟨m.root, leaves⟩ })
      else if s.cus.resuming.isSome then (failLoad 0x12 0xF 2 s)
      else (refuseLoad 9 0xF s)

/-- Begin a load from the recorded addresses: the MANIFEST phase fetches the manifest and the scatter list over UP. -/
def beginLoad (s : State) : State :=
  let keys := match s.cfg.running with | some b => b.owners | none => []
  gclFetch 0 s.cus.manAddr s.cus.manLen (setLoad 1 { s with cus.result := 0, cus.resSlot := 0xF, cus.failLeaf := 0, cus.owners := keys })

def regPair64 (s : State) (o : Nat) : Nat := (regWord s o).toNat + (regWord s (o + 4)).toNat * 4294967296

/-- LOAD and PLAN_ONLY (R264, R272, R280). While a job exists DONE is left only by LOAD, so PLAN_ONLY is answered BUSY (log 102). -/
def startLoad (planOnly allow : Bool) (mask : Nat) (s : State) : State :=
  if (1 ≤ s.cus.state ∧ s.cus.state ≤ 5) ∨ s.cus.restart ≠ 0 ∨ (planOnly ∧ s.cus.job) then cusResult 1 0xF s
  else match (maskBits 8 mask).find? (fun k => !portTrained s (dnPort k)) with
    | some k => cusResult 0x0A k s
    | none =>
      let cnt := (regWord s 0x140034).toNat
      if mask = 0 ∨ (regWord s 0x140020).toNat = 0 ∨ cnt = 0 ∨ 65536 < cnt then cusResult 8 0xF s
      else
        let s := if planOnly then s else clearJobNote { s with cus.job := false }
        beginLoad { s with cus.planOnly := planOnly, cus.allow := allow, cus.mask := mask, cus.manAddr := regPair64 s 0x140018
                           cus.manLen := (regWord s 0x140020).toNat, cus.leafAddr := regPair64 s 0x140024, cus.sgAddr := regPair64 s 0x14002C
                           cus.sgCount := cnt, cus.resuming := none, cus.reload := false }

/-- Abort a load in progress (R280): CANCEL or a job fault. -/
def abortLoad (res : Nat) (s : State) : State :=
  if 1 ≤ s.cus.state ∧ s.cus.state ≤ 5 then setLoad 9 (cusResult res 0xF (stopCursors 0 s)) else s

/-- RESUME (R281): each cursor fetches again from its watermark. -/
def resumeLoad (s : State) : State :=
  if s.cus.state = 5 then
    let s := setLoad 4 { s with cus.cursors := s.cus.cursors.map (fun e =>
      (e.1, { e.2 with infl := [], head := [], next := e.2.water, state := if e.2.state = 2 then 1 else e.2.state })), cus.result := 0, cus.resSlot := 0xF }
    if allCleared s then loadEnd s else s
  else s

/-- Act on a CUS_LOAD_CMD pair. -/
def cusCommand (w : Word) (s : State) : State :=
  let tag := fld w 31 24
  if tag = lastTag s 0x140010 then s
  else
    let s := { setTag 0x140010 tag s with cus.resTag := tag }
    match fld w 23 20 with
    | 1 => startLoad false (bit w 16) (fld w 7 0) s
    | 2 => startLoad true (bit w 16) (fld w 7 0) s
    | 3 => if 1 ≤ s.cus.state ∧ s.cus.state ≤ 5 then abortLoad 0x10 s else cusResult 0 0xF s
    | 4 => resumeLoad s
    | _ => s

/-- Registers of R292 accept writes from CUS and SEC only. -/
def cusPath (path : Path) : Bool := path == .proc .cus || path == .proc .sec
def cusDenied (path : Path) (off : Nat) (w : Word) (s : State) : State :=
  raise uCUS 10 .contained { path := pathCode path, w1 := w32 off, w2 := w } s
def cusCmdWrite (path : Path) (w : Word) (s : State) : State :=
  if cusPath path then cusCommand w (setPair 0x140010 w s) else cusDenied path 0x140010 w s
def cusWord (op tag mask : Nat) (allow : Bool) : Word := w32 (tag * 16777216 + op * 1048576 + (if allow then 65536 else 0) + mask)

/-- CUS_LOAD. -/
def doCusLoad (path : Path) (tag mask : Byte) (allowRemnant : Bool) (s : State) : State :=
  (cusCmdWrite path (cusWord 1 tag.toNat mask.toNat allowRemnant) s)
/-- CUS_PLAN_ONLY. -/
def doCusPlanOnly (path : Path) (tag mask : Byte) (allowRemnant : Bool) (s : State) : State :=
  (cusCmdWrite path (cusWord 2 tag.toNat mask.toNat allowRemnant) s)
/-- CUS_CANCEL. -/
def doCusCancel (path : Path) (tag : Byte) (s : State) : State := (cusCmdWrite path (cusWord 3 tag.toNat 0 false) s)
/-- CUS_RESUME. -/
def doCusResume (path : Path) (tag : Byte) (s : State) : State := (cusCmdWrite path (cusWord 4 tag.toNat 0 false) s)

/-- LOAD_RESUME_AFTER_RESET (R282): the released CUS starts the load of the resume record again; a record whose complement fails is discarded. -/
def doLoadResumeAfterReset (s : State) : State :=
  match s.und.resume with
  | none => s
  | some r =>
    if s.cus.state ≠ 0 ∨ ¬ procRunning s .cus then s
    else
    let z := injectCheck uCUS 9 0 (decide (s.und.resumeC = some r)) s
    let ok := s.und.resumeC = some r
    let s := z.2
    if ¬ z.1 then (raise uCUS 9 .corrected { inj := decide ok } { s with und.resume := none, und.resumeC := none })
    else if r.state ≠ 4 ∧ r.state ≠ 5 then s
    else (beginLoad { s with cus.planOnly := false, cus.allow := r.allow, cus.mask := r.mask, cus.manAddr := r.manAddr, cus.manLen := r.manLen, cus.leafAddr := r.leafAddr, cus.sgAddr := r.sgAddr, cus.sgCount := r.sgCount, cus.resuming := some r, cus.reload := false })

/-! ### Streaming (R274–R278) -/

def inflight (s : State) : Nat := sumList (s.cus.cursors.map (fun e => e.2.infl.length))

/-- The leaf a cursor would fetch next: its requeued leaves first, then the next leaf not already cleared. -/
def cursorPick (s : State) (c : Nat) : Option Nat :=
  let x := cursor s c
  match x.head with
  | l :: _ => some l
  | [] => nextNotIn s c x.above (x.above.length + 1) (max x.next x.water)

/-- Bytes a cursor has left to fetch (log 51). -/
def cursorBytes (s : State) (c : Nat) : Nat := ((cursor s c).head.length + leavesFrom s c (cursor s c).next) * 1048576

/-- Companion address of a leaf by the scatter list. -/
def leafAddr : List SgEntry → Nat → Nat
  | [], _ => 0
  | e :: r, l => if l < e.leaves then e.addr + l * 1048576 else leafAddr r (l - e.leaves)

/-- Bytes of a leaf that belong to its shard (R275 step 2). -/
def leafBytes (s : State) (l : Nat) : Nat := match shardOfLeaf s l with
  | some i => min 1048576 ((shardAt s i).size - (l - (shardAt s i).first) * 1048576)
  | none => 0

/-- Address a resident leaf is written to at its slot. -/
def leafTarget (s : State) (k l : Nat) : Nat := match shardOfLeaf s l with
  | some i => tget 0 (tget {} s.cus.plan.slots k).addrs i + (l - (shardAt s i).first) * 1048576
  | none => 0

/-- Give a buffer to a cursor's next leaf and fetch it (R275 step 1, log 137). -/
def fetchLeaf (c l : Nat) (s : State) : State :=
  let s := updCursor c (fun x => { x with infl := tput x.infl l false, head := x.head.filter (· != l), next := if x.head.contains l then x.next else l + 1 }) s
  gclReads 0 (leafReads c l (leafAddr s.cus.sg l)) s

/-- LEAF_FETCH (R274, R284): the cursor with the most bytes left among those below 24 in flight; ties to the lower. Outside STREAM only withdrawn remnant
leaves are fetched. -/
def doLeafFetch (s : State) : State :=
  let cs := if s.cus.state = 4 then List.range 9 else if s.cus.job ∧ s.cus.restart = 0 ∧ (cursor s 8).head ≠ [] then [8] else []
  if 128 ≤ inflight s then s
  else
    let l := cs.filterMap (fun c => if (cursor s c).infl.length < 24 then (cursorPick s c).map (fun x => (cursorBytes s c, c, x)) else none)
    match l with
    | [] => s
    | a :: r => let m := r.foldl (fun (b x : Nat × Nat × Nat) => if b.1 < x.1 then x else b) a; (fetchLeaf m.2.1 m.2.2 s)

/-- A read of part `i` of a leaf has completed: with the part's last byte, its shard bytes go to a resident slot as one quarantine-tagged write of at most 64 KiB; with the
leaf's last byte, it has arrived (R275 step 2). -/
def leafArrived (c l i : Nat) (s : State) : State :=
  let out := fun (f : ReqOwner → Bool) => (gclPort s 0).reqs.any (fun r => f r.owner) || (gclPort s 0).waiting.any (fun e => f e.1)
  if (tfind (cursor s c).infl l).isNone ∨ out (· == .leaf c l i) then s
  else
    let s := if out (isLeafOwner c l) then s else updCursor c (fun x => { x with infl := tput x.infl l true }) s
    let n := leafBytes s l
    if c < 8 ∧ 65536 * i < n then gclSend (dnPort c) (.qwrite (leafTarget s c l + 65536 * i) l (min 65536 (n - 65536 * i))) s else s

/-- Advance the watermark over cleared leaves. -/
def advanceWater (s : State) (c : Nat) : Nat → Cursor → Cursor
  | 0, x => x
  | fuel + 1, x =>
    if x.above.contains x.water then
      advanceWater s c fuel { x with above := sdel x.above x.water, water := (nextLeaf s c (x.water + 1)).getD (leafEnd s) }
    else x

/-- A leaf counts as cleared (R275 step 5, R281), once: a leaf fetched again after a pause may be acknowledged twice. -/
def leafCleared (c l : Nat) (s : State) : State :=
  if l < (cursor s c).water ∨ (cursor s c).above.contains l then s
  else
  let s := updCursor c (fun x => advanceWater s c (x.above.length + 2) { x with cleared := x.cleared + 1, above := sadd x.above l, attempts := terase x.attempts l }) s
  let s := if (cursor s c).recorded + 4096 ≤ (cursor s c).water then recordResume s else s
  if s.cus.state = 4 ∧ (cursor s c).cleared = leavesFrom s c 0 then
    let s := updCursor c (fun x => { x with state := 3 }) s
    if allCleared s then loadEnd s else s
  else s

/-! ### Job faults and the restart engine (R286–R290) -/

def abortHoldNs (s : State) : Nat := fld (liveWord s 0x140078) 31 16 * 10 * us
def restartLimit (s : State) : Nat := fld (liveWord s 0x140078) 15 12
def readyMin (s : State) : Nat := fld (liveWord s 0x140078) 11 8
def onRemnant (s : State) : Bool := bit (liveWord s 0x140078) 3
def autoClear (s : State) : Bool := bit (liveWord s 0x140078) 2
def cusPolicy (s : State) : Nat := fld (liveWord s 0x140078) 1 0

/-- JOB_ABORT_ASSERT (R287): the pin low, JOB_ABORT on UP and every DN port. -/
def jobAbortAssert (reason : Nat) (s : State) : State :=
  let s := drivePin .jobAbort 0 { s with cus.abort := true }
  let s := forEach (List.range 9) (fun p s => gclSend p (.jobAbort reason) s) s
  raise uCUS 4 .contained { item := reason } (rcdTrigger 2 s)

/-- Slots of the job, of the restart or of the load in progress. -/
def jobSlotMask (s : State) : Nat := if s.cus.job ∨ s.cus.restart ≠ 0 then s.cus.jobSlots else s.cus.mask

/-- A restart ends the job (R278) and begins at ABORT_HOLD, or is HELD when it is the LIMIT'th within 10 minutes of the first (R289). -/
def beginRestart (reason : Nat) (s : State) : State :=
  let fresh := s.cus.count = 0 ∨ s.cus.winStart + 600 * sec < s.now
  let n := if fresh then 1 else satInc 255 s.cus.count
  let slots := jobSlotMask s
  let s := { s with cus.count := n, cus.winStart := if fresh then s.now else s.cus.winStart, cus.jobSlots := slots, cus.job := false }
  let s := if s.cus.restart = 0 then { s with cus.reason := reason, cus.abortAt := s.now, cus.cycled := [], cus.clearedOnce := [], cus.trayCleared := false } else s
  let s := abortLoad 0x11 s
  let s := jobAbortAssert reason { s with cus.restart := 1, cus.since := s.now, cus.pwrRetry := none }
  if restartLimit s ≤ n then raise uCUS 5 .contained { item := 1 } { s with cus.restart := 7 } else s

/-- A job fault (R286, R290); `slots` are those that raised reason 2, 3 or 4. -/
def jobFaultReason (reason : Nat) (slots : List Nat) (s : State) : State :=
  if ¬ s.cus.job ∧ ¬(1 ≤ s.cus.state ∧ s.cus.state ≤ 5) ∧ s.cus.restart = 0 then s
  else
    let s := if s.cus.restart = 1 ∨ s.cus.restart = 2 then raise uCUS 4 .contained { item := reason } s
      else if s.cus.restart = 7 then s
      else beginRestart reason s
    noteJob { s with cus.raised := slots.foldl sadd s.cus.raised }

/-- Slots of the job, or of the load in progress. -/
def jobMask (s : State) : List Nat := maskBits 8 (jobSlotMask s)

/-- RAIL (R286 reason 3): an episode on a job slot, or on the tray (0xFF). -/
def jobFaultFromSlot (k : Nat) (s : State) : State :=
  if k = 0xFF then jobFaultReason 3 [] s else if (jobMask s).contains k then jobFaultReason 3 [k] s else s

/-- THERMAL (R286 reason 4): a latch of slot `k`, or of the tray (8). -/
def jobFaultFromLatch (k : Nat) (s : State) : State :=
  if k = 8 then jobFaultReason 4 [] s else if (jobMask s).contains k then jobFaultReason 4 [k] s else s

/-- JOB_FAULT (R286 reason 2). -/
def doJobFault (slot : Fin 8) (code : Word) (s : State) : State :=
  let _ := code
  if portActive s (dnPort slot.val) ∧ (jobMask s).contains slot.val then (jobFaultReason 2 [slot.val] s) else s

/-- Failed attempt of a leaf (R276, R284): requeued at the head of its cursor; the third failure ends the load, or loses the remnant leaf. -/
def leafFail (c l : Nat) (s : State) : State :=
  let n := tget 0 (cursor s c).attempts l + 1
  let s := staleReads (isLeafOwner c l) s
  let s := updCursor c (fun x => { x with infl := terase x.infl l, attempts := tput x.attempts l n, head := l :: x.head.filter (· != l) }) s
  if s.cus.state = 4 then
    let s := raise uCUS 0 .corrected { unit := c, item := n, w1 := w32 l } { s with cus.refLoad := satInc 65535 s.cus.refLoad }
    if 3 ≤ n then failLoad 0x0E (if c < 8 then c else 0xF) 0 { s with cus.failLeaf := l } else s
  else
    let s := raise uCUS 0 .corrected { unit := c, item := n, w1 := w32 l } s
    if n < 3 then s
    else
      let s := updCursor 8 (fun x => { x with head := x.head.filter (· != l) }) { s with cus.lost := sadd s.cus.lost l }
      let s := raise uCUS 7 .contained { w1 := w32 l } s
      if onRemnant s then jobFaultReason 6 [] s else s

/-- The content of a remnant leaf is cleared (R275 step 5), or returns after a withdrawal (R284), once no companion copy can be stale. -/
def applyRefetch (l : Nat) (s : State) : State :=
  let s := updCursor 8 (fun x => { x with attempts := terase x.attempts l }) { s with cus.withdrawn := sdel s.cus.withdrawn l, cus.remCleared := sadd s.cus.remCleared l }
  if s.cus.state = 4 then leafCleared 8 l s else s

/-- A remnant leaf's content is readable once no page of it has an unanswered snoop or a line at the companion (R316). -/
def refetchDone (l : Nat) (s : State) : State :=
  match (leafPages s l).find? (fun p => s.gcl.snoops.any (fun n => n.page == p) || s.gcl.dirS.contains p) with
  | some p => holdOrDo p (.refetch l) (applyRefetch l) s
  | none => applyRefetch l s

/-- LEAF_HASH_DONE (R267, R275, R276, R284): with every write acknowledged, the hash of the bytes that arrived, against the verified tree. A remnant leaf's shard bytes stand
in the tier. -/
def doLeafHashDone (leaf : BitVec 24) (bytes : List Byte) (s : State) : State :=
  let l := leaf.toNat
  let digest := merkleLeaf l bytes
  match (List.range 9).find? (fun c => tfind (cursor s c).infl l == some true && (c == 8 || writesAcked s (dnPort c) l)) with
  | none => s
  | some c =>
    let want := match s.cus.tree with | some t => t.leaves[l]? | none => none
    if want ≠ some digest then (leafFail c l s)
    else
      let s := updCursor c (fun x => { x with infl := terase x.infl l }) s
      let s := { s with cus.doneAt := (s.cus.doneAt.filter (fun t => decide (s.now < t + 100 * ms))) ++ [s.now]
                        cus.remData := if c = 8 then tput s.cus.remData l (bytes.take (leafBytes s l)) else s.cus.remData }
      if c < 8 then
        let s := updCursor c (fun x => { x with waits := tput x.waits l (s.now, 0) }) s
        (gclSend (dnPort c) (.clear (leafTarget s c l) (leafBytes s l) l) s)
      else refetchDone l (if s.cus.state = 4 then s else { s with cus.refScrub := satInc 65535 s.cus.refScrub })

/-- CLEAR_ACK (R275 step 5); acknowledgements count in a pause too (R281). -/
def doClearAck (slot : Fin 8) (leaf : BitVec 24) (s : State) : State :=
  let c := slot.val; let l := leaf.toNat
  if (tfind (cursor s c).waits l).isSome ∧ portActive s (dnPort c) then
    (leafCleared c l (updCursor c (fun x => { x with waits := terase x.waits l }) s))
  else s

/-- CLEAR_ACK_TIMEOUT (R276): sent again at most twice, then the load fails with LINK. A paused engine sends none (R281). -/
def doClearAckTimeout (slot : Fin 8) (leaf : BitVec 24) (s : State) : State :=
  let c := slot.val; let l := leaf.toNat
  match tfind (cursor s c).waits l with
  | some (t, n) =>
    if s.now < t + 10 * ms ∨ s.cus.state ≠ 4 then s
    else if n < 2 then
      let s := updCursor c (fun x => { x with waits := tput x.waits l (s.now, n + 1) }) s
      (raise uCUS 3 .corrected { unit := c, w1 := w32 l } (gclSend (dnPort c) (.clear (leafTarget s c l) (leafBytes s l) l) s))
    else (failLoad 0x0F c 1 s)
  | none => s

/-- A DN port goes DOWN (R276, R324): STREAM fails with LINK; the port of a slot of the job, or of a restart's reload, is a job fault (log 52). UP down is a job fault (R286). -/
def cusPortDown (p : Nat) (s : State) : State :=
  if p = 0 then jobFaultReason 5 [] s
  else if p ≤ 8 ∧ (jobMask s).contains (p - 1) then
    let rel := s.cus.restart ≠ 0
    let s' := if s.cus.state = 4 then failLoad 0x0F (p - 1) 1 s else s
    (if s.cus.state = 4 ∧ ¬ rel then s' else jobFaultReason 5 [] s')
  else s

/-! ### Remnant tier (R284) -/

/-- REMNANT_WITHDRAW (R284): the range is marked withdrawn first, so reads are poisoned, then companion copies are snooped; the leaf is refetched. -/
def withdrawLeaf (l : Nat) (s : State) : State :=
  if s.cus.remCleared.contains l then
    let s := { s with cus.remCleared := sdel s.cus.remCleared l, cus.withdrawn := sadd s.cus.withdrawn l }
    let s := raise uCUS 6 .corrected { w1 := w32 l } s
    let s := forEach ((leafPages s l).filter (fun p => s.gcl.dirS.contains p)) (fun p s => holdOrDo p (.withdraw l) (fun s => s) s) s
    updCursor 8 (fun x => { x with head := x.head ++ [l], attempts := terase x.attempts l }) s
  else s

/-- Bytes of remnant leaves that memory has changed: leaf, byte and the bits inverted. -/
def decayRemnant (flips : List (Nat × Nat × Byte)) (s : State) : State :=
  forEach flips (fun f s => { s with cus.remData := tupd [] s.cus.remData f.1 (fun d => d.zipIdx.map (fun e => if e.2 = f.2.1 then e.1 ^^^ f.2.2 else e.1)) }) s

/-- Cleared leaves whose content, padded with zeros, no longer has its digest in the verified tree (R284, R267). -/
def scrubBad (s : State) : List Nat :=
  s.cus.remCleared.filter (fun l => merkleLeaf l (padTo 1048576 (tget [] s.cus.remData l)) != (match s.cus.tree with | some t => (t.leaves[l]?).getD 0 | none => 0))

/-- REMNANT_SCRUB (R284): a pass over the cleared leaves, of which memory has changed the bits `flips` since they were written. -/
def doRemnantScrub (flips : List (Nat × Nat × Byte)) (s : State) : State :=
  let h := fld (liveWord s 0x140080) 7 0
  let s := decayRemnant flips s
  if s.cus.job ∧ s.cus.scrubAt + h * 3600 * sec ≤ s.now then
    (forEach (scrubBad s) withdrawLeaf { s with cus.scrubAt := s.now, cus.scrubLeaf := (s.cus.remCleared.getLast?).getD 0 })
  else s

/-! ### Restart states (R288) -/

/-- Ask PWR for a power command (R288, R290): PWR writes SEQ_CMD with its next TAG. Answers SEQ's result, or none while either restarts. -/
def askPwr (op mask : Nat) (tray : Bool) (s : State) : Option Nat × State :=
  if procRunning s .pwr ∧ procRunning s .cus then
    let s := seqCmdWrite (.proc .pwr) (seqWord op (inc8 (lastTag s 0x080010)) mask tray) s
    (some s.seq.cmdResult, s)
  else (none, { s with cus.pwrRetry := some s.now })

/-- Capacity queries of READY_WAIT (R288): to each job slot whose port is ACTIVE, again every 10 ms until it answers. -/
def readyQueries (s : State) : State :=
  forEach (maskBits 8 s.cus.jobSlots) (fun k s =>
    let due : Bool := match tfind s.cus.queried k with | some t => decide (t + 10 * ms ≤ s.now) | none => true
    if portActive s (dnPort k) ∧ tfind s.cus.caps k = none ∧ due then gclSend (dnPort k) .capQuery { s with cus.queried := tput s.cus.queried k s.now } else s) s

/-- Enter READY_WAIT. -/
def enterReady (s : State) : State := { s with cus.restart := 5, cus.since := s.now, cus.caps := [], cus.queried := [] }

/-- Move POWER_DOWN and POWER_UP on as SEQ's states allow, and ask the slots of READY_WAIT (R288). CUS carries these out, so they wait while it restarts (R290). -/
def restartPoll (s : State) : State :=
  if s.cus.pwrRetry.isSome ∨ ¬ procRunning s .cus then s
  else if s.cus.restart = 5 then readyQueries s
  else if s.cus.restart = 3 then
    (if s.cus.cycled.all (fun k => slotState s k == 1 || slotState s k == 6 || slotState s k == 0) then { s with cus.restart := 4, cus.since := s.now } else s)
  else if s.cus.restart = 4 then
    let js := maskBits 8 s.cus.jobSlots
    let wait := enterReady
    let judge := fun (r : Option Nat × State) =>
      match r.1 with
      | none => r.2
      | some 0 => wait r.2
      | some 4 => wait r.2
      | some 3 => wait r.2
      | some _ => { r.2 with cus.pwrRetry := some r.2.now }
    if s.seq.trayState = 5 then
      (if autoClear s ∧ ¬ s.cus.trayCleared then (askPwr 5 0 true { s with cus.trayCleared := true }).2 else wait s)
    else if s.seq.trayState = 1 then judge (askPwr 3 s.cus.jobSlots false s)
    else if s.seq.trayState = 3 then
      let failed := js.filter (fun k => slotState s k == 6 && !s.cus.clearedOnce.contains k)
      if autoClear s ∧ failed ≠ [] then (askPwr 5 (bitsMask failed) false { s with cus.clearedOnce := failed.foldl sadd s.cus.clearedOnce }).2
      else
        let off := js.filter (fun k => slotState s k == 1)
        if off = [] then wait s else judge (askPwr 1 (bitsMask off) false s)
    else s
  else s

/-- ABORT_HOLD_EXPIRY (R288). A CUS restart holds the state (R290). -/
def doAbortHoldExpiry (s : State) : State :=
  if s.cus.restart = 1 ∧ procRunning s .cus ∧ s.cus.since + abortHoldNs s ≤ s.now then { s with cus.restart := 2, cus.since := s.now } else s

/-- QUIESCE_DONE (R288): cursors stopped, buffers freed; then the power states the POLICY asks for. -/
def doQuiesceDone (s : State) : State :=
  if s.cus.restart ≠ 2 ∨ ¬ procRunning s .cus then s
  else
    let s := stopCursors 0 s
    let js := maskBits 8 s.cus.jobSlots
    if cusPolicy s = 0 then (readyQueries (enterReady s))
    else
      let cyc := if cusPolicy s = 2 then js else js.filter (fun k => slotState s k != 4 || s.cus.raised.contains k)
      let s := { s with cus.restart := 3, cus.since := s.now, cus.cycled := cyc, cus.raised := [] }
      let on := cyc.filter (fun k => slotState s k == 2 || slotState s k == 3 || slotState s k == 4)
      (restartPoll (if on = [] then s else (askPwr 2 (bitsMask on) false s).2))

/-- The job slots are all ON, trained and have answered (R288). -/
def jobReady (s : State) : Bool :=
  (maskBits 8 s.cus.jobSlots).all (fun k => slotState s k == 4 && portTrained s (dnPort k) && (tfind s.cus.caps k).isSome)

/-- READY_WAIT_DONE (R288): JOB_ABORT_N is released and the reload starts. -/
def doReadyWaitDone (s : State) : State :=
  if s.cus.restart = 5 ∧ procRunning s .cus ∧ jobReady s then
    let s := drivePin .jobAbort 1 { s with cus.abort := false, cus.restart := 6, cus.since := s.now }
    let s := forEach (maskBits 8 s.cus.jobSlots) (fun k s => gclSend (dnPort k) .jobResume s) s
    (noteJob (beginLoad { s with cus.reload := true, cus.planOnly := false, cus.resuming := none, cus.mask := s.cus.jobSlots }))
  else s

/-- READY_WAIT_TIMEOUT (R289). -/
def doReadyWaitTimeout (s : State) : State :=
  if s.cus.restart = 5 ∧ procRunning s .cus ∧ s.cus.since + readyMin s * minuteNs ≤ s.now then
    (raise uCUS 5 .contained { item := 0 } { s with cus.restart := 7 })
  else s

/-- PWR_RETRY (R290): every 10 ms. -/
def doPwrRetry (s : State) : State :=
  match s.cus.pwrRetry with
  | some t =>
    if s.now < t + 10 * ms ∨ ¬ procRunning s .cus then s
    else if s.cus.restart = 3 then
      let on := s.cus.cycled.filter (fun k => slotState s k == 2 || slotState s k == 3 || slotState s k == 4)
      let s := { s with cus.pwrRetry := none }
      (if on = [] then restartPoll s else (askPwr 2 (bitsMask on) false s).2)
    else (restartPoll { s with cus.pwrRetry := none })
  | none => s

/-- Act on a CUS_RESTART_CMD pair (R288, R289). -/
def cusRestartCommand (w : Word) (s : State) : State :=
  let tag := fld w 31 24
  if tag = lastTag s 0x140090 then s
  else
    let s := setTag 0x140090 tag s
    match fld w 23 20 with
    | 1 => jobFaultReason 1 [] s
    | 2 =>
      if s.cus.job ∨ (1 ≤ s.cus.state ∧ s.cus.state ≤ 5) ∨ s.cus.restart ≠ 0 then
        let s := abortLoad 0x11 { s with cus.reason := if s.cus.restart = 0 then 1 else s.cus.reason, cus.abortAt := if s.cus.restart = 0 then s.now else s.cus.abortAt
                                         cus.jobSlots := jobSlotMask s, cus.job := false }
        let s := if s.cus.abort then s else jobAbortAssert 1 s
        noteJob (raise uCUS 5 .contained { item := 2 } { s with cus.restart := 7 })
      else s
    | 3 =>
      if s.cus.restart = 7 ∨ s.cus.restart = 0 then
        noteJob (drivePin .jobAbort 1 { s with cus.abort := false, cus.restart := 0, cus.job := false, cus.remCleared := [], cus.plan := { s.cus.plan with rem := [] } })
      else s
    | 4 => if s.cus.restart = 7 then noteJob { s with cus.restart := 1, cus.since := s.now } else s
    | _ => s

def cusRestartWrite (path : Path) (w : Word) (s : State) : State :=
  if cusPath path then cusRestartCommand w (setPair 0x140090 w s) else cusDenied path 0x140090 w s

/-- CUS_RESTART. -/
def doCusRestart (path : Path) (tag : Byte) (s : State) : State := (cusRestartWrite path (cusWord 1 tag.toNat 0 false) s)
/-- CUS_HOLD. -/
def doCusHold (path : Path) (tag : Byte) (s : State) : State := (cusRestartWrite path (cusWord 2 tag.toNat 0 false) s)
/-- CUS_RELEASE. -/
def doCusRelease (path : Path) (tag : Byte) (s : State) : State := (cusRestartWrite path (cusWord 3 tag.toNat 0 false) s)
/-- CUS_CONTINUE. -/
def doCusContinue (path : Path) (tag : Byte) (s : State) : State := (cusRestartWrite path (cusWord 4 tag.toNat 0 false) s)

/-- A CUS processor restart begins (R281): STREAM pauses; leaves in flight are discarded uncleared. -/
def cusProcRestart (s : State) : State :=
  if s.cus.state = 4 then
    setLoad 5 (staleReads isAnyLeaf
      { s with cus.cursors := s.cus.cursors.map (fun e => (e.1, { e.2 with infl := [], state := if e.2.state = 1 then 2 else e.2.state })) })
  else s

/-- First failing value of the CUS staged set: FIRST holds offset bits 9:2. -/
def cusCheck (_ : State) (W : Nat → Word) : Option (Nat × Nat) :=
  let bad := [0x140070, 0x140078, 0x140080].find? (fun o => W (o + 4) != ~~~ W o)
  match bad with
  | some o => some (o / 4 % 256, 1)
  | none =>
    let g := (W 0x140070).toNat; let c := W 0x140078; let h := fld (W 0x140080) 7 0
    if g < 50 ∨ 546 < g then some (0x1C, 2)
    else if fld c 31 16 < 10 ∨ 10000 < fld c 31 16 ∨ fld c 15 12 = 0 ∨ fld c 11 8 = 0 ∨ fld c 1 0 = 3 then some (0x1E, 2)
    else if h = 0 ∨ 168 < h then some (0x20, 2)
    else none

end Sys2Proof.Machine
end

