-- ==== Sys2Proof/Machine/Gcl.lean ====
section
/-! DEFINITION. The Gorino Coherent Link: training, widths, flits, requests into the device, coherence and time exchange
(10_gorino_coherent_link.md, R294–R325). -/

namespace Sys2Proof.Machine

def uGCL : FUnit := .block 0x16

def fullLanes (p : Nat) : Nat := if p = 0 then 16 else 4

/-- Lanes of the widest width that a bitmap of usable lanes allows among the lanes tested (R301): width and lane mask, 0 for none. -/
def chooseWidth (p usable : Nat) : Nat × Nat :=
  let has := fun (l : List Nat) => l.all (fun i => usable.testBit i)
  let from_ := fun (a n : Nat) => (List.range n).map (· + a)
  if p = 0 then
    (if has (from_ 0 16) then (16, 0xFFFF) else if has (from_ 0 8) then (8, 0x00FF) else if has (from_ 8 8) then (8, 0xFF00) else (0, 0))
  else if has (from_ 0 4) then (4, 0xF) else if has [0, 1] then (2, 3) else if has [2, 3] then (2, 0xC)
  else match (List.range 4).find? (fun i => usable.testBit i) with
    | some i => (1, 2 ^ i)
    | none => (0, 0)

def setPort (p st : Nat) (s : State) : State := updPort p (fun q => { q with state := st, at_ := s.now }) s

/-- DETECT begins: every lane is tested (R303). -/
def enterDetect (p : Nat) (s : State) : State :=
  updPort p (fun q => { q with state := 1, at_ := s.now, trainAt := s.now, recovering := false, testAll := true, width := 0, lanes := 0, peerRole := 7 }) s

/-- RECOVERY begins (R302–R304); `all` for a FULL_RETRAIN. -/
def enterRecovery (p : Nat) (all : Bool) (s : State) : State :=
  if portActive s p then
    updPort p (fun q => { q with state := 6, at_ := s.now, trainAt := s.now, recovering := true, testAll := all, wasWidth := q.width
                                 recoveries := satInc 65535 q.recoveries, badTimes := [] }) s
  else s

def trainUs (s : State) (p : Nat) : Nat := (s.now - (gclPort s p).trainAt) / us

/-- Apply a held change (R316). -/
def applyChange (c : HeldChange) (s : State) : State :=
  match c with
  | .ledgerWrite b => appendBlock b s
  | .refetch l => refetchDone l s
  | .withdraw _ => s

/-- The directory returns to I and every held change is made (R316, R318). -/
def directoryToI (s : State) : State :=
  let held := s.gcl.snoops.flatMap (·.held)
  forEach held applyChange { s with gcl.dirS := [], gcl.snoops := [] }

/-- What losing a port brings (R324): its requests complete with LINK_DOWN, its buffers are discarded, and the directory, the telemetry and custody follow. -/
def portLost (p st : Nat) (s : State) : State :=
  let leaves := ((gclPort s p).reqs.map (·.owner) ++ (gclPort s p).waiting.map (·.1)).filterMap (fun o => match o with | .leaf c l _ => some (c, l) | _ => none)
  let s := updPort p (fun q => { q with state := st, at_ := s.now, width := 0, lanes := 0, peerRole := 7
                                        queue := [], buf := [], xfers := [], rxXfers := [], reqs := [], waiting := [], recovering := false }) s
  let s := if p = 0 then directoryToI s else s
  let s := if 1 ≤ p ∧ p ≤ 8 then updShp (p - 1) (fun x => { x with freshAt := none }) s else s
  let s := forEach leaves (fun e s => if (tfind (cursor s e.1).infl e.2).isSome then leafFail e.1 e.2 s else s) s
  cusPortDown p s

/-- PORT_DOWN (R300, R323, R324). -/
def portDown (p : Nat) (s : State) : State :=
  let s := updPort p (fun q => { q with lastTrainUs := trainUs s p, downs := satInc 65535 q.downs }) s
  portLost p 8 (raise uGCL 11 .contained { unit := p } s)

/-- ACTIVE is reached (R300, R304): a recovery replays from the peer's last acknowledged flit, a first training starts the link afresh. -/
def portUp (p : Nat) (r : ConfigRec) (s : State) : State :=
  let q := gclPort s p
  let t := trainUs s p
  let s := updPort p (fun q => { q with state := 5, at_ := s.now, lastTrainUs := t, peerRole := r.role, peerCas := r.cascade, peerUnit := r.unit }) s
  if q.recovering then
    let s := updPort p (fun q => { q with replayed := min 4294967295 (q.replayed + q.buf.length), buf := q.buf.map (fun x => { x with replays := 0 })
                                          recovering := false, discarding := false }) s
    let s := if q.width < q.wasWidth then raise uGCL 5 .contained { unit := p, item := 0, w1 := w32 q.width } s else raise uGCL 4 .corrected { unit := p } s
    pumpPort p s
  else
    let s := updPort p (fun q => { q with txSeq := 0, rxNext := 0, discarding := false, nakDue := false, buf := [], xfers := [], rxXfers := []
                                          crSlot := r.credits.map (·.1), crData := r.credits.map (·.2)
                                          inSlot := (List.range 7).map Config.gclCredit, inData := (List.range 7).map (fun i => Config.gclCredit (8 + i)) }) s
    casPortUp p (pumpPort p s)

/-! ### Port commands (R300, R302, R303, R325) -/

def pCtrlOff (p : Nat) : Nat := 0x161004 + 0x100 * p

/-- Act on a GCL_P_CTRL pair. -/
def gclCommand (p : Nat) (w : Word) (s : State) : State :=
  let tag := fld w 31 24
  let off := pCtrlOff p
  if tag = lastTag s off then s
  else
    let s := setTag off tag s
    match fld w 3 0 with
    | 1 => enterRecovery p false s
    | 2 => enterRecovery p true s
    | 3 => if (gclPort s p).state = 0 then s else if (gclPort s p).state = 8 then setPort p 0 s else portLost p 0 s
    | 4 => if (gclPort s p).state = 0 then enterDetect p s else s
    | _ => s

/-- GCL_P_CTRL accepts writes from HST and SEC only (R325; source 12, log 55). -/
def gclPath (path : Path) : Bool := path == .proc .hst || path == .proc .sec
def gclDenied (path : Path) (off : Nat) (w : Word) (s : State) : State := raise uGCL 12 .contained { path := pathCode path, w1 := w32 off, w2 := w } s
def gclCmdWrite (path : Path) (p : Nat) (w : Word) (s : State) : State :=
  if gclPath path then gclCommand p w (setPair (pCtrlOff p) w s) else gclDenied path (pCtrlOff p) w s
def gclWord (op tag : Nat) : Word := w32 (tag * 16777216 + op)

/-- PORT_RETRAIN. -/
def doPortRetrain (path : Path) (port : Fin 11) (tag : Byte) (s : State) : State := (gclCmdWrite path port.val (gclWord 1 tag.toNat) s)
/-- PORT_FULL_RETRAIN. -/
def doPortFullRetrain (path : Path) (port : Fin 11) (tag : Byte) (s : State) : State := (gclCmdWrite path port.val (gclWord 2 tag.toNat) s)
/-- PORT_DISABLE. -/
def doPortDisable (path : Path) (port : Fin 11) (tag : Byte) (s : State) : State := (gclCmdWrite path port.val (gclWord 3 tag.toNat) s)
/-- PORT_ENABLE. -/
def doPortEnable (path : Path) (port : Fin 11) (tag : Byte) (s : State) : State := (gclCmdWrite path port.val (gclWord 4 tag.toNat) s)

/-! ### Training events (R300–R306) -/

/-- PEER_DETECT. -/
def doPeerDetect (port : Fin 11) (s : State) : State :=
  if (gclPort s port.val).state = 1 then (setPort port.val 2 s) else s

/-- The lanes a training tests: all, or those of the present width (R303). -/
def testedLanes (s : State) (p : Nat) : Nat := if (gclPort s p).testAll then 2 ^ fullLanes p - 1 else (gclPort s p).lanes

/-- Both ends' bitmaps are ANDed and the widest width chosen; no usable width is DOWN (R301). -/
def lanesChosen (p own peer : Nat) (s : State) : State :=
  let tested := testedLanes s p
  let u := own &&& peer &&& tested
  let c := chooseWidth p u
  let s := updPort p (fun q => { q with usable := u, failed := (q.failed &&& (65535 - tested)) ||| (tested - (own &&& tested)), width := c.1, lanes := c.2 }) s
  if c.1 = 0 then portDown p s else setPort p 3 s

/-- EQUALISE_DONE: each lane's error ratio is measured over 1 ms. -/
def doEqualiseDone (port : Fin 11) (own peer : BitVec 16) (s : State) : State :=
  let p := port.val
  if (gclPort s p).state = 2 ∧ (gclPort s p).at_ + ms ≤ s.now then (lanesChosen p own.toNat peer.toNat s) else s

/-- RECOVERY_LANES_CHOSEN (R303). -/
def doRecoveryLanesChosen (port : Fin 11) (own peer : BitVec 16) (s : State) : State :=
  let p := port.val
  if (gclPort s p).state = 6 then (lanesChosen p own.toNat peer.toNat s) else s

/-- FEC_LOCK_HELD. -/
def doFecLockHeld (port : Fin 11) (s : State) : State :=
  let p := port.val
  if (gclPort s p).state = 3 ∧ (gclPort s p).at_ + 100 * us ≤ s.now then (setPort p 4 s) else s

/-- ROLE the port must see (R306). -/
def wantRole (p : Nat) : Nat := if p = 0 then 0 else if p ≤ 8 then 1 else 2

/-- CONFIG_RECORD (R306): major version 1, the port's ROLE, and both ends agreed on the width. -/
def doConfigRecord (port : Fin 11) (r : ConfigRec) (s : State) : State :=
  let p := port.val
  if (gclPort s p).state ≠ 4 then s
  else if r.version / 256 = 1 ∧ r.role = wantRole p ∧ r.width = (gclPort s p).width then (portUp p r s)
  else (updPort p (fun q => { q with peerRole := r.role, peerUnit := r.unit }) (portDown p s))

/-- TRAIN_TIMEOUT (R301). -/
def doTrainTimeout (port : Fin 11) (s : State) : State :=
  let p := port.val
  let q := gclPort s p
  if (q.state = 1 ∨ q.state = 2 ∨ q.state = 3 ∨ q.state = 4 ∨ q.state = 6) ∧ q.trainAt + 50 * ms ≤ s.now then (portDown p s) else s

/-- DOWN_RETRY (R300, R324). -/
def doDownRetry (port : Fin 11) (s : State) : State :=
  let p := port.val
  if (gclPort s p).state = 8 ∧ (gclPort s p).at_ + sec ≤ s.now then (enterDetect p s) else s

/-- CODEWORD_LOCK_LOSS (R302). -/
def doCodewordLockLoss (port : Fin 11) (s : State) : State := (enterRecovery port.val false s)

/-- LOW_POWER_ENTER (R305): with nothing waiting at this end. -/
def doLowPowerEnter (port : Fin 11) (s : State) : State :=
  let p := port.val
  if portActive s p ∧ (gclPort s p).queue = [] then (setPort p 7 s) else s

/-- Back to ACTIVE: the port keeps its width and replays (R304, R305). -/
def lowPowerExit (p : Nat) (s : State) : State :=
  if (gclPort s p).state = 7 then pumpPort p (setPort p 5 s) else s

/-- LOW_POWER_EXIT. -/
def doLowPowerExit (port : Fin 11) (s : State) : State := (lowPowerExit port.val s)

/-! ### Flits (R307–R309, R323) -/

/-- Opcodes of a class that the device knows (R313, R317, R319, R494, R495). -/
def knownOpcode (cls op : Nat) : Bool :=
  match cls with
  | 0 => decide (1 ≤ op ∧ op ≤ 5)
  | 1 => decide (1 ≤ op ∧ op ≤ 2)
  | 2 => decide (1 ≤ op ∧ op ≤ 3)
  | 4 => [0x31, 0x38, 0x39, 0x3A, 0x3C, 0x50, 0x51, 0x52, 0x58, 0x5A].contains op
  | 5 => [0x30, 0x32, 0x59].contains op
  | 6 => decide (0x40 ≤ op ∧ op ≤ 0x48)
  | _ => false

/-- Flits not yet covered by an ACK_SEQ. -/
def afterAck (ack : Nat) : List TxFlit → List TxFlit
  | [] => []
  | f :: r => if f.fseq = ack then r else match afterAck' ack r with | some l => l | none => f :: r
where
  afterAck' (ack : Nat) : List TxFlit → Option (List TxFlit)
    | [] => none
    | f :: r => if f.fseq = ack then some r else afterAck' ack r

/-- A protocol error (R309): the offending message is discarded and the port retrains. -/
def protocolError (p : Nat) (s : State) : State :=
  enterRecovery p false (raise uGCL 6 .contained { unit := p } (updPort p (fun q => { q with proto := satInc 65535 q.proto }) s))

/-- Take one slot message of an accepted flit: framing and credits, then its opcode. -/
def takeRxMsg (p : Nat) (m : RxMsg) (s : State) : State :=
  let q := gclPort s p
  if 15 < m.start + m.slots ∨ 6 < m.cls ∨ q.inSlot.getD m.cls 0 < m.slots then protocolError p s
  else
    let s := updPort p (fun q => { q with inSlot := setNth q.inSlot m.cls (q.inSlot.getD m.cls 0 - m.slots)
                                          rxXfers := if 0 < m.length then q.rxXfers ++ [{ cls := if m.cls = 2 then 3 else m.cls, tag := m.tag, left := m.length }] else q.rxXfers }) s
    if knownOpcode m.cls m.opcode then s
    else
      let s := raise uGCL 7 .contained { unit := p, w1 := w32 (m.cls * 256 + m.opcode) } (updPort p (fun q => { q with proto := satInc 65535 q.proto }) s)
      if m.cls = 0 then gclSend p (.cmp m.tag 3) s else s

/-- Errors of the outer code in a flit (R323): those received, and those an armed injection shows its checker (R466). -/
def fecErrors (p : Nat) (f : Flit) (s : State) : Nat × Nat × Bool × State :=
  if injectArmed uGCL 0 p s ∨ injectArmed uGCL 1 p s then
    (if injectDouble uGCL s then (f.corr, f.uncorr + 1, true, injectUse uGCL s) else (f.corr + 1, f.uncorr, true, injectUse uGCL s))
  else (f.corr, f.uncorr, false, s)

/-- A flit that is not taken: it and the later ones are discarded until the replay, which the next header asks for (R308). -/
def discardFlit (p : Nat) (s : State) : State := updPort p (fun q => { q with discarding := true, nakDue := true }) s

/-- FLIT_RECEIVE (R307–R309, R323). -/
def doFlitReceive (port : Fin 11) (f : Flit) (s : State) : State :=
  let p := port.val
  if ¬ portActive s p then s
  else
    let e := fecErrors p f s
    let s := e.2.2.2
    let s := if 0 < e.1 then raise uGCL 0 .corrected { unit := p, inj := e.2.2.1 } (updPort p (fun q => { q with fecCorr := min 4294967295 (q.fecCorr + e.1) }) s) else s
    let s := if 0 < e.2.1 then
        raise uGCL 1 .corrected { unit := p, inj := e.2.2.1 } (updPort p (fun q => { q with
          fecUncorr := min 4294967295 (q.fecUncorr + e.2.1)
          badTimes := (q.badTimes.filter (fun t => decide (s.now < t + ms))) ++ List.replicate (min e.2.1 17) s.now }) s) else s
    let c := injectCheck uGCL 2 p f.crcOk s
    if 16 < (gclPort s p).badTimes.length then (enterRecovery p false s)
    else if 0 < e.2.1 then discardFlit p s
    else if ¬ c.1 then
      (raise uGCL 2 .corrected { unit := p, inj := f.crcOk } (discardFlit p (updPort p (fun q => { q with crcErr := satInc 4294967295 q.crcErr }) c.2)))
    else
      let s := c.2
      if f.typ ≤ 1 ∧ f.fseq ≠ (gclPort s p).rxNext then pumpPort p (discardFlit p s)
      else
      let q := gclPort s p
      let buf := if f.ackValid then afterAck f.ackSeq q.buf else q.buf
      let buf' := if f.nak then buf.map (fun x => { x with replays := x.replays + 1 }) else buf
      let s := updPort p (fun q => { q with
        buf := buf', replayed := if f.nak then min 4294967295 (q.replayed + buf.length) else q.replayed
        crSlot := if f.crClass ≤ 6 then setNth q.crSlot f.crClass (q.crSlot.getD f.crClass 0 + f.crCount) else q.crSlot
        crData := if 8 ≤ f.crClass ∧ f.crClass ≤ 14 then setNth q.crData (f.crClass - 8) (q.crData.getD (f.crClass - 8) 0 + f.crCount) else q.crData }) s
      if f.nak ∧ buf'.any (fun x => decide (4 ≤ x.replays)) then (enterRecovery p false (raise uGCL 3 .corrected { unit := p } s))
      else if f.typ ≠ 0 ∧ f.typ ≠ 1 then (pumpPort p s)
      else
        let s := updPort p (fun q => { q with discarding := false, rxNext := (q.rxNext + 1) % 4096 }) s
        let s :=
          if f.typ = 0 then forEach f.msgs (takeRxMsg p) s
          else
            let q := gclPort s p
            match q.rxXfers.find? (fun x => x.cls == f.dataCls && x.tag == f.dataTag) with
            | some x =>
              if q.inData.getD f.dataCls 0 = 0 ∨ x.left < f.valid then protocolError p s
              else updPort p (fun q => { q with
                inData := setNth q.inData f.dataCls (q.inData.getD f.dataCls 0 - 1)
                rxXfers := q.rxXfers.filterMap (fun y => if y = x then (if y.left = f.valid then none else some { y with left := y.left - f.valid }) else some y) }) s
            | none => protocolError p s
        (pumpPort p s)

/-- Credits go back to the peer in the headers the device sends at least every 256 ns (R308, R309): full again at each 1 µs tick (log 56). Ports exit LOW_POWER for
a queued message (R305). -/
def gclTick (s : State) : State :=
  forEach (List.range 11) (fun p s =>
    let q := gclPort s p
    if q.state = 5 then updPort p (fun q => { q with inSlot := (List.range 7).map Config.gclCredit, inData := (List.range 7).map (fun i => Config.gclCredit (8 + i)) }) s
    else if q.state = 7 ∧ q.queue ≠ [] then lowPowerExit p s
    else s) s

/-- The master's TIME_SYNC every 10 ms (R321): the device on DN ports, the lead on CS ports. -/
def sendTimeSync (s : State) : State :=
  forEach ((List.range 8).map (· + 1) ++ (if isLead s then [9, 10] else [])) (fun p s =>
    if portActive s p then
      let t := (s.now : Int) + (regWord s (0x161028 + 0x100 * p)).toInt
      gclSend p (.timeSync t) (updPort p (fun q => { q with t1 := t }) s)
    else s) s

/-! ### Requests into the device (R313–R316, R283) -/

/-- How a read of a device address is answered (R315): status, and the leaf digest or a free line for the data. -/
inductive ReadKind where
  | refused (status : Nat)
  | remnant (leaf : Nat)
  | line
  deriving DecidableEq, Repr

/-- The remnant leaf at a device address and whether it is cleared and not withdrawn. -/
def remnantAt (s : State) (a : Nat) : Option Nat := match remLeafAt s (a / 1048576) with
  | some l => if s.cus.remCleared.contains l then some l else none
  | none => none

/-- R315 for a read on port `p` of address `addr`; `cached` for RD_S. -/
def readKind (s : State) (p addr : Nat) (cached : Bool) : ReadKind :=
  let a := addr - 140737488355328
  if addr < 16777216 then .refused 3
  else if addr < 140737488355328 ∨ regionOf s a = 6 then .refused (if p = 0 then 2 else 3)
  else if p = 0 then
    match regionOf s a with
    | 0 => match remnantAt s a with | some l => .remnant l | none => .refused 4
    | 2 => .line
    | 4 => .line
    | _ => .refused 3
  else if p ≤ 8 ∧ regionOf s a = 0 then
    match remnantAt s a with
    | some l => if remSlotOf s l = some (p - 1) then (if cached then .refused 3 else .remnant l) else .refused 4
    | none => .refused 4
  else .refused 3

/-- The word at a byte of some bytes, a free value where they end (log 49). -/
def wordIn (l : List Byte) (o k : Nat) : Word := if o + 4 ≤ l.length then w32 (leNat ((l.drop o).take 4)) else w32 (Config.freeValue k)

/-- The words of `n` 64-byte lines of bytes from line `first` on; free values beyond their end. -/
def leafWords (l : List Byte) (first n k : Nat) : List Word := (List.range (16 * n)).map (fun i => wordIn l (64 * first + 4 * i) (k + i))
def freeWords (n : Nat) (s : State) : List Word × State :=
  ((List.range n).map (fun i => w32 (Config.freeValue (s.fresh + i))), { s with fresh := s.fresh + n })

/-- The word of a recorder page at an address of its region: the samples of the window's pages; free values for headers, for the live ring and for pages never written (R334, log 62). -/
def rcdWord (s : State) (o k : Nat) : Word :=
  match tfind s.mem.rcd.page (o / 4096) with
  | some p => if o % 4096 < 32 ∨ rcdPages s ≤ o / 4096 then w32 (Config.freeValue k) else (p.words[(o % 4096 - 32) / 4]?).getD (w32 (Config.freeValue k))
  | none => w32 (Config.freeValue k)

/-- A refused access (R315, R323 row 8, R283): the completion, the counts and the fault sources. -/
def refuseAccess (p tag status addr : Nat) (s : State) : State :=
  let s := updPort p (fun q => { q with denied := satInc 65535 q.denied }) s
  let s := raise uGCL 8 .contained { unit := p, w1 := lo32 addr, w2 := hi32 addr } s
  let s := if status = 4 then raise uCUS 8 .contained { unit := p, w1 := lo32 addr, w2 := hi32 addr } s else s
  gclSend p (if status = 4 then .cmpData tag 4 true [] else .cmp tag status) s

/-! ### LPDDR5X reads that fail their codes (R332) -/

/-- The interface of a device address: bits 14:12 (R327). -/
def miOf (a : Nat) : Nat := a / 4096 % 8

/-- A read of device address `a` is uncorrectable after its retry (R332): it is counted, raised with the address, and each region acts as its row says; `treeOk` is whether the
rebuilt subtree matches its cached parent. The BLOCK_SEQ of a ledger block at an address is not stated: a free value (log 64). -/
def dramUe (a : Nat) (treeOk inj : Bool) (s : State) : State :=
  let mi := miOf a
  let r := regionOf s a
  let s := { s with mem.unc := tput s.mem.unc mi (satInc 65535 (tget 0 s.mem.unc mi)) }
  let q : Nat × State := if r = 4 then (Config.freeValue s.fresh % 4294967296, { s with fresh := s.fresh + 1 }) else (0, s)
  let s := raise uMEM 1 .contained { unit := mi, w1 := some (lo32 a), w2 := hi32 a, w3 := w32 q.1, inj := inj } q.2
  match r with
  | 0 => (match remLeafAt s (a / 1048576) with | some l => withdrawLeaf l s | none => s)
  | 1 => if treeOk ∨ ¬(s.cus.state = 4 ∨ s.cus.state = 5) then s else failLoad 0x09 0xF 0 s
  | 2 => { s with mem.rcd.badPages := sadd s.mem.rcd.badPages ((a - regionBaseMib s 2 * 1048576) / 4096) }
  | 3 =>
    let o := a - regionBaseMib s 3 * 1048576
    forEach s.cnp.descs (fun d s => if d.weightBase ≤ o ∧ o < d.weightBase + d.weightBytes then updModel d.model (fun x => { x with weightsBad := true }) s else s) s
  | 4 => { s with dram.poisoned := sadd s.dram.poisoned q.1 }
  | _ => s

/-- An injection armed at the codes of interface `mi` (R466): sources 0 and 1. -/
def dramArmed (mi : Nat) (s : State) : Bool := injectArmed uMEM 0 mi s || injectArmed uMEM 1 mi s

/-- The codes of a read under an armed injection (R466): one inverted bit is corrected, counted and recorded; two make the read and, while the injection lasts, its one
retry uncorrectable. Answers whether the data is poisoned. -/
def dramCheck (a : Nat) (s : State) : Bool × State :=
  let mi := miOf a
  if ¬ dramArmed mi s then (false, s)
  else if ¬ injectDouble uMEM s then
    (false, raise uMEM 0 .corrected { unit := mi, w1 := some (lo32 a), w2 := hi32 a, inj := true }
      (injectUse uMEM { s with mem.corr := tput s.mem.corr mi (satInc 65535 (tget 0 s.mem.corr mi)) }))
  else
    let s := injectUse uMEM s
    if dramArmed mi s then (true, dramUe a true true (injectUse uMEM s)) else (false, s)

/-- Answer a read of `len` bytes. -/
def answerRead (p tag addr len : Nat) (cached : Bool) (s : State) : State :=
  match readKind s p addr cached with
  | .refused st => refuseAccess p tag st addr s
  | k =>
    let a := addr - 140737488355328
    let c := dramCheck a s
    let s := c.2
    if c.1 then gclSend p (.cmpData tag 4 true []) s
    else match k with
    | .remnant l =>
      let s := if cached then { s with gcl.dirS := sadd s.gcl.dirS (a / 4096) } else s
      gclSend p (.cmpData tag 0 false (leafWords (tget [] s.cus.remData l) (addr % 1048576 / 64) (len / 64) s.fresh)) { s with fresh := s.fresh + len / 4 }
    | _ =>
      let led := regionOf s a == 4
      let s := if cached ∧ led then { s with gcl.dirS := sadd s.gcl.dirS (a / 4096) } else s
      let o := a - regionBaseMib s 2 * 1048576
      let ws := if led then (freeWords (len / 4) s).1 else (List.range (len / 4)).map (fun i => rcdWord s (o + 4 * i) (s.fresh + i))
      gclSend p (.cmpData tag (if cached ∧ ¬ led then 1 else 0) false ws) { s with fresh := s.fresh + len / 4 }

/-- RD_S (R313, R315, R316): one 64-byte line. -/
def doRdS (port : Fin 11) (tag : BitVec 13) (addr : BitVec 48) (s : State) : State :=
  if portActive s port.val then (answerRead port.val tag.toNat (addr.toNat / 64 * 64) 64 true s) else s

/-- A length RD_UC allows: a power of two from 64 B to 4 KiB, aligned to itself (R313). -/
def ucLenOk (addr len : Nat) : Bool := [64, 128, 256, 512, 1024, 2048, 4096].contains len && addr % (max len 1) == 0

/-- RD_UC (R313, R315). -/
def doRdUc (port : Fin 11) (tag : BitVec 13) (addr : BitVec 48) (len : BitVec 13) (s : State) : State :=
  if ¬ portActive s port.val then s
  else if ucLenOk addr.toNat len.toNat then (answerRead port.val tag.toNat addr.toNat len.toNat false s)
  else (refuseAccess port.val tag.toNat 3 addr.toNat s)

/-- WR (R315, R283): always refused, the data discarded; on the remnant tier CUS records it. -/
def doWr (port : Fin 11) (tag : BitVec 13) (addr : BitVec 48) (s : State) : State :=
  let p := port.val; let a := addr.toNat
  if ¬ portActive s p then s
  else
    let s := if 140737488355328 ≤ a ∧ regionOf s (a - 140737488355328) = 0 then raise uCUS 8 .contained { unit := p, item := 1, w1 := lo32 a, w2 := hi32 a } s else s
    (refuseAccess p tag.toNat 3 a s)

/-! ### Completions of device requests (R304, R276) -/

/-- COMPLETION_RECEIVED: bytes of a leaf arrive, or its attempt fails on poison or an error status. -/
def doCompletionReceived (port : Fin 11) (tag : BitVec 13) (status : Byte) (poison : Bool) (s : State) : State :=
  let p := port.val
  match (gclPort s p).reqs.find? (fun r => r.tag == tag.toNat) with
  | none => s
  | some r =>
    if ¬ portActive s p then s
    else
      let s := dropReq p tag.toNat s
      match r.owner with
      | .leaf c l i => if (status = 0 ∨ status = 1) ∧ ¬ poison then (leafArrived c l i s) else (leafFail c l s)
      | _ => s

/-- COMPLETION_TIMEOUT (R304): 100 ms. -/
def doCompletionTimeout (port : Fin 11) (tag : BitVec 13) (s : State) : State :=
  let p := port.val
  match (gclPort s p).reqs.find? (fun r => r.tag == tag.toNat) with
  | none => s
  | some r =>
    if s.now < r.sent + 100 * ms then s
    else
      let s := raise uGCL 9 .contained { unit := p, w1 := w32 tag.toNat } (dropReq p tag.toNat s)
      match r.owner with
      | .leaf c l _ => (leafFail c l s)
      | _ => s

/-! ### Snoops (R317) -/

/-- SNP_INV from the companion: answered at once, because the device holds no companion lines. -/
def doSnpInv (page : BitVec 36) (s : State) : State :=
  if portActive s 0 then (gclSend 0 (.snpRsp page.toNat) s) else s

/-- SNP_RSP_I: the page goes to I and the held changes proceed. -/
def doSnpRspI (page : BitVec 36) (s : State) : State :=
  match s.gcl.snoops.find? (fun n => n.page == page.toNat) with
  | none => s
  | some n =>
    if ¬ portActive s 0 then s
    else (forEach n.held applyChange { s with gcl.snoops := s.gcl.snoops.filter (fun x => x.page != page.toNat), gcl.dirS := sdel s.gcl.dirS page.toNat })

/-- SNOOP_RESEND: every 10 ms; after five unanswered sends SNOOP_TIMEOUT is recorded once and the device goes on waiting. -/
def doSnoopResend (page : BitVec 36) (s : State) : State :=
  match s.gcl.snoops.find? (fun n => n.page == page.toNat) with
  | none => s
  | some n =>
    if s.now < n.sent + 10 * ms then s
    else
      let say := decide (5 ≤ n.sends) && !n.said
      let n' := { n with sent := s.now, sends := n.sends + 1, said := n.said || say }
      let s := { s with gcl.snoops := s.gcl.snoops.map (fun x => if x.page = n.page then n' else x), gcl.timeouts := satInc 65535 s.gcl.timeouts, gcl.sent := satInc 65535 s.gcl.sent }
      let s := gclSend 0 (.snpInv n.page) s
      (if say then raise uGCL 10 .contained { w1 := w32 n.page } s else s)

/-! ### Time exchange (R321, R322) -/

/-- A stamp at the SerDes boundary, corrected by GCL_P_TS_ADJ. -/
def stamp (s : State) (p : Nat) : Int := (s.now : Int) + (regWord s (0x161028 + 0x100 * p)).toInt

/-- The device follows the peer's time on this port: UP, and CS ports of a follower. -/
def followsTime (s : State) (p : Nat) : Bool := p == 0 || (decide (9 ≤ p) && !isLead s)

/-- TIME_SYNC. -/
def doTimeSync (port : Fin 11) (t1 : BitVec 64) (s : State) : State :=
  let p := port.val
  if portActive s p ∧ followsTime s p then
    (gclSend p .timeReq (updPort p (fun q => { q with t1 := t1.toNat, t2 := stamp s p, t3 := stamp s p }) s))
  else s

/-- TIME_REQ: the master answers with t4; a slot's message is acknowledged (R319), with a SEQ that no layout gives it (log 139). -/
def doTimeReq (port : Fin 11) (s : State) : State :=
  let p := port.val
  if portActive s p ∧ ¬ followsTime s p then
    (gclSend p (.timeRsp (stamp s p)) (if 1 ≤ p ∧ p ≤ 8 then gclSend p (.msgAck (Config.freeValue s.fresh % 65536)) { s with fresh := s.fresh + 1 } else s))
  else s

/-- MSG_ACK handling of the state after reset: every port that is enabled starts in DETECT once released (R300). -/
def gclRelease (s : State) : State := forEach (List.range 11) enterDetect s

end Sys2Proof.Machine
end

