-- ==== Sys2Proof/Machine/Mem.lean ====
section
/-! DEFINITION. LPDDR5X errors and the flight recorder's commands (11_memory_subsystem.md, R330–R340). -/

namespace Sys2Proof.Machine

/-- A subtree rebuilt from the digests `leaves` of the positions from `first` on has the parent that the retained tree holds (R332, R267). -/
def subtreeOk (s : State) (first : Nat) (leaves : List Digest) : Bool :=
  match s.cus.tree with
  | some t => merkleRoot leaves == merkleRoot ((t.leaves ++ List.replicate (first + leaves.length - t.leaves.length) 0).drop first |>.take leaves.length)
  | none => true

/-- DRAM_READ_UE (R332): a read that its retry did not mend. `leaves` is what the companion's leaf list holds for the subtree of a Merkle tree line, from position `first` on. -/
def doDramReadUe (addr : BitVec 37) (first : BitVec 24) (leaves : List Digest) (s : State) : State := dramUe addr.toNat (subtreeOk s first.toNat leaves) false s

/-- Act on a new TAG in MEM_RCD_CTRL (R335). -/
def rcdCommand (w : Word) (s : State) : State :=
  let tag := fld w 31 24
  if tag = lastTag s 0x150310 then s
  else
    let s := setTag 0x150310 tag s
    match fld w 1 0 with
    | 1 => rcdTrigger 7 s
    | 2 => if s.mem.rcd.state = 3 then { s with mem.rcd.state := 1, mem.rcd.since := s.now } else s
    | _ => s

/-- MEM_RCD_CTRL accepts writes from REC and SEC only (R339). -/
def rcdCmdWrite (path : Path) (w : Word) (s : State) : State := withAuthority path 0x150310 w (fun s => rcdCommand w (setPair 0x150310 w s)) s

def doRcdTrigger (path : Path) (tag : Byte) (s : State) : State := rcdCmdWrite path (w32 (tag.toNat * 16777216 + 1)) s
def doRcdRearm (path : Path) (tag : Byte) (s : State) : State := rcdCmdWrite path (w32 (tag.toNat * 16777216 + 2)) s

/-- RCD_POST_EXPIRE (R335): POST_S has passed. -/
def doRcdPostExpire (s : State) : State :=
  if s.mem.rcd.state = 2 ∧ s.mem.rcd.since + fld (liveWord s 0x150300) 5 0 * sec ≤ s.now then { s with mem.rcd.state := 3, mem.rcd.since := s.now } else s

/-- RCD_AUTO_REARM (R335): REARM_MIN minutes without a REARM. -/
def doRcdAutoRearm (s : State) : State :=
  if s.mem.rcd.state = 3 ∧ s.mem.rcd.since + fld (liveWord s 0x150300) 23 16 * minuteNs ≤ s.now then
    raise uMEM 5 .corrected {} { s with mem.rcd.state := 1, mem.rcd.since := s.now, mem.rcd.lost := satInc 255 s.mem.rcd.lost }
  else s

/-- RCD_STAGING_OVERFLOW (R336): the samples are dropped, a gap marker goes to the EVENT stream and the gap is counted. -/
def doRcdStagingOverflow (s : State) : State :=
  if rcdWrites s then raise uMEM 4 .corrected {} (rcdEvent .gap { s with mem.rcd.gaps := satInc 255 s.mem.rcd.gaps }) else s

/-- First failing value of MEM's staged set (MEM_RCD_CFG). -/
def memCheck (W : Nat → Word) : Option (Nat × Nat) :=
  if W 0x150304 ≠ ~~~ W 0x150300 then some (0, 1)
  else if fld (W 0x150300) 23 16 < 1 ∨ 60 < fld (W 0x150300) 5 0 then some (0, 2)
  else none

end Sys2Proof.Machine
end

