-- ==== Sys2Proof/Machine/RegKind.lean ====
section
/-! DEFINITION. What a write does at each control and status offset: the access code of the register there (R9, R10, R12 and the register map of every chapter). -/

namespace Sys2Proof.Machine

/-- How a word of the control and status space takes a write. `stg` and `cmd` are the value word (false) or complement word (true) of an RWS or RWP pair. -/
inductive Acc where
  | ro | rw | w1c | wo | rc
  | stg (comp : Bool)
  | cmd (comp : Bool)
  deriving DecidableEq, Repr

/-- A pair of one kind at `base`: the kind of word `off`, if it is one of the two. -/
def pairAt (mk : Bool → Acc) (base off : Nat) : Option Acc :=
  if off = base then some (mk false) else if off = base + 4 then some (mk true) else none

/-- `n` pairs of 8 bytes from `base`. -/
def pairsAt (mk : Bool → Acc) (base n off : Nat) : Option Acc :=
  if base ≤ off ∧ off < base + 8 * n then some (mk (decide ((off - base) % 8 = 4))) else none

/-- The first pair of a list that holds the word. -/
def onePair (mk : Bool → Acc) (l : List Nat) (off : Nat) : Option Acc := l.findSome? (fun b => pairAt mk b off)

/-- COMMIT registers that share the layout of SEQ_COMMIT; their status register lies 4 bytes above. -/
def blockCommitRegs : List Nat :=
  [0x010008, 0x080058, 0x090090, 0x0A0018, 0x0B0030, 0x0C0020, 0x140088, 0x150308, 0x170020, 0x190018, 0x1A0010, 0x1C0040]

def isCommitReg (off : Nat) : Bool :=
  blockCommitRegs.contains off
    || (decide (0x0E0000 ≤ off ∧ off < 0x0F0000) && off % 0x1000 == 0x110)
    || (decide (0x0F0000 ≤ off ∧ off < 0x0F8800) && off % 0x400 == 0x390)

/-- The COMMIT register whose staged set holds the word, by block, two-wire port or arbiter instance. -/
def commitOf (off : Nat) : Nat :=
  if 0x0E0000 ≤ off ∧ off < 0x0F0000 then off / 0x1000 * 0x1000 + 0x110
  else if 0x0F0000 ≤ off ∧ off < 0x100000 then 0x0F0000 + (off - 0x0F0000) / 0x400 * 0x400 + 0x390
  else (blockCommitRegs.find? (fun r => r / 0x10000 == off / 0x10000)).getD 0

/-- Access of a word within a fault window (ch. 17). -/
def accWindow (f : Nat) : Acc :=
  if f = 0x00 then .w1c
  else if f = 0x30 then .cmd false else if f = 0x34 then .cmd true
  else if f = 0x38 then .cmd false else if f = 0x3C then .cmd true
  else if f = 0x40 then .rw
  else if f = 0x48 then .rc
  else if 0x60 ≤ f ∧ f < 0x80 then .w1c
  else .ro

/-- Access of a word of the blocks below 0x0E: `b` base bits 23:16, `o` the offset within the block. -/
def accLow (b o : Nat) : Acc :=
  match b with
  | 0x00 => if o = 0x20 then .w1c else if o = 0x24 then .wo else (pairAt .cmd 0x110 o).getD .ro
  | 0x01 =>
    if o = 0x08 then .wo
    else if 0x100 ≤ o ∧ o < 0x280 then
      let f := o % 0x40
      if f = 0x0C ∨ f = 0x10 then .wo else ((pairAt .cmd 0x04 f).orElse (fun _ => pairAt .stg 0x14 f)).getD .ro
    else .ro
  | 0x02 => if 0x100 ≤ o ∧ o < 0x210 then .rw else if o = 0x88C ∨ o = 0x890 then .wo else if 0x800 ≤ o ∧ o < 0x900 ∧ o % 0x20 = 4 then .rc else .ro
  | 0x03 =>
    if o = 0x0C then .rc else if 0x28 ≤ o ∧ o < 0x34 then .rw else if 0x4000 ≤ o ∧ o < 0x7000 then .rw
    else (onePair .cmd [0x20, 0x200] o).getD .ro
  | 0x08 =>
    if o = 0x58 then .wo else if o = 0x208 then .w1c else if o = 0x28 then .rc
    else if 0x2000 ≤ o ∧ o < 0x6000 then (if o % 0x40 < 0x38 then .stg (o % 8 == 4) else .ro)
    else ((pairAt .cmd 0x10 o).orElse (fun _ => (pairsAt .stg 0x40 3 o).orElse (fun _ => pairsAt .stg 0x6000 1152 o))).getD .ro
  | 0x09 =>
    if o = 0x90 then .wo
    else if (0x120 ≤ o ∧ o < 0x130) ∨ o = 0x140 ∨ (0x4000 ≤ o ∧ o < 0xC700) then .rw
    else if 0x400 ≤ o ∧ o < 0x600 then (pairAt .stg 0x30 (o % 0x40)).getD .ro
    else ((pairAt .cmd 0x130 o).orElse (fun _ => (pairsAt .stg 0x40 2 o).orElse (fun _ => (pairsAt .stg 0x60 6 o).orElse (fun _ => pairAt .stg 0x98 o)))).getD .ro
  | 0x0A =>
    if o = 0x18 then .wo
    else ((pairAt .cmd 0x20 o).orElse (fun _ => (pairAt .stg 0x10 o).orElse (fun _ => (pairsAt .stg 0x2000 256 o).orElse (fun _ => pairsAt .stg 0x8000 1704 o)))).getD .ro
  | 0x0B =>
    if o = 0x30 then .wo else if o = 0x10 ∨ o = 0x14 then .w1c
    else ((pairAt .cmd 0x40 o).orElse (fun _ => (pairAt .stg 0x20 o).orElse (fun _ => pairsAt .stg 0x1000 128 o))).getD .ro
  | 0x0C => if o = 0x20 then .wo else ((pairAt .cmd 0x10 o).orElse (fun _ => pairsAt .stg 0x1000 128 o)).getD .ro
  | _ =>
    if 0x04 ≤ b ∧ b ≤ 0x07 then
      (if 0x400 ≤ o ∧ o < 0x8400 then
        let f := (o - 0x400) % 0x800
        if f = 0x04 then .wo else if f = 0x0C then .rc else if 0x400 ≤ f then .stg (f % 8 == 4) else .ro
      else if o = 0x20 then .w1c
      else if b = 0x04 then (if o = 0x10 ∨ o = 0x14 then .rw else if o = 0x18 then .wo else .ro)
      else .ro)
    else .ro

/-- Access of a word of the blocks from 0x0E up. -/
def accHigh (b o : Nat) : Acc :=
  match b with
  | 0x0E =>
    let p := o / 0x1000
    let f := o % 0x1000
    if 0x400 ≤ f ∧ f < 0xE00 then
      (let g := (f - 0x400) % 0x200
       if g = 0 ∨ g = 8 ∨ (0x10 ≤ g ∧ g < 0x90) then .rw else .ro)
    else if f = 0x110 then .wo else if f = 0x11C then .w1c else if f = 0x120 then .rc else if f = 0x150 then .rc
    else if 0x130 ≤ f ∧ f < 0x140 then (if p = 0 then .rw else .ro)
    else if f = 0x140 then .w1c
    else ((pairAt .stg 0x108 f).orElse (fun _ => pairAt .cmd 0x124 f)).getD .ro
  | 0x0F =>
    let f := o % 0x400
    if 34 * 0x400 ≤ o then .ro
    else if f = 0x390 then .wo else if f = 0x10 then .rc
    else if 0x300 ≤ f ∧ f < 0x380 then (if (f - 0x300) / 8 < arbCount (o / 0x400) then .stg (f % 8 == 4) else .ro)
    else if 0x100 ≤ f ∧ f < 0x300 then
      (if (f - 0x100) / 0x20 < arbCount (o / 0x400) then
        (let g := f % 0x20
         if g = 0 then .w1c else if g = 0x10 ∨ g = 0x14 then .rc else .ro)
       else .ro)
    else (pairsAt .stg 0x380 2 f).getD .ro
  | 0x10 => if o = 0x18 ∨ o = 0x1C ∨ (0x40 ≤ o ∧ o < 0x80) then .rw else if o = 0x24 then .rc else (pairAt .cmd 0x10 o).getD .ro
  | 0x14 =>
    if o = 0x88 then .wo else if 0x18 ≤ o ∧ o < 0x38 then .rw else if o = 0x5C then .rc
    else ((onePair .cmd [0x10, 0x90] o).orElse (fun _ => pairsAt .stg 0x70 3 o)).getD .ro
  | 0x15 => if o = 0x308 then .wo else if 0x200 ≤ o ∧ o < 0x220 then .rc else if o = 0x318 then .rc
    else ((pairAt .stg 0x300 o).orElse (fun _ => pairAt .cmd 0x310 o)).getD .ro
  | 0x16 =>
    if o = 0x14 then .rc
    else if 0x1000 ≤ o ∧ o < 0x1B00 then
      (let f := o % 0x100
       if f = 0x28 then .rw else if 0x18 ≤ f ∧ f < 0x28 then .rc else if f = 0x3C then .rc else (pairAt .cmd 0x04 f).getD .ro)
    else .ro
  | 0x17 =>
    if o = 0x20 then .wo else if o = 0x38 then .rc
    else if 0x100 ≤ o ∧ o < 0x180 then (if o % 0x10 < 0x0C then .rw else .ro)
    else (pairsAt .stg 0x10 2 o).getD .ro
  | 0x18 => if o = 0x00 then .rc else if o = 0x18 ∨ o = 0x1C then .rw else if 0x100 ≤ o ∧ o < 0x400 ∧ o % 0x10 = 0xC then .rc else (pairAt .cmd 0x10 o).getD .ro
  | 0x19 => if o = 0x18 then .wo else (pairAt .stg 0x10 o).getD .ro
  | 0x1A => if o = 0x10 then .wo
    else if 0x120 ≤ o ∧ o < 0x180 then (pairsAt .stg 0x10 2 (o % 0x20)).getD .ro
    else (pairAt .stg 0x08 o).getD .ro
  | 0x1B => if o < 0x28 then .rw else .ro
  | 0x1C => if o = 0x40 then .wo else if o = 0x18 ∨ o = 0x1C then .rw else ((pairAt .cmd 0x10 o).orElse (fun _ => pairsAt .stg 0x30 2 o)).getD .ro
  | _ => if 0x11 ≤ b ∧ b ≤ 0x13 then .ro else .ro

/-- Access of a word of the control and status space; reserved words and unoccupied bases take no write. -/
def accOf (off : Nat) : Acc :=
  if (windowOf off).isSome then accWindow (off % 0x100)
  else if off / 0x10000 < 0x0E then accLow (off / 0x10000) (off % 0x10000) else accHigh (off / 0x10000) (off % 0x10000)

/-- Value-word offset of the pair a word belongs to. -/
def pairBase (off : Nat) : Nat := match accOf off with | .stg true => off - 4 | .cmd true => off - 4 | _ => off

/-! ### Reserved bits (R9) -/

/-- The bits of a writable word that hold a field, in the blocks below 0x0E; the rest are RSV. -/
def fieldBitsLow (b o : Nat) : Word :=
  match b with
  | 0x00 => if o = 0x110 then 0xFF000103#32 else 0xFFFFFFFF#32
  | 0x01 => if 0x100 ≤ o ∧ o < 0x280 ∧ o % 0x40 = 0x04 then 0xFF000003#32 else 0xFFFFFFFF#32
  | 0x03 => if o = 0x20 then 0xFFF0FFFF#32 else if o = 0x200 then 0xFF000003#32 else 0xFFFFFFFF#32
  | 0x08 => if o = 0x10 then 0xFFFF800F#32 else 0xFFFFFFFF#32
  | 0x09 =>
    if o = 0x40 then 0xFFFFFF00#32 else if o = 0x98 then 0xFFFF#32 else if o = 0x130 then 0xFF000003#32
    else if o = 0x140 then 0x7FF#32 else 0xFFFFFFFF#32
  | 0x0A => if o = 0x10 then 0xFF#32 else if o = 0x20 then 0xFFFF8000#32 else 0xFFFFFFFF#32
  | 0x0B => if o = 0x20 then 0xFFFF#32 else if o = 0x40 then 0xFF00FFFF#32 else 0xFFFFFFFF#32
  | 0x0C => if o = 0x10 then 0xFF00FFFF#32 else 0xFFFFFFFF#32
  | _ => 0xFFFFFFFF#32

/-- The same for the blocks from 0x0E up. -/
def fieldBitsHigh (b o : Nat) : Word :=
  match b with
  | 0x0E =>
    let f := o % 0x1000
    if f = 0x108 then 0xFF1F#32 else if f = 0x124 then 0xFF000003#32
    else if 0x130 ≤ f ∧ f < 0x140 then 0x1FF#32
    else if 0x400 ≤ f ∧ f < 0xE00 ∧ (f - 0x400) % 0x200 = 0 then 0xFFFFFFFE#32
    else if 0x400 ≤ f ∧ f < 0xE00 ∧ (f - 0x400) % 0x200 = 8 then 0xF#32
    else 0xFFFFFFFF#32
  | 0x0F => if 0x300 ≤ o % 0x400 ∧ o % 0x400 < 0x380 then 0xFFFF#32 else 0xFFFFFFFF#32
  | 0x10 => if o = 0x10 then 0xFFF0001F#32 else 0xFFFFFFFF#32
  | 0x14 =>
    if o = 0x10 then 0xFFF100FF#32 else if o = 0x78 then 0xFFFFFF0F#32 else if o = 0x80 then 0xFF#32
    else if o = 0x90 then 0xFFF00000#32 else 0xFFFFFFFF#32
  | 0x15 => if o = 0x300 then 0xFFFF003F#32 else if o = 0x310 then 0xFF000003#32 else 0xFFFFFFFF#32
  | 0x16 => if 0x1000 ≤ o ∧ o < 0x1B00 ∧ o % 0x100 = 0x04 then 0xFF00000F#32 else 0xFFFFFFFF#32
  | 0x17 => if 0x100 ≤ o ∧ o < 0x180 ∧ o % 0x10 = 0x08 then 0xFD#32 else 0xFFFFFFFF#32
  | 0x18 => if o = 0x10 then 0xFFF000FF#32 else 0xFFFFFFFF#32
  | 0x1C => if o = 0x10 then 0xFF00000F#32 else if o = 0x30 then 0xFF#32 else 0xFFFFFFFF#32
  | _ => 0xFFFFFFFF#32

/-- The field bits of the word at an offset; for a complement word, those of its value word (R9, R10). -/
def fieldBits (off : Nat) : Word :=
  let v := pairBase off
  if (windowOf v).isSome then
    (if v % 0x100 = 0x30 then 0xFF000003#32 else if v % 0x100 = 0x38 then 0xFFFFFFC0#32 else if v % 0x100 = 0x40 then 0xFFFF#32 else 0xFFFFFFFF#32)
  else if v / 0x10000 < 0x0E then fieldBitsLow (v / 0x10000) (v % 0x10000) else fieldBitsHigh (v / 0x10000) (v % 0x10000)

/-- A word as the register keeps it: a write does nothing to an RSV bit, which stays 0 in a value word and at its complement in a complement word (R9, R10; log 107). -/
def keptBits (off : Nat) (comp : Bool) (w : Word) : Word :=
  if comp then w ||| ~~~ fieldBits off else w &&& fieldBits off

end Sys2Proof.Machine
end

