-- ==== Sys2Proof/Machine/RegReadA.lean ====
section
/-! DEFINITION. What a read of a register answers: fault windows and the blocks ID, FPC, MBX, SEC, GLD, SEQ and SHP (register maps of chapters 01–05, 14, 15, 17). -/

namespace Sys2Proof.Machine

/-- A word from its fields: the lowest bit of each and its value. -/
def packF (l : List (Nat × Nat)) : Word := w32 (sumList (l.map (fun e => e.2 * 2 ^ e.1)))

/-- Word `i` of a 64-bit value. -/
def half64 (v i : Nat) : Word := if i = 0 then lo32 v else hi32 v

/-- The words of a 64-bit signed value. -/
def halfInt (v : Int) (i : Nat) : Word := half64 (BitVec.ofInt 64 v).toNat i

/-- The layout of SEQ_COMMIT_STATUS, by the COMMIT register it belongs to. -/
def commitStatus (s : State) (reg : Nat) : Word :=
  let c := tget {} s.regs.commits reg
  packF [(31, b2n c.pending.isSome), (16, c.first), (8, c.result), (0, c.seq)]

/-- A pair word as R9 reads it: the value or complement last written, or the word in effect when the pair is unequal (R10). -/
def pairWord (s : State) (off : Nat) : Word :=
  match accOf off with
  | .stg true => regComp s (off - 4)
  | .cmd true => ~~~ regWord s (off - 4)
  | _ => regWord s off

/-! ### Fault windows (17_faults_and_nonvolatile_store.md) -/

def WinState.code : WinState → Nat
  | .empty => 0 | .latched => 1 | .handling => 2

/-- Pending word `j` of a window. -/
def pendingWord (w : FaultWin) (j : Nat) : Word := w32 (bitsMask ((w.pending.filter (fun b => b / 32 == j)).map (· % 32)))

def readWindow (s : State) (u : FUnit) (off : Nat) : Word :=
  let w := winOf s u
  let f := off % 0x100
  if f = 0x00 then
    packF [(24, w.merge), (16, w.first), (14, w.firstClass.code), (12, w.worst), (11, b2n w.overflow), (10, b2n w.restored), (9, b2n w.injected), (8, b2n w.storm), (0, w.state.code)]
  else if f = 0x04 then packF [(8, w.rLater), (0, w.rFirst)]
  else if f = 0x08 then half64 w.time 0
  else if f = 0x0C then half64 w.time 1
  else if 0x10 ≤ f ∧ f < 0x30 then w.capture.getD ((f - 0x10) / 4) 0
  else if 0x30 ≤ f ∧ f < 0x40 then pairWord s off
  else if f = 0x40 then (match tfind s.regs.words off with | some x => x &&& 0xFFFF#32 | none => 0xFFFF#32)
  else if f = 0x44 then packF [(8, w.injLeft), (0, w.injResult)]
  else if f = 0x48 then packF [(16, w.severe), (0, w.corrected)]
  else if 0x60 ≤ f ∧ f < 0x80 then pendingWord w ((f - 0x60) / 4)
  else 0

/-! ### ID (R36, R37, ch. 17) -/

/-- Windows that are not EMPTY or have a pending bit, by block. -/
def faultSummary (s : State) : Nat :=
  bitsMask ((s.fw.filter (fun e => e.2.state != .empty || e.2.pending != [])).map (fun e => e.1 / 16))

def readId (s : State) (o : Nat) : Word :=
  match o with
  | 0x00 => 0xD5C10C88#32
  | 0x04 => 0x4238584B#32
  | 0x08 => 0x00000B00#32
  | 0x10 => half64 Config.unitId 0
  | 0x14 => half64 Config.unitId 1
  | 0x18 => packF [(6, s.und.straps.casRole), (4, s.und.straps.bootSrc), (0, s.und.straps.therm)]
  | 0x20 => s.und.cause.bits ||| w32 (s.und.cause.count * 65536)
  | 0x100 => w32 (faultSummary s)
  | 0x110 => pairWord s 0x110
  | 0x114 => pairWord s 0x114
  | 0x118 => packF [(16, s.err.pulses), (2, b2n s.err.heldPin), (1, b2n s.err.pulseEnd.isSome), (0, b2n ((latchOf s .err).level == 0 && s.err.asserted))]
  | _ => 0

/-! ### FPC and MBX (ch. 14) -/

def ProcState.code : ProcState → Nat
  | .held => 0 | .starting => 1 | .ready => 2 | .restarting => 3 | .reloading => 4 | .halted => 5

/-- FPC_STATUS. -/
def fpcStatus (s : State) : Word := packF ((List.range 6).map (fun p => (4 * p, (procSt s (procOf p)).state.code)))

def readFpc (s : State) (o : Nat) : Word :=
  if o = 0x00 then fpcStatus s
  else if o = 0x0C then commitStatus s 0x010008
  else if 0x100 ≤ o ∧ o < 0x280 then
    let p := procSt s (procOf ((o - 0x100) / 0x40))
    match o % 0x40 with
    | 0x00 => packF [(24, min 255 (p.recent.filter (fun t => decide (s.now < t + 600 * sec))).length), (16, p.cause), (0, p.state.code)]
    | 0x04 => pairWord s (0x010000 + o)
    | 0x08 => pairWord s (0x010000 + o)
    | 0x14 => pairWord s (0x010000 + o)
    | 0x18 => pairWord s (0x010000 + o)
    | 0x1C => p.vector
    | 0x20 => p.image
    | 0x24 => w32 p.restartMs
    | 0x28 => w32 p.restarts
    | _ => 0
  else 0

/-- The wire words of a message (R390): header and payload, closed by the CRC-32C of both. -/
def wireWords (m : MbxOut) : List Word :=
  let body := [packF [(16, m.typ), (8, if m.major = 3 then 1 else 4), (0, m.major)], m.seq,
               packF [(24, 0xFF), (16, m.status), (0, 4 * m.words.length)], w32 m.flags] ++ m.words
  body ++ [crc32c (body.flatMap wordBytes)]

/-- Unanswered requests of a channel, and the state of MBX_C_STATUS. -/
def chanOpen (s : State) (c : Nat) : Nat := (s.mbx.open_.filter (fun r => r.chan == c)).length
def chanState (s : State) (c : Nat) : Nat :=
  match tget [] s.mbx.out c with
  | m :: _ => if m.flags.testBit 2 then 4 else 3
  | [] => if s.mbx.open_.any (fun r => r.chan == c && r.started) then 2 else if 0 < chanOpen s c then 1 else 0

def readMbx (s : State) (o : Nat) : Word :=
  if o = 0x00 then
    packF [(8, bitsMask ((List.range 8).filter (fun c => decide (0 < chanOpen s c)))), (0, bitsMask ((List.range 8).filter (fun c => tget [] s.mbx.out c != [])))]
  else if o = 0x04 then 0x0301#32
  else if 0x100 ≤ o ∧ o < 0x210 then tget 0 s.mbx.inbuf ((o - 0x100) / 4)
  else if 0x300 ≤ o ∧ o < 0x410 then
    (match tget [] s.mbx.out 4 with | m :: _ => (wireWords m).getD ((o - 0x300) / 4) 0 | [] => 0)
  else if 0x800 ≤ o ∧ o < 0x900 then
    let c := (o - 0x800) / 0x20
    match o % 0x20 with
    | 0x00 => packF [(8, tget 0 s.mbx.result c), (4, min 8 (chanOpen s c)), (0, chanState s c)]
    | 0x04 => packF [(16, tget 0 s.mbx.accepted c), (0, tget 0 s.mbx.rejected c)]
    | 0x08 => let l := tget (0, 0) s.mbx.last c; packF [(16, l.1), (0, l.2)]
    | _ => 0
  else 0

/-! ### SEC (R100, ch. 15) -/

/-- SEC_BOOT_STATUS. -/
def bootStatus (s : State) : Word :=
  packF [(28, s.sec.phase), (26, s.sec.path), (25, s.sec.slot), (24, b2n s.und.altTried), (16, s.sec.code), (8, s.sec.kind), (0, s.sec.index)]

def readSec (s : State) (o : Nat) : Word :=
  if 0x4000 ≤ o ∧ o < 0x5000 then regWord s (0x030000 + o)
  else if 0x5000 ≤ o ∧ o < 0x7000 then bufWord s.sec.keyBuf ((o - 0x5000) / 4)
  else if 0x240 ≤ o ∧ o < 0x280 then
    (if s.fuses.programmed.testBit ((o - 0x240) / 4) then
       (match slotDigest s ((o - 0x240) / 4) with | some d => w32 (d % 2 ^ 32) | none => 0) else 0)
  else match o with
  | 0x00 => bootStatus s
  | 0x04 => w32 s.sec.bootMs
  | 0x08 => w32 s.sec.fwSvn
  | 0x0C => w32 s.sec.fastMiss
  | 0x10 => packF [(16, s.fuses.programmed), (0, s.fuses.revoked)]
  | 0x14 => packF [(1, b2n s.sec.locked), (0, b2n s.fuses.deployed)]
  | 0x20 => pairWord s 0x030020
  | 0x24 => pairWord s 0x030024
  | 0x28 => regWord s 0x030028
  | 0x2C => regWord s 0x03002C
  | 0x30 => regWord s 0x030030
  | 0x34 => packF [(24, s.sec.rcvTag), (8, s.sec.rcvRes)]
  | 0x38 => w32 s.sec.need
  | 0x40 => s.sec.idPub
  | 0x44 => s.sec.rootPub
  | 0x100 => packF [(24, s.cfg.block), (16, s.cfg.detail), (8, s.cfg.result), (0, s.cfg.state)]
  | 0x104 => w32 (cfgIdOf s)
  | 0x108 => (match s.cfg.running with | some b => w32 b.svn | none => 0)
  | 0x200 => pairWord s 0x030200
  | 0x204 => pairWord s 0x030204
  | 0x208 => packF [(24, s.sec.keyTag), (16, s.sec.keySlot), (8, s.sec.keyRes)]
  | _ => 0

/-! ### GLD (ch. 02) -/

def FabState.code : FabState → Nat
  | .noStructure => 0 | .loading => 1 | .adopting => 2 | .running => 3 | .standbyApply => 4

/-- GT_STATUS.STATE. -/
def tileState (s : State) (t : Nat) : Nat :=
  if (List.range 8).all (fun i => !slotExists s (8 * t + i)) then 0
  else if (tileSt s t).halted then 2
  else if fabRuns s t then (if s.gld.state = .adopting ∨ tfind s.gld.quarter (t / 16) = some .adopting then 3 else 1)
  else 0

/-- A descriptor word of slot `n`. -/
def readSlot (s : State) (n f : Nat) : Word :=
  let r := slotRec s n
  let q := slotSt s n
  match f with
  | 0x00 => packF [(24, r.paramBase), (16, r.paramCount), (15, b2n r.safety), (12, r.trigger), (8, r.mode), (0, r.prim)]
  | 0x04 => packF [(16, r.ins.headD 0 % 2048), (0, if r.trigger = 7 then r.triggerSig % 2048 else 0x7FF)]
  | 0x08 => packF [(16, q.aux % 65536), (7, b2n q.sat), (6, b2n q.inputBad), (5, b2n q.stale), (0, q.pstate)]
  | 0x0C => q.out
  | 0x10 => ~~~ q.out
  | 0x14 => w32 q.evals
  | _ => 0

def readTile (s : State) (t f : Nat) : Word :=
  let x := tileSt s t
  if 0x100 ≤ f ∧ f < 0x300 then (tget {} x.live ((f - 0x100) / 4)).value
  else if 0x400 ≤ f then (if f % 8 = 0 then (tget {} x.staged ((f - 0x400) / 8)).value else (tget {} x.staged ((f - 0x400) / 8)).comp)
  else if 0x40 ≤ f ∧ f < 0x100 then readSlot s (8 * t + (f - 0x40) / 0x18) ((f - 0x40) % 0x18)
  else match f with
  | 0x00 =>
    let ex := (List.range 8).filter (fun i => slotExists s (8 * t + i))
    packF [(24, x.commits % 256), (16, bitsMask ((List.range 8).filter (fun i => (tget {} s.gld.plane (1024 + 8 * t + i)).stale))), (8, bitsMask ex), (0, tileState s t)]
  | 0x08 => packF [(31, b2n x.pending.isSome), (16, x.firstPair), (8, x.result), (0, x.seq)]
  | 0x0C => packF [(16, x.ovSafety), (0, x.ovPace)]
  | 0x10 => w32 (tileRec s t).owner
  | 0x14 => packF ((List.range 7).map (fun c => (3 * c, tileRank s t c)))
  | _ => 0

/-- Tiles with a slot. -/
def tileMap (s : State) (base : Nat) : Nat :=
  bitsMask ((List.range 32).filter (fun i => (List.range 8).any (fun j => slotExists s (8 * (base + i) + j))))

def readGld (s : State) (b o : Nat) : Word :=
  let q := b - 4
  if 0x400 ≤ o ∧ o < 0x8400 then readTile s (16 * q + (o - 0x400) / 0x800) ((o - 0x400) % 0x800)
  else if 0x8400 ≤ o ∧ o < 0x9400 then
    let g := tget {} s.gld.plane (512 * q + (o - 0x8400) / 8)
    if o % 8 = 0 then g.value else g.comp
  else if 0x9400 ≤ o ∧ o < 0x9C00 then
    let g := tget {} s.gld.plane (512 * q + (o - 0x9400) / 4)
    packF [(16, g.prod), (7, b2n g.stale), (6, b2n g.staleC), (0, g.typ)]
  else if o = 0x20 then tget 0 s.gld.qOverrun q
  else if o = 0x24 then w32 (bitsMask ((List.range 16).filter (fun t => (tileSt s (16 * q + t)).halted)))
  else if b = 4 then
    match o with
    | 0x00 => packF [(16, s.gld.loadCount), (0, s.gld.state.code)]
    | 0x04 => w32 s.gld.structId
    | 0x08 => w32 (tileMap s 0)
    | 0x0C => w32 (tileMap s 32)
    | 0x10 => regWord s 0x040010
    | 0x14 => regWord s 0x040014
    | 0x1C => packF [(31, b2n s.gld.groupPend.isSome), (16, s.gld.groupFirst), (8, s.gld.groupResult), (0, s.gld.groupSeq)]
    | _ => 0
  else 0

/-! ### SEQ (ch. 04) -/

def GraphState.code : GraphState → Nat
  | .idle => 0 | .running => 1 | .done => 2 | .failed => 3 | .aborted => 4
def RailState.code : RailState → Nat
  | .unused => 0 | .off => 1 | .queued => 2 | .enabling => 3 | .on => 4 | .disabling => 5 | .failed => 6

/-- Microseconds left in the hold that ends last. -/
def holdLeftUs (s : State) : Nat := maxList (s.seq.holds.map (fun e => (e.2.start + e.2.holdUs * us - s.now) / us))

def readSeq (s : State) (o : Nat) : Word :=
  if 0x100 ≤ o ∧ o < 0x148 then
    let g := (o - 0x100) / 4
    let x := graphRun s g
    packF [(24, x.failStep), (16, (x.steps.filter (fun e => e.2.state == .done)).length), (8, (graphSteps s g).length), (0, x.state.code)]
  else if 0x1000 ≤ o ∧ o < 0x1400 then
    let r := railSt s ((o - 0x1000) / 4)
    packF [(24, r.lastCause), (16, min 255 r.used), (9, b2n r.pg), (8, b2n r.cmdOn), (0, r.state.code)]
  else if 0x1400 ≤ o ∧ o < 0x1C00 then
    let r := railRec s ((o - 0x1400) / 8)
    if o % 8 = 0 then packF [(24, r.leader), (16, r.flags), (8, r.slot), (0, r.method)] else packF [(16, r.pg), (0, r.enOrCmd)]
  else if 0x2000 ≤ o ∧ o < 0x8400 then pairWord s (0x080000 + o)
  else match o with
  | 0x00 => packF [(16, liveSteps s), (8, b2n s.seq.adopted), (7, b2n s.seq.pfw), (6, b2n s.seq.episode.isSome), (0, s.seq.trayState)]
  | 0x04 => packF ((List.range 8).map (fun k => (4 * k, slotState s k)))
  | 0x18 => packF [(24, s.seq.cmdTag), (23, b2n s.seq.held.isSome), (16, s.seq.cmdSlot), (8, s.seq.cmdResult), (0, s.seq.cmdCount)]
  | 0x1C => packF [(24, s.seq.superTag), (0, s.seq.superCount)]
  | 0x20 => w32 (budgetA s)
  | 0x24 => w32 (budgetSlew s)
  | 0x28 => (match queueHead s with
      | some h => packF [(16, s.seq.waitMaxUs), (8, h.2), (3, h.1)]
      | none => packF [(16, s.seq.waitMaxUs)])
  | 0x2C => w32 (queueOf s).length
  | 0x5C => commitStatus s 0x080058
  | 0x60 => packF [(16, satTo 65535 (holdLeftUs s)), (8, b2n ((tfind s.seq.holds 8).isSome || s.seq.pfwKeys.contains 8)),
                   (0, bitsMask ((List.range 8).filter (fun k => (tfind s.seq.holds k).isSome || s.seq.pfwKeys.contains k)))]
  | 0x70 => packF [(16, bitsMask s.seq.mismatch), (8, bitsMask s.seq.adoptedOn), (1, b2n s.seq.trayMismatch), (0, b2n s.seq.adoptDone)]
  | 0x200 => half64 s.seq.ffr.time 0
  | 0x204 => half64 s.seq.ffr.time 1
  | 0x208 => packF [(31, b2n s.seq.ffrValid), (24, s.seq.ffr.phase), (16, s.seq.ffr.cause), (8, s.seq.ffr.slot), (0, s.seq.ffr.rail)]
  | 0x20C => packF [(8, min 8 s.seq.ffr.further.length), (0, s.seq.ffr.merge)]
  | 0x210 => packF ((List.range 4).map (fun i => (8 * i, (s.seq.ffr.further.getD i (0, 0)).1)))
  | 0x214 => packF ((List.range 4).map (fun i => (8 * i, (s.seq.ffr.further.getD (4 + i) (0, 0)).1)))
  | _ => pairWord s (0x080000 + o)

/-! ### SHP (ch. 05) -/

def VfState.code : VfState → Nat
  | .idle => 0 | .hinted => 1 | .tail => 2 | .wait => 3 | .ramp => 4

/-- Word `i` of an entry of section 0x09. -/
def entryWord (e : SchedEntry) (i : Nat) : Word :=
  match i with
  | 0 => w32 e.startMin | 1 => w32 e.capW | 2 => w32 e.rampUp | 3 => w32 e.rampDown | 4 => w32 e.floorW | _ => w32 e.peakFactor

/-- Entries of the bank in force (R157). -/
def entriesInForce (s : State) : List SchedEntry :=
  match s.shp.source with
  | 2 => (contractSec s).entries
  | 3 => (match s.shp.inForce with | some d => d.entries | none => [])
  | _ => []

def readShpSlot (s : State) (k f : Nat) : Word :=
  let x := shpSlot s k
  match f with
  | 0x00 => qWord x.eff
  | 0x04 => qWord x.share
  | 0x08 => qWord x.shaping
  | 0x0C => (tget {} s.shp.capIn (4 * k + 2)).value
  | 0x10 => (tget {} s.shp.capIn (4 * k + 3)).value
  | 0x14 => qWord x.demand
  | 0x18 => qWord x.draw
  | 0x1C => qWord x.floorReq
  | 0x20 => qWord x.floorGrant
  | 0x24 => (match tfind s.und.leaseExp k with | some e => w32 (e.expiry / us % 2 ^ 32 / 2 * 2 + b2n (keeperValid s k)) | none => w32 (b2n (keeperValid s k)))
  | 0x28 => packF [(16, satTo 65535 (qdiv (max x.rate 0) 256).toNat), (0, x.vf.code)]
  | _ => pairWord s (0x090400 + 0x40 * k + f)

/-- Signing of the oldest unsigned block: IDLE, QUEUED while SEC does not run, SIGNING or LATE. -/
def signState (s : State) : Nat :=
  match firstUnsigned s.shp.closed with
  | none => 0
  | some b => if b.late then 3 else if procRunning s .sec then 2 else 1

def readShp (s : State) (o : Nat) : Word :=
  if 0x400 ≤ o ∧ o < 0x600 then readShpSlot s ((o - 0x400) / 0x40) (o % 0x40)
  else if 0x4000 ≤ o ∧ o < 0xC700 then tget 0 s.shp.bankWords ((o - 0x4000) / 4)
  else if 0x240 ≤ o ∧ o < 0x280 then s.shp.lastRec.getD ((o - 0x240) / 4) 0
  else if 0x144 ≤ o ∧ o < 0x15C then
    (match (entriesInForce s)[fld (regWord s 0x090140) 10 0]? with | some e => entryWord e ((o - 0x144) / 4) | none => 0)
  else match o with
  | 0x00 => packF [(24, bitsMask ((List.range 8).filter (keeperValid s))), (16, bitsMask ((List.range 8).filter (fun k => (shpSlot s k).vf != .idle))), (8, stageOf s),
                   (7, b2n s.shp.meterFault), (0, s.afe.tripLevel)]
  | 0x10 => qWord s.shp.inV
  | 0x14 => qWord s.shp.inI
  | 0x18 => q8Word s.shp.inP
  | 0x20 => halfInt s.afe.accum 0
  | 0x24 => halfInt s.afe.accum 1
  | 0x94 => commitStatus s 0x090090
  | 0x100 => packF [(23, b2n s.shp.descent), (22, b2n s.shp.armed.isSome), (21, s.shp.bank), (19, s.shp.source), (0, s.shp.entry)]
  | 0x104 => q8Word (wq s.shp.capNow)
  | 0x108 => q8Word (s.shp.allow.getD 0)
  | 0x10C => q8Word s.shp.budget
  | 0x110 => q8Word s.shp.trim
  | 0x138 => packF [(24, s.shp.resTag), (16, s.shp.superTag), (8, s.shp.result), (0, s.shp.resEntry % 256)]
  | 0x200 => packF [(7, b2n s.shp.checkpointOk), (5, signState s), (0, s.shp.blockOpen.records.length % 16)]
  | 0x204 => w32 s.shp.seq
  | 0x208 => half64 (s.shp.blockOpen.blockSeq - 1) 0
  | 0x20C => half64 (s.shp.blockOpen.blockSeq - 1) 1
  | _ => pairWord s (0x090000 + o)

end Sys2Proof.Machine
end

