-- ==== Sys2Proof/Machine/FaultOps.lean ====
section
/-! DEFINITION. The commands on fault windows and ERR_N, fault injection, and the fault log (17_faults_and_nonvolatile_store.md R457–R466, R477). -/

namespace Sys2Proof.Machine

def winBase (u : FUnit) : Nat := u.key * 0x1000

/-! ### The fault log (R477) -/

/-- A batch of entries: numbered on from the newest in the store, the 64 newest kept. -/
def logList (s : State) : List LogEntry := match nvsStagedOrNewest s 0x0B with | some (.faultLog l) => l | _ => []

/-- Value of monotonic counter `i`. -/
def monoOf (s : State) (i : Nat) : Nat := match nvsNewest s 0x07 with | some (.monotonic l) => l.getD i 0 | _ => 0

/-- The entries of a batch, numbered from `n`, with the boot they belong to. -/
def numberEntries (boot : Nat) : Nat → List LogEntry → List LogEntry
  | _, [] => []
  | n, e :: r => { e with entry := n, boot := boot } :: numberEntries boot (n + 1) r

/-- One commit of every uncommitted entry. A window still open notes its entry, since MERGE may go on counting. -/
def logFlush (rank : Nat) (s : State) : State :=
  if s.nvs.logPend = [] then s
  else
    let old := logList s
    let first := match old.getLast? with | some e => e.entry + 1 | none => 0
    let new := numberEntries (monoOf s 0) first s.nvs.logPend
    let all := old ++ new
    let s := { s with nvs.logPend := [], nvs.logSince := none
                      fw := s.fw.map (fun e => (e.1, if e.2.state = .empty then e.2 else
                        match new.find? (fun n => n.block == e.1 / 16 && n.time == e.2.time) with | some n => { e.2 with logEntry := some n.entry } | none => e.2)) }
    nvsQueue { rank := rank, area := 0x0B, payload := some (.faultLog (all.drop (all.length - 64))), length := 4096 } s

/-- FAULT_LOG_COMMIT (R477): 9 ms after the first of the batch latched. -/
def doFaultLogCommit (s : State) : State :=
  match s.nvs.logSince with
  | some t => if t + 9 * ms ≤ s.now then logFlush 2 s else s
  | none => s

/-- MERGE of a log entry at the RELEASE of its window: in the waiting batch, and in a commit not yet written. -/
def logMerge (block : Nat) (w : FaultWin) (s : State) : State :=
  let fix := fun (e : LogEntry) => if e.block = block ∧ e.time = w.time then { e with merge := w.merge } else e
  { s with nvs.logPend := s.nvs.logPend.map fix
           nvs.queue := s.nvs.queue.map (fun j => match j.payload with | some (.faultLog l) => { j with payload := some (.faultLog (l.map fix)) } | _ => j) }

/-! ### FW_CTRL and FW_PENDING (R457–R459) -/

/-- Act on a new TAG in FW_CTRL. -/
def fwCommand (u : FUnit) (w : Word) (s : State) : State :=
  let off := winBase u + 0x30
  let tag := fld w 31 24
  if tag = lastTag s off then s
  else
    let s := setTag off tag s
    let x := winOf s u
    match fld w 1 0 with
    | 1 => if x.state = .latched then updWin u.key (fun x => { x with state := .handling, trapSince := none }) s else s
    | 2 =>
      if x.state = .handling then updWin u.key (fun x => { x with state := .empty, worst := 0, overflow := false, trapSince := none, logEntry := none }) (logMerge u.blockCode x s)
      else s
    | _ => s

def fwCtrlWrite (path : Path) (u : FUnit) (w : Word) (s : State) : State :=
  withAuthority path (winBase u + 0x30) w (fun s => fwCommand u w (setPair (winBase u + 0x30) w s)) s

def doFwClaim (path : Path) (u : FUnit) (tag : Byte) (s : State) : State := fwCtrlWrite path u (w32 (tag.toNat * 16777216 + 1)) s
def doFwRelease (path : Path) (u : FUnit) (tag : Byte) (s : State) : State := fwCtrlWrite path u (w32 (tag.toNat * 16777216 + 2)) s

/-- Clear pending bits: source 32j + b for each bit b set. -/
def clearPending (u : FUnit) (j : Nat) (mask : Word) (s : State) : State :=
  releaseThr (updWin u.key (fun x => { x with pending := x.pending.filter (fun b => !(b / 32 == j && mask.getLsbD (b % 32))) }) s)

def doPendingClear (path : Path) (u : FUnit) (word : Fin 8) (mask : Word) (s : State) : State :=
  withAuthority path (winBase u + 0x60 + 4 * word.val) mask (clearPending u word.val mask) s

/-! ### Injection (R466) -/

/-- Sources of the pair, complement, ECC, CRC or twin-check kind, from the fault tables of the chapters. -/
def isChecker (u : FUnit) (src : Nat) : Bool :=
  match u with
  | .twp _ => src == 1
  | .block b =>
    if b = 0x00 then src == 4
    else if 0x04 ≤ b ∧ b ≤ 0x07 then decide (src ≤ 1)
    else if b = 0x09 then src == 2
    else if b = 0x0A then src == 8
    else if b = 0x0B then src == 4 || src == 5
    else if 0x10 ≤ b ∧ b ≤ 0x13 then src == 2 || src == 3 || decide (5 ≤ src ∧ src ≤ 8)
    else if b = 0x14 then src == 9
    else if b = 0x15 then decide (src ≤ 1)
    else if b = 0x16 then decide (src ≤ 2)
    else if b = 0x0F then src == 3
    else if b = 0x02 then src == 0
    else if b = 0x03 then src == 0 || src == 5
    else if b = 0x18 then src == 1
    else false

/-- Act on a new TAG in FW_INJECT. -/
def injectCommand (u : FUnit) (w : Word) (s : State) : State :=
  let off := winBase u + 0x38
  let tag := fld w 31 24
  if tag = lastTag s off then s
  else
    let s := setTag off tag s
    let src := fld w 23 16
    let mode := fld w 7 6
    if isChecker u src then
      updWin u.key (fun x => { x with injSource := src, injMode := mode, injLeft := if mode = 1 ∨ mode = 2 then fld w 15 8 else 0, injResult := 0 }) s
    else updWin u.key (fun x => { x with injResult := 1 }) s

def fwInjectWrite (path : Path) (u : FUnit) (w : Word) (s : State) : State :=
  withAuthority path (winBase u + 0x38) w (fun s => injectCommand u w (setPair (winBase u + 0x38) w s)) s

def injectWord (tag source count mode : Nat) : Word := w32 (tag * 16777216 + source * 65536 + count * 256 + mode * 64)

def doFwInjectRequest (path : Path) (u : FUnit) (tag source count : Byte) (mode : Fin 4) (s : State) : State :=
  fwInjectWrite path u (injectWord tag.toNat source.toNat count.toNat mode.val) s

/-! ### Traps and ERR_N (R386, R462, R464, R465) -/

/-- TRAP_ACK_TIMEOUT (R386, R462): the owner did not acknowledge a non-maskable trap within 10 ms. -/
def doTrapAckTimeout (u : FUnit) (s : State) : State :=
  match (winOf s u).trapSince with
  | some t => if t + 10 * ms ≤ s.now then note (.procRestart (winOwner s u) 1) (updWin u.key (fun x => { x with trapSince := none }) s) else s
  | none => s

/-- Bit AFTER_PULSE of the ID_ERR_CTRL pair in effect. -/
def afterPulse (s : State) : Bool := bit (regWord s 0x110) 8

/-- ERR_PULSE_END (R464): AFTER_PULSE decides whether the pin is held or released. -/
def doErrPulseEnd (s : State) : State :=
  match s.err.pulseEnd with
  | some t =>
    if t ≤ s.now then
      let s := { s with err.pulseEnd := none }
      if afterPulse s ∨ s.err.heldPin then { s with err.heldPin := true }
      else drivePin .err 1 { s with err.asserted := false }
    else s
  | none => s

/-- Act on a new TAG in ID_ERR_CTRL: HOLD holds the pin asserted, RELEASE ends a hold; a running pulse is completed. -/
def errCommand (w : Word) (s : State) : State :=
  let tag := fld w 31 24
  if tag = lastTag s 0x110 then s
  else
    let s := setTag 0x110 tag s
    match fld w 1 0 with
    | 1 => drivePin .err 0 { s with err.heldPin := true, err.asserted := true, err.pulses := if s.err.asserted then s.err.pulses else satInc 65535 s.err.pulses }
    | 2 =>
      let s := { s with err.heldPin := false }
      if s.err.pulseEnd.isSome then s else drivePin .err 1 { s with err.asserted := false }
    | _ => s

/-- ID_ERR_CTRL accepts writes from SEC and HST only. -/
def errCtrlWrite (path : Path) (w : Word) (s : State) : State := withAuthority path 0x110 w (fun s => errCommand w (setPair 0x110 w s)) s

def errWord (tag op : Nat) (after : Bool) : Word := w32 (tag * 16777216 + (if after then 256 else 0) + op)
def doErrHold (path : Path) (tag : Byte) (after : Bool) (s : State) : State := errCtrlWrite path (errWord tag.toNat 1 after) s
def doErrRelease (path : Path) (tag : Byte) (after : Bool) (s : State) : State := errCtrlWrite path (errWord tag.toNat 2 after) s

end Sys2Proof.Machine
end

