-- ==== Sys2Proof/Machine/Records.lean ====
section
/-! DEFINITION. The bytes of the records in the non-volatile store and of the banks that hold them (17_faults_and_nonvolatile_store.md R468, R469, R473–R478). -/

namespace Sys2Proof.Machine

/-- Most payload bytes of an area (R469, R478); 0 for a code that names no area. -/
def areaLen (a : Nat) : Nat :=
  match a with
  | 0x01 => 3112 | 0x02 => 3176 | 0x03 => 64 | 0x04 => 32 | 0x05 => 512 | 0x06 => 256 | 0x07 => 128 | 0x08 => 1024 | 0x09 => 1024 | 0x0A => 2096
  | 0x0B => 4096 | 0x0C => 16384 | 0x0D => 16384 | 0x0E => 2372 | _ => 0

/-- An episode record (R473). -/
def episodeBytes (e : EpisodeRec) : List Byte :=
  leBytes 8 e.time ++ [e.rail, e.slot, e.cause, e.phase, e.merge, e.further.length, b2n e.closed, 0].flatMap (leBytes 1) ++ padTo 8 ((e.further.take 8).flatMap (fun x => leBytes 1 x.1))
    ++ padTo 8 ((e.further.take 8).flatMap (fun x => leBytes 1 x.2)) ++ leBytes 8 e.closeTime ++ [e.episode, e.slotStates, e.fwSvn, e.cfgId].flatMap (leBytes 4) ++ zeroBytes 8

/-- A shutdown record (R474). -/
def shutBytes (r : ShutRec) : List Byte :=
  leBytes 8 r.time ++ [r.kind, r.index, r.scope, r.merge].flatMap (leBytes 1) ++ leInt 4 r.value ++ leBytes 2 r.hottest ++ leBytes 1 r.steps ++ zeroBytes 1 ++ leBytes 4 r.latches
    ++ leBytes 8 r.closeTime ++ leBytes 8 r.clearTime ++ leInt 4 r.tcrit0 ++ leInt 4 r.tcrit1 ++ leBytes 4 r.episode ++ leBytes 4 r.fwSvn ++ zeroBytes 8

/-- The records of a block in a checkpoint, 960 bytes. -/
def recordsBytes (b : LedgerBlock) : List Byte := (padTo 960 (b.records.flatMap (fun r => r.flatMap wordBytes))).take 960

/-- The ledger checkpoint (R475). -/
def checkpointBytes (c : Checkpoint) : List Byte :=
  let w := c.awaiting.getD {}
  leBytes 4 c.seq ++ leBytes 2 c.openBlock.records.length ++ zeroBytes 2 ++ leBytes 8 c.openBlock.blockSeq ++ leInt 8 c.accum ++ leBytes 8 c.minuteTime ++ leBytes 64 c.openBlock.prevDigest
    ++ recordsBytes c.openBlock ++ leBytes 2 w.records.length ++ zeroBytes 6 ++ leBytes 8 w.blockSeq ++ leBytes 64 w.prevDigest ++ recordsBytes w

/-- The UPDATE record (R476). -/
def updateBytes (r : UpdateRec) : List Byte :=
  [r.inForce, r.previous, r.confirmed, r.rejected, r.state, r.mode, r.cls, 0].flatMap (leBytes 1) ++ [r.armTime, r.windowEnd, r.switchTime].flatMap (leBytes 8) ++ leBytes 4 r.pausedS
    ++ leBytes 2 r.fmtInForce ++ leBytes 2 r.fmtPrevious ++ leBytes 8 r.seqInForce ++ leBytes 8 r.seqStaged ++ zeroBytes 8

/-- Entries of RESET_LOG and FAULT_LOG, and the settings (R477). -/
def resetEntryBytes (r : ResetLogRec) : List Byte := leBytes 8 r.time ++ leBytes 4 r.cause ++ leBytes 1 r.block ++ leBytes 1 r.source ++ zeroBytes 2
def logEntryBytes (e : LogEntry) : List Byte :=
  leBytes 8 e.time ++ [e.block, e.source, e.cls.code, b2n e.injected + 2 * b2n e.restored, e.merge, e.reactions, 0, 0].flatMap (leBytes 1)
    ++ (List.range 8).flatMap (fun k => wordBytes (e.capture.getD k 0)) ++ leBytes 4 e.entry ++ leBytes 4 e.boot ++ zeroBytes 8
def settingsBytes (r : SettingsRec) : List Byte :=
  leBytes 4 r.hwtype ++ leBytes 2 r.fmt ++ leBytes 2 r.entries.length ++ leBytes 8 r.setSeq
    ++ r.entries.flatMap (fun e => leBytes 1 e.1 ++ zeroBytes 1 ++ leBytes 2 e.2.1 ++ leBytes 4 e.2.2)

/-- A payload's bytes. -/
def payloadBytes : NvsPayload → List Byte
  | .cert l => l
  | .update r => updateBytes r
  | .floors n => padTo 32 (leBytes 4 n)
  | .resetLog l => l.flatMap resetEntryBytes
  | .lifetime l => padTo 256 (l.flatMap (leBytes 4))
  | .monotonic l => padTo 128 (l.flatMap (leBytes 8))
  | .rail l => padTo 1024 (l.flatMap episodeBytes)
  | .shutdown l => padTo 1024 (l.flatMap shutBytes)
  | .ledger c => checkpointBytes c
  | .faultLog l => padTo 4096 (l.flatMap logEntryBytes)
  | .settings r => settingsBytes r
  | .spool b => (blockWords b).flatMap wordBytes

/-! ### Banks and spool slots (R468, R478) -/

/-- Bytes closed by their CRC-32C. -/
def withCrc (l : List Byte) : List Byte := l ++ wordBytes (crc32c l)

/-- Bytes end in the CRC-32C of every byte before it. -/
def crcHolds (l : List Byte) : Bool := wordBytes (crc32c (l.take (l.length - 4))) == l.drop (l.length - 4)

/-- A bank of area `a` with its payload of `len` bytes and its complement. -/
def nvsBankBytes (a seq len : Nat) (q : Option NvsPayload) : List Byte :=
  let p := (padTo len ((q.map payloadBytes).getD [])).take len
  withCrc (leBytes 1 a ++ [0x01#8] ++ zeroBytes 2 ++ leBytes 4 len ++ leBytes 8 seq ++ p ++ p.map (~~~ ·))

/-- A bank is valid (R468): AREA and LENGTH fit its area, the CRC matches, and every COMPLEMENT byte is the complement of its PAYLOAD byte. -/
def bankOk (a : Nat) (l : List Byte) : Bool :=
  let n := numAt l 4 4
  numAt l 0 1 == a && decide (n ≤ areaLen a) && decide (l.length = 20 + 2 * n) && crcHolds l && ((l.drop 16).take n).map (~~~ ·) == (l.drop (16 + n)).take n

/-- Ones among the altered bits of a 64-bit word of the MRAM die. -/
def wordOnes (flips : List (Nat × Byte)) (w : Nat) : Nat :=
  sumList ((flips.filter (fun f => f.1 / 8 == w)).map (fun f => ((List.range 8).filter (fun k => f.2.getLsbD k)).length))

/-- Altered bits that the die corrects by itself, one in a word, and those that stay (ch. 17). -/
def fixedFlips (flips : List (Nat × Byte)) : List (Nat × Byte) := flips.filter (fun f => wordOnes flips (f.1 / 8) == 1 && f.2 != 0#8)
def keptFlips (flips : List (Nat × Byte)) : List (Nat × Byte) := flips.filter (fun f => wordOnes flips (f.1 / 8) != 1 && f.2 != 0#8)

/-- A spool slot (R478). -/
def spoolBytes (b : SignedBlock) : List Byte :=
  withCrc ([0x0E#8, 0x01#8] ++ zeroBytes 2 ++ leBytes 4 2372 ++ leBytes 8 b.block.blockSeq ++ payloadBytes (.spool b))

end Sys2Proof.Machine
end

