-- ==== Sys2Proof/Machine/Nvs.lean ====
section
/-! DEFINITION. The non-volatile store: areas and their writers, NVS_CMD, the engine's commits, and the scan after a reset (17_faults_and_nonvolatile_store.md R468–R472, R477–R480). -/

namespace Sys2Proof.Machine

/-- Rank of a processor's commit (R470). -/
def areaRank (a : Nat) : Nat :=
  if a = 0x08 ∨ a = 0x09 then 1 else if a = 0x0A ∨ a = 0x0B ∨ a = 0x05 then 2 else if a = 0x03 ∨ a = 0x04 ∨ a = 0x07 then 3 else 4

/-- The processor may commit or erase the area through NVS_CMD (R469). -/
def areaWriter (p : Proc) (a : Nat) : Bool :=
  match a with
  | 0x03 => p == .hst || p == .sec
  | 0x04 => p == .sec | 0x05 => p == .sec | 0x0E => p == .sec
  | 0x06 => p == .recd
  | 0x0C => p == .hst | 0x0D => p == .hst
  | _ => false

/-- The processor owns the monotonic counter: counters 2–13 in pairs (R477). -/
def monoWriter (p : Proc) (c : Nat) : Bool := decide (2 ≤ c ∧ c < 14 ∧ (c - 2) / 2 = p.num)

/-- The area a payload record belongs to (R473–R478). -/
def payloadFits (a : Nat) : NvsPayload → Bool
  | .cert _ => a == 0x01 || a == 0x02
  | .update _ => a == 0x03
  | .floors _ => a == 0x04
  | .resetLog l => a == 0x05 && decide (l.length ≤ 32)
  | .lifetime l => a == 0x06 && decide (l.length ≤ 64)
  | .monotonic l => a == 0x07 && decide (l.length = 16)
  | .rail l => a == 0x08 && decide (l.length ≤ 16)
  | .shutdown l => a == 0x09 && decide (l.length ≤ 16)
  | .ledger _ => a == 0x0A
  | .faultLog l => a == 0x0B && decide (l.length ≤ 64)
  | .settings r => (a == 0x0C || a == 0x0D) && decide (r.entries.length ≤ 2046)
  | .spool _ => a == 0x0E

def nvsResult (tag area result : Nat) (s : State) : State := { s with nvs.resTag := tag, nvs.resArea := area, nvs.result := result }

/-- A command outside its writer's authority: DENIED, and the write-path source (R479). -/
def nvsDeny (p : Proc) (tag area : Nat) (w : Word) (s : State) : State :=
  denyWrite (.proc p) 0x180010 w (nvsResult tag area 1 s)

/-- A command's commit is still waiting or being written (RESULT BUSY). -/
def nvsBusy (s : State) : Bool := s.nvs.queue.any (fun j => j.tag.isSome)

/-- The monotonic counters with the increments already queued. -/
def monoList (s : State) : List Nat :=
  match (s.nvs.queue.filter (fun j => j.area == 0x07)).getLast?.bind (·.payload) with
  | some (.monotonic l) => l
  | _ => (List.range 16).map (monoOf s)

/-- Advance a monotonic counter: a commit of the area (R477). -/
def monoInc (c : Nat) (tag : Option Nat) (s : State) : State :=
  nvsQueue { rank := 3, area := 0x07, payload := some (.monotonic ((monoList s).set c ((monoList s).getD c 0 + 1))), length := 128, tag := tag } s

/-- The newest valid copy as the engine reads it: an inverted check (R466) makes the newest bank invalid, and the older valid one is used (R472). -/
def nvsFetch (a : Nat) (s : State) : Option NvsPayload × State :=
  let b := newestIsB s a
  let new := if b then bankB s a else bankA s a
  let old := if b then bankA s a else bankB s a
  if new.valid then
    (let r := injectCheck uNVS 1 a true s
     if r.1 then (new.payload, r.2)
     else (if old.valid then old.payload else none, raise uNVS 1 .corrected { unit := a, inj := true } r.2))
  else (none, s)

/-- Act on a new TAG of NVS_CMD. `payload` is what the shared buffers hold at SRC. -/
def nvsCommand (p : Proc) (w : Word) (payload : Option NvsPayload) (s : State) : State :=
  let tag := fld w 31 24
  let area := fld w 7 0
  let len := (regWord s 0x18001C).toNat
  if tag = lastTag s 0x180010 then s
  else
    let s := setTag 0x180010 tag s
    match fld w 23 20 with
    | 1 =>
      if ¬ areaWriter p area then nvsDeny p tag area w s
      else if nvsBusy s then nvsResult tag area 5 s
      else if len = 0 ∨ areaLen area < len then nvsResult tag area 2 s
      else match payload with
        | some q => if payloadFits area q then nvsQueue { rank := areaRank area, area := area, payload := some q, length := len, tag := some tag } s else nvsResult tag area 2 s
        | none => nvsResult tag area 2 s
    | 2 =>
      let r := nvsFetch area s
      (match r.1 with
        | some q => nvsResult tag area 0 { r.2 with nvs.readBuf := some q }
        | none => nvsResult tag area 3 r.2)
    | 3 =>
      if ¬ areaWriter p area then nvsDeny p tag area w s
      else if nvsBusy s then nvsResult tag area 5 s
      else nvsQueue { rank := areaRank area, area := area, payload := none, length := 0, erase := true, tag := some tag } s
    | 4 =>
      if ¬ monoWriter p area then nvsDeny p tag area w s
      else if nvsBusy s then nvsResult tag area 5 s
      else monoInc area (some tag) s
    | _ => s

/-- A write of the NVS_CMD pair; only the processors may write it (R479). -/
def nvsCmdWrite (path : Path) (w : Word) (payload : Option NvsPayload) (s : State) : State :=
  match path with
  | .proc p => nvsCommand p w payload (setPair 0x180010 w s)
  | _ => denyWrite path 0x180010 w s

def nvsWord (tag op area : Nat) : Word := w32 (tag * 16777216 + op * 1048576 + area)

/-- Bytes of a record as its area lays it out (R473–R478). -/
def payloadLen (area : Nat) (q : NvsPayload) : Nat :=
  match q with
  | .settings r => 16 + 8 * r.entries.length
  | .resetLog l => 16 * l.length
  | _ => areaLen area

/-- NVS_COMMIT: the requester puts the payload at SRC and its length in NVS_CMD_LEN, then writes the pair. -/
def doNvsCommit (path : Path) (tag area : Byte) (q : NvsPayload) (s : State) : State :=
  let s := if isProc path then setWord 0x18001C (w32 (payloadLen area.toNat q)) s else s
  nvsCmdWrite path (nvsWord tag.toNat 1 area.toNat) (some q) s
def doNvsRead (path : Path) (tag area : Byte) (s : State) : State := nvsCmdWrite path (nvsWord tag.toNat 2 area.toNat) none s
def doNvsErase (path : Path) (tag area : Byte) (s : State) : State := nvsCmdWrite path (nvsWord tag.toNat 3 area.toNat) none s
def doNvsMonoInc (path : Path) (tag counter : Byte) (s : State) : State := nvsCmdWrite path (nvsWord tag.toNat 4 counter.toNat) none s

/-! ### The engine (R468, R470, R471) -/

/-- MERGE of fault-log entries whose window is still open, at the moment the bank is written (R477). -/
def mergeNow (s : State) (l : List LogEntry) : List LogEntry :=
  l.map (fun e => match s.fw.find? (fun x => x.2.state != .empty && x.2.logEntry == some e.entry) with | some x => { e with merge := x.2.merge } | none => e)

/-- The record as it reaches its bank. -/
def bankPayload (s : State) : NvsPayload → NvsPayload
  | .faultLog l => .faultLog (mergeNow s l)
  | q => q

/-- SEQ of the bank that a commit of an area writes: one above the newest valid one's. -/
def nextSeq (s : State) (a : Nat) : Nat :=
  if (bankA s a).valid || (bankB s a).valid then (if newestIsB s a then (bankB s a).seq else (bankA s a).seq) + 1 else 1

/-- Write a bank of an area (R468): the one that does not hold the newest valid copy, with SEQ one higher. -/
def writeBank (a len : Nat) (q : Option NvsPayload) (ok : Bool) (s : State) : State :=
  let bank : NvsBank := { valid := ok, seq := nextSeq s a, length := len, payload := q }
  if newestIsB s a || !((bankA s a).valid || (bankB s a).valid) then { s with mram.bankA := tput s.mram.bankA a bank } else { s with mram.bankB := tput s.mram.bankB a bank }

/-- The read-back of a write whose bytes the die holds with those of `flips` altered (R468, R478): the bank is valid, or the spool slot's CRC matches. -/
def readBackOk (s : State) (j : NvsJob) (flips : List (Nat × Byte)) : Bool :=
  if j.erase then flips == []
  else match j.payload with
    | some (.spool b) => crcHolds (flipBytes (spoolBytes b) flips)
    | q => bankOk j.area (flipBytes (nvsBankBytes j.area (nextSeq s j.area) j.length (q.map (bankPayload s))) flips)

/-- The head of the queue reaches the die. -/
def nvsWrite (j : NvsJob) (ok : Bool) (s : State) : State :=
  if j.area = 0x0E then
    (match j.payload with
      | some (.spool b) =>
        if ok then { s with mram.spool := tput s.mram.spool (b.block.blockSeq % 1024) b } else { s with mram.spool := terase s.mram.spool (b.block.blockSeq % 1024) }
      | _ => if j.erase then { s with mram.spool := [] } else s)
  else if j.erase then (if ok then { s with mram.bankA := terase s.mram.bankA j.area, mram.bankB := terase s.mram.bankB j.area } else s)
  else writeBank j.area j.length (j.payload.map (bankPayload s)) ok s

/-- What a failed read-back of a block's own record raises in that block, beside NVS. -/
def recordFault (a : Nat) (s : State) : State :=
  if a = 0x08 then raise (.block 0x08) 7 .contained {} s
  else if a = 0x09 then raise (.block 0x0A) 10 .contained {} s
  else if a = 0x0A then raise (.block 0x09) 9 .contained {} s
  else s

/-- NVS_COMMIT_DONE (R468, R470, R471): the first waiting commit has been written and read back; `flips` are the bytes that the die holds otherwise than written, of
which it corrects single bits of a word. -/
def doNvsCommitDone (flips : List (Nat × Byte)) (s : State) : State :=
  match s.nvs.queue with
  | [] => s
  | j :: rest =>
    let readBack := readBackOk s j (keptFlips flips)
    let s := forEach (fixedFlips flips) (fun _ s => raise uNVS 0 .corrected { unit := j.area } { s with nvs.corrected := satInc 65535 s.nvs.corrected }) s
    let s := nvsWrite j readBack { s with nvs.queue := rest }
    let s := match j.tag with | some t => nvsResult t j.area (if readBack then 0 else 4) s | none => s
    if readBack then
      let s := { s with nvs.commits := tupd 0 s.nvs.commits j.area (satInc 0xFFFFFFFF)
                        und.nvsStaged := if rest.any (fun k => k.area == j.area) then s.und.nvsStaged else terase s.und.nvsStaged j.area
                        shp.checkpointOk := s.shp.checkpointOk || j.area == 0x0A, afe.ckpt := s.afe.ckpt || j.area == 0x0A }
      if j.again then raise uNVS 5 .corrected { unit := j.area } s else s
    else
      let s := { s with shp.checkpointOk := s.shp.checkpointOk && j.area != 0x0A }
      recordFault j.area (raise uNVS 3 .contained { unit := j.area } s)

/-! ### The scan after a reset (R471, R472) -/

/-- A bank found invalid after a commit, while the older one is valid. -/
def bankLost (s : State) (a : Nat) : Bool :=
  let x := bankA s a
  let y := bankB s a
  (!x.valid && y.valid && decide (y.seq < x.seq)) || (!y.valid && x.valid && decide (x.seq < y.seq))

def areaEmpty (s : State) (a : Nat) : Bool := !(bankA s a).valid && !(bankB s a).valid

/-- NVS_SCAN (R472), with the commits that the staged copies of the Understory repeat first (R471). -/
def nvsScan (s : State) : State :=
  let s := forEach ((List.range 14).filter (fun a => bankLost s a)) (fun a s => raise uNVS 1 .corrected { unit := a } s) s
  let s := forEach ([0x01, 0x02, 0x04].filter (fun a => areaEmpty s a)) (fun a s => raise uNVS 2 .contained { unit := a } s) s
  forEach s.und.nvsStaged (fun e s =>
    { s with nvs.queue := insertJob { rank := 0, area := e.1, payload := some e.2, length := areaLen e.1, again := true } s.nvs.queue })
    { s with nvs.scanned := true, nvs.dieOk := true }

/-- The episode and shutdown counts since manufacture go on from the newest records kept (R473, R474; log 89). -/
def countResume (s : State) : State :=
  let e := match nvsStagedOrNewest s 0x08 with | some (.rail l) => maxList (l.map (·.episode)) | _ => 0
  let h := match nvsStagedOrNewest s 0x09 with | some (.shutdown l) => maxList (l.map (·.episode)) | _ => 0
  { s with seq.nextEpisode := e, thm.nextShut := h }

/-- The UPDATE record, at its EMPTY value where no bank is valid (R472). -/
def updateRec (s : State) : UpdateRec := match nvsNewest s 0x03 with | some (.update r) => r | _ => {}

/-- The bitstream security floor (R84, R477). -/
def floorSvn (s : State) : Nat := match nvsNewest s 0x04 with | some (.floors n) => n | _ => 0

end Sys2Proof.Machine
end

