-- ==== Sys2Proof/Machine/Timebase.lean ====
section
/-! DEFINITION. The timebase: discipline by the time exchange and PPS_IN, holdover, alarms and the crystal (18_device_power_timebase_and_cascade.md R487–R491; R27; R321). -/

namespace Sys2Proof.Machine

/-! ### Configuration (TBS_CFG) -/

def holdoverS (s : State) : Nat := fld (liveWord s 0x170010) 31 14
def stepNs (s : State) : Int := (fld (liveWord s 0x170010) 13 2 * 1000 : Nat)
def gclTimeEn (s : State) : Bool := bit (liveWord s 0x170010) 1
def ppsEn (s : State) : Bool := bit (liveWord s 0x170010) 0 && isLead s

/-- Time is flagged undisciplined (R490). -/
def undiscFlag (t : TbsS) : Bool := t.xtalFail || !t.everLocked || t.holdSaid || t.slewBack

def setTbs (f : TbsS → TbsS) (s : State) : State := { s with tbs := (let t := f s.tbs; { t with undisc := undiscFlag t }) }

/-! ### The exchange and PPS (R321, R488) -/

/-- The seconds source of a port (TBS_STATUS.SOURCE). -/
def timeSource (p : Nat) : Nat := if p = 0 then 1 else if p = 9 then 2 else 3

/-- A phase and an exchange of one second disagree by 1 s or more, which restarts LOCKING (ch. 18). -/
def secondsApart (a : Option Int) (b : Int) : Bool := match a with | some o => decide (1000000000 ≤ (b - o).natAbs) | none => false

/-- TIME_RSP (R321): offset and path delay of the exchange; the servo takes the offset at its next update, and FREE is left (R488). -/
def doTimeRsp (port : Fin 11) (t4 : BitVec 64) (s : State) : State :=
  let p := port.val
  if portActive s p ∧ followsTime s p then
    let q := gclPort s p
    let a := q.t2 - q.t1
    let b := (t4.toNat : Int) - q.t3
    let off := qdiv (a - b) 2
    let s := updPort p (fun q => { q with timeOffset := off, pathDelay := qdiv (a + b) 2 }) s
    if gclTimeEn s ∧ (p = 0 ↔ isLead s) then
      setTbs (fun t =>
        let apart := secondsApart t.ppsOff off
        { t with fresh := some off, source := timeSource p
                 run := if t.state = .free ∨ apart then 0 else t.run
                 state := if t.state = .free ∨ apart then .locking else t.state }) s
    else s
  else s

/-- Distance of the counter from its nearest whole second, negative before it. -/
def secondOffset (now : Nat) : Int := if now % sec ≤ sec / 2 then (now % sec : Nat) else (now % sec : Nat) - (sec : Int)

/-- The whole second nearest the counter. -/
def nearSecond (now : Nat) : Nat := (now + sec / 2) / sec

/-- PPS_EDGE (R488): accepted within ±1 ms of a whole second, at most once a second; a PPS edge alone never leaves FREE. -/
def doPpsEdge (s : State) : State :=
  if ¬ ppsEn s then s
  else
    let off := secondOffset s.now
    let k := nearSecond s.now
    if off.natAbs ≤ 1000000 ∧ s.tbs.ppsSec ≠ some k then
      setTbs (fun t =>
        let apart := secondsApart t.fresh off
        { t with ppsOk := satInc 65535 t.ppsOk, ppsSec := some k, ppsOff := some off, ppsLock := t.state != .free, run := if apart then 0 else t.run
                 state := if apart then .locking else t.state }) s
    else raise uTBS 3 .corrected {} (setTbs (fun t => { t with ppsBad := satInc 65535 t.ppsBad }) s)

/-! ### The servo (R488, R489) -/

/-- A rate correction within ±`ppb`: how the servo filters offsets into it is open, so a free value (log 69). -/
def servoRate (ppb : Nat) (n : Nat) : Int := (Config.freeValue n % (2 * ppb + 1) : Nat) - (ppb : Int)

/-- The update once per second (R488, R489): the PPS phase when an edge was accepted, else the last exchange. Behind by more than STEP_US the counter steps forward at the next
microsecond; every other offset is slewed. -/
def servoTick (s : State) : State :=
  let t := s.tbs
  let off : Option Int := if t.state = .free then none else match t.ppsOff with | some o => if t.fresh.isSome ∨ t.ppsLock then some o else none | none => t.fresh
  let s := setTbs (fun t => { t with ppsOff := none, fresh := none }) s
  match off with
  | none => setTbs (fun t => { t with ppsLock := false }) s
  | some o =>
    let behind := o < -(stepNs s)
    let ahead := stepNs s < o
    let near := decide (o.natAbs ≤ 1000)
    let rate := if behind then t.rate else servoRate (if ahead then 500000 else 200000) s.fresh
    setTbs (fun t =>
      let st : TbsState := if t.state = .holdover then .locking else if t.state = .locking ∧ near ∧ 9 ≤ t.run then .locked else t.state
      { t with offset := o, rate := rate, step := if behind then some o.natAbs else t.step, slewBack := ahead, lastUpd := t.count, holdSaid := false
               run := if t.state = .locking ∧ near then min 10 (t.run + 1) else 0, state := st, everLocked := t.everLocked || st == .locked
               ppsLock := t.ppsOff.isSome || t.ppsLock }) { s with fresh := s.fresh + 1 }

/-- HOLDOVER_ENTER (R488): 2 s without a valid update while LOCKED. -/
def doHoldoverEnter (s : State) : State :=
  if s.tbs.state = .locked ∧ s.tbs.lastUpd + 2 * sec ≤ s.now then setTbs (fun t => { t with state := .holdover, holdAt := t.count, ppsLock := false }) s else s

/-- HOLDOVER_LIMIT (R490). -/
def doHoldoverLimit (s : State) : State :=
  if s.tbs.state = .holdover ∧ ¬ s.tbs.holdSaid ∧ s.tbs.holdAt + holdoverS s * sec ≤ s.now then
    raise uTBS 2 .contained {} (setTbs (fun t => { t with holdSaid := true }) s)
  else s

/-- CRYSTAL_FAIL (R27). -/
def doCrystalFail (s : State) : State :=
  if s.tbs.xtalFail then s else raise uTBS 0 .contained {} (setTbs (fun t => { t with xtalFail := true }) s)

/-! ### The counter (R25, R489) -/

/-- The next count the counter crosses: the next whole microsecond, or where a forward step takes it (log 7). -/
def nextCount (s : State) : Time :=
  let n := (s.now / us + 1) * us
  match s.tbs.step with | some k => n + k | none => n

/-- Boundaries of class `c` crossed from `a` to `b` beyond the one that fires. -/
def skippedOf (c a b : Nat) : Nat := b / classNs c - a / classNs c - 1

/-- Advance the counter; the boundaries a step jumps over are counted as skipped (R489), and a minute crossed by a step marks the open record PARTIAL (ch. 18). -/
def advanceTime (s : State) : State :=
  let a := s.now
  let b := nextCount s
  let s := setTbs (fun t => { t with count := b, skipped := (List.range 7).foldl (fun k c => tupd 0 k c (fun n => n + skippedOf c a b)) t.skipped }) s
  match s.tbs.step with
  | some _ =>
    let s := if a / minuteNs < b / minuteNs then { s with shp.cur.flags := s.shp.cur.flags ||| 16 } else s
    raise uTBS 1 .corrected {} (setTbs (fun t => { t with step := none }) s)
  | none => s

/-! ### Alarms (R491) -/

def almBase (k : Nat) : Nat := 0x170100 + 0x10 * k
def almTime (s : State) (k : Nat) : Time := (regWord s (almBase k)).toNat + 2 ^ 32 * (regWord s (almBase k + 4)).toNat
def almCtrl (s : State) (k : Nat) : Word := regWord s (almBase k + 8)
def almOn (s : State) (k : Nat) : Bool := bit (almCtrl s k) 0
def almKnown (s : State) (k : Nat) : Bool := bit (almCtrl s k) 2
def almRequired (s : State) (k : Nat) : Nat := fld (almCtrl s k) 4 3

/-- An alarm's time has come: its owner is interrupted and ENABLE clears. -/
def almFire (k : Nat) (s : State) : State :=
  if almOn s k ∧ almTime s k ≤ s.now then { setWord (almBase k + 8) (almCtrl s k &&& ~~~ 1#32) s with tbs.alarmSaid := sadd s.tbs.alarmSaid k } else s

/-- First failing value of a TBS staged set: FIRST is not stated by its map, so it is 0 (log 70). -/
def tbsCheck (W : Nat → Word) : Option (Nat × Nat) :=
  let h := fld (W 0x170010) 31 14
  let d := (W 0x170018).toInt
  if W 0x170014 ≠ ~~~ W 0x170010 ∨ W 0x17001C ≠ ~~~ W 0x170018 then some (0, 1)
  else if h < 60 ∨ 86400 < h ∨ fld (W 0x170010) 13 2 < 1 ∨ 4000 < fld (W 0x170010) 13 2 ∨ d < -50400 ∨ 50400 < d then some (0, 2)
  else none

end Sys2Proof.Machine
end

