-- ==== Sys2Proof/Machine/Twp.lean ====
section
/-! DEFINITION. The two-wire ports as controllers: the end of a transfer and what each requester takes from it, timeouts, bus clear, reset pins, alerts, firmware windows and telemetry mirrors
(12_two_wire_ports.md, R346–R362). -/

namespace Sys2Proof.Machine

def twpBase (p : Nat) : Nat := 0x0E0000 + 0x1000 * p
def byteAt (d : List Byte) (i : Nat) : Nat := (d.getD i 0).toNat
/-- A 16-bit word of a transfer, low byte first. -/
def wordAt (d : List Byte) (i : Nat) : Nat := byteAt d i + 256 * byteAt d (i + 1)

/-! ### What a finished transfer means to its requester (R103, R109, R119, R126, R142, R148, R354, R360, R362) -/

/-- A status read as SEQ takes it: STATUS_WORD of a PMBUS rail (bit places of PMBus, log 20), the status byte of a SIDEBAND rail (R102). Answers OV, OC and not good. -/
def railStatusBits (method : Nat) (d : List Byte) : Bool × Bool × Bool :=
  if method = 2 then
    let w := wordAt d 0
    (w.testBit 5, w.testBit 4, w.testBit 11 || w.testBit 6)
  else
    let b := byteAt d 0
    (false, false, b.testBit 1 || !b.testBit 0)

/-- An adoption read (R126): a PMBUS rail is commanded on when OPERATION holds its on value; STATUS_WORD follows. A SIDEBAND rail's status says both. A rail whose power-good is a pin
or a VS channel keeps that (R109); a failed read leaves the rail MIXED (log 65). -/
def adoptRead (r : Nat) (ok : Bool) (d : List Byte) (s : State) : State :=
  if r < 256 then
    let q := railRec s r
    let on : Bool := if q.method = 2 then byteAt d 0 == q.enOrCmd % 256 else (byteAt d 0).testBit 0
    let st := railStatusBits q.method (if q.method = 2 then d.drop 1 else d)
    let good := if byReads s r then !st.2.2 else (railSt s r).pg
    if ok then doAdoptRailReadDone (BitVec.ofNat 8 r).toFin on good s else doAdoptRailReadDone (BitVec.ofNat 8 r).toFin true false s
  else s

/-- A mirror's word in its record's type (R362), READ_VOUT under the VOUT_MODE read before it. -/
def mirrorWord (cmd typ mode : Nat) (d : List Byte) : Word :=
  if cmd = 0x8B then
    let m := mode % 32
    let v : Int := wordAt d 0 * 4294967296
    (fromWork typ (if m < 16 then v * 2 ^ m else v / 2 ^ (32 - m))).1
  else if 0x78 ≤ cmd ∧ cmd ≤ 0x7E then w32 (wordAt d 0)
  else (fromWork typ (linear11 (wordAt d 0) * 65536)).1

def signalRec (s : State) (i : Nat) : Option SignalRec := s.gld.signals.find? (fun r => r.index == i)

/-- The alert line of a port is still low: its level is an input that no command carries, so a free value (log 66). -/
def alertStillLow (s : State) : Bool × State := (Config.freeValue s.fresh % 2 == 1, { s with fresh := s.fresh + 1 })

def alertOp : TwOp := { owner := .alert, kind := .alertRead, addr := 0x0C, page := 0xFF, value := 0 }

/-- The responder goes on while the line stays low, up to eight responses per assertion (R354). -/
def alertAgain (p : Nat) (s : State) : State :=
  let l := alertStillLow s
  if l.1 ∧ (twpPort s p).alertRun < 8 then twSubmit p alertOp l.2 else updTwp p (fun x => { x with alertLow := l.1 }) l.2

/-- A read of 0x0C ended (R354). -/
def alertDone (p res : Nat) (d : List Byte) (s : State) : State :=
  if res = 0 then
    let a := byteAt d 0 / 2
    let s := updTwp p (fun x => { x with alertRun := x.alertRun + 1, alertNack := 0, alerts := satInc 65535 x.alerts }) s
    let rails := (railsInUse s).filter (fun r => (railRec s r).port == p && (railRec s r).addr == a)
    alertAgain p (forEach rails readRailStatus (updTwp p (fun x => { x with lastAlert := a }) s))
  else if res = 1 then
    let n := (twpPort s p).alertNack + 1
    let s := updTwp p (fun x => { x with alertNack := n }) s
    let l := alertStillLow s
    if 3 ≤ n ∧ l.1 then raise (.twp p) 5 .contained {} (twpFlag p 10 (updTwp p (fun x => { x with ignoreAt := some (s.now + sec), alertLow := false }) l.2))
    else if l.1 then twSubmit p alertOp l.2
    else l.2
  else alertAgain p s

/-- The result of a firmware transfer (TWP_P_FX_STATUS, R360): a block count beyond RLEN − 1 ends with LENGTH; BYTES is what was read, or the index of the byte not acknowledged. -/
def fxDone (p w rlen opt tag res nack : Nat) (d : List Byte) (s : State) : State :=
  let tooMany := res = 0 ∧ opt.testBit 3 ∧ rlen - 1 < byteAt d 0
  let r := if tooMany then 0x0A else res
  updTwp p (fun x => { x with fx := tupd {} x.fx w (fun f =>
    { f with tag := tag, pending := false, result := r, bytes := if r = 2 then nack else d.length % 256, rdata := if r = 0 then (d ++ List.replicate (128 - d.length) 0#8).take 128 else f.rdata }) }) s

/-- A status read's end as R119 counts it: good 0, a failure to acknowledge 1 (the five codes of R360), neither 2. -/
def readResult (res : Nat) : Nat := if res = 0 then 0 else if res = 1 ∨ res = 2 ∨ res = 4 ∨ res = 5 ∨ res = 6 then 1 else 2

/-- A transfer goes on after this transaction: more follow, it was acknowledged, and a VOUT_MODE read showed ULINEAR16 (R103). -/
def twGoesOn (o : TwOp) (res : Nat) (d : List Byte) : Bool :=
  res == 0 && decide (o.step + 1 < (twParts o).length) && (twPart o != .voutMode || byteAt d 0 / 32 == 0)

/-- A transfer has ended with a result of R360 and the bytes that its last transaction read; `nack` is the index of a data byte not acknowledged. -/
def twFinish (p : Nat) (o : TwOp) (res nack : Nat) (d : List Byte) (s : State) : State :=
  let d := o.got ++ d
  let s := if res = 1 ∨ res = 2 then updTwp p (fun x => { x with nacks := satInc 65535 x.nacks }) s else s
  let s := if res = 3 then twpFlag p 3 s else s
  let ok := res == 0
  match o.owner, o.kind with
  | .seqRail r, .pmbusOn _ => if ok ∧ twPart o = .voutMode ∧ byteAt d 0 / 32 ≠ 0 then railModeBad r s else s
  | .seqRail r, .railStatus =>
    let b := railStatusBits 2 d
    railStatusRead r (readResult res) b.1 b.2.1 b.2.2 false s
  | .seqRail r, .sidebandRead =>
    let b := railStatusBits 3 d
    railStatusRead r (readResult res) b.1 b.2.1 b.2.2 ((byteAt d 0).testBit 1) s
  | .seqRail r, .adoptRead => adoptRead r ok d s
  | .seqRail r, .sidebandAdopt => adoptRead r ok d s
  | .shp k, .capWrite m => if ok ∧ k < 8 then doMsgAck (BitVec.ofNat 3 k).toFin (BitVec.ofNat 16 m.seq) s else s
  | .shp k, .drawRead => if ok then telemetryDraw k (linear11 (wordAt d 0)) s else s
  | .shp k, .demandRead => if ok then telemetryDemand k (linear11 (wordAt d 0)) s else s
  | .mirror i, .mirrorRead =>
    (match signalRec s i with
     | some r => if ok ∧ twPart o = .own then writeSignal i (mirrorWord (r.source / 256) r.type o.mode d) false { s with twp.mirOk := tput s.twp.mirOk i s.now } else s
     | none => s)
  | .alert, .alertRead => alertDone p res d s
  | .fx w, .fx _ rlen opt => fxDone p w rlen opt o.value res nack d s
  | _, _ => s

/-- The result of a transaction whose bytes were all acknowledged, and the data it read: the PEC after the data must match that of the bytes on the bus (R360). -/
def twChecked (s : State) (p : Nat) (o : TwOp) (data : List Byte) : Nat × List Byte :=
  if twPec s p o ∧ 0 < twReads o then
    (if pec ((twpPort s p).wire ++ data.dropLast) = data.getLastD 0 then 0 else 5, data.dropLast)
  else (0, data)

/-- TRANSFER_DONE (R360): the transaction on the port's bus ends; its transfer goes on with the next one, or ends and leaves the arbiter, which grants again (R358). `data` is
what the target sent, its PEC included, which decides between OK and PEC; `nack` is the index of a data byte not acknowledged. Code 0x0C is reserved. -/
def doTransferDone (port : Fin 16) (result : Fin 13) (nack : Byte) (data : List Byte) (s : State) : State :=
  let p := port.val
  match (twpPort s p).cur with
  | none => s
  | some o =>
    if result.val = 12 ∨ o.kind = .other then s
    else
      let c := if (twpPort s p).curAbort then (8, data) else if result.val = 0 ∨ result.val = 5 then twChecked s p o data else (result.val, data)
      let s := updTwp p (fun x => { x with cur := none, curAbort := false, clkEnd := none, sclLow := false }) s
      let r := twReq o.owner
      if twGoesOn o c.1 c.2 then twReoffer p (arbBeatEnd (16 + p) r (twNext p r c.2 false s))
      else twReoffer p (twFinish p o c.1 nack.toNat c.2 (arbBeatEnd (16 + p) r (twNext p r [] true s)))

/-! ### Timeouts and bus clear (R347, R356, R357) -/

/-- A controller ends its transfer for a low clock (R347, R356). -/
def clkLowEnd (p : Nat) (sdaLow freed : Bool) (s : State) : State :=
  match (twpPort s p).cur with
  | none => updTwp p (fun x => { x with clkEnd := none }) s
  | some o =>
    let res := if (twpPort s p).curAbort then 8 else 4
    let s := updTwp p (fun x => { x with cur := none, curAbort := false, clkEnd := none, sdaLow := sdaLow }) s
    let s := if sdaLow then busClear p freed s else s
    twReoffer p (twFinish p o res 0 [] (arbBeatEnd (16 + p) (twReq o.owner) (twNext p (twReq o.owner) [] true s)))

/-- LOW_TIMEOUT_MS of a port. -/
def lowTimeoutMs (s : State) (p : Nat) : Nat := fld (liveWord s (twpBase p + 0x108)) 15 8

/-- Low clocks that reach 35 ms on ports without TIMEOUT (R347). -/
def clkLowTick (s : State) : State :=
  forEach (List.range 16) (fun p s =>
    match (twpPort s p).clkEnd with
    | some (t, sda, freed) => if t ≤ s.now then clkLowEnd p sda freed s else s
    | none => s) s

/-- CLK_LOW_TIMEOUT (R347): `sdaLow` says whether SDA is low, `freed` whether bus clear would release it. Without TIMEOUT a controller's transfer ends at 35 ms. -/
def doClkLowTimeout (port : Fin 16) (sdaLow freed : Bool) (s : State) : State :=
  let p := port.val
  let ctl := isController s p && (twpPort s p).cur.isSome
  if ¬ ctl ∧ ¬ isTarget s p then s
  else
    let s := raise (.twp p) 2 .corrected {} (twpFlag p 1 (updTwp p (fun x => { x with sclLow := true }) s))
    if ctl then
      (if hasTimeout s p ∨ 35 ≤ lowTimeoutMs s p then clkLowEnd p sdaLow freed s
       else updTwp p (fun x => { x with clkEnd := some (s.now + (35 - lowTimeoutMs s p) * ms, sdaLow, freed) }) s)
    else if hasTimeout s p then updTwp p (fun x => { x with deaf := true }) s else s

/-- DATA_LOW_TIMEOUT (R347): TWP0 never clears its bus. -/
def doDataLowTimeout (port : Fin 16) (freed : Bool) (s : State) : State :=
  let p := port.val
  if (twpPort s p).cur.isSome ∨ (twpRec s p).role = 0 then s
  else
    let s := twpFlag p 2 (updTwp p (fun x => { x with sdaLow := true, sclLow := false }) s)
    if p = 0 then raise (.twp 0) 7 .contained {} s
    else
      let s := raise (.twp p) 2 .corrected {} s
      if isController s p then arbGo (16 + p) (busClear p freed s) else s

/-- Act on a new TAG in TWP_P_CTRL (R356, R357); `freed` says whether nine pulses would release SDA. -/
def twpCommand (p : Nat) (w : Word) (freed : Bool) (s : State) : State :=
  let off := twpBase p + 0x124
  let tag := fld w 31 24
  if tag = lastTag s off then s
  else
    let s := setTag off tag s
    let op := fld w 1 0
    let done := fun (r : Nat) (s : State) => updTwp p (fun x => { x with resTag := tag, result := r }) s
    if op = 0 ∨ op = 3 then s
    else if p = 0 then done 0x0C s
    else if ¬ isController s p then done 9 s
    else if op = 1 then
      let s := busClear p freed s
      arbGo (16 + p) (done (if (twpPort s p).stuck ∨ (twpPort s p).pulseAt.isSome then 6 else 0) s)
    else
      let pin := (twpRec s p).resetPin
      let again : Bool := match (twpPort s p).lastPulse with | some t => decide (s.now < t + 10 * sec) | none => false
      if again ∨ 127 < pin then done 0x0C s
      else done 0 (drivePin (.en pin) 0 (updTwp p (fun x => { x with pulseAt := some s.now, lastPulse := some s.now }) s))

/-- TWP_P_CTRL accepts writes from the port's owner and SEC (R363). -/
def twpCtrlWrite (path : Path) (p : Nat) (w : Word) (freed : Bool) (s : State) : State :=
  withAuthority path (twpBase p + 0x124) w (fun s => twpCommand p w freed (setPair (twpBase p + 0x124) w s)) s

def doTwpBusClearCmd (path : Path) (port : Fin 16) (tag : Byte) (freed : Bool) (s : State) : State :=
  twpCtrlWrite path port.val (w32 (tag.toNat * 16777216 + 1)) freed s
def doTwpResetPulse (path : Path) (port : Fin 16) (tag : Byte) (s : State) : State :=
  twpCtrlWrite path port.val (w32 (tag.toNat * 16777216 + 2)) true s

/-- RESET_PIN_RELEASE (R357): after 1 ms. -/
def doResetPinRelease (port : Fin 16) (s : State) : State :=
  let p := port.val
  match (twpPort s p).pulseAt with
  | some t =>
    if t + ms ≤ s.now then drivePin (.en (twpRec s p).resetPin) 1 (updTwp p (fun x => { x with pulseAt := none, settleAt := some s.now }) s) else s
  | none => s

/-- RESET_PIN_SETTLE (R357): 10 ms later bus clear is performed once more. -/
def doResetPinSettle (port : Fin 16) (freed : Bool) (s : State) : State :=
  let p := port.val
  match (twpPort s p).settleAt with
  | some t =>
    if t + 10 * ms ≤ s.now then arbGo (16 + p) (busClear p freed (updTwp p (fun x => { x with settleAt := none }) s)) else s
  | none => s

/-- STUCK_RETRY (R357): a stuck bus is cleared again each second. -/
def doStuckRetry (port : Fin 16) (freed : Bool) (s : State) : State :=
  let p := port.val
  match (twpPort s p).retryAt with
  | some t => if (twpPort s p).stuck ∧ t ≤ s.now then arbGo (16 + p) (busClear p freed s) else s
  | none => s

/-! ### Alerts (R353, R354) -/

/-- ALERT_LINE_FALL (R354). -/
def doAlertLineFall (port : Fin 16) (s : State) : State :=
  let p := port.val
  if isController s p ∧ (twpRec s p).smbus.testBit 2 ∧ (twpPort s p).ignoreAt = none then
    twSubmit p alertOp (updTwp p (fun x => { x with alertRun := 0, alertNack := 0, alertLow := true }) s)
  else s

/-- ALERT_IGNORE_END (R354). -/
def doAlertIgnoreEnd (port : Fin 16) (s : State) : State :=
  match (twpPort s port.val).ignoreAt with
  | some t => if t ≤ s.now then updTwp port.val (fun x => { x with ignoreAt := none }) s else s
  | none => s

/-- TWP_P_ALERT_MASK[k] of TWP0. -/
def alertMask (s : State) (k : Nat) : Nat := fld (regWord s (0x0E0130 + 4 * k)) 8 0

/-- UP_ALERT_N follows the pending bits (R353). -/
def driveAlert (s : State) : State := drivePin .upAlert (if (twpPort s 0).alertPend = [] then 1 else 0) s

/-- A source of R353 becomes active: every address whose mask includes it has an alert pending. -/
def alertSource (j : Nat) (s : State) : State :=
  let ks := (List.range 4).filter (fun k => (alertMask s k).testBit j)
  if ks = [] then s else driveAlert (updTwp 0 (fun x => { x with alertPend := ks.foldl sadd x.alertPend }) s)

/-- ALERT_RESPONSE_READ (R353): the highest-priority pending address answers, and its bit clears when the port wins the byte. -/
def doAlertResponseRead (won : Bool) (s : State) : State :=
  match (twpPort s 0).alertPend with
  | k :: _ => if won then driveAlert (updTwp 0 (fun x => { x with alertPend := sdel x.alertPend k }) s) else s
  | [] => s

/-! ### Firmware windows (R358, TWP_P_FX registers) -/

/-- TWP_P_FX_OPT: its PEC bit starts at the port's. -/
def fxOpt (s : State) (p k : Nat) : Nat :=
  match tfind s.regs.words (fxBase p k + 8) with
  | some w => fld w 3 0
  | none => b2n (hasPec s p)

/-- A write of TWP_P_FX_CTRL: a new TAG starts a transfer, or is BUSY while one is pending. -/
def fxStart (p k : Nat) (w : Word) (s : State) : State :=
  let s := setWord (fxBase p k) (w &&& 0xFFFFFFFE#32) s
  let f := tget {} (twpPort s p).fx k
  let tag := fld w 31 24
  let put := fun (g : FxWin → FxWin) (s : State) => updTwp p (fun x => { x with fx := tupd {} x.fx k g }) s
  if tag = f.lastTag then s
  else if f.pending then put (fun f => { f with lastTag := tag, tag := tag, result := 0x0B }) s
  else
    let wl := min (fld w 23 16) 128
    let rl := min (fld w 15 8) 128
    twSubmit p { owner := .fx k, kind := .fx wl rl (fxOpt s p k), addr := fld w 7 1, page := 0xFF, value := tag }
      (put (fun f => { f with lastTag := tag, tag := tag, pending := true, result := 0, bytes := 0 }) s)

/-- FX_TRANSFER_START (R358, R363): window k belongs to its own processor. -/
def doFxTransferStart (path : Path) (port : Fin 16) (window : Fin 5) (ctrl : Word) (s : State) : State :=
  withAuthority path (fxBase port.val window.val) ctrl (fxStart port.val window.val ctrl) s

/-! ### Ticks (R142, R362, R371) -/

/-- MIRROR_READ (R362): each mirror is read every REFRESH_MS, and is stale when no read has succeeded for three times that. -/
def mirrorTick (r : SignalRec) (s : State) : State :=
  let i := r.index
  let rail := r.source % 256
  let due : Bool := match tfind s.twp.mirReq i with | some t => decide (t + r.refreshMs * ms ≤ s.now) | none => true
  let s := if due then
      twSubmit (railRec s rail).port { owner := .mirror i, kind := .mirrorRead, addr := (railRec s rail).addr, page := (railRec s rail).page, value := r.source / 256 }
        { s with twp.mirReq := tput s.twp.mirReq i s.now }
    else s
  let late : Bool := match tfind s.twp.mirOk i with | some t => decide (t + 3 * r.refreshMs * ms < s.now) | none => false
  if late ∧ ¬ (tget {} s.gld.plane i).stale then staleSignal i s else s

/-- The ports' part of a tick: offers at 10 µs, mirrors at 1 ms, sideband draw and demand reads of powered slots at 10 ms (R142). -/
def twpTick (c : Nat) (s : State) : State :=
  if c = 1 then forEach (s.twp.port.filter (fun e => e.2.offer != [])) (fun e s => twReoffer e.1 s) s
  else if c = 3 then forEach (s.gld.signals.filter (fun r => r.producer == 0x0E)) mirrorTick s
  else if c = 4 then
    forEach (List.range 8) (fun k s =>
      match sidebandPort s k with
      | some p => if viaGcl s k ∨ ¬ slotPowered s k then s
        else
          let a := (twpRec s p).sbAddr
          twSubmit p { owner := .shp k, kind := .demandRead, addr := a, page := 0xFF, value := 0xD1 }
            (twSubmit p { owner := .shp k, kind := .drawRead, addr := a, page := 0xFF, value := 0x97 } s)
      | none => s) s
  else s

/-! ### Checks (TWP_P_TIMING) -/

/-- First failing value of a port's staged set. -/
def twpCheck (s : State) (p : Nat) (W : Nat → Word) : Option (Nat × Nat) :=
  let b := twpBase p
  let f := fld (W (b + 0x108)) 4 0
  let lo := fld (W (b + 0x108)) 15 8
  let top := match (twpRec s p).speed with | 0 => 31 | 1 => 15 | _ => 6
  if W (b + 0x10C) ≠ ~~~ W (b + 0x108) then some (0, 1)
  else if top < f ∨ lo < 25 ∨ 35 < lo then some (0, 2)
  else none

/-- Load section 0x06. -/
def twpLoad (b : Bitstream) (s : State) : State :=
  loadWords (b.twpPar.map (fun e => (twpBase e.1 + 0x108, w32 (e.2.lowTimeoutMs * 256 + e.2.filterTicks)))) { s with twpCfg := b.twp }

end Sys2Proof.Machine
end

