-- ==== Sys2Proof/Machine/Power.lean ====
section
/-! DEFINITION. Device power states, the domain wake scheduler, the pace regions and the core supply, emergencies, and the update hold (18_device_power_timebase_and_cascade.md R481–R486;
R19, R20; 16_field_update.md R443, R444). -/

namespace Sys2Proof.Machine

/-! ### Emergencies and the update hold (R443, R444) -/

def powerEmergency (s : State) : Bool :=
  s.seq.episode.isSome || s.seq.pfw || s.afe.tripLevel == 3 || s.seq.trayState == 5 || (List.range 8).any (fun k => slotState s k == 6)

def emergency (s : State) : Bool := powerEmergency s || thermalEmergency s

def holdoffMin (s : State) : Nat := fld (liveWord s 0x1C0030) 7 0

/-- Any onset sets the hold; the moment the last condition ends starts HOLDOFF (R444). -/
def holdUpdate (s : State) : State :=
  if emergency s then { s with und.updHold := true, und.emergEnd := none }
  else if s.und.updHold ∧ s.und.emergEnd = none then { s with und.emergEnd := some s.now }
  else s

/-- HOLDOFF_EXPIRY (R444). -/
def doHoldoffExpiry (s : State) : State :=
  match s.und.emergEnd with
  | some t => if s.und.updHold ∧ ¬ emergency s ∧ t + holdoffMin s * minuteNs ≤ s.now then { s with und.updHold := false, und.emergEnd := none } else s
  | none => s

/-! ### Pace regions and VDD_CORE (R19, R20) -/

def restMv (s : State) : Nat := match s.cfg.running with | some b => b.restMv | none => 750

/-- Required pace of a region (R19): the bitstream's, 0 without one. -/
def requiredPace (s : State) (r : Nat) : Nat :=
  match s.cfg.running with
  | some b => ((b.pace.find? (fun e => e.1 == r)).map (·.2)).getD 0
  | none => 0

/-- The pace monitors' counts at each microsecond: the regions below their requirement, and whether every region exceeds its own by at least 15 % (R19). -/
def paceTick (counts : List (Nat × Nat)) (s : State) : State :=
  let now := s.now
  let counts := counts.filter (fun e => decide (e.1 < 24))
  let below := (counts.filter (fun e => decide (e.2 < requiredPace s e.1))).map (·.1)
  let easy := counts.all (fun e => decide (115 * requiredPace s e.1 ≤ 100 * e.2))
  { s with pace.short := below.foldl (fun t r => if (tfind s.pace.short r).isSome then tput t r (tget 0 s.pace.short r) else tput t r now) []
           pace.overrun := s.pace.overrun.filter (fun r => below.contains r)
           pace.easySince := if easy then (match s.pace.easySince with | some t => some t | none => some now) else none }

/-- PACE_STEP_UP (R19): the region has been short for 8 µs, and 100 µs have passed since the last step. -/
def doPaceStepUp (region : Fin 24) (s : State) : State :=
  match tfind s.pace.short region.val with
  | some t =>
    let spaced : Bool := match s.pace.lastUp with | some u => decide (u + 100 * us ≤ s.now) | none => true
    if t + 8 * us ≤ s.now ∧ s.pace.vdd < 850 ∧ spaced then
      let v := min 850 (s.pace.vdd + 10)
      { s with pace.vdd := v, pace.lastUp := some s.now, pace.at850 := if v = 850 then some s.now else s.pace.at850 }
    else s
  | none => s

/-- PACE_STEP_DOWN (R19): every region has exceeded its requirement by at least 15 % for 100 ms; at most once per 100 ms, to no lower than the rest voltage. -/
def doPaceStepDown (s : State) : State :=
  let easy : Bool := match s.pace.easySince with | some t => decide (t + 100 * ms ≤ s.now) | none => false
  let spaced : Bool := match s.pace.lastDown with | some u => decide (u + 100 * ms ≤ s.now) | none => true
  if easy ∧ spaced ∧ restMv s < s.pace.vdd then
    { s with pace.vdd := max (restMv s) (s.pace.vdd - 10), pace.lastDown := some s.now, pace.at850 := none }
  else s

/-- PACE_OVERRUN (R20). -/
def doPaceOverrun (region : Fin 24) (s : State) : State :=
  let r := region.val
  match s.pace.at850 with
  | some t =>
    if t + ms ≤ s.now ∧ (tfind s.pace.short r).isSome ∧ ¬ s.pace.overrun.contains r then
      raise uPMD 0 .contained { unit := r } { s with pace.overrun := sadd s.pace.overrun r }
    else s
  | none => s

/-! ### Domains (R481, R482) -/

/-- Wake units of a domain. -/
def domainUnits (d : Nat) : Nat := if d < 88 then 1 else if d < 112 then 4 else 2

/-- Domains off in a device state. -/
def gatedIn (st : Nat) : List Nat :=
  let d1 := (List.range 48).map (· + 56) ++ [127, 128, 129]
  let d2 := (List.range 8).map (· + 104) ++ [124, 125, 126, 130, 134]
  match st with | 0 => [] | 1 => d1 | 2 => d1 ++ d2 | _ => List.range 136

/-- Exit latency of a state in nanoseconds. -/
def exitNs (st : Nat) : Nat := match st with | 1 => 600 * us | 2 => 6600 * us | 3 => 150 * ms | _ => 0

/-! ### Blocking conditions (R483) -/

/-- Whether every member of the cascade reports its tray in standby: no message carries it, so a free value (log 71). -/
def cascadeAsleep (s : State) : Bool :=
  if isLead s ∧ ¬ s.cas.member.any (fun e => e.2.present) then true else Config.freeValue s.fresh % 2 == 1

/-- The conditions of R483 by bit. -/
def blockBits (s : State) : NSet :=
  (List.range 8).filter (fun b => match b with
    | 0 => s.cus.state == 4 || s.cus.state == 5 || (s.cus.job && s.cus.plan.rem != [])
    | 1 => s.upd.proving || s.cus.state == 1 || s.sec.fuseJob.isSome
    | 2 => (List.range 8).any (fun k => slotState s k != 0 && slotState s k != 1)
    | 3 => s.mbx.open_ != [] || s.nvs.queue != [] || s.shp.closed != [] || (List.range 8).any (fun i => (arbInst s i).reqs.any (fun e => e.2.queue != []))
    | 4 => decide (5 ≤ s.upd.record.state ∧ s.upd.record.state ≤ 8)
    | 5 => s.mem.rcd.state == 2 || (List.range 11).any (fun p => (gclPort s p).state == 6)
    | 6 => !(s.seq.trayState == 0 || s.seq.trayState == 1) || (motDie s 0).state != .parked || (motDie s 1).state != .parked || emergency s
    | _ => !cascadeAsleep s)

/-- A state is blocked by the conditions that name it or a shallower one. -/
def stateBlocked (bits : NSet) (st : Nat) : Bool := bits.any (fun b => if b ≤ 1 then decide (1 ≤ st) else if b ≤ 5 then decide (2 ≤ st) else decide (3 ≤ st))

/-! ### Known events and the choice (R484) -/

def watchS (s : State) : Nat := fld (liveWord s 0x190010) 7 2
def marginNs (s : State) : Nat := fld (liveWord s 0x190010) 31 16 * us
def maxState (s : State) : Nat := fld (liveWord s 0x190010) 1 0
def wakeUnits (s : State) : Nat := fld (liveWord s 0x190010) 15 8

/-- The known events: time, and the deepest state allowed in the run-up. -/
def knownEvents (s : State) : List (Time × Nat) :=
  let rel := s.cnp.descs.filterMap (fun d =>
    let x := cnpModel s d.model
    if x.state = 4 ∨ x.state = 5 then
      let p := (max d.period 1) * classNs d.tick
      let off := d.phase * classNs d.tick
      some ((if s.now < off then off else off + ((s.now - off) / p + 1) * p), 0)
    else none)
  let m := s.now / minuteNs
  rel ++ (if s.shp.blockOpen.records = [] then [] else [((m / 15 + 1) * 15 * minuteNs, 1)])
      ++ (if s.upd.record.state = 3 ∧ s.upd.record.mode = 1 then [(s.upd.record.armTime, 1)] else [])
      ++ [((m + 1) * minuteNs, 2)]
      ++ ((List.range 8).filter (fun k => almOn s k && almKnown s k)).map (fun k => (almTime s k, almRequired s k))
      ++ (if s.now < s.pmd.lastBlock + watchS s * sec then [(s.pmd.lastBlock + watchS s * sec, 2)] else [])

/-- Every event that needs a state shallower than `st` is far enough away. -/
def farEnough (s : State) (st : Nat) : Bool :=
  (knownEvents s).all (fun e => decide (st ≤ e.2) || decide (s.now + exitNs st + marginNs s ≤ e.1))

/-- The state PMD chooses (R484). -/
def chooseState (s : State) : Nat :=
  let bits := blockBits s
  ([3, 2, 1].find? (fun st => decide (st ≤ maxState s) && !stateBlocked bits st && farEnough s st)).getD 0

/-- The earliest known event. -/
def nextEvent (s : State) : Time × Nat :=
  (knownEvents s).foldl (fun a e => if e.1 < a.1 then e else a) ((s.now / minuteNs + 1) * minuteNs, 2)

/-! ### Entering and leaving states (R482, R486) -/

def addResidency (st n : Nat) (s : State) : State := { s with pmd.residency := tupd 0 s.pmd.residency st (· + n) }

/-- Gated processors report HELD, the recorder pauses and LPDDR5X refreshes itself (R331, R482). -/
def enterD2 (s : State) : State :=
  let s := forEach [Proc.hst, .cus, .recd] (fun p s =>
    if procRunning s p then updProc p (fun x => { x with state := .held, gated := true }) s else s) s
  { s with mem.refresh := true, mem.rcd.paused := rcdWrites s }

/-- The gated processors are restored from their retained copies, and the recorder marks the gap. -/
def leaveD2 (s : State) : State :=
  let s := forEach [Proc.hst, .cus, .recd] (fun p s => if (procSt s p).gated then updProc p (fun x => { x with state := .starting, gated := false, kick := s.now }) s else s) s
  let s := { s with mem.refresh := false }
  if s.mem.rcd.paused then rcdEvent .gap { s with mem.rcd.paused := false } else s

/-- D3: every domain is gated and PWR_MAIN_EN deasserted (R504). -/
def enterD3 (s : State) : State := { s with und.supply.mainEn := false, und.supply.mainPg := false, und.supply.enSince := none, mem.trained := [] }

/-- One state deeper: the domains it gates power down. -/
def deepen (s : State) : State :=
  let st := s.pmd.state + 1
  let s := { s with pmd.state := st, pmd.off := (gatedIn st).foldl sadd s.pmd.off }
  if st = 1 then engineGate s else if st = 2 then enterD2 s else if st = 3 then enterD3 s else s

/-- Leave D3: a start with cause D3_EXIT (R485, R504). -/
def leaveD3 (s : State) : State :=
  note (.chipReset 6) { s with pmd := { s.pmd with state := 0, target := 0, off := [], queue := [], waking := [], failed := [] }
                               und.supply := { s.und.supply with mainEn := s.und.supply.retryAt.isNone, enSince := if s.und.supply.retryAt.isNone then some s.now else none } }

/-- The shallowest state, from `st` on, that no failed domain keeps out (R486). -/
def reachable (failed : List Nat) (st : Nat) : Nat :=
  ([st, st + 1, st + 2].find? (fun x => decide (x ≤ 2) && failed.all (fun d => (gatedIn x).contains d))).getD 2

/-- The exit is complete when every domain its state needs is powered or has failed. -/
def arrive (s : State) : State :=
  if s.pmd.queue = [] ∧ s.pmd.waking = [] ∧ s.pmd.target < s.pmd.state then
    let was := s.pmd.state
    let st := reachable s.pmd.failed s.pmd.target
    if st < was then
      let s := { s with pmd.state := st }
      let s := if was = 2 ∧ st < 2 then leaveD2 s else s
      if st = 0 then engineUngate s else s
    else s
  else s

/-- Ask for an exit to `st`: the domains it needs queue for power in the order of their numbers. From D3 the device starts anew. -/
def wakeTo (st : Nat) (s : State) : State :=
  if s.pmd.state ≤ st then s
  else if s.pmd.state = 3 then leaveD3 s
  else
    let need := s.pmd.off.filter (fun d => !(gatedIn st).contains d && !s.pmd.queue.contains d && (tfind s.pmd.waking d).isNone && !s.pmd.failed.contains d)
    arrive { s with pmd.target := min st s.pmd.target, pmd.queue := s.pmd.queue ++ need }

/-- Domains from the front of the queue whose units fit. -/
def takeUnits : Nat → List Nat → List Nat
  | _, [] => []
  | n, d :: r => if domainUnits d ≤ n then d :: takeUnits (n - domainUnits d) r else []

/-- The wake scheduler on the 10 µs tick (R486). -/
def wakeTick (s : State) : State :=
  let l := takeUnits (wakeUnits s) s.pmd.queue
  { s with pmd.queue := s.pmd.queue.drop l.length, pmd.waking := l.foldl (fun t d => tput t d s.now) s.pmd.waking }

/-- DOMAIN_SUPPLY_GOOD (R486). -/
def doDomainSupplyGood (domain : Fin 136) (s : State) : State :=
  if (tfind s.pmd.waking domain.val).isSome then arrive { s with pmd.waking := terase s.pmd.waking domain.val, pmd.off := sdel s.pmd.off domain.val } else s

/-- DOMAIN_FAIL (R486). -/
def doDomainFail (domain : Fin 136) (s : State) : State :=
  match tfind s.pmd.waking domain.val with
  | some t =>
    if t + 50 * us ≤ s.now then
      arrive (raise uPMD 1 .contained { unit := domain.val } { s with pmd.waking := terase s.pmd.waking domain.val, pmd.failed := sadd s.pmd.failed domain.val })
    else s
  | none => s

/-- WAKE_EVENT (R485): 0 electrical-idle exit on UP and 1 on CS1 wake from D3; 2 a request for a domain gated in D2, 3 for one gated in D1, 4 a peer's exit request from LOW_POWER
(log 71). -/
def doWakeEvent (source : Fin 8) (s : State) : State :=
  if s.pmd.state = 3 then (if source.val ≤ 1 then leaveD3 s else s)
  else if source.val = 2 then wakeTo 1 s
  else if source.val = 3 ∨ source.val = 4 then wakeTo 0 s
  else s

/-- Which address of a target or dual port matches, in list mode (MASK 0) or mask mode (R343). -/
def addrMatch (s : State) (p a : Nat) : Option Nat :=
  let r := twpRec s p
  if ¬ isTarget s p then none
  else if r.mask = 0 then (List.range 4).find? (fun k => r.addrs.getD k 0xFF == a)
  else if (a ^^^ r.addrs.getD 0 0xFF) &&& (0x7F - r.mask % 128) = 0 then some 0 else none

/-- WAKE_ADDRESS_MATCH (R355): the matcher of a target or dual port acknowledges and raises wake; TWP0's also holds its bus across a reset. -/
def doWakeAddressMatch (port : Fin 16) (addr : BitVec 7) (s : State) : State :=
  let p := port.val
  if (addrMatch s p addr.toNat).isSome then
    (if s.pmd.state = 3 then leaveD3 (twpFlag p 11 s) else if p = 0 ∧ s.sec.phase = 0 then twpFlag p 11 s else s)
  else s

/-- TBS_ALARM (R491): also wakes from D3. -/
def doTbsAlarm (alarm : Fin 8) (s : State) : State :=
  let k := alarm.val
  if almOn s k ∧ almTime s k ≤ s.now then
    let s := almFire k s
    if s.pmd.state = 3 then leaveD3 s else s
  else s

/-- PMD on the 1 ms tick (R484): a deeper choice passes through each state, one a tick (log 72); a shallower one is an exit. -/
def pmdTick (s : State) : State :=
  let bits := blockBits s
  let s := if bits ≠ [] then { s with pmd.lastBlock := s.now } else s
  let ch := chooseState s
  let ne := nextEvent s
  let s := { s with pmd.next := ne.1, pmd.nextReq := ne.2, fresh := if isLead s ∧ ¬ s.cas.member.any (fun e => e.2.present) then s.fresh else s.fresh + 1 }
  if ch < s.pmd.state then wakeTo ch { s with pmd.target := ch }
  else
    let s := { s with pmd.target := ch }
    if s.pmd.state < ch ∧ s.pmd.queue = [] ∧ s.pmd.waking = [] then deepen s else s

/-- First failing value of PMD's staged set. -/
def pmdCheck (W : Nat → Word) : Option (Nat × Nat) :=
  let w := W 0x190010
  if W 0x190014 ≠ ~~~ w then some (0, 1)
  else if fld w 31 16 < 100 ∨ 60000 < fld w 31 16 ∨ fld w 15 8 < 2 ∨ 64 < fld w 15 8 ∨ fld w 7 2 < 1 ∨ 60 < fld w 7 2 then some (0, 2)
  else none

/-! ### Indicators (R498) -/

/-- Locate turns on or off. -/
def setLocate (b : Bool) (s : State) : State := { s with und.ind.locate := b, und.ind.since := s.now }

/-- LOCATE_BUTTON (R498, R485): the press toggles locate and wakes the device from D3. -/
def doLocateButton (s : State) : State :=
  let s := setLocate (!s.und.ind.locate) { s with und.ind.presses := satInc 255 s.und.ind.presses }
  if s.pmd.state = 3 then leaveD3 s else s

/-- LOCATE_TIMEOUT (R498). -/
def doLocateTimeout (s : State) : State :=
  if s.und.ind.locate ∧ s.und.ind.locateS ≠ 0 ∧ s.und.ind.since + s.und.ind.locateS * sec ≤ s.now then setLocate false s else s

/-- Any window holds a fatal fault: its highest class since it was EMPTY. -/
def fatalFault (s : State) : Bool := s.fw.any (fun e => e.2.state != .empty && e.2.worst == 2)

/-- The AUTO patterns: slot `k`, tray amber and tray green. -/
def autoSlot (s : State) (k : Nat) : Nat :=
  if slotState s k = 6 ∨ s.und.shutLatch.contains k then 1 else if slotState s k = 3 ∨ slotState s k = 5 then 2 else 0
def autoAmber (s : State) : Nat :=
  if s.seq.trayState = 5 ∨ s.und.shutLatch ≠ [] ∨ s.und.sysShdn ∨ fatalFault s then 1 else if s.sec.phase = 3 ∨ thermalEmergency s then 2 else 0
def autoGreen (s : State) : Nat := if s.seq.trayState = 3 then 1 else if s.seq.trayState = 1 then 2 else 0

/-- Patterns shown: slot `k`, and for the tray amber in bits 3:2 and green in bits 1:0. -/
def shownSlot (s : State) (k : Nat) : Nat := let r := tget 0 s.und.ind.reg k; if r.testBit 8 then r % 16 else autoSlot s k
def shownTray (s : State) : Nat := let r := tget 0 s.und.ind.reg 8; if r.testBit 8 then r % 16 else 4 * autoAmber s + autoGreen s

/-- The block presents every pattern to its latch: 0 OFF, 1 ON, 2 SLOW, 3 FAST; locate shows FAST. -/
def driveIndicators (s : State) : State :=
  let s := forEach (List.range 8) (fun k s => drivePin (.ind k) (shownSlot s k) s) s
  drivePin (.ind 10) (if s.und.ind.locate then 3 else 0) (drivePin (.ind 9) (shownTray s / 4) (drivePin (.ind 8) (shownTray s % 4) s))

end Sys2Proof.Machine
end

