-- ==== Sys2Proof/Machine/RegReadB.lean ====
section
/-! DEFINITION. What a read of a register answers in the blocks THM, LKF, MOT, CNP, CUS, MEM, TWP, ARB, GCL, NVS, PMD, TBS, CAS, IND and UPD (register maps of chapters 06–13 and
16–18), and what a read changes. -/

namespace Sys2Proof.Machine

/-! ### THM and LKF (ch. 06) -/

/-- Milliseconds until a group's next due step or release. -/
def groupNextMs (s : State) (g : Nat) : Nat :=
  let x := groupS s g
  match x.sched, x.release with
  | some t, _ => (t + (x.schedN + 1) * stepMs s g * ms - s.now) / ms
  | none, some t => (t + stepMs s g * ms - s.now) / ms
  | none, none => 0

def readThm (s : State) (o : Nat) : Word :=
  if 0x400 ≤ o ∧ o < 0x480 then
    let k := (o - 0x400) / 0x10
    match o % 0x10 with
    | 0x0 => wInt (tget 0 s.thm.stair k)
    | 0x4 => wInt (tget 0 s.thm.thermal k)
    | 0x8 => let g := tget 0 s.thm.govern k; packF [(24, (groupS s g).k), (16, g), (0, tget 0 s.thm.thrReq k)]
    | _ => 0
  else if 0x1000 ≤ o ∧ o < 0x1200 then
    let g := (o - 0x1000) / 0x10
    let x := groupS s g
    match o % 0x10 with
    | 0x0 => packF [(24, x.k % 256), (16, x.hottest % 256), (8, satTo 255 (members s g).length), (3, b2n (forcedGroup s g)), (0, x.state)]
    | 0x4 => wInt x.value
    | 0x8 => w32 (groupNextMs s g)
    | _ => 0
  else if 0x4000 ≤ o ∧ o < 0x4354 then
    let n := (o - 0x4000) / 4
    match senseRec s n with
    | none => 0
    | some r =>
      let x := thermCh s n
      packF [(24, r.group), (20, r.kind), (18, if isTempKind r.kind then x.srate else 3), (4, b2n x.neigh), (3, b2n x.rate), (2, b2n x.range), (1, b2n x.feFault), (0, b2n x.implaus)]
  else if (0x2000 ≤ o ∧ o < 0x2800) ∨ (0x8000 ≤ o ∧ o < 0xB540) then pairWord s (0x0A0000 + o)
  else match o with
  | 0x00 => packF [(24, bitsMask (s.und.shutLatch.filter (fun k => decide (k < 8)))), (23, b2n (s.und.shutLatch.contains 8)), (22, b2n s.und.sysShdn),
                   (20, bitsMask s.afe.critFault), (19, b2n (thermalEmergency s)),
                   (8, ((List.range 32).filter (fun g => (groupS s g).state == 2)).length), (0, ((List.range 32).filter (fun g => (groupS s g).state == 1)).length)]
  | 0x04 => packF [(8, (critTemp s / 65536).toNat), (0, s.und.straps.therm)]
  | 0x08 => wInt (tget 0 s.afe.critVal 0)
  | 0x0C => wInt (tget 0 s.afe.critVal 1)
  | 0x1C => commitStatus s 0x0A0018
  | 0x28 => packF [(24, s.thm.resTag), (8, s.thm.result), (0, s.thm.resGroup)]
  | 0x30 => w32 (bitsMask ((List.range 32).filter (forcedGroup s)))
  | 0x34 => w32 (bitsMask ((List.range 32).filter (fun g => (groupS s g).state == 1)))
  | 0x38 => w32 (bitsMask ((List.range 32).filter (fun g => (groupS s g).state == 2)))
  | 0x18 => 0
  | _ => pairWord s (0x0A0000 + o)

def readLkf (s : State) (o : Nat) : Word :=
  let st := fun c => (lkfCh s c).state
  let alarm := fun c => st c == 1 || st c == 2
  let some8 := fun (base : Nat) (p : Nat → Bool) => bitsMask ((List.range 8).filter (fun i => p (base + i)))
  if 0x100 ≤ o ∧ o < 0x300 then
    let c := (o - 0x100) / 0x10
    let r := tget {} s.lkf.recs c
    match o % 0x10 with
    | 0x0 => packF [(24, r.zone), (16, r.reaction), (12, r.mode), (7, b2n (s.und.wet.contains c)), (0, st c)]
    | 0x4 => wInt (lkfCh s c).value
    | 0x8 => wInt (lkfCh s c).aux
    | _ => 0
  else match o with
  | 0x00 => packF [(16, bitsMask s.und.wet), (8, some8 16 alarm), (0, some8 24 alarm)]
  | 0x04 => packF [(16, bitsMask ((List.range 16).filter (fun c => decide (2 ≤ st c ∧ st c ≤ 4)))), (8, some8 16 (fun c => st c == 3)), (0, some8 24 (fun c => st c == 3))]
  | 0x18 => packF [(24, s.lkf.resTag), (8, s.lkf.result), (0, s.lkf.resCh)]
  | 0x20 => 0
  | 0x24 => commitStatus s 0x0C0020
  | _ => pairWord s (0x0C0000 + o)

/-! ### MOT (ch. 07) -/

def DieState.code : DieState → Nat
  | .boot => 0 | .run => 1 | .failsafe => 2 | .parked => 3

/-- State of a die as MOT last learnt it. -/
def dieCode (s : State) (d : Nat) : Nat := (tget .boot s.mot.repDie d).code

def readMot (s : State) (o : Nat) : Word :=
  if 0x100 ≤ o ∧ o < 0x300 then
    let c := (o - 0x100) / 0x20
    let r := motRec s c
    let x := motRep s c
    match o % 0x20 with
    | 0x00 => packF [(24, r.zone), (16, x.fault), (12, x.tries), (9, b2n x.hall), (8, b2n x.est), (0, x.state)]
    | 0x04 => x.tach
    | 0x08 => wInt (tget 0 s.mot.sent c)
    | 0x0C => x.current
    | 0x10 => packF [(16, r.setpoint), (8, r.polePairs), (4, r.sense), (2, r.commut), (0, r.kind)]
    | 0x14 => packF [(16, x.starts), (0, x.faults)]
    | 0x18 => w32 x.runS
    | _ => 0
  else match o with
  | 0x00 => packF [(16, bitsMask ((List.range 16).filter (fun c => (motRep s c).state == 7))), (10, dieCode s 1), (8, dieCode s 0), (1, b2n (s.mot.repSilent != [])),
                   (0, b2n ((List.range 16).any (fun c => motOverride s c)))]
  | 0x04 => w32 s.mot.full
  | 0x10 => packF [(16, tget 0 s.mot.repVmot 0), (8, tget 0 s.mot.hbBad 0), (3, b2n (s.mot.repBus.contains 0)), (2, b2n (s.mot.fsSeen.contains 0)), (0, dieCode s 0)]
  | 0x14 => packF [(16, tget 0 s.mot.repVmot 1), (8, tget 0 s.mot.hbBad 1), (3, b2n (s.mot.repBus.contains 1)), (2, b2n (s.mot.fsSeen.contains 1)), (0, dieCode s 1)]
  | 0x28 => w32 (satTo 0xFFFFFFFF ((s.now - s.mot.heardAt) / ms))
  | 0x30 => 0
  | 0x34 => commitStatus s 0x0B0030
  | 0x48 => packF [(24, s.mot.resTag), (8, s.mot.result), (0, s.mot.resCh)]
  | _ => pairWord s (0x0B0000 + o)

/-! ### CNP (ch. 08) -/

def readCnpTile (s : State) (t f : Nat) : Word :=
  let x := cnpTile s t
  match f with
  | 0x00 => packF [(8, satTo 255 x.twinRun), (0, if s.cnp.gated then 0 else if x.halted then 3 else if x.running.isSome then 2 else 1)]
  | 0x04 => w32 (bitsMask ((s.cnp.descs.filter (fun d => d.tileMask.testBit t)).map (·.model)))
  | 0x08 => w32 x.busyUs
  | 0x0C => half64 x.steps 0
  | 0x10 => half64 x.steps 1
  | 0x14 => packF [(16, x.uncorrected), (0, x.corrected)]
  | 0x18 => w32 (sumList ((s.cnp.descs.filter (fun d => d.tileMask.testBit t)).map (·.sramKib)))
  | _ => 0

def readCnpModel (s : State) (m f : Nat) : Word :=
  match descOf s m with
  | none => 0
  | some d =>
    let x := cnpModel s m
    match f with
    | 0x00 => packF [(16, d.tileMask), (8, d.period), (5, d.tick), (0, d.flags)]
    | 0x04 => w32 d.deadlineUs
    | 0x08 => packF [(16, d.outCount), (0, d.outBase)]
    | 0x0C => packF [(24, satTo 255 x.missRun), (13, x.warmLeft % 2048), (4, x.last), (0, x.state)]
    | 0x10 => w32 x.releases
    | 0x14 => w32 x.misses
    | 0x18 => w32 x.skips
    | 0x1C => w32 x.lastNs
    | 0x20 => w32 x.worstNs
    | 0x24 => (match x.image with | some i => w32 (imageDigest i % 2 ^ 32) | none => 0)
    | 0x28 => packF [(16, satTo 65535 x.sat), (8, satTo 255 x.twinFail), (0, (x.image.map (·.svn)).getD 0 % 256)]
    | _ => 0

def readCnp (s : State) (q o : Nat) : Word :=
  if 0x1000 ≤ o ∧ o < 0x5000 then readCnpTile s (4 * q + (o - 0x1000) / 0x1000) (o % 0x1000)
  else if q = 0 ∧ 0x8000 ≤ o ∧ o < 0xA000 then readCnpModel s ((o - 0x8000) / 0x100) (o % 0x100)
  else if q ≠ 0 then 0
  else match o with
  | 0x00 => packF [(16, bitsMask ((List.range 16).filter (fun t => (cnpTile s t).halted))), (8, b2n s.cnp.gated), (7, b2n s.cnp.load.isSome), (0, s.cnp.descs.length)]
  | 0x04 => w32 (bitsMask ((List.range 32).filter (fun m => (cnpModel s m).state == 5)))
  | 0x08 => w32 (bitsMask ((List.range 32).filter (fun m => (cnpModel s m).outStale)))
  | 0x0C => s.cnp.descId
  | 0x20 => packF [(24, s.cnp.resTag), (8, s.cnp.result), (5, s.cnp.step), (0, s.cnp.resModel)]
  | 0x24 => w32 s.cnp.dropped
  | _ => pairWord s (0x100000 + o)

/-! ### CUS (ch. 09) -/

/-- Stream rate over the last 100 ms in MB/s: the leaves whose hash completed, of 1 MiB each. -/
def cusRate (s : State) : Nat := (s.cus.doneAt.filter (fun t => decide (s.now < t + 100 * ms))).length * 1048576 * 10 / 1000000

/-- Slots with remnant shards. -/
def remnantSlots (s : State) : List Nat := (s.cus.plan.rem.map (fun e => (shardAt s e.1).slot)).eraseDups

def readCus (s : State) (o : Nat) : Word :=
  if 0x400 ≤ o ∧ o < 0x640 then
    let c := (o - 0x400) / 0x40
    let x := cursor s c
    let p := tget {} s.cus.plan.slots c
    match o % 0x40 with
    | 0x00 => packF [(6, if c < 8 then p.layout else 0), (0, x.state)]
    | 0x28 => w32 x.water
    | 0x2C => w32 x.cleared
    | f =>
      if 8 ≤ c then 0
      else match f with
        | 0x04 => half64 (tget 0 s.cus.caps c) 0
        | 0x08 => half64 (tget 0 s.cus.caps c) 1
        | 0x0C => half64 p.need 0
        | 0x10 => half64 p.need 1
        | 0x14 => half64 p.short 0
        | 0x18 => half64 p.short 1
        | 0x1C => half64 p.remnant 0
        | 0x20 => half64 p.remnant 1
        | 0x24 => w32 p.penalty
        | _ => 0
  else match o with
  | 0x00 => packF [(28, s.cus.state), (24, s.cus.restart), (16, bitsMask (jobMask s)), (8, bitsMask (remnantSlots s)), (7, b2n s.cus.abort), (6, b2n s.cus.job), (5, b2n s.cus.tree.isSome)]
  | 0x40 => packF [(24, s.cus.resTag), (8, s.cus.result), (0, s.cus.resSlot)]
  | 0x48 => s.cus.manId
  | 0x4C => (match s.cus.tree with | some t => w32 (t.root % 2 ^ 32) | none => 0)
  | 0x50 => (match s.cus.man with | some m => w32 m.leafCount | none => 0)
  | 0x54 => w32 (sumList (s.cus.cursors.map (·.2.cleared)))
  | 0x58 => w32 (cusRate s)
  | 0x5C => packF [(16, s.cus.refScrub), (0, s.cus.refLoad)]
  | 0x60 => w32 s.cus.failLeaf
  | 0x88 => 0
  | 0x8C => commitStatus s 0x140088
  | 0x98 => packF [(28, s.cus.restart), (24, s.cus.reason), (16, bitsMask s.cus.cycled), (8, s.cus.count % 256), (0, s.cus.seq % 256)]
  | 0x9C => w32 s.cus.lastMs
  | 0xA0 => w32 (regionMib s 0)
  | 0xA4 => w32 (sumList (s.cus.plan.rem.map (fun e => ceilDiv (shardAt s e.1).size 1048576)))
  | 0xA8 => packF [(8, s.cus.scrubLeaf), (0, b2n (s.cus.scrubAt != 0 && decide (s.cus.scrubAt ≤ s.now)))]
  | _ => pairWord s (0x140000 + o)

/-! ### MEM (ch. 11) -/

def readMem (s : State) (o : Nat) : Word :=
  if 0x100 ≤ o ∧ o < 0x130 then
    (if o % 8 = 0 then w32 (regionBaseMib s ((o - 0x100) / 8)) else w32 (regionMib s ((o - 0x100) / 8)))
  else if 0x200 ≤ o ∧ o < 0x220 then packF [(16, tget 0 s.mem.unc ((o - 0x200) / 4)), (0, tget 0 s.mem.corr ((o - 0x200) / 4))]
  else match o with
  | 0x00 => packF [(8, bitsMask s.mem.failed), (0, bitsMask s.mem.trained)]
  | 0x308 => 0
  | 0x30C => commitStatus s 0x150308
  | 0x318 => packF [(24, s.mem.rcd.missed), (16, s.mem.rcd.lost), (8, s.mem.rcd.gaps), (2, s.mem.rcd.cause), (0, s.mem.rcd.state)]
  | 0x320 => half64 s.mem.rcd.trig 0
  | 0x324 => half64 s.mem.rcd.trig 1
  | 0x328 => w32 s.mem.rcd.head
  | _ => pairWord s (0x150000 + o)

/-! ### TWP (ch. 12) -/

/-- STATE of TWP_P_STATUS: ASLEEP while the device is in D2 and only the matchers run (R355, R482). -/
def twpState (s : State) (p : Nat) : Nat :=
  let x := twpPort s p
  if (twpRec s p).role = 0 then 6 else if x.stuck then 4 else if x.pulseAt.isSome ∨ x.settleAt.isSome then 3
  else if x.cur.isSome then 1 else if isTarget s p ∧ 2 ≤ s.pmd.state then 5 else 0

def readTwp (s : State) (p f : Nat) : Word :=
  let r := twpRec s p
  let x := twpPort s p
  if 0x400 ≤ f ∧ f < 0xE00 then
    let k := (f - 0x400) / 0x200
    let g := (f - 0x400) % 0x200
    let w := tget {} x.fx k
    if g = 0x04 then packF [(24, w.tag), (23, b2n w.pending), (8, w.result), (0, w.bytes)]
    else if g = 0x08 then w32 (fxOpt s p k)
    else if 0x100 ≤ g ∧ g < 0x180 then w32 (leNat ((w.rdata.drop (g - 0x100)).take 4))
    else regWord s (0x0E0000 + 0x1000 * p + f)
  else match f with
  | 0x100 => packF [(16, r.resetPin), (8, r.mask), (5, r.smbus), (3, r.speed), (0, r.role)]
  | 0x104 => if r.addrs = [] then 0xFFFFFFFF else packF ((List.range 4).map (fun i => (8 * i, r.addrs.getD i 0xFF)))
  | 0x110 => 0
  | 0x114 => commitStatus s (0x0E0110 + 0x1000 * p)
  | 0x118 => packF [(24, x.page), (8, x.pointer), (7, b2n (!x.sclLow)), (6, b2n (!x.sdaLow)), (0, twpState s p)]
  | 0x11C => w32 (bitsMask x.flags)
  | 0x120 => packF [(16, x.nacks), (8, x.clears), (0, x.errors)]
  | 0x12C => packF [(24, x.resTag), (0, x.result)]
  | 0x140 => if p = 0 then packF [(16, bitsMask x.alertPend), (0, bitsMask x.alertAct)] else 0
  | 0x150 => packF [(16, x.alerts), (0, x.lastAlert)]
  | 0x154 => packF [(8, r.sbSlot), (0, r.sbAddr)]
  | _ => if 0x130 ≤ f ∧ f < 0x140 ∧ p ≠ 0 then 0 else pairWord s (0x0E0000 + 0x1000 * p + f)

/-! ### ARB (ch. 13) -/

def readArb (s : State) (o : Nat) : Word :=
  let i := o / 0x400
  let f := o % 0x400
  if 34 ≤ i then 0
  else
    let a := arbInst s i
    if 0x100 ≤ f ∧ f < 0x300 then
      let r := (f - 0x100) / 0x20
      if arbCount i ≤ r then 0
      else
        let q := arbReq s i r
        match f % 0x20 with
        | 0x00 => packF [(16, satTo 65535 (((q.queue.head?).map (·.done)).getD 0)), (4, q.queue.length), (3, b2n q.full), (2, b2n (((q.queue.head?).map (·.lock)).getD false)),
                         (1, b2n (q.queue != [])), (0, 1)]
        | 0x04 => wInt q.credit
        | 0x08 => half64 q.grants 0
        | 0x0C => w32 (q.grants / 2 ^ 32 % 65536)
        | 0x10 => w32 q.waits
        | 0x14 => w32 (satTo 0xFFFFFFFF q.longest)
        | 0x18 => w32 q.share
        | _ => 0
    else match f with
    | 0x00 => packF [(24, a.windows % 256), (20, (a.lock.map (·.owner)).getD 0), (16, a.owner), (15, b2n a.lock.isSome), (14, b2n a.swap.isSome), (13, a.bank), (0, arbCount i)]
    | 0x04 => w32 a.units
    | 0x08 => w32 a.lockable
    | 0x0C => (match a.lock with | some l => w32 ((s.now - l.start) / us) | none => 0)
    | 0x10 => w32 a.bites
    | 0x390 => 0
    | 0x394 => commitStatus s (0x0F0000 + 0x400 * i + 0x390)
    | 0x398 => w32 (arbWindow s i)
    | _ => pairWord s (0x0F0000 + o)

/-! ### GCL (ch. 10) -/

def readGclPort (s : State) (p f : Nat) : Word :=
  let q := gclPort s p
  match f with
  | 0x00 => packF [(16, q.lanes), (11, q.width), (8, q.peerRole), (0, q.state)]
  | 0x0C => packF [(16, q.failed), (0, q.usable)]
  | 0x10 => packF [(16, q.downs), (0, q.recoveries)]
  | 0x14 => w32 q.lastTrainUs
  | 0x18 => w32 q.fecCorr
  | 0x1C => w32 q.fecUncorr
  | 0x20 => w32 q.crcErr
  | 0x24 => w32 q.replayed
  | 0x2C => wInt q.timeOffset
  | 0x30 => wInt q.pathDelay
  | 0x34 => half64 q.peerUnit 0
  | 0x38 => half64 q.peerUnit 1
  | 0x3C => packF [(16, q.denied), (0, q.proto)]
  | _ => pairWord s (0x161000 + 0x100 * p + f)

/-- Full width of a port (R299). -/
def fullWidth (p : Nat) : Nat := if p = 0 then 16 else 4

def readGcl (s : State) (o : Nat) : Word :=
  let ps := fun (c : Nat → Bool) => bitsMask ((List.range 11).filter c)
  if 0x1000 ≤ o ∧ o < 0x1B00 then readGclPort s ((o - 0x1000) / 0x100) (o % 0x100)
  else match o with
  | 0x00 => packF [(16, ps (fun p => portActive s p && decide ((gclPort s p).width < fullWidth p))), (0, ps (portActive s))]
  | 0x10 => packF [(8, satTo 0xFFFFFF s.gcl.dirS.length), (0, satTo 255 s.gcl.snoops.length)]
  | 0x14 => packF [(16, s.gcl.timeouts), (0, s.gcl.sent)]
  | _ => 0

/-! ### NVS (ch. 17) -/

def readNvs (s : State) (o : Nat) : Word :=
  if 0x100 ≤ o ∧ o < 0x1F0 then
    let a := (o - 0x100) / 0x10
    let b := newestIsB s a
    let n := if b then bankB s a else bankA s a
    match o % 0x10 with
    | 0x0 => packF [(16, n.length), (3, b2n b), (2, b2n (bankB s a).valid), (1, b2n (bankA s a).valid), (0, b2n (((s.nvs.queue.head?).map (fun j => j.area == a)).getD false))]
    | 0x4 => half64 n.seq 0
    | 0x8 => half64 n.seq 1
    | _ => w32 (tget 0 s.nvs.commits a)
  else if 0x400 ≤ o ∧ o < 0x480 then half64 (monoOf s ((o - 0x400) / 8)) (o / 4 % 2)
  else match o with
  | 0x00 => packF [(16, s.nvs.corrected), (8, satTo 255 s.nvs.queue.length), (2, b2n s.nvs.scanned), (1, b2n s.nvs.dieOk), (0, b2n (s.nvs.queue != []))]
  | 0x20 => packF [(24, s.nvs.resTag), (8, if nvsBusy s then 5 else s.nvs.result), (0, s.nvs.resArea)]
  | _ => pairWord s (0x180000 + o)

/-! ### PMD, TBS, CAS, IND (ch. 18) -/

def readPmd (s : State) (o : Nat) : Word :=
  if 0x20 ≤ o ∧ o < 0x34 then
    let i := (o - 0x20) / 4
    let on := fun d => decide (d < 136) && !s.pmd.off.contains d
    w32 (bitsMask ((List.range 32).filter (fun b => on (32 * i + b))))
  else if 0x40 ≤ o ∧ o < 0x50 then w32 (satTo 0xFFFFFFFF (tget 0 s.pmd.residency ((o - 0x40) / 4) / sec))
  else match o with
  | 0x00 => packF [(16, bitsMask (blockBits s)), (4, s.pmd.nextReq), (2, s.pmd.target), (0, s.pmd.state)]
  | 0x04 => half64 s.pmd.next 0
  | 0x08 => half64 s.pmd.next 1
  | 0x18 => 0
  | 0x1C => commitStatus s 0x190018
  | 0x50 => packF [(24, (s.pace.vdd - restMv s) / 25), (0, bitsMask (s.pace.short.map (·.1)))]
  | _ => pairWord s (0x190000 + o)

def TbsState.code : TbsState → Nat
  | .free => 0 | .locking => 1 | .locked => 2 | .holdover => 3

def readTbs (s : State) (o : Nat) : Word :=
  match o with
  | 0x00 => half64 s.now 0
  | 0x04 => s.tbs.hiLatch
  | 0x08 => packF [(10, b2n s.tbs.ppsLock), (9, b2n s.tbs.xtalFail), (8, b2n s.tbs.undisc), (4, s.tbs.source), (0, s.tbs.state.code)]
  | 0x20 => 0
  | 0x24 => commitStatus s 0x170020
  | 0x30 => wInt s.tbs.offset
  | 0x34 => wInt s.tbs.rate
  | 0x38 => packF [(16, s.tbs.ppsOk), (0, s.tbs.ppsBad)]
  | _ => pairWord s (0x170000 + o)

def readCas (s : State) (o : Nat) : Word :=
  let ms_ := fun (c : Member → Bool) => bitsMask ([1, 2, 3].filter (fun m => c (member s m)))
  if 0x120 ≤ o ∧ o < 0x180 then
    let x := member s ((o - 0x100) / 0x20)
    match o % 0x20 with
    | 0x00 => x.pin
    | 0x04 => x.demand
    | 0x08 => x.grant
    | _ => pairWord s (0x1A0000 + o)
  else match o with
  | 0x00 => packF [(12, b2n (!isLead s && s.cas.leaseEnd.isSome && !s.cas.lapsed)), (8, ms_ (·.linked)), (4, ms_ (·.present)), (0, s.und.straps.casRole)]
  | 0x04 => s.cas.cap
  | 0x10 => 0
  | 0x14 => commitStatus s 0x1A0010
  | _ => pairWord s (0x1A0000 + o)

/-- PATTERN and MANUAL as written, with the pattern shown. -/
def readInd (s : State) (o : Nat) : Word :=
  if o < 0x20 then packF [(16, shownSlot s (o / 4)), (0, tget 0 s.und.ind.reg (o / 4))]
  else match o with
  | 0x20 => packF [(16, shownTray s), (0, tget 0 s.und.ind.reg 8)]
  | 0x24 => packF [(24, s.und.ind.presses), (16, b2n s.und.ind.locate), (0, s.und.ind.locateS)]
  | _ => 0

/-! ### UPD (ch. 16) -/

/-- Nanoseconds of the trial so far: the clock pauses in an emergency (R447). -/
def trialNs (s : State) : Nat :=
  s.now - s.upd.record.switchTime - s.upd.pausedNs - (match s.upd.pauseAt with | some t => s.now - t | none => 0)

def deferSeconds (s : State) : Nat := match s.upd.deferAt with | some t => (s.now - t) / sec | none => s.upd.deferS

def holdoffLeft (s : State) : Nat :=
  if ¬ s.und.updHold then 0 else match s.und.emergEnd with | some t => (t + holdoffMin s * minuteNs - s.now) / sec | none => holdoffMin s * 60

def readUpd (s : State) (o : Nat) : Word :=
  let r := s.upd.record
  match o with
  | 0x00 => packF [(28, r.state), (27, b2n s.und.updHold), (26, b2n (powerEmergency s)), (25, b2n (thermalEmergency s)), (24, r.inForce), (22, r.confirmed), (20, r.cls), (18, r.mode)]
  | 0x20 => packF [(24, s.upd.resTag), (16, s.upd.detail), (8, s.upd.result), (0, b2n s.upd.undisc)]
  | 0x40 => 0
  | 0x44 => commitStatus s 0x1C0040
  | 0x50 => w32 (deferSeconds s)
  | 0x54 => if r.state = 6 then w32 ((s.upd.trialMin * minuteNs - trialNs s) / sec) else 0
  | 0x58 => w32 (holdoffLeft s)
  | 0x60 => half64 r.seqInForce 0
  | 0x64 => half64 r.seqStaged 0
  | _ => pairWord s (0x1C0000 + o)

/-- First failing value of a UPD staged set: FIRST holds the register offset bits 7:2. -/
def updCheck (W : Nat → Word) : Option (Nat × Nat) :=
  let h := fld (W 0x1C0030) 7 0
  let t := fld (W 0x1C0038) 15 0
  let k := fld (W 0x1C0038) 31 16
  if W 0x1C0034 ≠ ~~~ W 0x1C0030 then some (0x0C, 1)
  else if W 0x1C003C ≠ ~~~ W 0x1C0038 then some (0x0E, 1)
  else if h < 1 ∨ 120 < h then some (0x0C, 2)
  else if t < 5 ∨ 240 < t ∨ k < 1 ∨ 60 < k ∨ t ≤ k then some (0x0E, 2)
  else none

/-- First failing value of an FPC staged set: FPC_P_WD of each processor (R386). -/
def fpcCheck (W : Nat → Word) : Option (Nat × Nat) :=
  match (List.range 6).find? (fun p => W (0x010118 + 0x40 * p) != ~~~ W (0x010114 + 0x40 * p)) with
  | some p => some (p, 1)
  | none => ((List.range 6).find? (fun p => decide ((W (0x010114 + 0x40 * p)).toNat < 10) || decide (1000 < (W (0x010114 + 0x40 * p)).toNat))).map (fun p => (p, 2))

/-! ### Every block -/

/-- The word a read of a control and status offset answers; reserved words read 0. -/
def regRead (s : State) (off : Nat) : Word :=
  let b := off / 0x10000
  let o := off % 0x10000
  match windowOf off with
  | some u => readWindow s u off
  | none =>
    match b with
    | 0x00 => readId s o
    | 0x01 => readFpc s o
    | 0x02 => readMbx s o
    | 0x03 => readSec s o
    | 0x04 => readGld s b o | 0x05 => readGld s b o | 0x06 => readGld s b o | 0x07 => readGld s b o
    | 0x08 => readSeq s o
    | 0x09 => readShp s o
    | 0x0A => readThm s o
    | 0x0B => readMot s o
    | 0x0C => readLkf s o
    | 0x0E => readTwp s (o / 0x1000) (o % 0x1000)
    | 0x0F => readArb s o
    | 0x10 => readCnp s 0 o | 0x11 => readCnp s 1 o | 0x12 => readCnp s 2 o | 0x13 => readCnp s 3 o
    | 0x14 => readCus s o
    | 0x15 => readMem s o
    | 0x16 => readGcl s o
    | 0x17 => readTbs s o
    | 0x18 => readNvs s o
    | 0x19 => readPmd s o
    | 0x1A => readCas s o
    | 0x1B => readInd s o
    | 0x1C => readUpd s o
    | _ => 0

end Sys2Proof.Machine
end

