-- ==== Sys2Proof/Machine/Validate.lean ====
section
/-! DEFINITION. Validation of a configuration bitstream: header, directory, signature, SVN, digests and the semantic checks of every section (03_configuration_bitstream.md R79–R98;
04 R101–R107, 05 R145, R148, R157, R158, R170, 06 R172–R201, 07 R206, R228, 08 R241, R242, 11 R336, R338, 12 R342, R362, 13 R365, R378, 02 R42, R75, R520, 01 R21). -/

namespace Sys2Proof.Machine

/-! ### The commit check of SEQ (R104, SEQ_COMMIT_STATUS) -/

/-- FIRST and result of the first failing value of a SEQ staged set: pairs over the whole set first, then the ranges of R104. -/
def seqCheck (s : State) (W : Nat → Word) : Option (Nat × Nat) :=
  let bad := fun o => W (o + 4) != ~~~ W o
  let rails := railsInUse s
  let delays := (List.range 1152).filter (fun i => decide (i % 64 < (graphSteps s (i / 64)).length))
  match rails.find? (fun r => (List.range 7).any (fun i => bad (railParOff r (8 * i)))) with
  | some r => some (r, 1)
  | none =>
    if [0x080040, 0x080048, 0x080050].any bad then some (0x100, 1)
    else match delays.find? (fun i => bad (0x086000 + 8 * i)) with
      | some i => some (0x200 + i, 1)
      | none =>
        let P := fun r f => (W (railParOff r f)).toNat
        let ok := fun r =>
          let q := railRec s r
          let v := P r 0 % 65536
          let uv := P r 8 % 65536
          let ov := P r 8 / 65536
          let slow := q.pg = 0xFFFF ∧ (q.method = 2 ∨ q.method = 3)
          decide ((uv = 0 ∨ ov = 0 ∨ v = 0 ∨ (uv < v ∧ v < ov)) ∧ 1 ≤ P r 0x30 ∧ P r 0x30 ≤ 32
            ∧ P r 0x10 ≤ (W 0x080040).toNat ∧ P r 0x18 ≤ (W 0x080048).toNat ∧ (q.method = 4 → P r 0x10 = 0 ∧ P r 0x18 = 0)
            ∧ (if slow then 300 else 10) ≤ P r 0x20 ∧ P r 0x20 ≤ 10000 ∧ 2 * P r 0x20 ≤ P r 0x28 ∧ P r 0x28 ≤ 1000000)
        match rails.find? (fun r => !ok r) with
        | some r => some (r, 2)
        | none => if 50 ≤ (W 0x080050).toNat ∧ (W 0x080050).toNat ≤ 10000 then none else some (0x100, 2)

/-! ### Steps 1–5 of R91 -/

/-- Step 1 (R79–R81): the result code, 0 when the header passes. -/
def headerCheck (b : Bitstream) : Nat :=
  if b.magic ≠ 0x5342584B then 1
  else if b.fmtMajor ≠ 1 ∨ b.fmtMinor ≠ 0 then 2
  else if b.hwtype ≠ 0x4238584B then 3
  else if 2 ≤ b.bind ∨ (b.bind = 1 ∧ b.unit ≠ Config.unitId % 2 ^ 64) ∨ (b.bind = 0 ∧ b.unit ≠ 0) then 4
  else if b.total ≠ b.sigOffset + 3088 ∨ 16777216 < b.total then 5
  else 0

/-- Largest body of a part, 0 for a part that does not exist (R85). -/
def partMax (code part : Nat) : Nat :=
  match code, part with
  | 0x01, 0 => 99208 | 0x01, 1 => 65536
  | 0x02, 0 => 22672 | 0x02, 1 => 12816
  | 0x03, 0 => 1452 | 0x03, 1 => 6816
  | 0x04, 0 => 256 | 0x04, 1 => 528
  | 0x05, 0 => 260 | 0x05, 1 => 516
  | 0x06, 0 => 256 | 0x06, 1 => 128
  | 0x07, 0 => 272 | 0x07, 1 => 2448
  | 0x08, 0 => 32772
  | 0x09, 1 => 34644
  | 0x0A, 0 => 7300
  | 0x0B, 0 => 2052
  | 0x0C, 0 => 96
  | _, _ => 0

/-- The part has the one size that R85 states for it. -/
def partFixed (code part : Nat) : Bool := (code == 0x01 && part == 1) || code == 0x03 || code == 0x04 || code == 0x05 || code == 0x06 || code == 0x07 || code == 0x0C

/-- Parts that must be present, by code and part; the two parts of an optional section come together. -/
def requiredParts : List (Nat × Nat) := [(1, 0), (1, 1), (2, 0), (2, 1), (3, 0), (3, 1), (4, 0), (4, 1), (8, 0), (9, 1), (12, 0)]

/-- Directory entries rise by code and part, and bodies follow each other without overlap, aligned to 64. -/
def dirOrdered : Nat → List DirEntry → Bool
  | _, [] => true
  | _, [_] => true
  | n, a :: c :: r => decide (2 * a.code + a.part < 2 * c.code + c.part) && decide (a.offset + a.length ≤ c.offset) && dirOrdered n (c :: r)

/-- Step 2 (R79, R80, R85). DESIGN CHOICE (log 112): an optional section with one of its two parts alone is refused with MISSING, and a LENGTH that is not that of the part's records with LENGTH. -/
def dirCheck (b : Bitstream) : Nat :=
  let keys := b.dir.map (fun d => 2 * d.code + d.part)
  if b.dir.any (fun d => partMax d.code d.part == 0) then 6
  else if keys.eraseDups.length ≠ keys.length then 0x0C
  else if b.dir.any (fun d => decide (partMax d.code d.part < d.length) || (partFixed d.code d.part && d.length != partMax d.code d.part) || d.length != partLength b d.code d.part) then 5
  else if b.dir = [] ∨ 32 < b.dir.length ∨ ¬ dirOrdered 0 b.dir ∨ b.dir.any (fun d => d.offset % 64 != 0)
      ∨ ((b.dir.head?).map (fun d => decide (d.offset < 0x80 + 80 * b.dir.length))).getD false
      ∨ ((b.dir.getLast?).map (fun d => decide (b.sigOffset < d.offset + d.length))).getD false ∨ ¬ b.padZero then 6
  else if requiredParts.any (fun p => !keys.contains (2 * p.1 + p.2))
      ∨ [5, 6, 7].any (fun c => keys.contains (2 * c) != keys.contains (2 * c + 1)) then 0x0C
  else 0

/-- Steps 1–5 of R91: result and DETAIL. -/
def cfgProve (s : State) (b : Bitstream) : Nat × Nat :=
  if ¬ b.transportOk then (0x15, 0)
  else if headerCheck b ≠ 0 then (headerCheck b, 0)
  else if dirCheck b ≠ 0 then (dirCheck b, 0)
  else match keyCheck s false b.sig (topDigest b) with
    | 6 => (7, 0)
    | 7 => (8, 0)
    | 8 => (9, 0)
    | _ =>
      if b.svn < floorSvn s then (0x0A, 0)
      else match b.dir.find? (fun d => d.digest != partDigest b d.code d.part) with
        | some d => (0x0B, d.code)
        | none => (0, 0)

/-! ### What the checks of step 6 look at: the blocks as they would stand with the bitstream loaded -/

/-- The state with the bitstream's sections in place of those in force, used by the checks only. -/
def cfgView (b : Bitstream) (s : State) : State :=
  let s := { s with gld.tiles := b.tiles, gld.signals := b.signals, cfg.running := some b }
  twpLoad b (arbLoad b (lkfLoad b (motLoad b (thmLoad b (seqLoad b s)))))

/-- Any check of a block's own commit rules that fails is RANGE (R91). -/
def rangeIf (r : Option (Nat × Nat)) : Option Nat := r.map (fun _ => 0x0F)
def codeIf (c : Bool) (code : Nat) : Option Nat := if c then some code else none
/-- The first code of a list of checks. -/
def firstCode (l : List (Option Nat)) : Option Nat := l.findSome? id

def allSlots (b : Bitstream) : List (Nat × SlotRec) :=
  (b.tiles.zipIdx.flatMap (fun t => t.1.slots.zipIdx.map (fun r => (8 * t.2 + r.2, r.1)))).filter (fun e => e.2.prim != 0)
def slotOf (b : Bitstream) (n : Nat) : Option SlotRec := ((allSlots b).find? (fun e => e.1 == n)).map (·.2)
/-- Advisory indexes that a descriptor of section 0x0B produces. -/
def advisory (b : Bitstream) (i : Nat) : Bool := b.descs.any (fun d => decide (d.outBase ≤ i ∧ i < d.outBase + d.outCount))
def isLoopOut (i : Nat) : Bool := decide (1024 ≤ i ∧ i < 1536)
def isAdv (i : Nat) : Bool := decide (768 ≤ i ∧ i < 1024)

/-! ### Section 0x03 (R172, R174, R176) -/

def kindFits (r : SenseRec) : Bool :=
  match r.kind with
  | 0 => decide (r.index < 64)
  | 1 => decide (64 ≤ r.index ∧ r.index < 128)
  | 2 => decide (128 ≤ r.index ∧ r.index < 160)
  | 3 => decide (128 ≤ r.index ∧ r.index < 162)
  | 4 => decide (197 ≤ r.index ∧ r.index < 213)
  | 5 => decide (162 ≤ r.index ∧ r.index < 165)
  | _ => false

def check03 (v : State) (b : Bitstream) : Option Nat :=
  let neigh := fun i => i == 0xFFFF || b.sense.any (fun r => r.index == i && isTempKind r.kind) || (isAdv i && advisory b i)
  firstCode [
    codeIf (b.sense.any (fun r => !kindFits r || decide (32 ≤ r.group) || (!isTempKind r.kind && r.group != 0))
      || (b.sense.map (·.index)).eraseDups.length != b.sense.length) 0x0F,
    codeIf (b.sense.any (fun r => isTempKind r.kind && (!neigh r.neighA || !neigh r.neighB))) 0x0E,
    rangeIf (thmCheck v (pairWord v))]

/-! ### Section 0x05 (R193, R194, R196, R197) -/

def check05 (v : State) (b : Bitstream) : Option Nat :=
  firstCode [
    codeIf (b.lkf.zipIdx.any (fun e => e.1.1 != e.2) || b.lkfPar.zipIdx.any (fun e => e.1.1 != e.2) || b.lkf.any (fun e => decide (32 ≤ e.1) || (decide (32 ≤ e.2.zone) && e.2.zone != 0xFF)
      || e.2.reaction / 4 % 32 != 0 || decide (256 ≤ e.2.reaction) || !(e.2.mode == 0 || (decide (16 ≤ e.1 ∧ e.1 < 24) && (e.2.mode == 1 || e.2.mode == 2)) || (decide (24 ≤ e.1) && e.2.mode == 3)))) 0x0F,
    rangeIf (lkfCheck v (pairWord v))]

/-! ### Section 0x04 (R206, R207) -/

def check04 (v : State) (b : Bitstream) : Option Nat :=
  let used := b.mot.filter (fun e => e.2.kind != 0)
  firstCode [
    codeIf (b.mot.zipIdx.any (fun e => e.1.1 != e.2) || b.mot.any (fun e =>
      if e.2.kind = 0 then e.2.commut != 0 || e.2.sense != 0 || e.2.polePairs != 0 || e.2.zone != 0 || e.2.setpoint != 0
      else decide (2 < e.2.kind) || decide (1 < e.2.commut) || decide (1 < e.2.sense) || e.2.polePairs == 0 || decide (16 < e.2.polePairs)
        || (decide (32 ≤ e.2.zone) && e.2.zone != 0xFF) || !(e.2.setpoint == 0xFFFF || isLoopOut e.2.setpoint))) 0x0F,
    codeIf (used.any (fun e => e.2.setpoint != 0xFFFF && (slotOf b (e.2.setpoint - 1024)).isNone)) 0x0E,
    codeIf (used.any (fun e => e.2.setpoint != 0xFFFF && ((slotOf b (e.2.setpoint - 1024)).map (fun r => !r.safety || r.outType != 0)).getD false)) 0x0D,
    rangeIf (motCheck v (pairWord v))]

/-! ### Section 0x08 (R88) -/

/-- Rows of a block's fault table. -/
def sourceCount (b : Nat) : Nat :=
  match b with
  | 0x00 => 6 | 0x01 => 4 | 0x02 => 4 | 0x03 => 9 | 0x04 => 7 | 0x05 => 7 | 0x06 => 7 | 0x07 => 7 | 0x08 => 8 | 0x09 => 11 | 0x0A => 11 | 0x0B => 10 | 0x0C => 5 | 0x0D => 256
  | 0x0E => 10 | 0x0F => 5 | 0x10 => 12 | 0x11 => 12 | 0x12 => 12 | 0x13 => 12 | 0x14 => 12 | 0x15 => 7 | 0x16 => 13 | 0x17 => 5 | 0x18 => 7 | 0x19 => 3 | 0x1A => 5 | 0x1B => 2
  | 0x1C => 7 | _ => 0

/-- The comparator-to-fault slot that a source of a GLD quarter belongs to (R454). -/
def cmpSlotOf (b : Bitstream) (block source : Nat) : Bool :=
  decide (0x04 ≤ block ∧ block < 0x08 ∧ 0x80 ≤ source) &&
    ((slotOf b (128 * (block - 4) + (source - 0x80))).map (fun r => r.prim == 11)).getD false

def check08 (b : Bitstream) : Option Nat :=
  firstCode [
    codeIf (b.react.any (fun r => !decide (r.source < sourceCount r.block) && !cmpSlotOf b r.block r.source)) 0x0E,
    codeIf (b.react.any (fun r =>
      (if cmpSlotOf b r.block r.source then decide (2 < r.cls) else r.cls != 0xFF)
        || (if r.capSlots = 0 then r.capPct != 0 || r.throttle != 0 else r.capPct == 0 || decide (100 < r.capPct))
        || decide (3 < r.throttle) || decide (31 < r.reactions) || decide (255 < r.capSlots))) 0x0F]

/-! ### Section 0x0C (R89) -/

def check0C (b : Bitstream) : Option Nat :=
  let z := fun i => b.regions.getD i 0
  codeIf (!(b.regions.all (fun x => x % 256 == 0) && decide (z 0 ≤ 112 * 1024) && z 1 == 1024 && decide (2048 ≤ z 2 ∧ z 2 ≤ 16384) && decide (z 3 ≤ 2048) && z 4 == 1024 && z 5 == 0
    && decide (sumList (b.regions.take 5) ≤ 127 * 1024))) 0x11

/-! ### Section 0x01 -/

/-- Structural modes (R520). -/
def modeOk (prim mode : Nat) : Bool :=
  match prim with
  | 1 => decide (mode ≤ 1) | 2 => decide (mode ≤ 1) | 3 => decide (mode ≤ 2) | 9 => decide (mode ≤ 1) | 10 => decide (mode ≤ 3) | 11 => decide (mode ≤ 3)
  | _ => mode == 0

/-- A slot wires its inputs to signals that exist: no reserved index (R42). -/
def inOk (i : Nat) : Bool := i == 0xFFFF || (decide (i < 2048) && !decide (213 ≤ i ∧ i < 384))

/-- The slot record's fields in their ranges (R85, R43, R47, R62, R520). -/
def slotRange (r : SlotRec) : Bool :=
  decide (r.prim ≤ 11) && modeOk r.prim r.mode && decide (r.trigger ≤ 7) && decide (r.outType ≤ 4) && decide (r.paramBase + r.paramCount ≤ 128)

/-- Rules of the structure on one slot: R42, R75, R21, R174, R145, THM's GT61, R454. DESIGN CHOICE (log 111): R75 limits where an advisory signal is wired, and the model lets any change-triggered
slot name one as its TRIGGER_SIG. -/
def slotFabric (n : Nat) (r : SlotRec) : Bool :=
  r.ins.all inOk
    && (r.ins.zipIdx.all (fun e => !isAdv e.1 || (r.prim == 9 && e.2 == 0)))
    && (r.prim != 9 || isLoopOut (r.ins.getD 1 0xFFFF))
    && (!(r.prim == 7 || r.prim == 8 || r.prim == 9 || r.prim == 11) || r.safety)
    && (!decide (448 ≤ n ∧ n < 480) || (r.safety && r.outType == 0))
    && (!decide (488 ≤ n ∧ n < 504) || (r.prim == 9 && r.mode == 0))
    && (r.prim != 11 || r.faultSrc == 0x80 + 8 * (n / 8 % 16) + n % 8)

/-- SOURCE codes of a signal record's producer that its chapter lists (R170, R201, R228); other blocks state no list. -/
def signalSource (b : Bitstream) (r : SignalRec) : Bool :=
  if r.producer = 0x09 then
    decide (1 ≤ r.source ∧ r.source ≤ 8) || decide (0x10 ≤ r.source ∧ r.source ≤ 0x12) || decide (0x20 ≤ r.source ∧ r.source ≤ 0x30)
  else if r.producer = 0x0A then
    decide (0x100 ≤ r.source ∧ r.source < 0x120) || decide (0x200 ≤ r.source ∧ r.source < 0x220) || decide (0x300 ≤ r.source ∧ r.source < 0x308) || r.source == 0x400
  else if r.producer = 0x0B then
    decide (0x100 ≤ r.source ∧ r.source < 0x110) || decide (0x200 ≤ r.source ∧ r.source < 0x210) || decide (0x300 ≤ r.source ∧ r.source < 0x310) || decide (0x400 ≤ r.source ∧ r.source < 0x402)
  else if r.producer = 0x16 then decide (r.source % 256 < 8) && (r.source / 256 == 4 || r.source / 256 == 8 || r.source / 256 == 12)
  else if r.producer = 0x0E then
    (b.rails.any (fun e => e.1 == r.source % 256 && (e.2.method == 2 || e.2.method == 3)))
  else true

/-- The index of a signal record is one that R41 leaves to the bitstream, in the range of its producer: telemetry mirrors 384–639, pin states 640–767, derived values of fixed blocks from
1552. Any other index has its producer already (R42). -/
def recordIndex (g : SignalRec) : Bool :=
  let mirror := g.producer == 0x0E || g.producer == 0x16
  if decide (384 ≤ g.index ∧ g.index < 640) then mirror
  else (decide (640 ≤ g.index ∧ g.index < 768) || decide (1552 ≤ g.index)) && !mirror

/-- An operand reference of an agreement record has its zero bits zero (R98). -/
def refFormOk (ref : Nat) : Bool := if (agreeTile ref).isSome then ref / 2 ^ 13 % 2 ^ 11 == 0 else ref / 2 ^ 16 % 2 ^ 8 == 0

/-- An operand reference names a pair of the fabric, or an RWS or RWP register (R98). -/
def refNames (ref : Nat) : Bool :=
  (agreeTile ref).isSome || (match accOf (ref / 2 ^ 24 * 0x10000 + ref % 0x10000) with | .stg false => true | .cmd false => true | _ => false)

/-- Lease keepers whose VALUE is the effective cap of slot `k`; exactly one, with SHP's acknowledgement on ACK, for each slot with rails (R148). -/
def keeperOk (b : Bitstream) (k : Nat) : Bool :=
  let l := (allSlots b).filter (fun e => e.2.prim == 8 && e.2.ins.getD 0 0xFFFF == 1536 + k)
  match l with
  | [e] => b.signals.any (fun g => g.index == e.2.ins.getD 1 0xFFFF && g.producer == 0x09 && g.source == k + 1)
  | _ => false

def check01 (v : State) (b : Bitstream) : Option Nat :=
  let slots := allSlots b
  let sets : Tab (Tab Pair) := (List.range 64).map (fun t => (t, (((b.pairs[t]?).getD []).zipIdx.map (fun e => (e.2, e.1)))))
  firstCode [
    codeIf (b.tiles.length != 64 || b.tiles.any (fun t => decide (5 < t.owner) || t.ranks.any (fun r => decide (5 < r) && r != 7) || decide (8 < t.slots.length)
      || t.ptype.any (fun p => decide (4 < p % 8) || p / 8 % 16 != 0))) 0x0F,
    codeIf (slots.any (fun e => !slotRange e.2) || b.signals.any (fun g => decide (4 < g.type) || decide (2048 ≤ g.index)
      || (g.producer == 0x0E && (decide (g.refreshMs < 10) || decide (10000 < g.refreshMs))))) 0x0F,
    codeIf (slots.any (fun e => !slotFabric e.1 e.2) || (b.signals.map (·.index)).eraseDups.length != b.signals.length || b.signals.any (fun g => !recordIndex g)
      || (List.range 8).any (fun k => b.rails.any (fun e => e.2.method != 0 && e.2.slot == k) && !keeperOk b k)) 0x0D,
    codeIf (slots.any (fun e => e.2.ins.any (fun i => isAdv i && !advisory b i)) || b.signals.any (fun g => !signalSource b g)) 0x0E,
    (List.range 64).findSome? (fun t =>
      let set := tget [] sets t
      if set.any (fun e => !pairOk e.2) ∨ ((List.range 8).any (fun k => slotExists v (8 * t + k) && (checkSlotSet v set (8 * t + k)).isSome)) then some 0x0F else none),
    codeIf (b.agrees.any (fun g => decide (2 < g.rel) || !refFormOk g.a || !refFormOk g.b)) 0x0F,
    codeIf (b.agrees.any (fun g => !refNames g.a || !refNames g.b)) 0x0E,
    codeIf (b.agrees.any (fun g => !agreeHolds v sets v.regs.live g)) 0x10]

/-! ### Section 0x02 (R101–R107) -/

def cfgController (b : Bitstream) (p : Nat) : Bool := b.twp.any (fun e => e.1 == p && (e.2.role == 1 || e.2.role == 3))

def railRange (r : Nat) (q : RailRec) : Bool :=
  if q.method = 0 then q == {}
  else decide (q.method ≤ 4) && (decide (q.slot < 8) || q.slot == 0xFF) && decide (q.flags < 8)
    && (!(q.method == 1 || q.method == 4) || q.pg != 0xFFFF) && (decide (q.pg < 128) || decide (0x8000 ≤ q.pg ∧ q.pg < 0x8040) || q.pg == 0xFFFF)
    && (q.method != 1 || decide (q.enOrCmd < 128)) && (q.method == 4 || q.leader == r)
    && (!(q.method == 2 || q.method == 3) || (decide (q.port < 16) && decide (q.addr < 128) && (decide (q.page < 32) || q.page == 0xFF)))

/-- Indexes of a graph's steps that name a rail with an action. -/
def stepsOf (l : List StepRec) (action rail : Nat) : List Nat := (l.zipIdx.filter (fun e => e.1.action == action && e.1.rail == rail)).map (·.2)

/-- Step `a` is among the steps that step `i` depends on, directly or through others; `n` bounds the search. -/
def dependsOn (l : List StepRec) : Nat → Nat → Nat → Bool
  | 0, _, _ => false
  | n + 1, i, a => (((l[i]?).map (·.deps)).getD []).any (fun d => d != 0xFF && (d == a || dependsOn l n d a))

def graphOf (b : Bitstream) (g : Nat) : List StepRec := tget [] b.graphs g
def upGraph (slot : Nat) : Nat := if slot = 0xFF then 16 else slot
def downGraph (slot : Nat) : Nat := if slot = 0xFF then 17 else 8 + slot

/-- R107 for one rail in use. DESIGN CHOICE (log 114): R107 asks for one step in the rail's own graphs; a step for it in any other graph is refused too. -/
def railGraphed (b : Bitstream) (r : Nat) (q : RailRec) : Bool :=
  let count := fun (action : Nat) => sumList ((List.range 18).map (fun g => (stepsOf (graphOf b g) action r).length))
  let up := graphOf b (upGraph q.slot)
  let down := graphOf b (downGraph q.slot)
  let follow := fun (l : List StepRec) (action : Nat) =>
    match stepsOf l action r, stepsOf l action q.leader with
    | [i], [a] => dependsOn l 64 i a
    | _, _ => false
  count 1 == 1 && count 2 == 1 && (stepsOf up 1 r).length == 1 && (stepsOf down 2 r).length == 1
    && (q.method != 4 || (follow up 1 && follow down 2))

def check02 (v : State) (b : Bitstream) : Option Nat :=
  let used := b.rails.filter (fun e => e.2.method != 0)
  let pins := (used.filter (fun e => e.2.method == 1)).map (·.2.enOrCmd)
  firstCode [
    codeIf (b.rails.any (fun e => decide (256 ≤ e.1) || !railRange e.1 e.2)
      || (List.range 8).any (fun k => decide (24 < (used.filter (fun e => e.2.slot == k)).length)) || decide (64 < (used.filter (fun e => e.2.slot == 0xFF)).length)
      || b.graphs.any (fun g => decide (18 ≤ g.1) || decide (64 < g.2.length)
          || g.2.zipIdx.any (fun e => e.1.action == 0 || decide (3 < e.1.action) || (e.1.action == 3 && e.1.rail != 0) || e.1.deps.any (fun d => d != 0xFF && decide (e.2 ≤ d))))) 0x0F,
    codeIf (pins.eraseDups.length != pins.length
      || used.any (fun e => used.any (fun f => decide (e.1 < f.1) && e.2.pg == f.2.pg && decide (e.2.pg < 128)
            && !((e.2.method == 4 && e.2.leader == f.1) || (f.2.method == 4 && f.2.leader == e.1))))
      || used.any (fun e => (e.2.method == 2 || e.2.method == 3) && !cfgController b e.2.port)
      || used.any (fun e => e.2.method == 4 && !used.any (fun f => f.1 == e.2.leader && f.2.method != 4 && f.2.slot == e.2.slot))
      || used.any (fun e => !railGraphed b e.1 e.2)) 0x0E,
    rangeIf (seqCheck v (pairWord v))]

/-! ### Section 0x06 (R342, R345) -/

def addrReserved (a : Nat) : Bool := decide (a < 8) || decide (0x78 ≤ a) || a == 0x0C

/-- Addresses a port matches. -/
def portAddrs (q : TwpRec) : List Nat :=
  if q.mask = 0 then q.addrs.filter (· != 0xFF)
  else (List.range 128).filter (fun a => a ||| q.mask == (q.addrs.headD 0xFF) ||| q.mask)

def twpRange (b : Bitstream) (p : Nat) (q : TwpRec) : Bool :=
  let target := q.role == 2 || q.role == 3
  let ctl := q.role == 1 || q.role == 3
  decide (q.role ≤ 3) && decide (q.speed ≤ 2) && decide (q.smbus < 8) && !(p == 0 && q.role == 1) && !(p != 0 && q.role == 3)
    && (!target || portAddrs q != []) && (q.role != 1 || q.addrs.all (· == 0xFF)) && (q.mask == 0 || (q.addrs.drop 1).all (· == 0xFF))
    && (!target || (portAddrs q).all (fun a => !addrReserved a))
    && (!b.rails.any (fun e => e.2.method == 3 && e.2.port == p) || q.speed != 0)
    && (if q.sbSlot = 0xFF then q.sbAddr == 0xFF else ctl && decide (q.sbSlot < 8) && !addrReserved q.sbAddr && q.speed != 0
        && !b.twp.any (fun e => decide (e.1 < p) && e.2.sbSlot == q.sbSlot))

def check06 (v : State) (b : Bitstream) : Option Nat :=
  firstCode [
    codeIf (b.twp.zipIdx.any (fun e => e.1.1 != e.2) || b.twpPar.zipIdx.any (fun e => e.1.1 != e.2) || b.twp.any (fun e => decide (16 ≤ e.1) || !twpRange b e.1 e.2)) 0x0F,
    codeIf (b.twp.any (fun e => e.2.resetPin != 0xFFFF && (decide (128 ≤ e.2.resetPin)
      || b.rails.any (fun r => r.2.method == 1 && r.2.enOrCmd == e.2.resetPin) || b.twp.any (fun f => f.1 != e.1 && f.2.resetPin == e.2.resetPin)))) 0x0E,
    (List.range 16).findSome? (fun p => if b.twp.any (fun e => e.1 == p) then rangeIf (twpCheck v p (pairWord v)) else none)]

/-! ### Section 0x07 (R336, R338, R358, R365, R378) -/

def lockAllowed (i r : Nat) : Bool := decide (16 ≤ i ∧ i < 32 ∧ r < 9) || (i == 32 && decide (r < 2))

def check07 (v : State) (b : Bitstream) : Option Nat :=
  codeIf (b.arb.zipIdx.any (fun e => e.1.1 != e.2) || b.arbPar.zipIdx.any (fun e => e.1.1 != e.2) || b.arb.any (fun e => decide (34 ≤ e.1) || e.2.reqCount != arbCount e.1 || (maskBits 16 e.2.lockable).any (fun r => !lockAllowed e.1 r))
    || (b.arb != [] && b.rails.any (fun r => r.2.method == 2 && !b.arb.any (fun e => e.1 == 16 + r.2.port && e.2.lockable.testBit 0)))
    || b.arb.any (fun e => (arbCheck e.1 (pairWord v)).isSome)) 0x0F

/-! ### Sections 0x09, 0x0A, 0x0B -/

/-- R158 on a list of entries; `last` is the START_MIN before. -/
def entriesOk : Option Nat → List SchedEntry → Bool
  | _, [] => true
  | last, e :: r =>
    (match last with | none => e.startMin == 0 | some m => decide (m < e.startMin)) && decide (e.startMin < 1440) && decide (e.floorW ≤ e.capW)
      && decide (1 ≤ e.rampUp ∧ e.rampUp ≤ 1000000) && decide (1 ≤ e.rampDown ∧ e.rampDown ≤ 1000000) && decide (65536 ≤ e.peakFactor ∧ e.peakFactor ≤ 131072)
      && entriesOk (some e.startMin) r

def check09 (b : Bitstream) : Option Nat :=
  let c := b.contract
  codeIf ((List.range 8).any (fun k => decide (c.rated.getD k 0 < 1) || decide (32767 < c.rated.getD k 0) || decide (c.rated.getD k 0 < c.fallback.getD k 0))
    || decide (1440 < c.entries.length) || !entriesOk none c.entries) 0x0F

def check0A (b : Bitstream) : Option Nat :=
  codeIf (decide (4 < b.owners.length) || b.owners.any (fun o => decide (3 < o.owner)) || (b.owners.map (·.owner)).eraseDups.length != b.owners.length) 0x0F

def descNs (d : DescRec) : Nat := d.period * classNs d.tick

def descRange (d : DescRec) : Bool :=
  decide (d.model < 32) && decide (d.flags < 8) && decide (2 ≤ d.tick ∧ d.tick ≤ 6) && decide (1 ≤ d.period ∧ d.period ≤ 255) && decide (d.phase < d.period)
    && decide (1 ≤ d.tileMask ∧ d.tileMask < 65536) && decide (10 ≤ d.deadlineUs ∧ d.deadlineUs * us ≤ descNs d) && decide (768 ≤ d.outBase ∧ 1 ≤ d.outCount ∧ d.outCount ≤ 64)
    && decide (d.outBase + d.outCount ≤ 1024) && d.weightBase % 65536 == 0 && decide (1 ≤ d.sramKib ∧ d.sramKib ≤ 1024) && decide (d.stateKib ≤ d.sramKib)
    && decide (d.boundNs ≤ d.deadlineUs * 1000) && (!d.flags.testBit 2 || d.flags.testBit 1)

/-- Plane indices that a fabric slot or a NEIGH field consumes (R238). -/
def consumed (b : Bitstream) : List Nat :=
  (allSlots b).flatMap (fun e => e.2.ins ++ [e.2.triggerSig]) ++ b.sense.flatMap (fun r => [r.neighA, r.neighB])

/-- R242, the CRITICAL rule of R239, and R238: a model whose outputs are consumed is REPRODUCIBLE. -/
def check0B (b : Bitstream) : Option Nat :=
  let l := b.descs
  let two := fun (p : DescRec → DescRec → Bool) => l.any (fun d => l.any (fun e => decide (d.model < e.model) && p d e))
  firstCode [
    codeIf (l.any (fun d => d.flags.testBit 2 && !d.flags.testBit 1)) 0x0D,
    codeIf (l.any (fun d => !d.flags.testBit 1 && (consumed b).any (fun i => decide (d.outBase ≤ i ∧ i < d.outBase + d.outCount)))) 0x0D,
    codeIf (l.any (fun d => !descRange d) || l.zipIdx.any (fun e => e.1.model != e.2)) 0x0F,
    codeIf (two (fun d e => decide (d.outBase < e.outBase + e.outCount ∧ e.outBase < d.outBase + d.outCount))) 0x0D,
    codeIf ((List.range 16).any (fun t =>
      let on := l.filter (fun d => d.tileMask.testBit t)
      decide (1024 < sumList (on.map (·.sramKib)))
        -- the sum of BOUND_NS over release period above 0.9, over the common denominator of the periods
        || (let den := on.foldl (fun a d => a * descNs d) 1
            decide (9 * den < 10 * sumList (on.map (fun d => d.boundNs * (den / descNs d))))))) 0x0F,
    codeIf (l.any (fun d => decide ((b.regions.getD 3 0) * 1048576 < d.weightBase + d.weightBytes))
      || two (fun d e => decide (d.weightBase < e.weightBase + e.weightBytes ∧ e.weightBase < d.weightBase + d.weightBytes))) 0x11]

/-! ### The whole -/

/-- Semantic validation of one section. -/
def sectionCheck (v : State) (b : Bitstream) (code : Nat) : Option Nat :=
  match code with
  | 0x03 => check03 v b | 0x05 => check05 v b | 0x04 => check04 v b | 0x08 => check08 b | 0x0C => check0C b | 0x01 => check01 v b | 0x02 => check02 v b
  | 0x06 => check06 v b | 0x07 => check07 v b | 0x09 => check09 b | 0x0A => check0A b | _ => check0B b

/-- Step 6 of R91 over the sections `codes`: result and DETAIL. -/
def semCheck (s : State) (b : Bitstream) (codes : List Nat) : Nat × Nat :=
  let v := cfgView b s
  match codes.findSome? (fun c => (sectionCheck v b c).map (fun r => (r, c))) with
  | some r => r
  | none => (0, 0)

/-- Parts that stage-1 needs before THM's release, and those after it (R91). -/
def thmSections : List Nat := [0x03, 0x05, 0x04]
def restSections : List Nat := [0x08, 0x0C, 0x01, 0x02, 0x06, 0x07, 0x09, 0x0A, 0x0B]

/-- The values that the bitstream sets outside the sections of R85: the supervision timeout of R18, the core voltage at rest and the pace monitors' requirements of R19 (log 115). -/
def otherRange (b : Bitstream) : Bool := decide (100 ≤ b.superMs ∧ b.superMs ≤ 10000) && decide (650 ≤ b.restMv ∧ b.restMv ≤ 800)

/-- All six steps of R91: result and DETAIL, (0, 0) when accepted. -/
def cfgValidate (s : State) (b : Bitstream) : Nat × Nat :=
  let r := cfgProve s b
  if r.1 ≠ 0 then r else if ¬ otherRange b then (0x0F, 0) else semCheck s b (thmSections ++ restSections)

/-- The bitstream would apply live on the running one (R94). -/
def liveApplicable (old new : Bitstream) : Bool :=
  let sKeys := fun (b : Bitstream) => (b.dir.filter (fun d => d.part == 0)).map (fun d => (d.code, d.digest))
  let pKeys := fun (b : Bitstream) => (b.dir.filter (fun d => d.part == 1)).map (fun d => d.code)
  old.bind == new.bind && old.unit == new.unit && sKeys old == sKeys new && pKeys old == pKeys new

/-- P parts whose digest differs (R95). -/
def changedParts (old new : Bitstream) : List Nat :=
  (new.dir.filter (fun d => d.part == 1 && sectionDigest old d.code 1 != d.digest)).map (·.code)

end Sys2Proof.Machine
end

