-- ==== Sys2Proof/Machine/Commit.lean ====
section
/-! DEFINITION. Block commits (00_scope.md R12; 02 R74 DISCARD; 03 R99; 13 R377–R378), and the configuration-wide commit of a live apply (03 R94–R97). -/

namespace Sys2Proof.Machine

/-! ### Staged sets -/

/-- The staged words, value and complement, of the set that a COMMIT register commits. -/
def stagedWords (s : State) (reg : Nat) : Tab Word :=
  s.regs.words.filter (fun e => (match accOf e.1 with | .stg _ => true | _ => false) && commitOf e.1 == reg)

/-- The value words of a set. -/
def valueWords (ws : Tab Word) : Tab Word := ws.filter (fun e => accOf e.1 == .stg false)

/-- A staged word goes back to what is in force: the live value, or its complement (R74). -/
def discardWord (s : State) (e : Nat × Word) : Nat × Word :=
  match accOf e.1 with
  | .stg false => (e.1, liveWord s e.1)
  | .stg true => (e.1, ~~~ liveWord s (e.1 - 4))
  | _ => e

/-- Discard the staged words of every COMMIT register that `which` names (R74, R387). -/
def discardStaged (which : Nat → Bool) (s : State) : State :=
  { s with regs.words := s.regs.words.map (fun e => if which (commitOf e.1) then discardWord s e else e) }

/-- Code of a staged word in FIRST, as the block's chapter numbers it. -/
def firstOf (reg off : Nat) : Nat :=
  let b := reg / 0x10000
  let o := off % 0x10000
  if b = 0x08 then (if 0x2000 ≤ o ∧ o < 0x6000 then (o - 0x2000) / 0x40 else if 0x6000 ≤ o then 0x200 + (o - 0x6000) / 8 else 0x100)
  else if b = 0x09 then (if o = 0x40 then 0x3FF else o / 4)
  else if b = 0x0A then (if 0x8000 ≤ o then (o - 0x8000) / 0x40 else if 0x2000 ≤ o then 0xE0 + (o - 0x2000) / 0x40 else 0xDF)
  else if b = 0x0B then (if 0x1000 ≤ o then (o - 0x1000) / 0x40 else 0xFF)
  else if b = 0x0C then (o - 0x1000) / 0x20
  else if b = 0x14 then o / 4 % 256
  else if b = 0x0F then (if o % 0x400 = 0x380 then 0x10 else if o % 0x400 = 0x388 then 0x11 else (o % 0x400 - 0x300) / 8)
  else if b = 0x01 then (o - 0x100) / 0x40
  else if b = 0x1A then (if 0x100 ≤ o then (o - 0x100) / 0x20 else 0)
  else if b = 0x1C then o / 4 % 64
  else 0

/-- First violation of a block's staged set by its own rules: FIRST and result. -/
def blockCheck (s : State) (reg : Nat) (W : Nat → Word) : Option (Nat × Nat) :=
  match reg / 0x10000 with
  | 0x01 => fpcCheck W
  | 0x08 => seqCheck s W
  | 0x09 => shpCheck W
  | 0x0A => thmCheck s W
  | 0x0B => motCheck s W
  | 0x0C => lkfCheck s W
  | 0x0E => twpCheck s (reg / 0x1000 % 16) W
  | 0x0F => arbCheck ((reg - 0x0F0000) / 0x400) W
  | 0x14 => cusCheck s W
  | 0x15 => memCheck W
  | 0x17 => tbsCheck W
  | 0x19 => pmdCheck W
  | 0x1A => casCheck W
  | _ => updCheck W

/-- Offset of an operand reference that names a register outside the fabric (R98). -/
def agreeOff (ref : Nat) : Nat := ref / 2 ^ 24 * 0x10000 + ref % 0x10000

/-- An operand reference names a staged register of the set. -/
def agreeIn (reg ref : Nat) : Bool :=
  (agreeTile ref).isNone && (match accOf (agreeOff ref) with | .stg _ => true | _ => false) && commitOf (agreeOff ref) == reg

/-- First failing agreement record with an operand in the set: FIRST (R99). -/
def agreeBlock (s : State) (sets : Tab (Tab Pair)) (words : Tab Word) (reg : Nat) : Option Nat :=
  (agreesOf s).findSome? (fun g =>
    if (agreeIn reg g.a ∨ agreeIn reg g.b) ∧ !agreeHolds s sets words g then
      some (firstOf reg (agreeOff (if agreeIn reg g.a then g.a else g.b)))
    else none)

/-- Validation of a block's staged set beside the sets committed with it (R12, R99): ORDER for an agreement record. -/
def validateSet (s : State) (sets : Tab (Tab Pair)) (words : Tab Word) (reg : Nat) : Option (Nat × Nat) :=
  match blockCheck s reg (fun o => pairWord s o) with
  | some r => some r
  | none => (agreeBlock s sets words reg).map (fun f => (f, 3))

/-! ### A block's commit -/

def commitSt (s : State) (reg : Nat) : CommitS := tget {} s.regs.commits reg
def updCommit (reg : Nat) (f : CommitS → CommitS) (s : State) : State := { s with regs.commits := tupd {} s.regs.commits reg f }

/-- A commit request that completes. -/
def commitResult (reg first result : Nat) (s : State) : State :=
  updCommit reg (fun c => { c with pending := none, first := first, result := result, seq := inc8 c.seq }) s

/-- COMMIT registers whose staged sets a live apply of a part writes (R95). -/
def partRegs (b : Bitstream) (code : Nat) : List Nat :=
  match code with
  | 0x02 => [0x080058] | 0x03 => [0x0A0018] | 0x04 => [0x0B0030] | 0x05 => [0x0C0020]
  | 0x06 => b.twpPar.map (fun e => 0x0E0110 + 0x1000 * e.1)
  | 0x07 => b.arbPar.map (fun e => 0x0F0390 + 0x400 * e.1)
  | _ => []

/-- A live apply under way affects the block (R96). -/
def applyTouches (s : State) (reg : Nat) : Bool :=
  match s.cfg.apply with
  | some j => j.validated && j.parts.any (fun c => (partRegs j.cand c).contains reg)
  | none => false

/-- The key with the commit request: refused with BUSY while one is pending or a live apply affects the block, else validated whole. -/
def commitRequest (reg : Nat) (s : State) : State :=
  if (commitSt s reg).pending.isSome ∨ applyTouches s reg then
    updCommit reg (fun c => { c with result := 4, seq := inc8 c.seq }) s
  else
    let ws := stagedWords s reg
    match validateSet s [] ws reg with
    | some r => commitResult reg r.1 r.2 s
    | none =>
      let s := updCommit reg (fun c => { c with pending := some { requested := s.now, setWords := valueWords ws } }) s
      if reg / 0x10000 = 0x0F then updArb ((reg - 0x0F0000) / 0x400) (fun a => { a with swap := some (valueWords ws, s.now) }) s else s

/-- The boundary at which a validated set applies has come: strictly after the request, a multiple of 10 µs (R12, R129); for a two-wire port, a moment at which its bus
is idle (TWP_P_COMMIT); an arbiter's bank swaps at its window boundary instead (R377). -/
def commitDue (s : State) (reg : Nat) (j : CommitJob) : Bool :=
  if reg / 0x10000 = 0x0E then (twpPort s (reg / 0x1000 % 16)).cur.isNone
  else if reg / 0x10000 = 0x0F then false
  else decide (j.requested / (10 * us) < s.now / (10 * us))

/-- Put a set's value words in force. -/
def applyWords (ws : Tab Word) (s : State) : State := ws.foldl (fun s e => setLive e.1 e.2 s) s

/-- BLOCK_COMMIT_APPLY (R12). -/
def commitApply (reg : Nat) (s : State) : State :=
  match (commitSt s reg).pending with
  | some j => if commitDue s reg j then commitResult reg 0 0 (applyWords j.setWords s) else s
  | none => s

/-- Every pending set whose boundary has come. -/
def commitTick (s : State) : State :=
  forEach ((s.regs.commits.filter (fun e => e.2.pending.isSome)).map (·.1)) commitApply s

/-- BLOCK_COMMIT and BLOCK_DISCARD: a write of the COMMIT register (R12, R74); other values of KEY are ignored. -/
def commitWrite (path : Path) (reg : Nat) (w : Word) (s : State) : State :=
  withAuthority path reg w (fun s =>
    if fld w 15 0 ≠ 0xC7 then s
    else if bit w 16 then discardStaged (· == reg) s
    else commitRequest reg s) s

def doBlockCommit (path : Path) (reg : BitVec 24) (s : State) : State :=
  if isCommitReg reg.toNat then commitWrite path reg.toNat 0xC7#32 s else s
def doBlockDiscard (path : Path) (reg : BitVec 24) (s : State) : State :=
  if isCommitReg reg.toNat then commitWrite path reg.toNat 0x100C7#32 s else s
def doBlockCommitApply (reg : BitVec 24) (s : State) : State := commitApply reg.toNat s

/-! ### Loading a bitstream (R91, R95, R68) -/

/-- Put every section of a verified bitstream into its block, but for the fabric structure, which STRUCTURE_LOAD presents (R67). -/
def loadSections (b : Bitstream) (s : State) : State :=
  let s := { s with cfg.running := some b, mem.regions := b.regions, und.enFloat := false }
  let s := entryAtLoad s
  cnpLoadDescs b (arbLoad b (twpLoad b (seqLoad b (motLoad b (lkfLoad b (thmLoad b s))))))

/-- Regions of LPDDR5X whose base or size differs between two layouts (R328). -/
def regionsMoved (old new : List Nat) : List Nat :=
  (List.range 6).filter (fun i => sumList (old.take i) != sumList (new.take i) || (decide (i < 5) && old.getD i 0 != new.getD i 0))

/-- A structural apply discards what the moved regions held (R328): cleared remnant leaves, the tree, the recorder's window, the ledger's blocks, staged images. The models are
loaded anew in any case. -/
def discardRegions (l : List Nat) (s : State) : State :=
  let s := if l.contains 0 then { s with cus.remCleared := [], cus.withdrawn := [], cus.remData := [] } else s
  let s := if l.contains 1 then { s with cus.tree := none } else s
  let s := if l.contains 2 then { s with mem.rcd.words := [], mem.rcd.page := [], mem.rcd.events := [], mem.rcd.live := [], mem.rcd.badPages := [], mem.rcd.head := 0 } else s
  let s := if l.contains 4 then { s with dram := { ledgerLost := true } } else s
  if l.contains 5 then { s with mem.scratch := [] } else s

/-- STANDBY_APPLY (R68, R94, R97): a structural re-apply that waits finds the tray in standby with every rail off. The running structure is
cleared, and the candidate becomes the bitstream that the fabric and every block load. A fabric that has no structure goes straight on to LOADING (R67). -/
def doStandbyApply (s : State) : State :=
  match s.cfg.candidate with
  | none => s
  | some b =>
    if s.cfg.state = 3 ∧ (s.gld.state = .running ∨ s.gld.state = .noStructure) ∧ trayStandbyOff s then
      let t := discardRegions (regionsMoved s.mem.regions b.regions) (dropStructure s)
      loadSections b { t with gld.state := if s.gld.state = .running then .standbyApply else .noStructure, gld.loadFailed := false, cfg.candidate := none, cfg.state := 4 }
    else s

/-! ### Live apply (R94–R96) -/

/-- The words of a P part of a block. -/
def partWords (b : Bitstream) (code : Nat) : Tab Word :=
  match code with
  | 0x02 => seqParWords b | 0x03 => thmParWords b | 0x04 => motParWords b | 0x05 => lkfParWords b
  | 0x06 => b.twpPar.map (fun e => (twpBase e.1 + 0x108, w32 (e.2.lowTimeoutMs * 256 + e.2.filterTicks)))
  | 0x07 => arbParWords b
  | _ => []

/-- Tiles whose parameters a changed part 0x01 P changes. -/
def changedTiles (s : State) (b : Bitstream) : List Nat :=
  match s.cfg.running with
  | some r => (List.range 64).filter (fun t => (r.pairs[t]?).getD [] != (b.pairs[t]?).getD [])
  | none => []

/-- Stage a tile's new values over its live set, HELD pairs skipped (R86, R95). -/
def stageTile (b : Bitstream) (t : Nat) (s : State) : State :=
  let ps := (b.pairs[t]?).getD []
  updTile t (fun x =>
    { x with staged := (List.range ps.length).foldl (fun set k =>
        if ((tileRec s t).ptype[k]?).getD 0 / 128 % 2 = 1 then set else tput set k ((ps[k]?).getD {})) x.live }) s

/-- Stage the words of a part over what is in force. -/
def stagePart (b : Bitstream) (code : Nat) (s : State) : State :=
  let regs := partRegs b code
  let s := discardStaged (fun r => regs.contains r) s
  (partWords b code).foldl (fun s e => setWord (e.1 + 4) (~~~ e.2) (setWord e.1 e.2 s)) s

/-- The staged sets of the configuration-wide commit: tiles, and words by register. -/
def applySets (s : State) (j : ApplyJob) : Tab (Tab Pair) × Tab Word :=
  let ts := if j.parts.contains 1 then changedTiles s j.cand else []
  (ts.map (fun t => (t, (tileSt s t).staged)), (j.parts.flatMap (partRegs j.cand)).flatMap (stagedWords s))

/-- First set that the configuration-wide validation rejects: block base and result (R95). -/
def applyReject (s : State) (j : ApplyJob) : Option (Nat × Nat) :=
  let z := applySets s j
  match (j.parts.flatMap (partRegs j.cand)).findSome? (fun r => (validateSet s z.1 z.2 r).map (fun e => (r / 0x10000, e.2))) with
  | some r => some r
  | none =>
    let v := applyWords (valueWords z.2) s
    z.1.findSome? (fun e => (validateTile v z.1 e.1).map (fun r => (0x04 + e.1 / 16, r.2)))

def cfgReport (state block detail result : Nat) (s : State) : State :=
  { s with cfg.state := state, cfg.block := block, cfg.detail := detail, cfg.result := result }

/-- Steps 1–4 of a live apply (R95): staged sets discarded and written, one commit requested and validated. -/
def startLiveApply (b : Bitstream) (parts : List Nat) (retry : Bool) (s : State) : State :=
  let s := forEach parts (stagePart b) s
  let s := if parts.contains 1 then forEach (changedTiles s b) (stageTile b) s else s
  let j : ApplyJob := { cand := b, parts := parts, requested := s.now, validated := true, retry := retry }
  match applyReject s j with
  | some r => cfgReport 0 r.1 r.2 0x13 { s with cfg.apply := none }
  | none =>
    let z := applySets s j
    { s with cfg.apply := some { j with tiles := z.1, words := valueWords z.2 }, cfg.state := 4 }

/-- CONFIG_COMMIT_APPLY (R95): the first 1 ms boundary strictly after the request at which no affected tile is evaluating; `late` holds the tiles still evaluating.
The sets are those validated at the request: a write after it stays staged for the following commit (R12). -/
def configApply (late : List Nat) (s : State) : State :=
  match s.cfg.apply with
  | some j =>
    if j.validated ∧ j.requested / ms < s.now / ms ∧ (j.parts.contains 1 = false ∨ (changedTiles s j.cand).all (fun t => !late.contains t)) then
      let s := forEach j.tiles (fun e s => updTile e.1 (fun x => { x with live := e.2, commits := satInc 65535 x.commits }) s) s
      let s := applyWords j.words s
      cfgReport 0 0 0 0 { s with cfg.apply := none, cfg.running := some j.cand }
    else s
  | none => s

def doConfigCommitApply (s : State) : State := configApply [] s

/-- A restart of a processor during a live apply cancels the whole of it with INTERRUPTED (R96); a second one reports it as failed. -/
def interruptApply (p : Proc) (s : State) : State :=
  match s.cfg.apply with
  | some j =>
    if ¬ j.validated then s
    else
      let regs := j.parts.flatMap (partRegs j.cand)
      let s := discardStaged (fun r => regs.contains r) s
      let s := if j.parts.contains 1 then forEach (changedTiles s j.cand) tileDiscard s else s
      let s := cfgReport 0 0 0 0x14 s
      if j.retry then { s with cfg.apply := none }
      else { s with cfg.apply := some { j with validated := false, interrupted := true, awaiting := some p.num } }
  | none => s

/-- APPLY_RETRY (R96): SEC retries once after the processor is released. -/
def doApplyRetry (s : State) : State :=
  match s.cfg.apply with
  | some j =>
    if j.interrupted ∧ (j.awaiting.all (fun p => procRunning s (procOf p))) ∧ procRunning s .sec then startLiveApply j.cand j.parts true s
    else s
  | none => s

/-- A re-apply that a class judged live or structural begins (R94): live at once, structural when the tray is in standby. -/
def startApply (b : Bitstream) (s : State) : State :=
  match s.cfg.running with
  | some r => if liveApplicable r b then startLiveApply b (changedParts r b) false s else { s with cfg.candidate := some b, cfg.state := 3 }
  | none => s

/-- A structural apply ends when the fabric runs on the new structure (R67, R97); one whose load fails stays open, and SEQ keeps holding power-ups. -/
def applyEnd (s : State) : State :=
  if s.cfg.state = 4 ∧ s.cfg.apply = none ∧ s.gld.state = .running then cfgReport 0 0 0 0 s else s

end Sys2Proof.Machine
end

