-- ==== Sys2Proof/Machine/ReadAccess.lean ====
section
/-! DEFINITION. A read access: which offsets hold a register, what a read clears or latches, and the fault of a read of an unmapped or reserved offset (00_scope.md R9;
01_tray_steward_architecture.md R33–R36, and the register maps of every chapter). -/

namespace Sys2Proof.Machine

def inRanges (l : List (Nat × Nat)) (o : Nat) : Bool := l.any (fun r => decide (r.1 ≤ o) && decide (o < r.2))

/-- Offsets of a block below 0x0E that hold a register. -/
def mappedLow (b o : Nat) : Bool :=
  match b with
  | 0x00 => inRanges [(0, 0x0C), (0x10, 0x1C), (0x20, 0x28), (0x100, 0x104), (0x110, 0x11C)] o
  | 0x01 => inRanges [(0, 4), (8, 0x10)] o || (inRanges [(0x100, 0x280)] o && decide (o % 0x40 < 0x2C))
  | 0x02 => inRanges [(0, 8), (0x100, 0x210), (0x300, 0x410)] o || (inRanges [(0x800, 0x900)] o && decide (o % 0x20 < 0x14))
  | 0x03 => inRanges [(0, 0x18), (0x20, 0x3C), (0x40, 0x48), (0x100, 0x10C), (0x200, 0x20C), (0x240, 0x280), (0x4000, 0x7000)] o
  | 0x08 =>
    inRanges [(0, 8), (0x10, 0x30), (0x40, 0x64), (0x70, 0x74), (0x100, 0x148), (0x200, 0x218), (0x1000, 0x1C00), (0x6000, 0x8400)] o ||
      (inRanges [(0x2000, 0x6000)] o && decide (o % 0x40 < 0x38))
  | 0x09 =>
    inRanges [(0, 4), (0x10, 0x1C), (0x20, 0x28), (0x40, 0x50), (0x60, 0xA0), (0x100, 0x114), (0x120, 0x13C), (0x140, 0x15C), (0x200, 0x210), (0x240, 0x280),
              (0x4000, 0xC700)] o ||
      (inRanges [(0x400, 0x600)] o && decide (o % 0x40 < 0x38) && o % 0x40 != 0x2C)
  | 0x0A =>
    inRanges [(0, 0x2C), (0x30, 0x3C), (0x2000, 0x2800), (0x4000, 0x4354), (0x8000, 0xB540)] o ||
      (inRanges [(0x400, 0x480), (0x1000, 0x1200)] o && decide (o % 0x10 < 0x0C))
  | 0x0B => inRanges [(0, 8), (0x10, 0x18), (0x20, 0x2C), (0x30, 0x38), (0x40, 0x4C), (0x1000, 0x1400)] o || (inRanges [(0x100, 0x300)] o && decide (o % 0x20 < 0x1C))
  | 0x0C => inRanges [(0, 8), (0x10, 0x1C), (0x20, 0x28), (0x1000, 0x1400)] o || (inRanges [(0x100, 0x300)] o && decide (o % 0x10 < 0x0C))
  | _ =>
    decide (0x04 ≤ b ∧ b ≤ 0x07) &&
      (inRanges [(0x20, 0x28), (0x8400, 0x9C00)] o || (b == 0x04 && inRanges [(0, 0x20)] o) ||
       (inRanges [(0x400, 0x8400)] o && inRanges [(0, 0x18), (0x40, 0x300), (0x400, 0x800)] ((o - 0x400) % 0x800)))

/-- Offsets of a block from 0x0E up that hold a register. -/
def mappedHigh (b o : Nat) : Bool :=
  match b with
  | 0x0E =>
    let f := o % 0x1000
    inRanges [(0x100, 0x118), (0x118, 0x144), (0x150, 0x158)] f ||
      (inRanges [(0x400, 0xE00)] f && inRanges [(0, 0x0C), (0x10, 0x90), (0x100, 0x180)] ((f - 0x400) % 0x200))
  | 0x0F =>
    decide (o < 34 * 0x400) &&
      (let f := o % 0x400
       inRanges [(0, 0x14), (0x300, 0x39C)] f || (inRanges [(0x100, 0x300)] f && decide ((f - 0x100) / 0x20 < 16) && decide (f % 0x20 < 0x1C)))
  | 0x14 => inRanges [(0, 4), (0x10, 0x44), (0x48, 0x64), (0x70, 0xAC)] o || (inRanges [(0x400, 0x640)] o && (if o < 0x600 then decide (o % 0x40 < 0x30)
      else inRanges [(0, 4), (0x28, 0x30)] (o % 0x40)))
  | 0x15 => inRanges [(0, 4), (0x100, 0x130), (0x200, 0x220), (0x300, 0x31C), (0x320, 0x32C)] o
  | 0x16 => inRanges [(0, 4), (0x10, 0x18)] o || (inRanges [(0x1000, 0x1B00)] o && decide (o % 0x100 < 0x40))
  | 0x17 => inRanges [(0, 0x0C), (0x10, 0x28), (0x30, 0x3C)] o || (inRanges [(0x100, 0x180)] o && decide (o % 0x10 < 0x0C))
  | 0x18 => inRanges [(0, 4), (0x10, 0x24), (0x110, 0x1F0), (0x400, 0x480)] o
  | 0x19 => inRanges [(0, 0x0C), (0x10, 0x34), (0x40, 0x54)] o
  | 0x1A => inRanges [(0, 0x18)] o || (inRanges [(0x120, 0x180)] o && o % 0x20 != 0x0C)
  | 0x1B => decide (o < 0x28)
  | 0x1C => inRanges [(0, 4), (0x10, 0x24), (0x30, 0x48), (0x50, 0x5C), (0x60, 0x68)] o
  | _ =>
    decide (0x10 ≤ b ∧ b ≤ 0x13) &&
      ((inRanges [(0x1000, 0x5000)] o && decide (o % 0x1000 < 0x1C)) ||
       (b == 0x10 && (inRanges [(0, 0x28), (0x40, 0x80)] o || (inRanges [(0x8000, 0xA000)] o && decide (o % 0x100 < 0x2C)))))

/-- The control and status offset holds a register; the others are unmapped or reserved (R33, R36). -/
def mapped (off : Nat) : Bool :=
  match windowOf off with
  | some _ => let f := off % 0x100; decide (f < 0x4C) || inRanges [(0x60, 0x80)] f
  | none =>
    let b := off / 0x10000
    if b < 0x0E then mappedLow b (off % 0x10000) else decide (b < 0x1D) && mappedHigh b (off % 0x10000)

/-- The two-wire paging window, which reads 0 and ignores writes elsewhere (R35). -/
def pagingWindow (off : Nat) : Bool := decide (off / 0x10000 < 0x1D) && decide (0xFFF0 ≤ off % 0x10000)

/-- Clear what a read of the register clears (RC fields), and latch the high word of the time (TBS_TIME_LO). -/
def readEffect (off : Nat) (s : State) : State :=
  let b := off / 0x10000
  let o := off % 0x10000
  match windowOf off with
  | some u => if off % 0x100 = 0x48 then updWin u.key (fun w => { w with severe := 0, corrected := 0 }) s else s
  | none =>
    match b with
    | 0x02 =>
      if 0x800 ≤ o ∧ o < 0x900 ∧ o % 0x20 = 4 then
        { s with mbx.accepted := terase s.mbx.accepted ((o - 0x800) / 0x20), mbx.rejected := terase s.mbx.rejected ((o - 0x800) / 0x20) }
      else s
    | 0x03 => if o = 0x0C then { s with sec.fastMiss := 0 } else s
    | 0x08 => if o = 0x28 then { s with seq.waitMaxUs := 0 } else s
    | 0x0B => if o = 0x10 ∨ o = 0x14 then { s with mot.hbBad := terase s.mot.hbBad ((o - 0x10) / 4) } else s
    | 0x0E =>
      let p := o / 0x1000
      if o % 0x1000 = 0x120 then updTwp p (fun x => { x with nacks := 0, clears := 0, errors := 0 }) s
      else if o % 0x1000 = 0x150 then updTwp p (fun x => { x with alerts := 0 }) s
      else s
    | 0x0F =>
      let i := o / 0x400
      let f := o % 0x400
      if 34 ≤ i then s
      else if f = 0x10 then updArb i (fun a => { a with bites := 0 }) s
      else if 0x100 ≤ f ∧ f < 0x300 ∧ f % 0x20 = 0x10 then updReq i ((f - 0x100) / 0x20) (fun q => { q with waits := 0 }) s
      else if 0x100 ≤ f ∧ f < 0x300 ∧ f % 0x20 = 0x14 then updReq i ((f - 0x100) / 0x20) (fun q => { q with longest := 0 }) s
      else s
    | 0x14 => if o = 0x5C then { s with cus.refLoad := 0, cus.refScrub := 0 } else s
    | 0x15 =>
      if 0x200 ≤ o ∧ o < 0x220 then { s with mem.corr := terase s.mem.corr ((o - 0x200) / 4), mem.unc := terase s.mem.unc ((o - 0x200) / 4) }
      else if o = 0x318 then { s with mem.rcd.missed := 0, mem.rcd.lost := 0, mem.rcd.gaps := 0 }
      else s
    | 0x16 =>
      if o = 0x14 then { s with gcl.timeouts := 0, gcl.sent := 0 }
      else if 0x1000 ≤ o ∧ o < 0x1B00 then
        let p := (o - 0x1000) / 0x100
        (match o % 0x100 with
         | 0x18 => updPort p (fun q => { q with fecCorr := 0 }) s
         | 0x1C => updPort p (fun q => { q with fecUncorr := 0 }) s
         | 0x20 => updPort p (fun q => { q with crcErr := 0 }) s
         | 0x24 => updPort p (fun q => { q with replayed := 0 }) s
         | 0x3C => updPort p (fun q => { q with denied := 0, proto := 0 }) s
         | _ => s)
      else s
    | 0x17 =>
      if o = 0x00 then { s with tbs.hiLatch := half64 s.now 1 }
      else if o = 0x38 then { s with tbs.ppsOk := 0, tbs.ppsBad := 0 }
      else s
    | 0x18 =>
      if o = 0x00 then { s with nvs.corrected := 0 }
      else if 0x110 ≤ o ∧ o < 0x1F0 ∧ o % 0x10 = 0xC then { s with nvs.commits := terase s.nvs.commits ((o - 0x100) / 0x10) }
      else s
    | 0x1B => if o = 0x24 then { s with und.ind.presses := 0 } else s
    | _ =>
      if 0x04 ≤ b ∧ b ≤ 0x07 ∧ 0x400 ≤ o ∧ o < 0x8400 ∧ (o - 0x400) % 0x800 = 0x0C then
        updTile (16 * (b - 4) + (o - 0x400) / 0x800) (fun x => { x with ovSafety := 0, ovPace := 0 }) s
      else if 0x10 ≤ b ∧ b ≤ 0x13 ∧ 0x1000 ≤ o ∧ o < 0x5000 then
        let t := 4 * (b - 0x10) + (o - 0x1000) / 0x1000
        if o % 0x1000 = 0x08 then updCt t (fun x => { x with busyUs := 0 }) s
        else if o % 0x1000 = 0x14 then updCt t (fun x => { x with corrected := 0, uncorrected := 0 }) s
        else s
      else if b = 0x10 ∧ o = 0x24 then { s with cnp.dropped := 0 }
      else if b = 0x10 ∧ 0x8000 ≤ o ∧ o < 0xA000 ∧ o % 0x100 = 0x28 then updModel ((o - 0x8000) / 0x100) (fun x => { x with sat := 0, twinFail := 0 }) s
      else s

/-- The fault of an access to an unmapped or reserved offset (R36): offset, path, and the data of a write. -/
def unmappedFault (path : Path) (off : Nat) (w : Word) (s : State) : State :=
  raise uID 0 .contained { path := pathCode path, w1 := some (w32 off), w2 := w } s

/-- A read of one word: its value, and the state after it. -/
def readAccess (path : Path) (off : Nat) (s : State) : Word × State :=
  if mapped off then (regRead s off, readEffect off s)
  else if pagingWindow off then (0, s)
  else (0, unmappedFault path off 0 s)

/-- RC_READ (R9): a read of a read-to-clear field returns its value and clears it. -/
def doRcRead (path : Path) (offset : BitVec 24) (s : State) : State := (readAccess path offset.toNat s).2

/-- `n` words read in turn from `off` on. -/
def readRun (path : Path) : Nat → Nat → State → List Word × State
  | 0, _, s => ([], s)
  | n + 1, off, s =>
    let r := readAccess path off s
    let q := readRun path n (off + 4) r.2
    (r.1 :: q.1, q.2)

end Sys2Proof.Machine
end

