-- ==== Sys2Proof/Machine/Fpc.lean ====
section
/-! DEFINITION. Answers and events of the mailbox, and the firmware processors: release, READY, watchdog, restart (14_firmware_processors_and_mailboxes.md R383–R390,
R393–R395, R401, R403). -/

namespace Sys2Proof.Machine

/-! ### Answers and events (R390, R393–R395) -/

/-- Most payload bytes of a message on a channel (R390). -/
def mbxLimit (c : Nat) : Nat := if c = 4 then 240 else 4096

/-- Words in pieces of `n`. -/
def chunkWords (n : Nat) : Nat → List Word → List (List Word)
  | 0, _ => []
  | k + 1, l => if l.length ≤ n then [l] else l.take n :: chunkWords n k (l.drop n)

/-- The fragments of a message: same SEQ, FRAG counting from 0, MORE on all but the last (R390). -/
def fragments (c : Nat) (m : MbxOut) : List MbxOut :=
  let ps := chunkWords (mbxLimit c / 4) (m.words.length + 1) m.words
  ps.zipIdx.map (fun e => { m with words := e.1, flags := m.flags + e.2 % 256 * 256 + (if e.2 + 1 < ps.length then 4 else 0) })

/-- The doorbell that carries a message over a link port (R391): header words, trailer, payload. -/
def doorbellOf (c : Nat) (m : MbxOut) : GclMsg := .doorbell c ((wireWords m).take 4) ((wireWords m).getLastD 0) m.words

/-- Port toward the lead of the cascade on a follower, and toward the followers on the lead (R497). -/
def relayPort (s : State) : Nat := if isLead s then 9 else 10

/-- A message leaves on a channel: over UP, into the outbound buffer of MBX4, toward the lead, or to the requesting processor at once (R391, R395). -/
def mbxSend (c : Nat) (m : MbxOut) (s : State) : State :=
  let fs := fragments c m
  if c < 4 then forEach fs (fun f s => gclSend 0 (doorbellOf c f) s) s
  else if c = 4 then { s with mbx.out := tput s.mbx.out 4 (tget [] s.mbx.out 4 ++ fs) }
  else if c = 5 then forEach fs (fun f s => gclSend (relayPort s) (doorbellOf c f) s) s
  else s

/-- An answer of a channel: the status shows in MBX_C_STATUS, and OK and REFUSED are stored with their SEQ (R393). -/
def mbxReply (c : Nat) (m : MbxOut) (s : State) : State :=
  let s := { s with mbx.result := tput s.mbx.result c m.status }
  let s := if m.status = 0 ∨ m.status = 0x0C then { s with mbx.stored := tput s.mbx.stored c (m, s.now) } else s
  mbxSend c m s

/-- Answer an open request. -/
def answerReq (r : OpenReq) (status : Nat) (words : List Word) (s : State) : State :=
  mbxReply r.chan { major := r.major, typ := r.typ, seq := r.seq, status := status, flags := 1, words := words } { s with mbx.open_ := s.mbx.open_.erase r }

/-- The mailbox hardware answers an open request itself; it counts in REJECTED. -/
def hwAnswer (r : OpenReq) (status : Nat) (s : State) : State :=
  answerReq r status [] { s with mbx.rejected := tupd 0 s.mbx.rejected r.chan (satInc 65535) }

/-- A device event, to MBX0 and MBX4, each with the channel's own count (R390, R395). The event code is a free value (log 76). -/
def mbxEvent (seq : Word) (result : Word) (s : State) : State :=
  let code := w32 (Config.freeValue s.fresh)
  forEach [0, 4] (fun c s =>
    let n := tget 0 s.mbx.events c
    mbxSend c { major := 3, typ := 4, seq := w32 n, status := 0, flags := 2, words := [code, seq, result] } { s with mbx.events := tput s.mbx.events c (n + 1) })
    { s with fresh := s.fresh + 1 }

/-! ### Processors -/

/-- A failure event of a running trial (R447), numbered in the order of that rule (log 77). -/
def trialEvent (code : Nat) (s : State) : State :=
  if s.upd.record.state = 6 ∧ s.upd.event = none then { s with upd.event := some code } else s

/-- The processor whose restart discards a staged set; none owns those of TBS, PMD and CAS (R383). -/
def setOwner (reg : Nat) : Option Proc :=
  match reg / 0x10000 with
  | 0x01 => some .sec | 0x08 => some .pwr | 0x09 => some .pwr | 0x0A => some .thm | 0x0B => some .thm | 0x0C => some .thm
  | 0x0E => some (twpOwner (reg / 0x1000 % 16))
  | 0x0F => some (arbOwner ((reg - 0x0F0000) / 0x400))
  | 0x14 => some .cus | 0x15 => some .recd | 0x1C => some .hst
  | _ => none

/-- Requesters of the arbiters that are firmware of a processor (R358, R365): its windows on the two-wire ports, ARB_FLASH and ARB_FALCON. -/
def procRequesters (p : Proc) : List (Nat × Nat) :=
  let w := match p with | .pwr => [4] | .thm => [5] | .hst => [6] | .sec => [7] | .recd => [8] | .cus => []
  let fl := match p with | .sec => [(32, 0)] | .hst => [(32, 1)] | .recd => [(32, 2)] | _ => []
  let fa := match p with | .sec => [(33, 0)] | .cus => [(33, 1)] | .recd => [(33, 2)] | _ => []
  (List.range 16).flatMap (fun i => w.map (fun r => (16 + i, r))) ++ fl ++ fa

/-- A PROC_RESTART that names SEC, which SEC answers after its own READY (ch. 14, Coincidences). -/
def selfRestart (r : OpenReq) : Bool := r.typ == 0x50 && r.started && r.payload.headD 1 == 0#32

/-- A firmware transfer of the processor that is on a port's bus ends with ABORTED once its transaction has finished there (R361). -/
def abortOnBus (p : Proc) (t : Nat) (s : State) : State :=
  match (twpPort s t).cur with
  | some o => if (procRequesters p).contains (16 + t, twReq o.owner) then updTwp t (fun x => { x with curAbort := true }) s else s
  | none => s

/-- Steps 1–3 of R387: the mailbox aborts what the processor had in hand, arbiters flush its entries, and what it owns discards its staged sets. -/
def procStop (p : Proc) (s : State) : State :=
  let s := forEach (s.mbx.open_.filter (fun r => r.handler == p && !selfRestart r)) (fun r s => hwAnswer r 0x0A s) s
  let s := forEach (procRequesters p) (fun e s => arbFlush e.1 e.2 s) s
  let s := forEach (List.range 16) (abortOnBus p) s
  let s := discardStaged (fun reg => setOwner reg == some p) s
  let s := forEach ((List.range 64).filter (fun t => (tileRec s t).owner == p.num)) tileDiscard s
  let s := interruptApply p s
  let s := if p = .cus then cusProcRestart s else s
  if p = .sec then { s with sec.wdKick := s.now } else s

def recentRestarts (s : State) (p : Proc) : List Time := (procSt s p).recent.filter (fun t => decide (s.now < t + 600 * sec))

/-- The processor becomes HALTED (R388, R389). -/
def procHalt (p : Proc) (s : State) : State :=
  trialEvent 2 (raise uFPC 2 .contained { unit := p.num } (updProc p (fun x => { x with state := .halted }) s))

/-- A restart begins: RESTARTING, with its cause and time (R387). -/
def procBegin (p : Proc) (cause : Nat) (s : State) : State :=
  raise uFPC 0 .contained { unit := p.num, item := cause }
    (updProc p (fun x => { x with state := .restarting, cause := cause, causeAt := some s.now, restarts := satInc 0xFFFFFFFF x.restarts }) s)

/-- A restart cause (R386, R389): 1 TRAP, 2 WATCHDOG, 3 REQUEST, 4 UPDATE, 5 MEMORY. The third within 10 minutes halts the processor, or resets the chip for SEC; UPDATE does not
count (R442). -/
def procRestart (p : Proc) (cause : Nat) (s : State) : State :=
  if ¬ procRunning s p then s
  else
    let recent := if cause = 4 then recentRestarts s p else recentRestarts s p ++ [s.now]
    let s := updProc p (fun x => { x with recent := recent }) s
    let s := if cause = 1 ∨ cause = 2 ∨ cause = 5 then trialEvent 1 s else s
    let s := procStop p s
    if cause ≠ 4 ∧ 3 ≤ recent.length then
      if p = .sec then note (.chipReset 2) (procBegin p cause s)
      else procHalt p (updProc p (fun x => { x with cause := cause }) s)
    else procBegin p cause s

def fpcCtrlOff (p : Nat) : Nat := 0x010104 + 0x40 * p

/-- Act on a new TAG in FPC_P_CTRL: RELEASE starts a HELD processor at its vector (R384); RESTART restarts it, and takes it out of HALTED with its count cleared (R386, R389). -/
def fpcCommand (p : Proc) (w : Word) (s : State) : State :=
  let off := fpcCtrlOff p.num
  let tag := fld w 31 24
  if tag = lastTag s off then s
  else
    let s := setTag off tag s
    match fld w 1 0 with
    | 1 => if (procSt s p).state = .held then updProc p (fun x => { x with state := .starting, kick := s.now, gated := false }) s else s
    | 2 =>
      if (procSt s p).state = .halted then procBegin p 3 (updProc p (fun x => { x with recent := [] }) s)
      else procRestart p 3 s
    | _ => s

/-- FPC_P_CTRL accepts writes from SEC only (R401). -/
def fpcCtrlWrite (path : Path) (p : Proc) (w : Word) (s : State) : State :=
  withAuthority path (fpcCtrlOff p.num) w (fun s => fpcCommand p w (setPair (fpcCtrlOff p.num) w s)) s

def doProcRelease (path : Path) (p : Proc) (tag : Byte) (s : State) : State := fpcCtrlWrite path p (w32 (tag.toNat * 16777216 + 1)) s
def doFpcRestart (path : Path) (p : Proc) (tag : Byte) (s : State) : State := fpcCtrlWrite path p (w32 (tag.toNat * 16777216 + 2)) s

/-- PROC_READY (R385): FPC_P_READY accepts the key from its own processor; cause-to-READY of a restart is measured. -/
def doProcReady (path : Path) (p : Proc) (key : Word) (s : State) : State :=
  withAuthority path (0x01010C + 0x40 * p.num) key (fun s =>
    if fld key 15 0 = 0xA5 ∧ (procSt s p).state = .starting then
      updProc p (fun x => { x with state := .ready, restartMs := (match x.causeAt with | some t => (s.now - t) / ms | none => x.restartMs), causeAt := none }) s
    else s) s

/-- PROC_WD_KICK (R386); SEC's also services the device supervision watchdog (R18; log 85). -/
def doProcWdKick (path : Path) (p : Proc) (key : Word) (s : State) : State :=
  withAuthority path (0x010110 + 0x40 * p.num) key (fun s => if fld key 15 0 = 0xA5 then
      updProc p (fun x => { x with kick := s.now }) (if p = .sec then { s with sec.wdKick := s.now } else s) else s) s

/-- The processor watchdog's time in milliseconds. -/
def procWdMs (s : State) (p : Proc) : Nat := (liveWord s (0x010114 + 0x40 * p.num)).toNat

/-- PROC_WATCHDOG (R386): the watchdog was not serviced in time. -/
def doProcWatchdog (p : Proc) (s : State) : State := if (procSt s p).kick + procWdMs s p * ms ≤ s.now then procRestart p 2 s else s
def doProcTrap (p : Proc) (s : State) : State := procRestart p 1 s
def doProcMemoryError (p : Proc) (s : State) : State := procRestart p 5 s

/-- The processor starts at its vector from a checked copy. -/
def procStart (p : Proc) (s : State) : State := updProc p (fun x => { x with state := .starting, kick := s.now }) s

/-- The digest of an item that the Understory holds, where it agrees with its complement (R387, R419). -/
def retainedDigest (s : State) (kind index : Nat) : Option Digest :=
  let get := fun (r : Option BootRec) => r.bind (fun r => (r.digests.find? (fun d => d.1 == kind && d.2.1 == index)).map (·.2.2))
  if get s.und.bootRec = get s.und.bootRecC then get s.und.bootRec else none

/-- The digest of an item goes into the Understory with its complement (R419). -/
def keepDigest (kind index : Nat) (d : Digest) (s : State) : State :=
  let put := fun (r : BootRec) => { r with digests := (kind, index, d) :: r.digests.filter (fun e => !(e.1 == kind && e.2.1 == index)) }
  { s with und.bootRec := s.und.bootRec.map put, und.bootRecC := s.und.bootRecC.map put }

/-- FPC loads an image: its retained copy, entry vector and image digest (R384, R387, R419). -/
def loadCopy (p : Proc) (f : FwImage) (s : State) : State :=
  updProc p (fun x => { x with vector := w32 f.vector, image := lo32 (fwDigest f), copy := some f }) s

/-- A verified image becomes a processor's retained copy, and its digest is kept (R388, R419). -/
def storeCopy (p : Proc) (f : FwImage) (s : State) : State := loadCopy p f (keepDigest 1 p.num (fwDigest f) s)

/-- The retained copy, in which memory has changed the bytes `flips`, has the digest that the Understory holds (R387 step 5). -/
def copyIntact (s : State) (p : Proc) (flips : List (Nat × Byte)) : Bool :=
  match (procSt s p).copy with
  | some f => retainedDigest s 1 p.num == some (shake256 (ascii "DVS-KX8B-FW" ++ flipBytes (fwBody f) flips))
  | none => false

/-- PROC_RESTORE_DONE (R387, R388): the retained copy was restored and its digest checked; `flips` are the bytes of the copy that memory has changed. -/
def doProcRestoreDone (p : Proc) (flips : List (Nat × Byte)) (s : State) : State :=
  if (procSt s p).state ≠ .restarting then s
  else if copyIntact s p flips then procStart p s
  else
    let s := raise uFPC 1 .contained { unit := p.num } (updProc p (fun x => { x with copy := none }) s)
    if p = .sec then note (.chipReset 2) s else updProc p (fun x => { x with state := .reloading }) s

/-- PROC_RELOAD_DONE (R388): SEC fetched the processor's image from the flash slot in force, `none` where it could not be read, and verifies it as at boot. -/
def doProcReloadDone (p : Proc) (item : Option FlashItem) (s : State) : State :=
  if (procSt s p).state ≠ .reloading then s
  else match item with
    | none => procHalt p s
    | some i =>
      let s := rereads [i] s
      match i.body with
      | .fw f => if i.kind = 1 ∧ i.index = p.num ∧ badReads i < 3 ∧ fwCheck s p.num f = 0 then procStart p (storeCopy p f s) else procHalt p s
      | _ => procHalt p s

end Sys2Proof.Machine
end

