-- ==== Sys2Proof/Machine/Upd.lean ====
section
/-! DEFINITION. Field update: staging, classes, arming, proving, the switch point, trial, confirmation and fallback (16_field_update.md). -/

namespace Sys2Proof.Machine

/-! ### The record and the results -/

/-- The UPDATE record changes and its commit is queued (R442, R470). -/
def saveRecord (r : UpdateRec) (s : State) : State :=
  nvsQueue { rank := 3, area := 0x03, payload := some (.update r), length := 64 } { s with upd.record := r }

/-- A record is in the store with no newer commit waiting. -/
def recordSaved (s : State) (r : UpdateRec) : Bool := s.nvs.queue.all (fun j => j.area != 0x03) && nvsNewest s 0x03 == some (.update r)

def updResult (result detail : Nat) (s : State) : State := { s with upd.result := result, upd.detail := detail }

/-- A bit of a two-slot mask, set or cleared. -/
def slotBit (m slot : Nat) (b : Bool) : Nat := if b then m ||| 2 ^ slot else (if m.testBit slot then m - 2 ^ slot else m)

/-- The record of an update that ended: state IDLE, nothing armed. -/
def idleRec (r : UpdateRec) : UpdateRec := { r with state := 0, mode := 0 }

/-! ### Staging (R433–R439) -/

def setItem (t : FlashSet) (k i : Nat) : Option FlashItem := t.items.find? (fun x => x.kind == k && x.index == i)

/-- The installed item that a part names. -/
def partBase (inst : Option FlashSet) (p : PkgPart) : Option FlashItem := inst.bind (fun t => setItem t p.kind p.index)

/-- The bytes a part builds (R433, R434): the installed item for KEEP, the part's data for FULL, what its delta makes of the installed item for DELTA. -/
def partBuilt (inst : Option FlashSet) (p : PkgPart) : Option (List Byte) :=
  let base := (partBase inst p).map (fun i => itemBytes i.body)
  match p.mode with
  | 0 => base
  | 1 => some p.data
  | _ => base.bind (fun b => applyDelta b (p.data.length + 1) p.data)

/-- First failing check of building a part: 4 BASE, 5 DELTA, 6 RESULT_CRC (R434, R436). -/
def partCheck (inst : Option FlashSet) (p : PkgPart) : Nat :=
  match partBase inst p, partBuilt inst p with
  | none, none => 4
  | some i, none => if crc32c (itemBytes i.body) = p.baseCrc then 5 else 4
  | b, some l =>
    if p.mode = 2 ∧ (b.map (fun i => crc32c (itemBytes i.body))) ≠ some p.baseCrc then 4
    else if l.length ≠ p.length then 5
    else if crc32c l ≠ p.crc then 6 else 0

/-- The items of the new set one behind the other from the first 4 KiB on (R406; log 145), each with RESULT_CRC in its entry (R436 step 5). -/
def placeParts (inst : Option FlashSet) : Nat → List PkgPart → List FlashItem
  | _, [] => []
  | o, p :: r =>
    let view := if p.mode = 0 then (partBase inst p).map (·.body) else p.view
    { kind := p.kind, index := p.index, offset := o, length := p.length, crc := p.crc, reads := p.reads, body := readItem view ((partBuilt inst p).getD []) }
      :: placeParts inst (o + (p.length + 4095) / 4096 * 4096) r

/-- The new set as its directory has it. -/
def stagedSet (inst : Option FlashSet) (seq : Nat) (p : Package) : FlashSet :=
  let t : FlashSet := { seq := seq, items := placeParts inst 4096 p.parts }
  { t with crc := crc32c (dirBytes t) }

/-- Bytes of flash that the directory and the results take. -/
def packageSpan (p : Package) : Nat := 4096 + sumList (p.parts.map (fun x => (x.length + 4095) / 4096 * 4096))

/-- The header, entry and length rules of R433, and the two CRCs. -/
def packageForm (p : Package) : Bool :=
  p.magic == 0x5055584B && p.fmt == 1 && p.length == p.arrived && p.entriesCrc == crc32c (p.parts.flatMap partEntryBytes) && p.hdrCrc == crc32c (pkgHeadBytes p)
    && decide (p.maxDefer ≤ 10080)
    && p.parts.all (fun x => decide (x.mode ≤ 2 ∧ x.offset + x.data.length ≤ p.length) && (x.mode != 0 || x.data == []) && (x.mode == 2 || x.baseCrc == 0#32))

/-- Steps 1–3 of R436, for the inactive slot `slot`; while LPDDR5X is untrained a package has at most 16 MiB. -/
def packageCheck (s : State) (slot : Nat) (p : Package) : Nat :=
  let keys := p.parts.map (fun x => (x.kind, x.index))
  if ¬ p.sourceOk ∨ (¬ dramTrained s ∧ 16777216 < p.arrived) then 0x0F
  else if ¬ packageForm p then 1
  else if p.hwtype ≠ 0x4238584B then 2
  else if 2 ≤ p.bind ∨ (p.bind = 1 ∧ p.unit ≠ Config.unitId % 2 ^ 64) ∨ (p.bind = 0 ∧ p.unit ≠ 0) then 3
  else if ¬ setValid keys ∨ Config.flashSize slot < packageSpan p ∨ 4294967296 < packageSpan p then 7 else 0

/-- The new set's SEC image and FW_SVN are those in force. -/
def sameSec (s : State) (t : FlashSet) : Bool :=
  setFw t 0 == s.sec.set.bind (fun u => setFw u 0) && (setFw t 0).map (·.svn) == some (fwSvnOf s)

/-- Class of a staged set (R439): 0 LIVE, 1 RESET, 2 STANDBY. -/
def classOf (s : State) (t : FlashSet) : Nat :=
  let live : Bool := match setBits t, s.cfg.running with | some n, some o => liveApplicable o n | _, _ => false
  if !live then 2 else if sameSec s t then 0 else 1

/-- A staging that is refused; the directory is erased only from step 4 on, so an earlier staged set outlives a refusal in steps 1–3. -/
def stagingRefused (code detail : Nat) (erased : Bool) (s : State) : State :=
  let s := if erased then { s with upd.staged := none } else s
  let st := if s.upd.staged.isSome then 2 else 0
  raise uUPD 0 .corrected { w1 := some (w32 code) } (saveRecord { s.upd.record with state := st } (updResult code detail { s with upd.staging := false }))

/-- STAGING_DONE (R436–R439): HST worked through the package, built the items and read the directory back. -/
def doStagingDone (p : Package) (s : State) : State :=
  if s.upd.record.state ≠ 1 ∨ ¬ procRunning s .hst then s
  else
    let c := packageCheck s (1 - s.upd.record.inForce) p
    if c ≠ 0 then stagingRefused c 0 false s
    else
      let inst := s.sec.set
      match p.parts.zipIdx.find? (fun e => partCheck inst e.1 != 0) with
      | some e => stagingRefused (partCheck inst e.1) e.2 true s
      | none =>
        let t := stagedSet inst (s.upd.record.seqInForce + 1) p
        let s := rereads t.items s
        if ¬ p.flashOk ∨ t.items.any (fun i => badReads i == 3) then stagingRefused 8 0 true s
        else
          let cls := classOf s t
          let s := { s with upd.staging := false, upd.staged := some t, upd.stagedFmt := p.setFmt, upd.maxDefer := p.maxDefer, upd.cls := cls }
          updResult 0 0 (saveRecord { s.upd.record with state := 2, mode := 0, cls := cls, seqStaged := t.seq } s)

/-- UPDATE_STAGE begins (R438): refused with STATE from ARMED on, and while a staging runs. -/
def beginStaging (s : State) : State := saveRecord { s.upd.record with state := 1 } { s with upd.staging := true }
def mayStage (s : State) : Bool := s.upd.record.state == 0 || s.upd.record.state == 2

/-! ### Arming (R440) -/

/-- The AT_TIME activation time in the registers. -/
def updTime (s : State) : Time := (regWord s 0x1C0018).toNat + 2 ^ 32 * (regWord s 0x1C001C).toNat

def armSet (mode : Nat) (s : State) : State :=
  let st := s.upd.record.state
  if 5 ≤ st ∨ st = 1 then updResult 9 0 s
  else if st = 0 ∨ s.upd.staged = none then updResult 0x0A 0 s
  else
    let s := if st = 2 then s else mbxEvent 0#32 0x0D#32 s
    let t := updTime s
    updResult 0 0 (saveRecord { s.upd.record with state := 3, mode := mode, armTime := if mode = 1 then t else 0
                                                  windowEnd := if mode = 1 then t + s.upd.maxDefer * minuteNs else 0 }
      { s with upd.deferAt := none, upd.deferS := 0, upd.undisc := false })

/-- Act on a new TAG in UPD_CMD. -/
def updCommand (w : Word) (s : State) : State :=
  let tag := fld w 31 24
  if tag = lastTag s 0x1C0010 then s
  else
    let s := setTag 0x1C0010 tag s
    let st := s.upd.record.state
    match fld w 3 0 with
    | 1 => armSet 1 { s with upd.resTag := tag }
    | 2 => armSet 2 { s with upd.resTag := tag }
    | 3 =>
      let s := { s with upd.resTag := tag }
      if st = 3 ∨ st = 4 then updResult 0 0 (saveRecord { s.upd.record with state := 2, mode := 0 } { s with upd.deferAt := none }) else updResult 9 0 s
    | 4 =>
      let s := { s with upd.resTag := tag }
      if st = 6 then updResult 0 0 (trialEvent 6 s) else updResult 9 0 s
    | _ => s

/-- A write of the UPD_CMD pair (R452). -/
def updCmdWrite (path : Path) (w : Word) (s : State) : State := withAuthority path 0x1C0010 w (fun s => updCommand w (setPair 0x1C0010 w s)) s

def updWord (tag op : Nat) : Word := w32 (tag * 16777216 + op)
def doUpdArmTime (path : Path) (tag : Byte) (s : State) : State := updCmdWrite path (updWord tag.toNat 1) s
def doUpdArmReset (path : Path) (tag : Byte) (s : State) : State := updCmdWrite path (updWord tag.toNat 2) s
def doUpdCancel (path : Path) (tag : Byte) (s : State) : State := updCmdWrite path (updWord tag.toNat 3) s
def doUpdRollback (path : Path) (tag : Byte) (s : State) : State := updCmdWrite path (updWord tag.toNat 4) s

/-! ### Activation and deferral (R441, R443–R445) -/

/-- The tray is in standby or has no rail table. -/
def trayDownFor (s : State) : Bool := s.seq.trayState == 0 || s.seq.trayState == 1

/-- A condition of R445 holds. -/
def deferBlocked (s : State) : Bool :=
  s.und.updHold || emergency s || s.cus.restart != 0 || s.seq.adopting || (s.upd.record.cls == 2 && !trayDownFor s)

/-- What held before the switch point (R446): LPDDR5X trained, UP ACTIVE, models in WARMUP or RUNNING. -/
def markBefore (s : State) : State :=
  { s with upd.wasTrained := dramTrained s, upd.wasUp := portActive s 0
           upd.wasRunning := (List.range 32).filter (fun m => (cnpModel s m).state == 4 || (cnpModel s m).state == 5) }

def enterDeferred (s : State) : State :=
  raise uUPD 1 .corrected {} (saveRecord { s.upd.record with state := 4 }
    { s with upd.deferAt := some s.now, upd.proving := false })

/-- The activation starts: proving for LIVE and STANDBY; for RESET the boot proves the set (R441). -/
def startActivation (s : State) : State :=
  let s := markBefore { s with upd.deferS := deferSeconds s, upd.deferAt := none, upd.undisc := s.tbs.undisc }
  let s := saveRecord { s.upd.record with state := 5 } s
  if s.upd.record.cls = 1 then s else { s with upd.proving := true, cfg.state := if s.cfg.state = 0 then 1 else s.cfg.state }

def cancelWindow (s : State) : State :=
  raise uUPD 2 .contained {} (updResult 0x0C 0 (saveRecord { s.upd.record with state := 2, mode := 0 } { s with upd.deferAt := none }))

/-- ACTIVATION_TIME (R445), at the first microsecond at or after the time; a window that has passed, as on a restarted timebase, is cancelled. -/
def doActivationTime (s : State) : State :=
  let r := s.upd.record
  if r.state = 3 ∧ r.mode = 1 ∧ r.armTime ≤ s.now then
    (if r.windowEnd + us ≤ s.now then cancelWindow s else if deferBlocked s then enterDeferred s else startActivation s)
  else s

/-- DEFER_END (R445). -/
def doDeferEnd (s : State) : State :=
  if s.upd.record.state = 4 ∧ ¬ deferBlocked s ∧ s.now ≤ s.upd.record.windowEnd then startActivation s else s

/-- DEFER_WINDOW_END (R445). -/
def doDeferWindowEnd (s : State) : State :=
  if s.upd.record.state = 4 ∧ s.upd.record.windowEnd ≤ s.now then cancelWindow s else s

/-! ### Proving (R441) -/

/-- Verify an item's bytes as their format requires: 0 or a boot code (R430). -/
def proveBody (s : State) (kind index : Nat) (b : ItemBody) : Nat :=
  match kind, b with
  | 1, .fw f => fwCheck s index f
  | 2, .bits b => if (cfgValidate s b).1 = 0 then 0 else 0x0A
  | 3, .model m => if ¬ imgFormatOk m m.total ∨ m.model ≠ index then 5 else keyCheck s false m.sig (imageDigest m)
  | 4, .trim f => fwCheck s 0x10 f
  | _, _ => 5

/-- Verify an item's internal copy as at boot: 0 or a boot code (R407, R430). -/
def proveItem (s : State) (i : FlashItem) : Nat := if badReads i = 3 then 3 else proveBody s i.kind i.index i.body

/-- The six images carry one SVN (R409). -/
def oneSvn (t : FlashSet) : Bool := (((List.range 6).filterMap (fun p => (setFw t p).map (·.svn))).eraseDups).length == 1

/-- Items of a set that differ from the set in force. -/
def changedItems (s : State) (t : FlashSet) : List FlashItem :=
  t.items.filter (fun i => match s.sec.set.bind (fun u => setItem u i.kind i.index) with | some j => j.body != i.body | none => true)

/-- Report of a refused bitstream in SEC_CFG_STATUS (R93, R100): the transport failure of its copy, or what R91 found. -/
def reportBits (i : FlashItem) (s : State) : State :=
  match i.body with
  | .bits b => if badReads i = 3 then cfgReport 0 0 0 0x15 s else (let r := cfgValidate s b; if r.1 ≠ 0 then cfgReport 0 0 r.2 r.1 s else s)
  | _ => s

/-- Prove a set's changed items: code 0 when every one passes. A bitstream refused shows in SEC_CFG_STATUS too. -/
def proveSet (s : State) (t : FlashSet) : Nat × State :=
  let l := changedItems s t
  let s' := rereads l { s with cfg.state := if s.cfg.state = 1 ∨ s.cfg.state = 2 then 0 else s.cfg.state }
  match l.find? (fun i => proveItem s i != 0) with
  | some i => (proveItem s i, reportBits i s')
  | none => (if oneSvn t then 0 else 9, s')

/-- Proving ended in a failure: the slot is rejected and the state is IDLE. -/
def provingFailed (slot code : Nat) (s : State) : State :=
  raise uUPD 3 .contained { w1 := some (w32 code) } (updResult 0x0B code
    (saveRecord (idleRec { s.upd.record with rejected := slotBit s.upd.record.rejected slot true }) { s with upd.proving := false, upd.staged := none }))

/-- The record of the trial that the switch point commits (R442). -/
def trialRec (s : State) (t : FlashSet) : UpdateRec :=
  let r := s.upd.record
  let new := 1 - r.inForce
  { r with inForce := new, previous := r.inForce, confirmed := slotBit r.confirmed new false, state := 6, switchTime := s.now, pausedS := 0, fmtInForce := s.upd.stagedFmt
           fmtPrevious := r.fmtInForce, seqInForce := t.seq, seqStaged := 0 }

/-- Queue a record whose commit is a switch. -/
def queueSwitch (r : UpdateRec) (s : State) : State :=
  nvsQueue { rank := 3, area := 0x03, payload := some (.update r), length := 64 } { s with upd.switchRec := some r }

/-- PROVING_DONE (R441, R445). -/
def doProvingDone (s : State) : State :=
  if s.upd.record.state ≠ 5 ∨ ¬ s.upd.proving then s
  else if emergency s then enterDeferred s
  else match s.upd.staged with
    | none => provingFailed (1 - s.upd.record.inForce) 2 s
    | some t =>
      let p := proveSet s t
      if p.1 ≠ 0 then provingFailed (1 - s.upd.record.inForce) p.1 p.2
      else queueSwitch (trialRec p.2 t) { p.2 with upd.proving := false }

/-! ### The switch (R442, R450) -/

/-- Settings record of an area. -/
def settingsOf (s : State) (a : Nat) : Option SettingsRec := match nvsNewest s a with | some (.settings r) => some r | _ => none

/-- The settings area firmware of a format uses: area 0 preferred (R477). -/
def settingsArea (s : State) (fmt : Nat) : Option Nat :=
  [0x0C, 0x0D].find? (fun a => match settingsOf s a with | some r => r.hwtype == 0x4238584B && r.fmt == fmt | none => false)

/-- New firmware writes a copy of every setting in its own format to the other area (R450). -/
def copySettings (old new : Nat) (s : State) : State :=
  if old = new then s
  else match settingsArea s old with
    | some a =>
      match settingsOf s a with
      | some r =>
        nvsQueue { rank := 4, area := 0x19 - a, payload := some (.settings { r with fmt := new, setSeq := r.setSeq + 1 }), length := 16 + 8 * r.entries.length } s
      | none => s
    | none => s

/-- A settings record of the forerunner's hardware type is not converted (R451). -/
def forerunnerSettings (s : State) : State :=
  forEach ([0x0C, 0x0D].filter (fun a => match settingsOf s a with | some r => r.hwtype != 0x4238584B | none => false))
    (fun a s => raise uUPD 5 .corrected { unit := a } s) s

/-- Run a set on the running device: processors with changed images restart with cause UPDATE, then the bitstream applies, then REC reloads changed models (R439, R442). -/
def runSet (t : FlashSet) (s : State) : State :=
  let old := s.sec.set
  let changedFw := (List.range 6).filter (fun p => setFw t p != old.bind (fun u => setFw u p))
  let models := (setModels t).filter (fun m => (old.map (fun u => (setModels u).all (fun x => x != m))).getD true)
  let s := { s with sec.set := some t }
  let s := forEach changedFw (fun p s =>
    let s := match setFw t p with | some f => storeCopy (procOf p) f s | none => s
    if (procSt s (procOf p)).state = .halted then procBegin (procOf p) 4 (updProc (procOf p) (fun x => { x with recent := [] }) s) else procRestart (procOf p) 4 s) s
  let s := match setBits t with
    | some b => if s.cfg.running = some b then s else startApply b { s with upd.applying := true }
    | none => s
  bootNext 32 { s with cnp.boot := s.cnp.boot ++ models.filter (fun i => imageSigned s i && (match descOf s i.model with | some d => d.flags % 2 == 1 | none => false)) }

/-- The record of a switch is in the store: the trial begins, or the previous set is back (R442, R448). A STANDBY set with another SEC image or FW_SVN starts by a chip reset. -/
def takeSwitch (r : UpdateRec) (s : State) : State :=
  let t := if r.state = 6 then s.upd.staged else s.upd.prev
  let fmtOld := s.upd.record.fmtInForce
  let s := { s with upd.record := r, upd.switchRec := none, upd.event := none, upd.pausedNs := 0, upd.pauseAt := none
                    upd.trialMin := fld (liveWord s 0x1C0038) 15 0, upd.soakMin := fld (liveWord s 0x1C0038) 31 16 }
  let s := if r.state = 6 then updResult 0 0 (copySettings fmtOld r.fmtInForce { s with upd.prev := s.sec.set, upd.staged := none })
           else { s with upd.prev := none, upd.staged := none }
  match t with
  | some t => if sameSec s t then runSet t s else note (.chipReset 4) s
  | none => s

/-! ### Trial, confirmation and fallback (R446–R448) -/

/-- The conditions of R446. -/
def confirmOk (s : State) : Bool :=
  s.sec.phase == 2 && s.sec.code == 0 && (List.range 6).all (fun p => (procSt s (procOf p)).state == .ready) && s.gld.state == .running
    && (dramTrained s || !s.upd.wasTrained) && (portActive s 0 || !s.upd.wasUp)
    && s.upd.wasRunning.all (fun m => (cnpModel s m).state != 2 && (cnpModel s m).state != 6)

/-- Confirmation (R446, R450): the slot is confirmed, the bitstream floor rises, the older settings format is erased, the state is IDLE. -/
def confirmSet (s : State) : State :=
  let r := s.upd.record
  let s := saveRecord (idleRec { r with confirmed := slotBit r.confirmed r.inForce true }) s
  let svn := match s.cfg.running with | some b => b.svn | none => 0
  let s := if floorSvn s < svn then nvsQueue { rank := 3, area := 0x04, payload := some (.floors svn), length := 32 } s else s
  let s := if r.fmtInForce = r.fmtPrevious then s
    else match settingsArea s r.fmtPrevious with
      | some a => nvsQueue { rank := 4, area := a, payload := none, length := 0, erase := true } s
      | none => s
  updResult 0 0 { s with upd.prev := none, upd.event := none }

/-- The evaluation once per second. -/
def confirmTick (s : State) : State :=
  if s.upd.record.state = 6 ∧ s.upd.event = none ∧ s.upd.record.switchTime + s.upd.soakMin * minuteNs ≤ s.now ∧ confirmOk s then confirmSet s else s

/-- A failure event moves the trial to the fallback (R447). -/
def fallbackBegins (s : State) : State :=
  if s.upd.record.state = 6 ∧ s.upd.event.isSome then
    raise uUPD 4 .contained { w1 := some (w32 (s.upd.event.getD 0)) } (saveRecord { s.upd.record with state := 7 } s)
  else s

/-- TRIAL_EXPIRY (R447). -/
def doTrialExpiry (s : State) : State :=
  if s.upd.record.state = 6 ∧ s.upd.trialMin * minuteNs ≤ trialNs s then fallbackBegins (trialEvent 7 s) else s

/-- The record after a fallback (R448). -/
def fellBackRec (r : UpdateRec) : UpdateRec :=
  { idleRec r with inForce := r.previous, previous := r.inForce, rejected := slotBit r.rejected r.inForce true, fmtInForce := r.fmtPrevious, fmtPrevious := r.fmtInForce }

/-- FALLBACK_START (R448): the previous set is proven again and takes over, by a chip reset for class RESET. -/
def doFallbackStart (s : State) : State :=
  let r := s.upd.record
  if r.state ≠ 7 ∨ emergency s ∨ (r.cls = 2 ∧ ¬ trayDownFor s) then s
  else
    let d := s.upd.event.getD 0
    match s.upd.prev with
    | none => saveRecord { r with state := 8 } s
    | some t =>
      if r.cls = 1 then saveRecord { r with state := 8 } s
      else
        let p := proveSet s t
        if p.1 ≠ 0 then provingFailed r.previous p.1 p.2
        else queueSwitch { fellBackRec r with seqInForce := t.seq } (updResult 0x0E d { p.2 with upd.record := { r with state := 8 } })

/-! ### What follows of itself (R442, R444, R445, R447) -/

/-- The trial clock pauses while an emergency is in force (R447). -/
def trialClock (s : State) : State :=
  if s.upd.record.state ≠ 6 then s
  else match s.upd.pauseAt with
    | none => if emergency s then { s with upd.pauseAt := some s.now } else s
    | some t =>
      if emergency s then s
      else
        let n := s.upd.pausedNs + (s.now - t)
        saveRecord { s.upd.record with pausedS := n / sec } { s with upd.pausedNs := n, upd.pauseAt := none }

/-- The apply that a switch began has ended; a failed one is a failure event (R442). -/
def applyWatch (s : State) : State :=
  if s.upd.applying ∧ s.cfg.apply = none ∧ s.cfg.state = 4 ∧ s.gld.state = .noStructure ∧ s.gld.loadFailed then trialEvent 5 { s with upd.applying := false }
  else if s.upd.applying ∧ s.cfg.apply = none ∧ s.cfg.state = 0 then
    let s := { s with upd.applying := false }
    if s.cfg.result ≠ 0 then trialEvent 5 s else s
  else s

/-- A switch whose commit is in the store takes effect; one that another commit of the area displaced is queued again. -/
def switchWatch (s : State) : State :=
  match s.upd.switchRec with
  | some r =>
    if s.nvs.queue.any (fun j => j.area == 0x03) then s
    else if recordSaved s r then takeSwitch r s
    else queueSwitch r s
  | none => s

/-- An activation or a fallback that goes by a chip reset starts it once its record is in the store (R442). -/
def resetWatch (s : State) : State :=
  let r := s.upd.record
  if s.sec.phase = 2 ∧ recordSaved s r ∧ s.upd.switchRec = none ∧ ((r.state = 5 ∧ r.cls = 1) ∨ r.state = 8) then note (.chipReset 4) s else s

/-- Everything of this chapter that follows from the state without a command. -/
def updReact (s : State) : State :=
  let s := if (s.cfg.state = 1 ∨ s.cfg.state = 2) ∧ ¬ s.upd.proving then { s with cfg.state := 0 } else s
  let s := if s.upd.record.state = 1 ∧ ¬ procRunning s .hst ∧ ¬ (procSt s .hst).gated then
      saveRecord { s.upd.record with state := if s.upd.staged.isSome then 2 else 0 } { s with upd.staging := false } else s
  let s := if s.upd.record.state = 5 ∧ (s.upd.proving ∨ s.upd.record.cls = 1) ∧ emergency s then enterDeferred s else s
  trialClock (resetWatch (switchWatch (fallbackBegins (applyWatch s))))

end Sys2Proof.Machine
end

