-- ==== Sys2Proof/Machine/Sec.lean ====
section
/-! DEFINITION. The boot chain, release of the processors, recovery wait, key records, and the supervision watchdog (15_boot_keys_and_attestation.md; R18, R91, R92). -/

namespace Sys2Proof.Machine

/-! ### The set a start boots (R415, R418, R440, R444, R447, R448) -/

/-- The slot named by the update state. An armed set switches at a power-on reset, and at a chip reset unless it is of class STANDBY or the update hold is set; a trial that
failed gives way to the previous set. -/
def recordSlot (s : State) : Nat :=
  let r := updateRec s
  let other := 1 - r.inForce
  let chip := !s.und.porStart && !s.sec.exitD3
  if r.state = 3 ∧ r.mode = 2 then (if s.und.porStart || (chip && r.cls != 2 && !s.und.updHold) then other else r.inForce)
  else if r.state = 5 ∧ r.cls = 1 then (if s.und.updHold then r.inForce else other)
  else if r.state = 7 ∨ r.state = 8 ∨ (r.state = 6 ∧ s.upd.event.isSome) then r.previous
  else r.inForce

def bootSlot (s : State) : Nat :=
  match s.und.straps.bootSrc with
  | 1 => 0
  | 2 => 1
  | _ => match s.und.altGo with | some e => e.1 | none => recordSlot s

/-! ### Verification of a set (R404, R407–R409, R412, R416, R419) -/

/-- The SEC image, and the items stage-1 works on, in its order. -/
def stageOrder : List (Nat × Nat) := [(2, 0), (4, 0), (1, 2), (1, 1), (1, 4), (1, 3), (1, 5)]

/-- Bit of SEC_RCV_NEED of an item. -/
def needBit (e : Nat × Nat) : Nat := if e.1 = 1 then e.2 else if e.1 = 2 then 6 else 7

/-- The digest an item's own format gives it. -/
def bodyDigest : ItemBody → Digest
  | .fw i => fwDigest i | .bits b => topDigest b | .model i => imageDigest i | .trim i => fwDigest i | .raw l => shake256 l

/-- The item is accepted by the retained boot record: its hash equals the digest kept (R424). -/
def fastItem (fast : Option BootRec) (i : FlashItem) : Bool :=
  match fast with
  | some r => r.digests.any (fun d => d.1 == i.kind && d.2.1 == i.index && d.2.2 == bodyDigest i.body)
  | none => false

/-- Code of an item of the set to boot: 0, or why it is refused. -/
def bootItem (s : State) (t : FlashSet) (fast : Option BootRec) (e : Nat × Nat) : Nat :=
  match setItem t e.1 e.2 with
  | none => 2
  | some i => if badReads i = 3 then 3 else if fastItem fast i then 0 else proveItem s i

/-- Items that fail, first to last: SEC's alone when it fails, since the rest is stage-1's work. -/
def bootFails (s : State) (t : FlashSet) (fast : Option BootRec) : List ((Nat × Nat) × Nat) :=
  let c := bootItem s t fast (1, 0)
  if c ≠ 0 then [((1, 0), c)]
  else
    let l := (stageOrder.map (fun e => (e, bootItem s t fast e))).filter (fun e => e.2 != 0)
    if l ≠ [] then l
    else if oneSvn t then []
    else ((List.range 6).filter (fun p => (setFw t p).map (·.svn) != (setFw t 0).map (·.svn))).map (fun p => ((1, p), 9))

/-! ### Failure and recovery wait (R418, R420, R421) -/

/-- The device waits for pushes: the code and item of the failure show, `need` lists what is missing, UP trains (R421). -/
def recoveryWait (code kind index need : Nat) (s : State) : State :=
  let s := { s with sec.phase := 3, sec.code := code, sec.kind := kind, sec.index := index, sec.need := need, und.altGo := none }
  gclRelease (raise uSEC 3 .contained { unit := kind, item := index, w1 := some (w32 code) } s)

/-- An item of the chosen set failed (R418): the alternate set once per power-on reset, else recovery wait. -/
def bootFail (slot code kind index need : Nat) (s : State) : State :=
  let s := raise uSEC 1 .contained { unit := kind, item := index, w1 := some (w32 code) } s
  let tried := s.und.altTried
  let s := if s.und.straps.bootSrc = 0 then { s with und.altTried := true } else s
  if s.und.straps.bootSrc = 0 ∧ (updateRec s).confirmed.testBit (1 - slot) ∧ ¬ tried then
    note (.chipReset 2) { s with und.altGo := some (1 - slot, code), sec.code := code, sec.kind := kind, sec.index := index, sec.phase := 1 }
  else recoveryWait code kind index need s

/-! ### A boot that succeeds (R416, R419, R424, R428, R477) -/

/-- What the start makes of the update record (R440–R442, R445, R447–R449). `t` is the set booted from `slot`; `flash` gives the set of a slot. -/
def bootUpdate (slot : Nat) (t : FlashSet) (flash : Nat → Option FlashSet) (s : State) : State :=
  let r := updateRec s
  let ev := s.upd.event
  let other := 1 - r.inForce
  let alt := s.und.altGo
  let staged := if 2 ≤ r.state ∧ r.state ≤ 5 then flash other else none
  let s := { s with upd.record := r, upd.staged := staged, upd.cls := r.cls, und.altGo := none
                    upd.trialMin := fld (liveWord s 0x1C0038) 15 0, upd.soakMin := fld (liveWord s 0x1C0038) 31 16 }
  if (r.state = 3 ∨ r.state = 5) ∧ slot = other then
    let n := trialRec s t
    updResult 0 0 (saveRecord n (copySettings r.fmtInForce n.fmtInForce { s with upd.prev := flash r.inForce, upd.staged := none, upd.event := none, upd.pausedNs := 0, upd.pauseAt := none }))
  else if (r.state = 3 ∨ r.state = 5) ∧ slot = r.inForce ∧ alt.isSome then provingFailed other ((alt.getD (0, 0)).2) s
  else if r.state = 5 then saveRecord { r with state := 3 } s
  else if r.state = 4 then { s with upd.deferAt := some s.now }
  else if r.state = 1 then saveRecord { r with state := 0 } s
  else if (r.state = 7 ∨ r.state = 8 ∨ (r.state = 6 ∧ ev.isSome)) ∧ slot = r.previous then
    let d := ev.getD 0
    let s := if r.state = 6 then raise uUPD 4 .contained { w1 := some (w32 d) } s else s
    updResult 0x0E d (saveRecord { fellBackRec r with seqInForce := t.seq } { s with upd.event := none, upd.prev := none })
  else if r.state = 6 then { s with upd.prev := flash r.previous, upd.pausedNs := r.pausedS * sec, upd.pauseAt := none }
  else s

/-- SEC's entry of the reset log (R37, R477): the causes, and for a fault reset the window's block and source. -/
def resetLog (s : State) : State :=
  let l := match nvsNewest s 0x05 with | some (.resetLog l) => l | _ => []
  let e : ResetLogRec := { time := s.now, cause := s.und.cause.bits.toNat, block := (s.und.saved.map (·.block)).getD 0, source := (s.und.saved.map (·.source)).getD 0 }
  let l := l ++ [e]
  let l := l.drop (l.length - 32)
  nvsQueue { rank := 2, area := 0x05, payload := some (.resetLog l), length := 16 * l.length } { s with und.saved := none }

/-- Vector and first digest bytes of each image of the set, as FPC loads it from its retained copy. -/
def loadImages (t : FlashSet) (s : State) : State :=
  forEach (List.range 6) (fun p s =>
    match setFw t p with | some f => loadCopy (procOf p) f s | none => s) s

/-- The boot record kept for the fast path (R424). -/
def bootRecOf (s : State) (t : FlashSet) (slot svn : Nat) : BootRec :=
  { src := s.und.straps.bootSrc, slot := slot, seq := t.seq, revoked := s.fuses.revoked, fwSvn := svn, digests := t.items.map (fun i => (i.kind, i.index, bodyDigest i.body)) }

/-- Digest of the SEC image of a set. -/
def secDigest (t : FlashSet) : Digest := ((setFw t 0).map fwDigest).getD 0

/-- The alias certificate in the store carries a SEC digest and FW_SVN (R424). -/
def aliasHolds (s : State) (d : Digest) (svn : Nat) : Bool :=
  match nvsNewest s 0x02 with | some (.cert l) => certSec l == d && certSvn l == svn | _ => false

/-- The ROM signs the alias certificate and stores it (R416 step 6, R428). -/
def storeAlias (t : FlashSet) (svn : Nat) (s : State) : State :=
  nvsQueue { rank := 4, area := 0x02, payload := some (.cert (aliasCert svn s.fuses.revoked s.fuses.programmed (secDigest t) s.fresh)), length := 3176 } { s with fresh := s.fresh + 1 }

/-- Every item of the set is accepted: the ROM latches FW_SVN, derives keys and locks itself, and stage-1 loads the sections. `path`: 0 FULL, 1 FAST, 2 PUSHED, 3 ALTERNATE. -/
def bootDone (slot path : Nat) (t : FlashSet) (flash : Nat → Option FlashSet) (s : State) : State :=
  let svn := ((setFw t 0).map (·.svn)).getD 0
  let s := if path = 3 then raise uSEC 2 .contained { unit := slot } s else s
  let s := { s with sec.phase := 1, sec.path := path, sec.slot := slot, sec.code := 0, sec.kind := 0, sec.index := 0, sec.fwSvn := svn, sec.locked := true, sec.set := some t
                    sec.need := 0, sec.idPub := keyId (identityKey svn), sec.rootPub := keyId rootKey, sec.identityKey := true, sec.thmOk := true, sec.pwrOk := true
                    sec.upSince := some s.now, sec.wdKick := s.now }
  let s := if path = 1 then s else storeAlias t svn s
  let r := bootRecOf s t slot svn
  let s := procStart .sec (loadImages t { s with und.bootRec := some r, und.bootRecC := some r })
  let s := match setBits t with | some b => loadSections b (cfgReport 0 0 0 0 s) | none => s
  let s := if s.sec.phase = 1 then gclRelease s else s
  forerunnerSettings (resetLog (bootUpdate slot t flash s))

/-- The chosen set is copied and verified item by item (R416 steps 3–8, R419). -/
def bootSet (slot path : Nat) (t : FlashSet) (fast : Option BootRec) (flash : Nat → Option FlashSet) (s : State) : State :=
  let s := rereads t.items s
  let miss := fast.isSome && t.items.any (fun i => i.kind != 3 && !fastItem fast i)
  let s := if miss then raise uSEC 4 .corrected {} { s with sec.fastMiss := satInc 0xFFFFFFFF s.sec.fastMiss } else s
  let fast := if miss then none else fast
  match bootFails s t fast with
  | [] => bootDone slot (if fast.isSome then 1 else path) t flash s
  | e :: l =>
    let s := if e.1 = (2, 0) then (match setItem t 2 0 with | some i => reportBits i s | none => s) else s
    bootFail slot e.2 e.1.1 e.1.2 (bitsMask ((e :: l).map (fun x => needBit x.1))) s

/-- The fast path is allowed (R424). -/
def fastRec (s : State) (t : FlashSet) (slot : Nat) : Option BootRec :=
  match s.und.bootRec with
  | some r =>
    if s.sec.exitD3 ∧ s.und.bootRecC = some r ∧ r.src = s.und.straps.bootSrc ∧ r.slot = slot ∧ r.seq = t.seq ∧ r.revoked = s.fuses.revoked
        ∧ aliasHolds s (((r.digests.find? (fun d => d.1 == 1 && d.2.1 == 0)).map (·.2.2)).getD 0) r.fwSvn then some r
    else none
  | none => none

/-- The timebase leaves the crystal when the start finds it bad, and returns to it only when a chip reset or power-on reset finds it good (R27). -/
def crystalAtStart (good : Bool) (s : State) : State :=
  if ¬ good then doCrystalFail s
  else if s.sec.exitD3 then s else setTbs (fun t => { t with xtalFail := false }) s

/-- What the ROM does before it chooses a set (R416): the crystal is judged, the store scanned, the ledger resumed, and the start counted. -/
def romStart (b : BootEnv) (s : State) : State :=
  let s := crystalAtStart b.crystal { s with und.supply.mainEn := true, und.supply.mainPg := true, und.supply.retryAt := none, sec.inputOk := b.inputOk }
  let s := ledgerResume (countResume (nvsScan s))
  let s := monoInc 0 none s
  if !s.und.porStart && !s.sec.exitD3 then monoInc 1 none s else s

/-- SEC_ROM_RELEASE (R416): the core is supplied and reset is over; the ROM and stage-1 run, which this model takes as one step (log 81). -/
def doSecRomRelease (b : BootEnv) (s : State) : State :=
  if s.und.supply.porAsserted ∨ s.sec.phase ≠ 0 ∨ s.pmd.state = 3 then s
  else
    let s := romStart b s
    let flash := fun n => tfind b.slots n
    if s.fuses.differ then
      raise uSEC 5 .fatal {} { s with sec.phase := 4, sec.code := 0x0C }
    else if s.und.straps.bootSrc = 3 then recoveryWait 0x0D 0 0 0xFF s
    else
      let slot := bootSlot s
      let s := { s with sec.slot := slot }
      match flash slot with
      | none => bootFail slot 1 0 0 0xFF s
      | some t =>
        if ¬ dirOk t then bootFail slot 2 0 0 0xFF s
        else bootSet slot (if s.und.altGo.isSome then 3 else 0) t (fastRec s t slot) flash s

/-! ### Release of the processors (R384, R419, R420) -/

def releaseProc (p : Proc) (s : State) : State :=
  if (procSt s p).state = .held then fpcCtrlWrite (.proc .sec) p (w32 (inc8 (lastTag s (fpcCtrlOff p.num)) * 16777216 + 1)) s else s

def released (s : State) (p : Proc) : Bool := (procSt s p).state != .held

/-- Stage-1 releases each processor when its own condition is met, and reports RUNNING when the last it waits for is out (R384, R419, R420). -/
def secPoll (s : State) : State :=
  if s.sec.phase = 1 ∧ s.sec.set.isSome ∧ s.und.altGo.isNone ∧ procRunning s .sec then
    let s := if (gclPort s 0).state = 8 then { s with sec.hstGo := true } else s
    let s := if s.sec.thmOk then releaseProc .thm s else s
    let s := if s.sec.pwrOk ∧ s.sec.inputOk then releaseProc .pwr s else s
    let s := if portActive s 0 ∨ s.sec.hstGo then releaseProc .hst s else s
    let s := if dramTrained s then releaseProc .recd (releaseProc .cus s) else s
    if released s .thm ∧ released s .pwr ∧ released s .hst ∧ ((released s .cus ∧ released s .recd) ∨ s.mem.failed ≠ []) then
      { s with sec.phase := 2, sec.code := if released s .cus then 0 else 0x0B, sec.bootMs := (s.now - s.sec.startAt) / ms }
    else s
  else s

/-- INPUT_POWER_GOOD (R419). -/
def doInputPowerGood (s : State) : State := { s with sec.inputOk := true }

/-- UP_NO_PEER (R419). -/
def doUpNoPeer (s : State) : State :=
  match s.sec.upSince with
  | some t => if (gclPort s 0).state = 1 ∧ t + 100 * ms ≤ s.now then { s with sec.hstGo := true } else s
  | none => s

/-! ### Recovery wait (R422, R423) -/

def rcvResult (tag result : Nat) (s : State) : State := { s with sec.rcvTag := tag, sec.rcvRes := result }

/-- Code of a candidate for an item: R91 steps 1–5 for a bitstream (R422). -/
def candCode (s : State) (kind index : Nat) (c : Option ItemBody) : Nat :=
  match c with
  | none => 5
  | some b =>
    match kind, b with
    | 2, .bits x => if (cfgProve s x).1 = 0 then 0 else 0x0A
    | _, _ => proveBody s kind index b

/-- A set with the pushed items in place of its own. -/
def withPushed (t : Option FlashSet) (l : List FlashItem) : FlashSet :=
  let items := match t with | some t => t.items | none => []
  { seq := (t.map (·.seq)).getD 0, items := items.filter (fun i => !l.any (fun j => j.kind == i.kind && j.index == i.index)) ++ l }

/-- RELEASE: the boot goes on with every verified pushed item; what is still needed is read again from flash. -/
def rcvRelease (tag : Nat) (b : BootEnv) (s : State) : State :=
  let slot := bootSlot s
  let fl := if s.und.straps.bootSrc = 3 then none else (tfind b.slots slot).filter dirOk
  let t := withPushed fl s.sec.pushed
  let bad := ((1, 0) :: stageOrder).filter (fun e => s.sec.need.testBit (needBit e) && bootItem s t none e != 0)
  if bad ≠ [] then rcvResult tag 0xF2 { s with sec.need := bitsMask (bad.map needBit) }
  else match bootFails s t none with
    | [] => bootDone slot (if s.sec.pushed = [] then 0 else 2) t (fun n => tfind b.slots n) (rcvResult tag 0 s)
    | e :: l =>
      let s := if e.1 = (2, 0) then (match setItem t 2 0 with | some i => reportBits i s | none => s) else s
      recoveryWait e.2 e.1.1 e.1.2 (bitsMask ((e :: l).map (fun x => needBit x.1))) (rcvResult tag e.2 s)

/-- The first `n` bytes of SEC_RCV_WINDOW. -/
def windowBytes (s : State) (n : Nat) : List Byte := ((List.range ((n + 3) / 4)).flatMap (fun k => wordBytes (regWord s (0x034000 + 4 * k)))).take n

/-- The bytes of the candidate area. -/
def candBytes (s : State) : List Byte := (s.sec.cand.map itemBytes).getD []

/-- A pushed item: the area was read once over its path, so no directory entry guards it. -/
def pushedItem (kind index : Nat) (body : ItemBody) : FlashItem := { kind := kind, index := index, crc := crc32c (itemBytes body), body := body }

/-- Act on a new TAG in SEC_RCV_CTRL. `view` is the record that the candidate area reads as once the window's bytes are appended; `b` what a RELEASE reads from flash. -/
def rcvCommand (w : Word) (view : Option ItemBody) (b : BootEnv) (s : State) : State :=
  let tag := fld w 31 24
  let kind := fld w 15 8
  let index := fld w 7 0
  let len := (regWord s 0x030030).toNat
  if tag = lastTag s 0x030020 then s
  else
    let s := setTag 0x030020 tag s
    match fld w 23 20 with
    | 1 =>
      if 16777216 < len then rcvResult tag 0xF1 s
      else if ¬ portActive s 0 then rcvResult tag 0xF0 { s with sec.cand := none, sec.candLen := 0 }
      else gclFetch 0 ((regWord s 0x030028).toNat + 2 ^ 32 * (regWord s 0x03002C).toNat) len
        { s with sec.pulling := some tag, sec.cand := none, sec.candKind := kind, sec.candIdx := index, sec.candLen := len }
    | 2 => rcvResult tag 0 { s with sec.cand := none, sec.candLen := 0, sec.candKind := kind, sec.candIdx := index }
    | 3 =>
      if 4096 < len ∨ 16777216 < s.sec.candLen + len then rcvResult tag 0xF1 s
      else rcvResult tag 0 { s with sec.cand := some (readItem view (candBytes s ++ windowBytes s len)), sec.candLen := s.sec.candLen + len }
    | 4 =>
      let c := if s.sec.candKind = kind ∧ s.sec.candIdx = index then candCode s kind index s.sec.cand else 5
      match s.sec.cand with
      | some body =>
        if c = 0 then
          let i := pushedItem kind index body
          let n := needBit (kind, index)
          rcvResult tag 0 { s with sec.pushed := s.sec.pushed.filter (fun j => !(j.kind == kind && j.index == index)) ++ [i]
                                   sec.need := if kind ≠ 3 ∧ s.sec.need.testBit n then s.sec.need - 2 ^ n else s.sec.need }
        else rcvResult tag c (match kind, body with | 2, .bits x => cfgReport s.cfg.state 0 (cfgProve s x).2 (cfgProve s x).1 s | _, _ => s)
      | none => rcvResult tag 5 s
    | 5 => rcvRelease tag b s
    | _ => s

/-- A write of the SEC_RCV_CTRL pair (R431). -/
def rcvWrite (path : Path) (w : Word) (view : Option ItemBody) (b : BootEnv) (s : State) : State :=
  withAuthority path 0x030020 w (fun s => rcvCommand w view b (setPair 0x030020 w s)) s

def noFlash : BootEnv := { slots := [], crystal := true, inputOk := false }
def rcvWord (tag op kind index : Nat) : Word := w32 (tag * 16777216 + op * 1048576 + kind * 256 + index)

def doRcvPull (path : Path) (tag kind index : Byte) (s : State) : State := rcvWrite path (rcvWord tag.toNat 1 kind.toNat index.toNat) none noFlash s
def doRcvAppendReset (path : Path) (tag kind index : Byte) (s : State) : State := rcvWrite path (rcvWord tag.toNat 2 kind.toNat index.toNat) none noFlash s
def doRcvAppend (path : Path) (tag kind index : Byte) (view : Option ItemBody) (s : State) : State :=
  rcvWrite path (rcvWord tag.toNat 3 kind.toNat index.toNat) view noFlash s
def doRcvVerify (path : Path) (tag kind index : Byte) (s : State) : State := rcvWrite path (rcvWord tag.toNat 4 kind.toNat index.toNat) none noFlash s
def doRcvRelease (path : Path) (tag : Byte) (b : BootEnv) (s : State) : State := rcvWrite path (rcvWord tag.toNat 5 0 0) none b s

/-- The LEN bytes a PULL fetched from what lies at the companion address. -/
def pulledItem (len : Nat) (item : ItemBody) : ItemBody :=
  let l := itemBytes item
  if l.length = len then item else .raw ((padTo len l).take len)

/-- PULL_DONE (R422): the fetch completes with the item at the companion address, or the link lost it. -/
def doPullDone (ok : Bool) (item : ItemBody) (s : State) : State :=
  match s.sec.pulling with
  | some tag =>
    let s := { s with sec.pulling := none }
    if ok then rcvResult tag 0 { s with sec.cand := some (pulledItem s.sec.candLen item) } else rcvResult tag 0xF0 { s with sec.cand := none, sec.candLen := 0 }
  | none => s

/-- UP went DOWN during a PULL (ch. 15, Coincidences). -/
def pullWatch (s : State) : State := if s.sec.pulling.isSome ∧ ¬ portActive s 0 then doPullDone false (.raw []) s else s

/-! ### Key records (R410, R411, R414) -/

/-- Programmed, unrevoked slots of a slot's class. -/
def liveSlots (s : State) (dvorum : Bool) : List Nat :=
  (if dvorum then List.range 8 else (List.range 8).map (· + 8)).filter (fun k => s.fuses.programmed.testBit k && !s.fuses.revoked.testBit k)

def integratorProgrammed (s : State) : Bool := decide (s.fuses.programmed / 256 ≠ 0)

/-- Authority of a record: 0, or 3 KEY, 4 REVOKED, 5 SIGNATURE. While PROVISIONING the test access port needs no signature for an integrator's ENROL, or for DEPLOY. -/
def recordAuth (s : State) (path : Path) (record : List Byte) : Nat :=
  let r := readKeyRec record
  let open_ := path == .tap && !s.fuses.deployed && ((r.op == 1 && decide (8 ≤ r.slot)) || r.op == 3)
  if open_ then 0
  else if ¬ r.signed then 5
  else match keyCheck s (decide (r.op ≠ 3 ∧ r.slot < 8)) r.sig (keyRecDigest record) with | 0 => 0 | 6 => 3 | 7 => 4 | _ => 5

/-- Result of a record (SEC_KEY_RESULT). -/
def keyJudge (s : State) (path : Path) (record : List Byte) : Nat :=
  let r := readKeyRec record
  if s.sec.phase ≠ 2 ∨ s.sec.fuseJob.isSome then 8
  else if r.magic ≠ 0x524B584B ∨ r.hwtype ≠ 0x4238584B ∨ ¬ r.reservedZero ∨ r.op < 1 ∨ 3 < r.op ∨ 16 ≤ r.slot ∨ (r.op = 3 ∧ r.slot ≠ 0) ∨ 2 ≤ r.bind then 1
  else if (r.bind = 1 ∧ r.unit ≠ Config.unitId % 2 ^ 64) ∨ (r.bind = 0 ∧ r.unit ≠ 0) then 2
  else if r.op = 3 ∧ (s.fuses.deployed ∨ ¬ integratorProgrammed s) then 8
  else if recordAuth s path record ≠ 0 then recordAuth s path record
  else if r.op = 1 ∧ s.fuses.programmed.testBit r.slot then 6
  else if r.op = 2 ∧ (liveSlots s (decide (r.slot < 8))).all (· == r.slot) then 7
  else 0

/-- Act on a new TAG in SEC_KEY_CMD with the record in SEC_KEY_BUF. -/
def keyCommand (path : Path) (w : Word) (s : State) : State :=
  let tag := fld w 31 24
  if tag = lastTag s 0x030200 ∨ fld w 1 0 ≠ 1 then s
  else
    let s := setTag 0x030200 tag s
    let r := readKeyRec s.sec.keyBuf
    let c := keyJudge s path s.sec.keyBuf
    if c = 0 then { s with sec.fuseJob := some { tag := tag, op := r.op, slot := r.slot, digest := shake256 (leBytes 1793 r.pubkey) } }
    else raise uSEC 7 .contained { unit := r.slot, w1 := some (w32 c) } { s with sec.keyTag := tag, sec.keySlot := r.slot % 256, sec.keyRes := c }

/-- A write of the SEC_KEY_CMD pair (R431). -/
def keyWrite (path : Path) (w : Word) (s : State) : State := withAuthority path 0x030200 w (fun s => keyCommand path w (setPair 0x030200 w s)) s

/-- SEC_KEY_BUF with bytes written from its start on. -/
def fillKeyBuf (l : List Byte) (s : State) : State := { s with sec.keyBuf := l ++ s.sec.keyBuf.drop l.length }

/-- KEY_SUBMIT: the record is written into SEC_KEY_BUF and submitted. -/
def doKeySubmit (path : Path) (tag : Byte) (record : List Byte) (s : State) : State :=
  withAuthority path 0x030200 (w32 (tag.toNat * 16777216 + 1)) (fun s => keyWrite path (w32 (tag.toNat * 16777216 + 1)) (fillKeyBuf record s)) s

/-- The fuses as a blow leaves them: blown, or, when the read-back failed, either untouched or with copies that differ (R411; a free choice). -/
def blowFuse (j : FuseJob) (ok touched : Bool) (f : Fuses) : Fuses :=
  if ¬ ok ∧ ¬ touched then f
  else match j.op with
    | 1 => { f with enrolled := tput f.enrolled j.slot j.digest, programmed := f.programmed ||| 2 ^ j.slot, badSlots := if ok then f.badSlots else sadd f.badSlots j.slot }
    | 2 => { f with revoked := f.revoked ||| 2 ^ j.slot }
    | _ => if ok then { f with deployed := true } else { f with differ := true }

/-- FUSE_BLOW_DONE (R414): the blow ended and was read back from both copies. -/
def doFuseBlowDone (readBack : Bool) (s : State) : State :=
  match s.sec.fuseJob with
  | some j =>
    let touched := Config.freeValue s.fresh % 2 == 1
    let s := { s with fuses := blowFuse j readBack touched s.fuses, fresh := if readBack then s.fresh else s.fresh + 1
                      sec.fuseJob := none, sec.keyTag := j.tag, sec.keySlot := j.slot, sec.keyRes := if readBack then 0 else 9 }
    if readBack then raise uSEC 6 .corrected { unit := j.slot, item := j.op } s else raise uSEC 7 .contained { unit := j.slot, w1 := some 9 } s
  | none => s

/-! ### Resets asked of SEC and the supervision watchdog (R18, R38) -/

def superMs (s : State) : Nat := match s.cfg.running with | some b => b.superMs | none => 2000

/-- SUPERVISION_WATCHDOG_BITE (R18): SEC firmware did not service the watchdog in time. -/
def doSupervisionWatchdogBite (s : State) : State :=
  if (s.sec.phase = 1 ∨ s.sec.phase = 2) ∧ s.sec.wdKick + superMs s * ms ≤ s.now then note (.chipReset 3) s else s

/-- RESET_CTRL_KEY (R38): the key starts a chip reset with cause COMMAND; any other value is discarded and recorded as corrected, a write from another path as contained. -/
def doResetCtrlKey (path : Path) (value : Word) (s : State) : State :=
  if pathOk s path 0x000024 then
    (if fld value 15 0 = 0xC1EA then note (.chipReset 4) s else raise uID 1 .corrected { path := pathCode path, w1 := some 0x24#32, w2 := value } s)
  else raise uID 2 .contained { path := pathCode path, w1 := some 0x24#32, w2 := value } s

end Sys2Proof.Machine
end

