-- ==== Sys2Proof/Machine/Mbx.lean ====
section
/-! DEFINITION. The mailboxes: the checks of a request, the handlers that carry requests out, answers, events and the relay (14_firmware_processors_and_mailboxes.md R390–R400;
18_device_power_timebase_and_cascade.md R493). -/

namespace Sys2Proof.Machine

/-! ### The catalogue (R396, R493) -/

/-- A type of the catalogue: lowest major, handler, and sender: 0 Either, 1 Host, 2 Manager, 3 none (EVENT, which the device alone sends). -/
def catalog (typ : Nat) : Option (Nat × Proc × Nat) :=
  match typ with
  | 0x01 => some (2, .hst, 0) | 0x02 => some (2, .hst, 0) | 0x03 => some (2, .hst, 0) | 0x04 => some (3, .hst, 3)
  | 0x10 => some (2, .pwr, 2) | 0x11 => some (2, .pwr, 2) | 0x12 => some (2, .pwr, 2) | 0x13 => some (3, .hst, 0)
  | 0x20 => some (2, .pwr, 0) | 0x21 => some (2, .pwr, 2) | 0x22 => some (2, .thm, 2) | 0x23 => some (2, .thm, 2) | 0x24 => some (2, .thm, 2)
  | 0x28 => some (2, .hst, 2) | 0x29 => some (2, .hst, 2)
  | 0x30 => some (3, .cus, 1) | 0x31 => some (3, .cus, 1) | 0x38 => some (3, .recd, 1) | 0x39 => some (3, .recd, 1)
  | 0x40 => some (3, .hst, 0) | 0x41 => some (3, .hst, 2) | 0x42 => some (3, .hst, 0) | 0x48 => some (3, .sec, 0)
  | 0x50 => some (2, .sec, 2) | 0x51 => some (2, .sec, 2) | 0x58 => some (3, .recd, 0) | 0x60 => some (3, .hst, 2)
  | _ => none

/-- The channel lacks the type's authority (R395, R397). -/
def mbxDenied (s : State) (c sender : Nat) : Bool :=
  if sender = 3 then decide (c < 6)
  else if c < 4 then sender == 2
  else if c = 4 then sender == 1
  else if c = 5 then isLead s || sender == 1
  else false

/-- Requests a channel holds (R393). -/
def mbxRoom (c : Nat) : Nat := if c = 4 then 1 else 8

/-! ### Submission (R392, R393, R400) -/

/-- The mailbox hardware answers a message that never becomes an open request; a failed check raises its source (R403). -/
def mbxRefuse (m : MbxMsg) (typ status : Nat) (inj : Bool) (s : State) : State :=
  let c := m.chan.val
  let s := if status = 6 then raise uMBX 1 .contained { unit := c, w1 := some (w32 typ) } s
    else if status = 8 ∨ status = 9 ∨ status = 0xB then s
    else raise uMBX 0 .corrected { unit := c, item := status, w1 := some (w32 typ), inj := inj } s
  mbxReply c { major := m.major, typ := typ, seq := m.seq, status := status, flags := 1, words := [] } { s with mbx.rejected := tupd 0 s.mbx.rejected c (satInc 65535) }

/-- An accepted request joins the open ones: MBX4 goes ahead of requests of the same microsecond that are not started (R399). -/
def insertReq (r : OpenReq) (l : List OpenReq) : List OpenReq :=
  if r.chan = 4 then
    let same := fun (x : OpenReq) => !x.started && x.chan != 4 && decide (x.at_ / us = r.at_ / us)
    l.filter (fun x => !same x) ++ [r] ++ l.filter same
  else l ++ [r]

/-- Step 1 of R392: the length within the channel's limit and delivered whole. -/
def mbxLengthOk (m : MbxMsg) : Bool := m.whole && decide (m.length ≤ mbxLimit m.chan.val) && m.payload.length == (m.length + 3) / 4

/-- Steps 1–3 of R392: 0, or the status of the first failure. -/
def mbxWireCheck (m : MbxMsg) (crcOk : Bool) : Nat :=
  if ¬ mbxLengthOk m then 3
  else if ¬ crcOk then 2
  else if m.major ≠ 2 ∧ m.major ≠ 3 then 1 else 0

/-- Steps 4–8 of R392: 0, or the status of the first failure. -/
def mbxCheck (m : MbxMsg) (typ : Nat) (s : State) : Nat :=
  match catalog typ with
  | none => 4
  | some e =>
    let c := m.chan.val
    let st := (procSt s e.2.1).state
    if m.major < e.1 ∨ (m.major = 2 ∧ m.flags.toNat / 2 ≠ 0) then 5
    else if mbxDenied s c e.2.2 then 6
    else if m.target ≠ 0xFF ∧ m.target ≠ e.2.1.num then 7
    else if mbxRoom c ≤ chanOpen s c then 8
    else if st = .halted then 0xB
    else if st ≠ .ready then 9 else 0

/-- The message can reach its channel: UP trained, TWP0 of a device that answers there, a cascade port. -/
def mbxReaches (s : State) (c : Nat) : Bool :=
  if c < 4 then portActive s 0 else if c = 4 then isLead s else if c = 5 then portActive s (relayPort s) else true

/-- An accepted request counts, shows in MBX_C_LAST, and is reported to MOT on the external channels (R392, R400). -/
def mbxAccept (c typ : Nat) (seq : Word) (s : State) : State :=
  { s with mbx.accepted := tupd 0 s.mbx.accepted c (satInc 65535), mbx.last := tput s.mbx.last c (typ, seq.toNat % 65536), mot.heard := s.mot.heard || decide (c ≤ 4) || (c == 5 && !isLead s) }

/-- A response that reaches MBX5 of the lead: the relay's inner response, which the outer response wraps (R493). -/
def relayAnswer (m : MbxMsg) (typ : Nat) (s : State) : State :=
  match s.mbx.open_.find? (fun r => r.typ == 0x60 && r.started && r.payload.getD 2 0 == m.seq) with
  | some r =>
    let head := [packF [(16, typ), (0, m.major)], m.seq, packF [(24, m.target), (0, m.length)], m.flags]
    answerReq r 0 (r.payload.headD 0 :: head ++ m.payload) s
  | none => s

/-- A request reaches the mailbox (R392, R393): the first failing check is answered by the hardware; a repeat of a stored SEQ within 1 s gets the stored response. -/
def mbxSubmit (typ : Nat) (m : MbxMsg) (img : Option ImageRec) (s : State) : State :=
  let c := m.chan.val
  if ¬ mbxReaches s c then s
  else if c = 4 ∧ tget [] s.mbx.out 4 ≠ [] then { s with mbx.result := tput s.mbx.result 4 8 }
  else
  let z : Bool × State := if mbxLengthOk m then injectCheck uMBX 0 c m.crcOk s else (m.crcOk, s)
  let s := z.2
  if mbxWireCheck m z.1 ≠ 0 then mbxRefuse m typ (mbxWireCheck m z.1) (m.crcOk && !z.1) s
  else if c = 5 ∧ isLead s ∧ bit m.flags 0 then relayAnswer m typ s
  else
    let s := mbxAccept c typ m.seq s
    match (tfind s.mbx.stored c).filter (fun e => e.1.seq == m.seq && decide (s.now < e.2 + sec)) with
    | some e => mbxSend c e.1 { s with mbx.rejected := tupd 0 s.mbx.rejected c (satInc 65535), mbx.result := tput s.mbx.result c e.1.status }
    | none =>
      let k := mbxCheck m typ s
      let h := ((catalog typ).map (·.2.1)).getD .hst
      if k ≠ 0 then
        let s := if (procSt s h).gated then wakeTo 1 s else s
        mbxRefuse m typ k false s
      else
        { s with mbx.open_ := insertReq { chan := c, major := m.major, seq := m.seq, typ := typ, handler := h, payload := m.payload, at_ := s.now, img := img } s.mbx.open_ }

/-! ### The handlers (R398, R399) -/

/-- The handler has carried the request out and waits for the block's result. -/
def markStarted (r : OpenReq) (tag : Nat) (s : State) : State :=
  { s with mbx.open_ := s.mbx.open_.map (fun x => if x = r then { x with started := true, tag := tag } else x) }

def invalidReq (r : OpenReq) (s : State) : State := answerReq r 0x0D [] s

/-- The TAG the handler assigns in a command register. -/
def nextTag (s : State) (off : Nat) : Nat := inc8 (lastTag s off)
def tagWord (tag : Nat) (w : Word) : Word := w32 (tag * 16777216 + w.toNat % 16777216)

/-- A type that acts through a command register: `params` are the offsets of its parameter registers, `ok` the command words it may carry. -/
def cmdReq (r : OpenReq) (off : Nat) (params : List Nat) (ok : Word → Bool) (write : Word → State → State) (s : State) : State :=
  let w := r.payload.getLastD 0
  if r.payload.length ≠ params.length + 1 ∨ ¬ ok w ∨ fld w 31 24 ≠ 0 then invalidReq r s
  else
    let tag := nextTag s off
    let s := (params.zip r.payload).foldl (fun s e => setWord e.1 e.2 s) s
    write (tagWord tag w) (markStarted r tag s)

/-- A signed block by its BLOCK_SEQ: in the ledger region, in the spool, or signed and still queued. -/
def findBlock (s : State) (q : Nat) : Option SignedBlock :=
  match s.dram.ledger.find? (fun b => b.block.blockSeq == q) with
  | some b => some b
  | none =>
    match (s.shp.closed.filterMap (·.signed)).find? (fun b => b.block.blockSeq == q) with
    | some b => some b
    | none => (s.mram.spool.map (·.2)).find? (fun b => b.block.blockSeq == q)

/-- SEC_KEYS as the report carries it. -/
def keysWord (s : State) : Word := packF [(16, s.fuses.programmed), (0, s.fuses.revoked)]

/-- The attestation report (R429) with the nonce of the request. -/
def reportWords (s : State) (nonce : List Word) : List Word :=
  let t := s.sec.set
  let b := s.cfg.running
  [0x5241584B#32, w32 (1 + 65536 * s.sec.path), 0x4238584B#32, w32 s.sec.fwSvn, lo32 Config.unitId, hi32 Config.unitId, lo32 s.now, hi32 s.now] ++ nonce
    ++ [bootStatus s, keysWord s, w32 ((b.map (·.svn)).getD 0), 0#32] ++ digestWords ((b.map topDigest).getD 0)
    ++ (List.range 6).flatMap (fun p => digestWords (((t.bind (fun u => setFw u p)).map fwDigest).getD 0))
    ++ digestWords (((t.bind setTrim).map fwDigest).getD 0)
    ++ (List.range 32).map (fun m => regRead s (0x100000 + 0x8000 + 0x100 * m + 0x24))

/-- The certificate in an area of the store, as words; none where the area is EMPTY (R428, R472). -/
def certWords (s : State) (area : Nat) : List Word := match nvsNewest s area with | some (.cert l) => wordsOf l | _ => []

/-- ATTEST (R429): the signed report, the alias certificate and the device certificate. -/
def attest (r : OpenReq) (s : State) : State :=
  if r.payload.length ≠ 8 then invalidReq r s
  else
    let rep := reportWords s r.payload
    let sg := sigWords (Config.sign (identityKey s.sec.fwSvn) (shake256 (ascii "DVS-KX8B-ATTEST" ++ rep.flatMap wordBytes)) s.fresh)
    answerReq r 0 (rep ++ sg ++ certWords s 0x02 ++ certWords s 0x01) { s with fresh := s.fresh + 1 }

/-- UPDATE_STAGE (R436, R438): over UP the address and length of the package; over MBX4 fragments with their offset, the last one empty. -/
def updateStage (r : OpenReq) (s : State) : State :=
  if ¬ mayStage s then
    let s := raise uUPD 0 .corrected { w1 := some 9 } (updResult 9 0 s)
    answerReq r 0x0C [regRead s 0x1C0020] s
  else if (r.chan = 4 ∨ r.chan = 5) ∧ 2 ≤ r.payload.length then answerReq r 0 [] s
  else if r.chan ≠ 4 ∧ r.chan ≠ 5 ∧ r.payload.length ≠ 3 then invalidReq r s
  else
    let l : LongOp := { chan := r.chan, major := r.major, seq := r.seq, typ := r.typ, tag := 0 }
    let s := if r.chan = 4 ∨ r.chan = 5 then s else gclFetch 0 ((r.payload.getD 0 0).toNat + 2 ^ 32 * (r.payload.getD 1 0).toNat) (r.payload.getD 2 0).toNat s
    answerReq r 0 [] { beginStaging s with mbx.longs := s.mbx.longs ++ [l] }

/-- CANOPY_LOAD: REC fetches and verifies the image and issues CNP LOAD (R256, R396). -/
def canopyLoad (r : OpenReq) (s : State) : State :=
  let m := (r.payload.headD 0).toNat
  if r.payload.length ≠ 4 ∨ 32 ≤ m then invalidReq r s
  else
    let tag := nextTag s 0x100010
    let s := gclFetch 0 ((r.payload.getD 1 0).toNat + 2 ^ 32 * (r.payload.getD 2 0).toNat) (r.payload.getD 3 0).toNat s
    let s := setTag 0x100010 tag (setPair 0x100010 (cnpWord 1 tag m) (markStarted r tag s))
    let good : Bool := match r.img with | some i => imageSigned s i | none => false
    cnpAccept tag m r.img good ((r.img.map (·.total)).getD 0) ((r.img.map imageDigest).getD 0) s

/-- RELAY (R493): the lead delivers the inner message to the member's MBX5; the request stays open until the member's response comes back. -/
def relay (r : OpenReq) (s : State) : State :=
  let m := (r.payload.headD 0).toNat
  let inner := r.payload.drop 1
  if ¬ isLead s ∨ m < 1 ∨ 3 < m ∨ inner.length < 5 then invalidReq r s
  else gclSend 9 (.doorbell 5 (inner.take 4) (inner.getLastD 0) ((inner.drop 4).dropLast)) (markStarted r 0 s)

/-- LOCATE and INDICATOR write the IND registers: LOCATE carries the word of IND_LOCATE, INDICATOR a register's number (8 the tray) and its word (log 86). -/
def locateReq (r : OpenReq) (s : State) : State :=
  match r.payload with
  | [w] => answerReq r 0 [] (setLocate (bit w 16) { s with und.ind.locateS := fld w 15 0 })
  | _ => invalidReq r s
def indicatorReq (r : OpenReq) (s : State) : State :=
  match r.payload with
  | [k, w] => if 8 < k.toNat then invalidReq r s else answerReq r 0 [] { s with und.ind.reg := tset 0 s.und.ind.reg k.toNat (w.toNat % 512 - w.toNat % 256 + w.toNat % 16) }
  | _ => invalidReq r s

/-- CONTRACT_LOAD: the first entry index, then whole entries. -/
def contractLoad (r : OpenReq) (s : State) : State :=
  let i := (r.payload.headD 0).toNat
  let ws := r.payload.drop 1
  if ws = [] ∨ ws.length % 6 ≠ 0 ∨ 1440 < i + ws.length / 6 then invalidReq r s
  else answerReq r 0 [] { s with shp.bankWords := ws.zipIdx.foldl (fun t e => tset 0 t (6 * i + e.2) e.1) s.shp.bankWords }

def csrRead (r : OpenReq) (s : State) : State :=
  match r.payload with
  | [o, n] =>
    if o.toNat % 4 ≠ 0 ∨ 0x1D0000 < o.toNat + 4 * n.toNat ∨ (if r.chan = 4 then 56 else 1020) < n.toNat then invalidReq r s
    else (let q := readRun (.proc .hst) n.toNat o.toNat s; answerReq r 0 q.1 q.2)
  | _ => invalidReq r s

def procRestartReq (r : OpenReq) (s : State) : State :=
  match r.payload with
  | [p, w] =>
    if 6 ≤ p.toNat ∨ w ≠ 2#32 then invalidReq r s
    else
      let q := procOf p.toNat
      let off := fpcCtrlOff q.num
      let tag := nextTag s off
      fpcCtrlWrite (.proc .sec) q (tagWord tag w) (markStarted r tag s)
  | _ => invalidReq r s

/-- The handler carries out a request (R396, R398). A LEDGER_READ waits until the spool has been written back into a lost region (R168). -/
def startReq (r : OpenReq) (s : State) : State :=
  match r.typ with
  | 0x01 => answerReq r 0 [fpcStatus s, lo32 s.now, hi32 s.now] s
  | 0x02 => answerReq r 0 (([0x00, 0x04, 0x08, 0x10, 0x14, 0x18, 0x030104] ++ (List.range 6).map (fun p => 0x010120 + 0x40 * p)).map (regRead s)) s
  | 0x03 => csrRead r s
  | 0x04 => invalidReq r s
  | 0x10 => contractLoad r s
  | 0x11 => cmdReq r 0x090130 [0x090120, 0x090124, 0x090128, 0x09012C] (fun w => w == 1#32) (schedActWrite (.proc .pwr)) s
  | 0x12 => cmdReq r 0x090130 [] (fun w => w == 2#32) (schedActWrite (.proc .pwr)) s
  | 0x13 =>
    (match r.payload with
     | [a, b] => if s.dram.ledgerLost then s else (match findBlock s (a.toNat + 2 ^ 32 * b.toNat) with | some k => answerReq r 0 (blockWords k) s | none => invalidReq r s)
     | _ => invalidReq r s)
  | 0x20 => cmdReq r 0x080010 [] (fun w => fld w 3 0 == 1 || fld w 3 0 == 2) (seqCmdWrite (.proc .pwr)) s
  | 0x21 => cmdReq r 0x080010 [] (fun w => decide (3 ≤ fld w 3 0) && decide (fld w 3 0 ≤ 5)) (seqCmdWrite (.proc .pwr)) s
  | 0x22 => cmdReq r 0x0A0020 [] (fun _ => true) (shdnClrWrite (.proc .thm)) s
  | 0x23 => cmdReq r 0x0B0040 [] (fun _ => true) (motClearWrite (.proc .thm)) s
  | 0x24 => cmdReq r 0x0C0010 [] (fun _ => true) (lkfClearWrite (.proc .thm)) s
  | 0x28 => locateReq r s
  | 0x29 => indicatorReq r s
  | 0x30 => cmdReq r 0x140010 ((List.range 8).map (fun i => 0x140018 + 4 * i)) (fun w => decide (1 ≤ fld w 23 20) && decide (fld w 23 20 ≤ 4)) (cusCmdWrite (.proc .cus)) s
  | 0x31 => cmdReq r 0x140090 [] (fun w => decide (1 ≤ fld w 23 20) && decide (fld w 23 20 ≤ 4)) (cusRestartWrite (.proc .cus)) s
  | 0x38 => canopyLoad r s
  | 0x39 => cmdReq r 0x100010 [] (fun w => decide (2 ≤ fld w 23 20) && decide (fld w 23 20 ≤ 4)) (cnpCmdWrite (.proc .recd)) s
  | 0x40 => updateStage r s
  | 0x41 => cmdReq r 0x1C0010 [0x1C0018, 0x1C001C] (fun w => decide (1 ≤ fld w 3 0) && decide (fld w 3 0 ≤ 4)) (updCmdWrite (.proc .hst)) s
  | 0x42 => answerReq r 0 [regRead s 0x1C0000, regRead s 0x1C0020] s
  | 0x48 => attest r s
  | 0x50 => procRestartReq r s
  | 0x51 =>
    (match r.payload with
     | [w] => if fld w 15 0 = 0xC1EA then doResetCtrlKey (.proc .sec) w (markStarted r 0 s) else invalidReq r s
     | _ => invalidReq r s)
  | 0x58 => cmdReq r 0x150310 [] (fun w => fld w 1 0 == 1 || fld w 1 0 == 2) (rcdCmdWrite (.proc .recd)) s
  | _ => relay r s

/-- The result register of a type that has one: the word and whether it is final. -/
def resultReg (s : State) (typ : Nat) : Option (Word × Bool) :=
  match typ with
  | 0x11 => let w := regRead s 0x090138; some (w, s.shp.checking.isNone)
  | 0x12 => some (regRead s 0x090138, true)
  | 0x20 => let w := regRead s 0x080018; some (w, !bit w 23)
  | 0x21 => let w := regRead s 0x080018; some (w, !bit w 23)
  | 0x22 => some (regRead s 0x0A0028, true)
  | 0x23 => some (regRead s 0x0B0048, true)
  | 0x24 => some (regRead s 0x0C0018, true)
  | 0x30 => some (regRead s 0x140040, true)
  | 0x38 => some (regRead s 0x100020, true)
  | 0x39 => some (regRead s 0x100020, true)
  | 0x41 => some (regRead s 0x1C0020, true)
  | _ => none

/-- The request started a long operation (R398). -/
def isLong (r : OpenReq) : Bool :=
  let op := fld (r.payload.getLastD 0) 23 20
  (r.typ == 0x30 && op == 1) || (r.typ == 0x31 && op == 1) || r.typ == 0x38

/-- The handler answers once the block shows the command acted on; a long operation's EVENT follows at its end. -/
def finishReq (r : OpenReq) (s : State) : State :=
  let done := fun (s : State) =>
    let l : LongOp := { chan := r.chan, major := r.major, seq := r.seq, typ := r.typ, tag := r.tag }
    answerReq r 0 [] (if isLong r then { s with mbx.longs := s.mbx.longs ++ [l] } else s)
  match resultReg s r.typ with
  | some (w, fin) =>
    if fld w 31 24 ≠ r.tag ∨ ¬ fin then s
    else if fld w 15 8 = 0 then done s
    else answerReq r 0x0C [w] s
  | none =>
    if r.typ = 0x60 then s
    else if selfRestart r ∧ (procSt s .sec).state ≠ .ready then s
    else done s

/-- One move of a handler: it answers the request in hand, or takes the next in order of acceptance (R399). -/
def handlerStep (p : Proc) (s : State) : State :=
  if (procSt s p).state ≠ .ready then s
  else match s.mbx.open_.find? (fun r => r.handler == p && r.started) with
    | some r => finishReq r s
    | none => match s.mbx.open_.find? (fun r => r.handler == p) with
      | some r => startReq r s
      | none => s

/-- HANDLER_RESPONSE (R398, R399): the handler carries out its next request and answers it when the block's result is there. -/
def doHandlerResponse (p : Proc) (s : State) : State :=
  if s.mbx.open_.any (fun r => r.handler == p && r.started) then handlerStep p s
  else
    let n := s.mbx.open_.length
    let s := handlerStep p s
    if s.mbx.open_.length = n then handlerStep p s else s

/-- MAILBOX_TIMEOUT (R394): the oldest request of the channel has waited 2 s. -/
def doMailboxTimeout (chan : Fin 8) (s : State) : State :=
  match s.mbx.open_.find? (fun r => r.chan == chan.val && decide (r.at_ + 2 * sec ≤ s.now)) with
  | some r => raise uMBX 2 .contained { unit := chan.val, w1 := some (w32 r.typ) } (hwAnswer r 0x0E s)
  | none => s

/-- A long operation has ended; the final result word (R398). -/
def longEnd (s : State) (l : LongOp) : Option Word :=
  match l.typ with
  | 0x30 => if fld (regRead s 0x140040) 31 24 ≠ l.tag ∨ (6 ≤ s.cus.state) ∨ s.cus.state = 0 then some (regRead s 0x140040) else none
  | 0x31 => if s.cus.restart = 0 ∨ s.cus.restart = 7 then some (regRead s 0x140098) else none
  | 0x38 => if s.cnp.load = none ∨ fld (regRead s 0x100020) 31 24 ≠ l.tag then some (regRead s 0x100020) else none
  | _ => if s.upd.record.state ≠ 1 then some (regRead s 0x1C0020) else none

/-- EVENTs of the long operations that have ended. -/
def longWatch (s : State) : State :=
  forEach s.mbx.longs (fun l s =>
    match longEnd s l with
    | some w => mbxEvent l.seq w { s with mbx.longs := s.mbx.longs.erase l }
    | none => s) s

/-- The handlers' moves at a tick, and the events that are due. -/
def mbxTick (s : State) : State :=
  if s.mbx.open_ = [] ∧ s.mbx.longs = [] then s
  else longWatch (forEach [Proc.sec, .pwr, .thm, .cus, .hst, .recd] handlerStep s)

/-! ### MBX4's registers (R391, R402) -/

/-- MBX_C_ACK: the key releases the outbound buffer and the next fragment or event. -/
def mbxAckWrite (path : Path) (w : Word) (s : State) : State :=
  withAuthority path 0x020890 w (fun s => if fld w 15 0 = 0xA5 then { s with mbx.out := tset [] s.mbx.out 4 ((tget [] s.mbx.out 4).drop 1) } else s) s

def doMbxAck (path : Path) (value : Word) (s : State) : State := mbxAckWrite path value s

/-- MBX_C_DOORBELL: `n` bytes of the inbound buffer form the message. -/
def mbxDoorbell (path : Path) (w : Word) (s : State) : State :=
  withAuthority path 0x02088C w (fun s =>
    let n := fld w 15 0
    let b := fun i => tget 0 s.mbx.inbuf i
    let len := fld (b 2) 15 0
    let k := (len + 3) / 4
    let ws := (List.range (4 + k)).map b
    let m : MbxMsg := { chan := 4, major := fld (b 0) 7 0, seq := b 1, length := len, whole := decide (20 ≤ n) && decide (n ≤ 260) && decide (n = 20 + len)
                        crcOk := b (4 + k) == crc32c ((ws.flatMap wordBytes).take (16 + len)), target := fld (b 2) 31 24, flags := b 3, payload := (List.range k).map (fun i => b (4 + i)) }
    mbxSubmit (fld (b 0) 31 16) m none s) s

/-! ### The messages -/

def doPing (m : MbxMsg) (s : State) : State := mbxSubmit 0x01 m none s
def doGetInfo (m : MbxMsg) (s : State) : State := mbxSubmit 0x02 m none s
def doCsrRead (m : MbxMsg) (s : State) : State := mbxSubmit 0x03 m none s
def doContractLoad (m : MbxMsg) (s : State) : State := mbxSubmit 0x10 m none s
def doContractArm (m : MbxMsg) (s : State) : State := mbxSubmit 0x11 m none s
def doContractCancel (m : MbxMsg) (s : State) : State := mbxSubmit 0x12 m none s
def doLedgerRead (m : MbxMsg) (s : State) : State := mbxSubmit 0x13 m none s
def doSlotPower (m : MbxMsg) (s : State) : State := mbxSubmit 0x20 m none s
def doTrayPower (m : MbxMsg) (s : State) : State := mbxSubmit 0x21 m none s
def doShutdownClear (m : MbxMsg) (s : State) : State := mbxSubmit 0x22 m none s
def doMotorClear (m : MbxMsg) (s : State) : State := mbxSubmit 0x23 m none s
def doLeakClear (m : MbxMsg) (s : State) : State := mbxSubmit 0x24 m none s
def doLocate (m : MbxMsg) (s : State) : State := mbxSubmit 0x28 m none s
def doIndicator (m : MbxMsg) (s : State) : State := mbxSubmit 0x29 m none s
def doModelLoad (m : MbxMsg) (s : State) : State := mbxSubmit 0x30 m none s
def doJobRestart (m : MbxMsg) (s : State) : State := mbxSubmit 0x31 m none s
def doCanopyLoad (m : MbxMsg) (img : Option ImageRec) (s : State) : State := mbxSubmit 0x38 m img s
def doCanopyCtrl (m : MbxMsg) (s : State) : State := mbxSubmit 0x39 m none s
def doUpdateStage (m : MbxMsg) (s : State) : State := mbxSubmit 0x40 m none s
def doUpdateActivate (m : MbxMsg) (s : State) : State := mbxSubmit 0x41 m none s
def doUpdateStatus (m : MbxMsg) (s : State) : State := mbxSubmit 0x42 m none s
def doAttest (m : MbxMsg) (s : State) : State := mbxSubmit 0x48 m none s
def doProcRestartMsg (m : MbxMsg) (s : State) : State := mbxSubmit 0x50 m none s
def doChipResetMsg (m : MbxMsg) (s : State) : State := mbxSubmit 0x51 m none s
def doRecorder (m : MbxMsg) (s : State) : State := mbxSubmit 0x58 m none s
def doRelay (m : MbxMsg) (s : State) : State := mbxSubmit 0x60 m none s

end Sys2Proof.Machine
end

