-- ==== Sys2Proof/Machine/Access.lean ====
section
/-! DEFINITION. Writes of the control and status space and every way in: a register write, the link's CSR accesses, the two-wire target, the test access port; the hand-over of held
pins; and the training of LPDDR5X (00_scope.md R9–R12; 01 R16, R17, R35, R36; 10 R313–R315; 11 R329, R335; 12 R343, R348–R352; 18 R493; 19 R514, R515). -/

namespace Sys2Proof.Machine

/-! ### Plain and write-1-to-clear registers -/

/-- The ones of a word, cleared in a set of bit numbers. -/
def clearBits (w : Word) (l : NSet) : NSet := l.filter (fun b => !bit w b)

/-- A write of an RW register: its field bits take the word's (R9). -/
def rwWrite (off : Nat) (w : Word) (s : State) : State :=
  let w := keptBits off false w
  let b := off / 0x10000
  let o := off % 0x10000
  match b with
  | 0x03 => if 0x5000 ≤ o then { s with sec.keyBuf := setBufWord ((o - 0x5000) / 4) w s.sec.keyBuf } else setWord off w s
  | 0x02 => { s with mbx.inbuf := tset 0 s.mbx.inbuf ((o - 0x100) / 4) w }
  | 0x09 => if 0x4000 ≤ o then { s with shp.bankWords := tset 0 s.shp.bankWords ((o - 0x4000) / 4) w } else setWord off w s
  | 0x0E =>
    if 0x400 ≤ o % 0x1000 ∧ o % 0x1000 < 0xE00 ∧ (o % 0x1000 - 0x400) % 0x200 = 0 then fxStart (o / 0x1000) ((o % 0x1000 - 0x400) / 0x200) w s
    else setWord off w s
  | 0x1B =>
    if o = 0x24 then setLocate (bit w 16) { s with und.ind.locateS := fld w 15 0 }
    else { s with und.ind.reg := tset 0 s.und.ind.reg (o / 4) (256 * fld w 8 8 + fld w 3 0) }
  | _ => setWord off w s

/-- A write of a register with RW1C fields (R9). -/
def w1cWrite (path : Path) (off : Nat) (w : Word) (s : State) : State :=
  let b := off / 0x10000
  let o := off % 0x10000
  match windowOf off with
  | some u =>
    if off % 0x100 = 0 then (if bit w 8 then updWin u.key (fun x => { x with storm := false }) s else s)
    else clearPending u ((off % 0x100 - 0x60) / 4) w s
  | none =>
    match b with
    | 0x00 => { s with und.cause.bits := s.und.cause.bits &&& ~~~ (w &&& 0x7F#32) }
    | 0x08 => if bit w 31 then doFfrValidClear path s else s
    | 0x0B => if bit w 2 then { s with mot.fsSeen := sdel s.mot.fsSeen ((o - 0x10) / 4) } else s
    | 0x0E =>
      let p := o / 0x1000
      if o % 0x1000 = 0x11C then updTwp p (fun x => { x with flags := clearBits w x.flags }) s
      else if p = 0 then driveAlert (updTwp 0 (fun x => { x with alertPend := x.alertPend.filter (fun k => !bit w (16 + k)) }) s)
      else s
    | 0x0F => if bit w 3 then updReq (o / 0x400) ((o % 0x400 - 0x100) / 0x20) (fun q => { q with full := false }) s else s
    | _ =>
      if 0x04 ≤ b ∧ b ≤ 0x07 then { s with gld.qOverrun := tset 0 s.gld.qOverrun (b - 4) (tget 0 s.gld.qOverrun (b - 4) &&& ~~~ w) }
      else s

/-! ### Write-only keys -/

def woWrite (path : Path) (off : Nat) (w : Word) (s : State) : State :=
  let b := off / 0x10000
  let o := off % 0x10000
  if off = 0x000024 then doResetCtrlKey path w s
  else if isCommitReg off then commitWrite path off w s
  else if b = 0x01 then
    (let p := procOf ((o - 0x100) / 0x40)
     if o % 0x40 = 0x0C then doProcReady path p w s else doProcWdKick path p w s)
  else if off = 0x02088C then mbxDoorbell path w s
  else if off = 0x020890 then mbxAckWrite path w s
  else if off = 0x040018 then (if fld w 15 0 = 0xC7 then doGroupCommit path s else s)
  else if 0x04 ≤ b ∧ b ≤ 0x07 ∧ fld w 15 0 = 0xC7 then
    (let t : Fin 64 := Fin.ofNat 64 ((b - 4) * 16 + (o - 0x400) / 0x800)
     if bit w 16 then doTileDiscard path t s else doTileCommit path t s)
  else s

/-! ### Command pairs (R10, R11) -/

/-- Act on a matching pair of an RWP register. What an environment would bring with it (a bus clear that frees the data line) is a free choice here. -/
def pairCommand (path : Path) (base : Nat) (w : Word) (s : State) : State :=
  match windowOf base with
  | some u => if base % 0x100 = 0x30 then fwCtrlWrite path u w s else fwInjectWrite path u w s
  | none =>
    let b := base / 0x10000
    let o := base % 0x10000
    match b with
    | 0x00 => errCtrlWrite path w s
    | 0x01 => fpcCtrlWrite path (procOf ((o - 0x100) / 0x40)) w s
    | 0x03 => if o = 0x20 then rcvWrite path w none noFlash s else keyWrite path w s
    | 0x08 => seqCmdWrite path w s
    | 0x09 => schedActWrite path w s
    | 0x0A => shdnClrWrite path w s
    | 0x0B => motClearWrite path w s
    | 0x0C => lkfClearWrite path w s
    | 0x0E => twpCtrlWrite path (o / 0x1000) w (Config.freeValue s.fresh % 2 == 1) { s with fresh := s.fresh + 1 }
    | 0x10 => cnpCmdWrite path w s
    | 0x14 => if o = 0x10 then cusCmdWrite path w s else cusRestartWrite path w s
    | 0x15 => rcdCmdWrite path w s
    | 0x16 => gclCmdWrite path ((o - 0x1000) / 0x100) w s
    | 0x18 => nvsCmdWrite path w s.nvs.readBuf s
    | _ => updCmdWrite path w s

/-- A write of one word of an RWP pair: the block acts once the complement word is the ones' complement of the value word (R10). -/
def cmdPairWrite (path : Path) (off : Nat) (comp : Bool) (w : Word) (s : State) : State :=
  let base := if comp then off - 4 else off
  let h := (tfind s.regs.half base).getD { value := regWord s base, comp := ~~~ regWord s base, since := 0 }
  let w := keptBits off comp w
  let h := if comp then { h with comp := w, since := s.now } else { h with value := w, since := s.now }
  if h.comp = ~~~ h.value then pairCommand path base h.value { s with regs.half := terase s.regs.half base }
  else { s with regs.half := tput s.regs.half base h }

/-- Window that records the repair of a pair (R11), and its source: PAIR_RESTORE of the ID block, and in the others, whose tables list no such row, the number after the last (log 61). -/
def restoreSource (off : Nat) : FUnit × Nat :=
  match windowOf off with
  | some u => (u, match u with | .twp _ => 10 | .block b => if b = 0 then 4 else sourceCount b)
  | none =>
    let b := off / 0x10000
    if b = 0x00 then (uID, 4) else if b = 0x0E then (.twp (off / 0x1000 % 16), 10) else (.block b, sourceCount b)

/-- RWP_PAIR_TIMEOUT (R11): a pair left unequal for 1 ms is restored to the pair in effect. -/
def pairRestore (base : Nat) (s : State) : State :=
  match tfind s.regs.half base with
  | some h =>
    if h.since + ms ≤ s.now then
      let r := restoreSource base
      raise r.1 r.2 .corrected { w1 := some (w32 base), w2 := h.value, w3 := h.comp } { s with regs.half := terase s.regs.half base }
    else s
  | none => s

def doRwpPairTimeout (offset : BitVec 24) (s : State) : State := pairRestore (pairBase offset.toNat) s

/-! ### A register write (R9, R36) -/

/-- A write of a mapped word by its access code; read-only words ignore it. -/
def wordWrite (path : Path) (off : Nat) (w : Word) (s : State) : State :=
  match accOf off with
  | .ro => s
  | .rc => s
  | .wo => woWrite path off w s
  | .stg c =>
    let b := off / 0x10000
    if 0x04 ≤ b ∧ b ≤ 0x07 then
      stageWrite path ((b - 4) * 16 + (off % 0x10000 - 0x400) / 0x800) (((off % 0x10000 - 0x400) % 0x800 - 0x400) / 8) c w s
    else withAuthority path off w (setWord off (keptBits off c w)) s
  | .rw => withAuthority path off w (rwWrite off w) s
  | .w1c => withAuthority path off w (w1cWrite path off w) s
  | .cmd c => withAuthority path off w (cmdPairWrite path off c w) s

/-- A write of any offset of the control and status space: an unmapped or reserved one is discarded and recorded (R36), the paging window ignores it on the wide paths (R35). -/
def writeAccess (path : Path) (off : Nat) (w : Word) (s : State) : State :=
  if off % 4 = 0 ∧ mapped off then wordWrite path off w s
  else if pagingWindow off then s
  else unmappedFault path off w s

def doRegisterWrite (path : Path) (offset : BitVec 24) (value : Word) (s : State) : State := writeAccess path offset.toNat value s

/-- UNMAPPED_ACCESS (R36). -/
def doUnmappedAccess (path : Path) (offset : BitVec 24) (write : Option Word) (s : State) : State :=
  if mapped offset.toNat ∨ pagingWindow offset.toNat then s
  else unmappedFault path offset.toNat (write.getD 0) s

/-! ### CSR accesses over the link (R313–R315, R493) -/

/-- Path of a CSR access that the port serves: UP, and on a follower the cascade ports, under the upstream manager's authority. -/
def csrPath (s : State) (p : Nat) : Option Path :=
  if p = 0 then some .up else if p = 9 ∧ ¬ isLead s then some .cs0 else if p = 10 ∧ ¬ isLead s then some .cs1 else none

/-- Status of a CSR access: 0, 2 UNMAPPED. -/
def csrStatus (off : Nat) : Nat := if (off % 4 = 0 ∧ mapped off) ∨ pagingWindow off then 0 else 2

/-- CSR_RD (R313–R315). -/
def doCsrRd (port : Fin 11) (tag : BitVec 13) (addr : BitVec 48) (s : State) : State :=
  let p := port.val
  let a := addr.toNat
  if ¬ portActive s p then s
  else match csrPath s p with
    | none => refuseAccess p tag.toNat 3 a s
    | some path =>
      if 0x1000000 ≤ a then refuseAccess p tag.toNat (if 0x800000000000 ≤ a then 3 else 2) a s
      else
        let r := if csrStatus a = 0 then readAccess path a s else (0, unmappedFault path a 0 s)
        gclSend p (.cmpData tag.toNat (csrStatus a) false [r.1]) r.2

/-- CSR_WR (R313–R315): a write that a register's own rule discards completes as OK. -/
def doCsrWr (port : Fin 11) (tag : BitVec 13) (addr : BitVec 48) (data : Word) (s : State) : State :=
  let p := port.val
  let a := addr.toNat
  if ¬ portActive s p then s
  else match csrPath s p with
    | none => refuseAccess p tag.toNat 3 a s
    | some path =>
      if 0x1000000 ≤ a then refuseAccess p tag.toNat (if 0x800000000000 ≤ a then 3 else 2) a s
      else gclSend p (.cmp tag.toNat (csrStatus a)) (writeAccess path a data s)

/-! ### Register access as two-wire target (R343, R348–R352) -/

/-- The port acknowledges the address: its list or mask, 0x40 on TWP0 in recovery wait without a bitstream (R421); TWP0 of a follower acknowledges none (R352). -/
def targetAcks (s : State) (p a : Nat) : Bool :=
  if p = 0 ∧ ¬ isLead s then false
  else if p = 0 ∧ s.sec.phase = 3 ∧ s.cfg.running.isNone then a == 0x40
  else (addrMatch s p a).isSome

/-- Path of a target port's accesses: only TWP0 carries the upstream manager's. -/
def twPath (p : Nat) : Path := if p = 0 then .twp0 else .none

/-- A flag of R349, R350 or R352 with its corrected fault. -/
def targetFlag (p b : Nat) (s : State) : State := raise (.twp p) 1 .corrected { unit := p, item := b } (twpFlag p b s)

/-- A write of the paging window: bits 31:8 are RSV, and the page changes when the pair matches (R35). -/
def pageWrite (p o : Nat) (w : Word) (s : State) : State :=
  updTwp p (fun x =>
    let q := if o = 0xFFF0 then { x.pageSel with value := w &&& 0xFF } else if o = 0xFFF4 then { x.pageSel with comp := w ||| 0xFFFFFF00 } else x.pageSel
    let x := { x with pageSel := q, pageSince := s.now }
    if pairOk q then { x with page := q.value.toNat % 256 } else x) s

/-- The word at an offset of the page in effect at the transaction's start. -/
def targetWord (p page o : Nat) (w : Word) (s : State) : State :=
  if 0xFFF0 ≤ o then pageWrite p o w s else writeAccess (twPath p) (page * 65536 + o) w s

/-- Commit words in ascending offset order. -/
def commitWords (p page : Nat) : Nat → List Word → State → State
  | _, [], s => s
  | o, w :: r, s => commitWords p page (o + 4) r (targetWord p page o w s)

/-- Units of five bytes of a write with PEC: data words, whether a PEC byte mismatched, and the bytes left over. `sent` holds the bytes of the transaction so far. -/
def pecUnits : Nat → List Byte → List Byte → List Word × Bool × List Byte
  | 0, _, l => ([], true, l)
  | n + 1, sent, l =>
    match l with
    | a :: b :: c :: d :: e :: r =>
      if pec (sent ++ [a, b, c, d]) = e then
        (let q := pecUnits n (sent ++ [a, b, c, d, e]) r
         (w32 (leNat [a, b, c, d]) :: q.1, q.2.1, q.2.2))
      else ([], false, [])
    | _ => ([], true, l)

/-- The data bytes of a write after its pointer (R349, R350, R352). -/
def targetData (p addr ptr : Nat) (ptrBytes data : List Byte) (s : State) : State :=
  let x := twpPort s p
  if data = [] then s
  else if p ≠ 0 then targetFlag p 8 s
  else if hasPec s p then
    let d := data.take (5 * ((64 - ptr % 64) / 4))
    let q := pecUnits (d.length + 1) (BitVec.ofNat 8 (2 * addr) :: ptrBytes) d
    let z : Bool × State := if d.length < 5 then (q.2.1, s) else injectCheck (.twp p) 1 p q.2.1 s
    if ¬ z.1 then
      updTwp p (fun x => { x with deaf := true }) (raise (.twp p) 1 .corrected { unit := p, item := 4, inj := q.2.1 } (twpFlag p 4 z.2))
    else
      let s := if d.length < data.length then targetFlag p 5 z.2 else z.2
      let s := if q.2.2 ≠ [] then targetFlag p 6 s else s
      let ws := q.1
      let s := commitWords p x.page ptr ws s
      updTwp p (fun x => { x with pointer := (ptr + 4 * ws.length) % 65536 }) s
  else if ptr % 4 ≠ 0 then targetFlag p 7 s
  else
    let room := 64 - ptr % 64
    let d := data.take room
    let s := if room < data.length then targetFlag p 5 s else s
    let s := if d.length % 4 ≠ 0 then targetFlag p 6 s else s
    let s := commitWords p x.page ptr (wordsOf d) s
    updTwp p (fun x => { x with pointer := (ptr + d.length) % 65536 }) s

/-- The pointer bytes of a write; with PEC an unaligned pointer is not acknowledged (R350). -/
def targetPointer (p : Nat) (hi lo : Byte) (s : State) : Option Nat × State :=
  let ptr := hi.toNat * 256 + lo.toNat
  if hasPec s p ∧ ptr % 4 ≠ 0 then (none, targetFlag p 7 s)
  else (some ptr, updTwp p (fun x => { x with pointer := ptr }) s)

/-- TWP_TARGET_WRITE (R348–R350, R352): a whole, well-placed write transaction. -/
def doTwpTargetWrite (port : Fin 16) (addr : BitVec 7) (bytes : List Byte) (s : State) : State :=
  let p := port.val
  if ¬ targetAcks s p addr.toNat then s
  else
    let s := updTwp p (fun x => { x with deaf := false, sclLow := false }) s
    match bytes with
    | hi :: lo :: data =>
      let r := targetPointer p hi lo s
      (match r.1 with | some ptr => targetData p addr.toNat ptr [hi, lo] data r.2 | none => r.2)
    | _ => s

/-- A word of the paging window through port `p` (R35): PAGE_SEL, its complement, PAGE_STATUS with the page in effect and whether the pair is unequal, and a reserved word. -/
def pageWord (s : State) (p o : Nat) : Word :=
  let x := twpPort s p
  match o with
  | 0xFFF0 => x.pageSel.value
  | 0xFFF4 => x.pageSel.comp
  | 0xFFF8 => packF [(8, b2n (!pairOk x.pageSel)), (0, x.page)]
  | _ => 0

/-- Words a read touches, from the pointer on, wrapping within the page: their values, and the state after their side effects. -/
def readWords (p page : Nat) : Nat → Nat → State → List Word × State
  | 0, _, s => ([], s)
  | n + 1, o, s =>
    let o := o % 65536
    let r := if 0xFFF0 ≤ o then (pageWord s p o, s) else readAccess (twPath p) (page * 65536 + o) s
    let q := readWords p page n (o + 4) r.2
    (r.1 :: q.1, q.2)

/-- Read units with PEC: four data bytes, then the PEC of every byte of the transaction so far (R350). -/
def pecReads (sent : List Byte) : List Word → List Byte
  | [] => []
  | w :: r => let u := wordBytes w ++ [pec (sent ++ wordBytes w)]; u ++ pecReads (sent ++ u) r

/-- TWP_TARGET_READ (R348, R350): `count` bytes from the pointer on, which the port drives. `sent` holds the bytes of the same transaction before the address byte of the read part:
none when the read begins with a start. -/
def doTwpTargetRead (port : Fin 16) (addr : BitVec 7) (sent : List Byte) (count : Nat) (s : State) : State :=
  let p := port.val
  if ¬ targetAcks s p addr.toNat ∨ count = 0 then s
  else
    let s := updTwp p (fun x => { x with deaf := false, sclLow := false }) s
    let x := twpPort s p
    let n := if hasPec s p then (count + 4) / 5 else (x.pointer % 4 + count + 3) / 4
    let r := readWords p x.page n (x.pointer / 4 * 4) s
    let l := if hasPec s p then pecReads (sent ++ [BitVec.ofNat 8 (2 * addr.toNat + 1)]) r.1 else (r.1.flatMap wordBytes).drop (x.pointer % 4)
    updTwp p (fun x => { x with driven := l.take count, pointer := (x.pointer + (if hasPec s p then 4 * n else count)) % 65536 }) r.2

/-- TWP_BUS_ERROR (R351): a misplaced condition; the bytes before it set at most the pointer. -/
def doTwpBusError (port : Fin 16) (bytes : List Byte) (s : State) : State :=
  let p := port.val
  if ¬ isTarget s p then s
  else
    let s := match bytes with | hi :: lo :: _ => (targetPointer p hi lo s).2 | _ => s
    raise (.twp p) 0 .corrected { unit := p } (twpFlag p 0 (updTwp p (fun x => { x with errors := satInc 255 x.errors, deaf := false }) s))

/-- Page pairs left unequal for 1 ms go back to the page in effect (R11, R35). -/
def pageRestore (p : Nat) (s : State) : State :=
  let x := twpPort s p
  if ¬ pairOk x.pageSel ∧ x.pageSince + ms ≤ s.now then
    raise (.twp p) 10 .corrected { unit := p, w1 := some 0xFFF0#32 } (updTwp p (fun x => { x with pageSel := mkPair (w32 x.page) }) s)
  else s

/-! ### Held pins (R16, R17) -/

/-- Window and source of a pin's handover fault. -/
def handoverSource (p : HeldPin) : FUnit × Nat :=
  match p with
  | .en _ => (.block 0x08, 4) | .pfw => (.block 0x08, 4)
  | .thr _ => (.block 0x09, 10) | .lease _ => (.block 0x09, 10)
  | .jobAbort => (.block 0x14, 11)
  | .upAlert => (.twp 0, 9)
  | .err => (uSEC, 8)
  | .ind _ => (uIND, 1)

/-- HANDOVER_TIMEOUT (R17): a mismatch has lasted 100 ms; it is recorded once. -/
def doHandoverTimeout (pin : HeldPin) (s : State) : State :=
  let l := latchOf s pin
  match l.since with
  | some t =>
    if l.held ∧ ¬ l.reported ∧ t + 100 * ms ≤ s.now then
      let r := handoverSource pin
      raise r.1 r.2 .contained { unit := pin.num } (updLatch pin.num (fun l => { l with reported := true }) s)
    else s
  | none => s

/-- At its block's tick a held pin is handed over when the level the block presents equals the held one. -/
def handover (s : State) : State :=
  { s with und.latches := s.und.latches.map (fun e =>
      if e.2.held && e.2.want == some e.2.level then (e.1, { e.2 with held := false, want := none, since := none, reported := false }) else e) }

/-- The lease recorded for a pin lies in the future and its pair matches. -/
def leaseLive (s : State) (k : Nat) : Bool :=
  match tfind s.und.leaseExp k with
  | some e => e.comp == notW64 e.expiry && decide (s.now < e.expiry)
  | none => false

/-- LEASE_PIN_EXPIRY (R16): the pin falls at the expiry of its lease, and at once when none is recorded or the pair does not match. -/
def leaseFall (k : Nat) (s : State) : State :=
  let l := latchOf s (.lease k)
  if l.held ∧ l.level ≠ 0 ∧ ¬ leaseLive s k then updLatch (HeldPin.lease k).num (fun l => { l with level := 0, since := if l.want = some 0 then none else l.since }) s else s

def doLeasePinExpiry (slot : Fin 8) (s : State) : State := leaseFall slot.val s

/-- The level a pin shows: a held THR pair may rise with the requests that enter after its latch (R16). -/
def pinLevel (s : State) (p : HeldPin) : Nat :=
  match p with
  | .thr k => max (latchOf s p).level (thrLevel s k)
  | .lease k => if leaseLive s k then (latchOf s p).level else 0
  | _ => (latchOf s p).level

/-- The pin a SOURCE code of a pin-state record names (DESIGN CHOICE, log 110): EN0–EN127, then from 0x0080 PG0–PG127, from 0x0100 THR0–THR7, from 0x0110 LEASE0–LEASE7, then PFW_N, JOB_ABORT_N,
ERR_N and UP_ALERT_N; none for a pin the model does not hold or a power-good pin whose level has not been accepted. -/
def pinState (s : State) (src : Nat) : Option Nat :=
  if src < 0x80 then some (pinLevel s (.en src))
  else if src < 0x100 then (match tget 0 s.seq.pgPin (src - 0x80) with | 0 => none | n => some (n - 1))
  else if src < 0x108 then some (pinLevel s (.thr (src - 0x100)))
  else if 0x110 ≤ src ∧ src < 0x118 then some (pinLevel s (.lease (src - 0x110)))
  else match src with
  | 0x120 => some (pinLevel s .pfw)
  | 0x121 => some (pinLevel s .jobAbort)
  | 0x122 => some (pinLevel s .err)
  | 0x123 => some (pinLevel s .upAlert)
  | _ => none

/-- The pin logic writes the pin states that the bitstream assigns to 640–767, at the end of each step (R41). -/
def pinSignals (s : State) : State :=
  if s.sec.phase = 0 then s
  else forEach (s.gld.signals.filter (fun r => decide (640 ≤ r.index ∧ r.index < 768))) (fun r s =>
    match pinState s r.source with
    | some n =>
      let g := tget {} s.gld.plane r.index
      if g.value = w32 n ∧ !g.stale then s else writeSignal r.index (w32 n) false s
    | none => s) s

/-! ### LPDDR5X training (R329, R335) -/

/-- The recorder starts once LPDDR5X is trained with a recorder region (R335). -/
def rcdStart (s : State) : State :=
  if dramTrained s ∧ s.mem.rcd.state = 0 ∧ 0 < regionMib s 2 then { s with mem.rcd.state := 1, mem.rcd.since := s.now } else s

/-- MI_TRAIN_DONE (R329): an attempt of an interface ended; the third failure leaves it failed. -/
def doMiTrainDone (mi : Fin 8) (ok : Bool) (s : State) : State :=
  let i := mi.val
  if s.sec.phase = 0 ∨ s.mem.trained.contains i ∨ s.mem.failed.contains i then s
  else if ok then rcdStart { s with mem.trained := sadd s.mem.trained i, mem.tries := terase s.mem.tries i }
  else
    let n := tget 0 s.mem.tries i + 1
    let s := { s with mem.tries := tput s.mem.tries i n }
    if n < 3 then s else raise uMEM 2 .contained { unit := i } { s with mem.failed := sadd s.mem.failed i }

/-! ### Test access port (R514, R515) -/

/-- The port is powered in D0–D2 (R514). -/
def tapLoad (i : TapInstr) (dr bound : Nat) (s : State) : State := if s.pmd.state = 3 then s else { s with tap := { ir := i, dr := w32 dr, bound := bound } }

def doTapBypass (s : State) : State := tapLoad .bypass 0 0 s
def doTapIdcode (s : State) : State := tapLoad .idcode 0x10C889AB 0 s
def doTapSamplePreload (s : State) : State := tapLoad .samplePreload 0 s.tap.bound s

/-- EXTEST, CLAMP and HIGHZ take effect unless the device is DEPLOYED and its tray is not down with every enable inactive (R515). -/
def tapAllowed (s : State) : Bool :=
  !s.fuses.deployed ||
    ((s.seq.trayState == 0 || s.seq.trayState == 1) &&
      (railsInUse s).all (fun r => (railRec s r).method != 1 || (latchOf s (.en (railRec s r).enOrCmd)).level == enLevel (railRec s r) false))

def tapPads (i : TapInstr) (s : State) : State :=
  if s.pmd.state = 3 then s
  else if tapAllowed s then tapLoad i 0 1 s
  else raise uID 5 .contained { path := pathCode .tap } (tapLoad .bypass 0 0 s)

def doTapExtest (s : State) : State := tapPads .extest s
def doTapClamp (s : State) : State := tapPads .clamp s
def doTapHighz (s : State) : State := tapPads .highz s

/-- KEY_RECORD: the port writes SEC_KEY_BUF, and SEC_KEY_CMD when `submit` (R414, R514). -/
def doTapKeyRecord (tag : Byte) (submit : Bool) (record : List Byte) (s : State) : State :=
  if s.pmd.state = 3 then s
  else
    let s := tapLoad .keyRecord 0 0 (fillKeyBuf record s)
    if submit then keyWrite .tap (w32 (tag.toNat * 16777216 + 1)) s else s

/-- CERT_WRITE: only while PROVISIONING (R469, R514). -/
def doTapCertWrite (bytes : List Byte) (s : State) : State :=
  if s.pmd.state = 3 then s
  else
    let s := tapLoad .certWrite 0 0 s
    if s.fuses.deployed then denyWrite .tap 0x180010 0 s
    else nvsQueue { rank := 4, area := 0x01, payload := some (.cert bytes), length := 3112 } s

/-- INJECT: FW_INJECT_UNIT and FW_INJECT of any window (R466, R514). -/
def doTapInject (u : FUnit) (injectUnit : BitVec 16) (tag source count : Byte) (mode : Fin 4) (s : State) : State :=
  if s.pmd.state = 3 then s
  else
    fwInjectWrite .tap u (injectWord tag.toNat source.toNat count.toNat mode.val)
      (setWord (winBase u + 0x40) (w32 injectUnit.toNat) (tapLoad .inject 0 0 s))

/-- CHIP_RESET: a chip reset with cause TAP (R37, R514). -/
def doTapChipReset (s : State) : State := if s.pmd.state = 3 then s else note (.chipReset 5) (tapLoad .chipReset 0 0 s)

end Sys2Proof.Machine
end

