-- ==== Sys2Proof/Machine/Resets.lean ====
section
/-! DEFINITION. The resets: power-on reset with its supply events, chip reset and D3 exit, block resets, and what the blocks present to the hold latches after them
(01 R15–R17, R37; 17 R460–R465; 18 R485; 19 R503–R508). -/

namespace Sys2Proof.Machine

/-! ### Hold latches (R16, R17) -/

/-- The latches of the pins that satisfy `p` freeze at their levels. -/
def freezeLatches (p : Nat → Bool) (s : State) : State :=
  forEach ((List.range 159).filter p) (fun n => updLatch n (fun l => { l with held := true, want := none, since := none, reported := l.held && l.reported })) s

def isEnPin (n : Nat) : Bool := decide (n < 128)
def isShpPin (n : Nat) : Bool := decide (128 ≤ n ∧ n < 144)
def isIndPin (n : Nat) : Bool := decide (148 ≤ n)

/-! ### Power-on reset and the supplies (R15, R503, R504, R508) -/

/-- The device after a power-on reset with the causes of `bits`: everything outside the MRAM die, the fuses and the supplies starts anew. -/
def powerOn (bits : Word) (sup : Supply) (s : State) : State :=
  { State.reset with pending := s.pending, fresh := s.fresh, fuses := s.fuses, mram := s.mram
                     und := { State.reset.und with supply := sup, cause := { bits := bits, count := 0 } } }

/-- POWER_ON_RESET (R15): POR_N is asserted. PWR_MAIN_EN stays asserted while the standby supplies are in range. -/
def doPowerOnReset (s : State) : State :=
  let u := s.und.supply
  powerOn 1#32 { u with porAsserted := true, mainEn := u.standbyGood, mainPg := u.standbyGood && u.mainPg, retryAt := none
                        enSince := if u.standbyGood then some 0 else none } s

/-- STANDBY_SUPPLY_LOSS (R37, R503). -/
def doStandbySupplyLoss (s : State) : State := powerOn 3#32 {} s

/-- MAIN_PG_FALL (R503): a power-on reset with POR alone, unless a D3 entry deasserted PWR_MAIN_EN. -/
def doMainPgFall (s : State) : State :=
  if s.und.supply.mainEn then powerOn 1#32 { s.und.supply with porAsserted := true, mainPg := false, enSince := some 0 } s else s

/-- STANDBY_SUPPLY_GOOD (R503): PWR_MAIN_EN is asserted whenever the standby supplies are in range and the device is not in D3. -/
def doStandbySupplyGood (s : State) : State :=
  if s.und.supply.standbyGood ∨ s.pmd.state = 3 then { s with und.supply.standbyGood := true }
  else { s with und.supply := { s.und.supply with standbyGood := true, mainEn := true, enSince := some s.now } }

/-- MAIN_PG_TIMEOUT (R504). -/
def doMainPgTimeout (s : State) : State :=
  let u := s.und.supply
  match u.enSince with
  | some t => if u.mainEn ∧ ¬ u.mainPg ∧ t + 20 * ms ≤ s.now then { s with und.supply := { u with mainEn := false, enSince := none, retryAt := some (s.now + sec) } } else s
  | none => s

/-- The next try of R504, one second after PWR_MAIN_EN was deasserted. -/
def supplyRetry (s : State) : State :=
  match s.und.supply.retryAt with
  | some t => if t ≤ s.now then { s with und.supply := { s.und.supply with mainEn := true, enSince := some s.now, retryAt := none } } else s
  | none => s

/-- POR_N_RELEASE (R508): the straps are sampled at the rising edge of POR_N. -/
def doPorNRelease (bootSrc casRole : Fin 4) (therm : Fin 8) (s : State) : State :=
  if s.und.supply.porAsserted then
    { s with und.supply.porAsserted := false, und.straps := { casRole := casRole.val, bootSrc := bootSrc.val, therm := therm.val }, sec.startAt := s.now }
  else s

/-! ### Chip reset and D3 exit (R15, R16, R37, R460, R465) -/

/-- Words that live outside the core die's reset: sense parameters and fast-trip levels in the front-end dies, and the alarms of the timebase in the Understory. -/
def keptWord (off : Nat) : Bool :=
  decide (0x0A8000 ≤ off ∧ off < 0x0B0000) || off == 0x090040 || off == 0x090048 || decide (0x170100 ≤ off ∧ off < 0x170180)

/-- The window restored from the capture saved before a fault-requested reset (R460). -/
def restoredWin (v : SavedCapture) : Tab FaultWin :=
  [(v.key, { state := .latched, first := v.source, firstClass := v.cls, worst := v.cls.code, restored := true, injected := v.injected, rFirst := v.rFirst
             time := v.time, capture := v.capture, pending := [v.source] })]

/-- A recorder that was writing is FROZEN by the reset, without POST (R335). -/
def freezeRecorder (s : State) : RcdS :=
  let r := s.mem.rcd
  if r.state = 1 then { r with state := 3, cause := 6, trig := s.now, since := s.now }
  else if r.state = 2 then { r with state := 3, since := s.now }
  else if r.state = 3 then { r with missed := satInc 255 r.missed }
  else r

/-- THM's groups resumed from their mirrors (R200). -/
def resumedGroups (s : State) : Tab GroupS := (List.range 32).foldl (fun t g => tset {} t g (resumeGroup g s).1) []

/-- A corrected fault for each mirror pair that did not match. -/
def mirrorFaults (old : State) (s : State) : State :=
  forEach ((List.range 32).filter (fun g => (resumeGroup g old).2)) (fun g s => raise uTHM 8 .corrected { unit := g } s) s

/-- The mirror pairs as an armed injection shows them when THM resumes (R466): the first of the named group, or of all. Answers the group it failed, too. -/
def injectMirrors (s : State) : Option Nat × State :=
  match s.und.thmMirror.find? (fun e => injectArmed uTHM 8 e.1 s) with
  | some e => let j := injectPair uTHM 8 e.1 e.2 s; (some e.1, { j.2 with und.thmMirror := tput j.2.und.thmMirror e.1 j.1 })
  | none => (none, s)

/-- UPD after a reset: what its chapter's switch and trial still need; the volatile part is gone. -/
def updAfterReset (s : State) : UpdS :=
  { s.upd with resTag := 0, result := 0, detail := 0, undisc := false, staging := false, proving := false, switchRec := none, applying := false }

/-- A chip reset that is itself a failure event of a trial (R447). -/
def resetEvent (cause : Nat) (s : State) : State := if cause = 2 ∨ cause = 3 then trialEvent 3 s else s

/-- Two-wire ports after a reset: the page is kept (R35), and a controller's bus is cleared before its first transfer (R356). -/
def twpAfterReset (s : State) (p : Nat) : TwpPort :=
  let x := twpPort s p
  { page := x.page, pageSel := mkPair (w32 x.page) }

/-- A job that a chip reset ends goes on as a restart only when it held remnant shards or was already restarting (R286, R290). -/
def keptJob (s : State) : Option JobNote := s.und.cusJob.filter (fun n => n.remnant || n.restarting)

/-- A chip reset with its cause bit, 6 for a D3 exit: the core die is cleared; the Understory, the fuses, the MRAM die, LPDDR5X and, except at a D3 exit, the motor and
front-end dies are kept. -/
def chipReset (cause : Nat) (old : State) : State :=
  let d3 : Bool := cause == 6
  let s := resetEvent cause (logFlush 2 old)
  let s := if s.upd.record.state = 3 ∧ s.upd.record.mode = 2 then markBefore s else s
  let s := freezeLatches (fun _ => true) s
  let err0 := (latchOf s .err).level == 0
  let parked := parkedDies s.now
  let twpd : Tab TwpPort := (List.range 16).foldl (fun t p => tset {} t p (twpAfterReset s p)) []
  let z : State :=
    { State.reset with
      pending := s.pending, fresh := s.fresh, tbs := s.tbs, fuses := s.fuses, mram := s.mram
      und := { s.und with
        cause := { bits := s.und.cause.bits ||| w32 (2 ^ cause), count := if d3 then s.und.cause.count else satInc 65535 s.und.cause.count }
        porStart := false, cusJob := keptJob s, wet := resumeWet s }
      pace := { vdd := s.pace.vdd, at850 := s.pace.at850 }
      regs := { words := s.regs.words.filter (fun e => keptWord e.1), live := s.regs.live.filter (fun e => keptWord e.1) }
      fw := (match s.und.saved with | some v => if cause = 2 then restoredWin v else [] | none => [])
      err := { heldPin := err0, asserted := err0, pulses := s.err.pulses }
      procs := s.procs.map (fun e => (e.1, { restarts := e.2.restarts }))
      sec := { startAt := s.now, exitD3 := d3, fuseJob := s.sec.fuseJob }
      upd := updAfterReset s
      gld := { loadCount := s.gld.loadCount }
      seq := { mustAdopt := !d3, pgPin := s.seq.pgPin }
      afe := s.afe
      thm := { group := resumedGroups s }
      thrForced := s.thrForced
      mot := { heardAt := s.now }
      mdie := if d3 then parked.1 else s.mdie
      mch := if d3 then parked.2 else s.mch
      cnp := { tile := s.cnp.tile.map (fun e => (e.1, { steps := e.2.steps })) }
      gcl := { port := s.gcl.port.map (fun e => (e.1, { downs := e.2.downs, recoveries := e.2.recoveries })) }
      mem := { scratch := if d3 then [] else s.mem.scratch, rcd := if d3 then {} else freezeRecorder s }
      dram := if d3 then { ledgerLost := true } else s.dram
      twpCfg := s.twpCfg, twp := { port := twpd }
      pmd := { residency := s.pmd.residency }
      tap := s.tap }
  let z := if cause = 2 then z else { z with und.saved := none }
  mirrorFaults s z

/-! ### Block resets (R462 step 5, R463) -/

/-- The registers of blocks `lo` to `hi` return to their reset values; what front-end dies and the Understory hold stays. -/
def clearRegs (lo hi : Nat) (s : State) : State :=
  let keep := fun (o : Nat) => !(decide (lo ≤ o / 0x10000 ∧ o / 0x10000 ≤ hi)) || keptWord o
  { s with regs.words := s.regs.words.filter (fun e => keep e.1), regs.live := s.regs.live.filter (fun e => keep e.1)
           regs.half := s.regs.half.filter (fun e => keep e.1), regs.commits := s.regs.commits.filter (fun e => keep e.1)
           regs.tags := s.regs.tags.filter (fun e => keep e.1) }

/-- SEC loads a block's section again from the verified copy that it holds. -/
def reload (f : Bitstream → State → State) (s : State) : State := match s.cfg.running with | some b => f b s | none => s

/-- A GLD quarter (R70): its tiles are reloaded and it passes LOADING and ADOPTING on its own. -/
def quarterReset (q : Nat) (s : State) : State :=
  if s.gld.state ≠ .running ∧ s.gld.state ≠ .adopting then s
  else reload (fun b s =>
    loadTiles b ((List.range 16).map (fun k => 16 * q + k))
      { s with gld.quarter := tput s.gld.quarter q .loading, gld.qOverrun := terase s.gld.qOverrun q
               gld.adopt.slots := s.gld.adopt.slots.filter (fun n => n / 128 != q) }) s

/-- Arbiter requesters that belong to a block (R358, R365; log 103): the rail transfers of SEQ, the shaper's messages and reads, the mailbox's payloads, the link's reads, custody's
writes, tree and scrub, and the recorder's writes. -/
def blockRequesters (b : Nat) : List (Nat × Nat) :=
  let on := fun (base n : Nat) (rs : List Nat) => (List.range n).flatMap (fun i => rs.map (fun r => (base + i, r)))
  match b with
  | 0x02 => on 8 8 [2] | 0x08 => on 16 16 [0] | 0x09 => on 16 16 [1]
  | 0x14 => on 0 8 [0, 5, 7] ++ on 8 8 [0] | 0x15 => on 0 8 [3] | 0x16 => on 0 8 [1, 2] ++ on 8 8 [1]
  | _ => []

/-- What the requester had waiting for a two-wire bus is dropped, and its transaction there finishes for nobody: its block has been reset. -/
def orphanOnBus (p r : Nat) (s : State) : State :=
  let s := updTwp p (fun x => { x with offer := x.offer.filter (fun o => twReq o.owner != r) }) s
  match (twpPort s p).cur with
  | some o => if twReq o.owner = r then updTwp p (fun x => { x with cur := some { o with owner := .other r } }) s else s
  | none => s

/-- A block's reset flushes the entries of its requesters (R376); nobody is left to take their results. -/
def flushRequesters (b : Nat) (s : State) : State :=
  forEach (blockRequesters b) (fun e s =>
    let s := { arbFlush e.1 e.2 s with notes := s.notes }
    if 16 ≤ e.1 ∧ e.1 < 32 then orphanOnBus (e.1 - 16) e.2 s else s) s

/-- Every requester's transfers of an instance end with ABORTED; weights load again. -/
def arbReset (i : Nat) (s : State) : State :=
  let s := forEach (List.range (arbCount i)) (fun r s => arbFlush i r s) s
  let s := updArb i (fun a => { lockable := a.lockable, loaded := a.loaded, refilled := a.refilled, lock := a.lock, beats := a.beats }) s
  let off := 0x0F0000 + 0x400 * i
  reload (fun b s => loadWords ((arbParWords b).filter (fun e => decide (off ≤ e.1 ∧ e.1 < off + 0x400))) s)
    { s with regs.words := s.regs.words.filter (fun e => e.1 / 0x400 != off / 0x400), regs.live := s.regs.live.filter (fun e => e.1 / 0x400 != off / 0x400) }

/-- A two-wire port (R361): the transaction in progress ends, a controller's with ABORTED, and a bus clear precedes its next transfer. TWP0's alert pin
freezes (R16). -/
def twpReset (p : Nat) (s : State) : State :=
  let cur := (twpPort s p).cur
  let s := if p = 0 then freezeLatches (· == 147) s else s
  let s := forEach (List.range 9) (fun r s => arbFlush (16 + p) r s) s
  let s := match cur with
    | some o => note (.twDone p o 8) (arbBeatEnd (16 + p) (twReq o.owner) s)
    | none => s
  updTwp p (fun _ => twpAfterReset s p) s

/-- The link: every port that is up goes down, and all detect their peers again. -/
def gclReset (s : State) : State :=
  let s := forEach (List.range 11) (fun p s => if 5 ≤ (gclPort s p).state ∧ (gclPort s p).state ≤ 7 then portDown p s else s) s
  let keep := s.gcl.port.map (fun e => (e.1, ({ downs := e.2.downs, recoveries := e.2.recoveries } : GclPort)))
  (if s.sec.phase = 0 then id else gclRelease) (clearRegs 0x16 0x16 { s with gcl := { port := keep } })

/-- SEQ (R125): its state is lost, its pins freeze, and the table it loads again waits for adoption. -/
def seqReset (s : State) : State :=
  let s := freezeLatches (fun n => isEnPin n || n == 144) s
  reload seqLoad (clearRegs 0x08 0x08 { s with seq := { mustAdopt := true, nextEpisode := s.seq.nextEpisode, pgPin := s.seq.pgPin } })

/-- SHP (R144, R167): it starts afresh and the ledger resumes from its checkpoint. -/
def shpReset (s : State) : State :=
  ledgerResume (clearRegs 0x09 0x09 { (freezeLatches isShpPin s) with shp := { capLast := s.shp.capLast } })

/-- THM (R200). -/
def thmReset (s : State) : State :=
  let i := injectMirrors s
  let s := i.2
  let z := reload thmLoad (clearRegs 0x0A 0x0A { s with thm := { group := resumedGroups s, nextShut := s.thm.nextShut } })
  forEach ((List.range 32).filter (fun g => (resumeGroup g s).2)) (fun g s => raise uTHM 8 .corrected { unit := g, inj := i.1 == some g } s) z

/-- Custody: what the Understory keeps of a load or a job resumes it. -/
def cusReset (s : State) : State :=
  let s := freezeLatches (· == 145) s
  clearRegs 0x14 0x14 { (stopCursors 0 s) with cus := { tree := s.cus.tree }, und.cusJob := keptJob s }

/-- The processors' block: every processor that ran restarts. -/
def fpcReset (s : State) : State :=
  forEach [Proc.sec, .pwr, .thm, .cus, .hst, .recd] (fun p s => if procRunning s p then procBegin p 1 (procStop p s) else s) (clearRegs 0x01 0x01 s)

/-- BLOCK_RESET (R462 step 5): the fault-owning unit alone; `inst` names the ARB instance. -/
def blockReset (u : FUnit) (inst : Nat) (s : State) : State :=
  match u with
  | .twp p => twpReset p s
  | .block b =>
    let s := flushRequesters b s
    if 0x04 ≤ b ∧ b ≤ 0x07 then quarterReset (b - 4) s
    else if 0x10 ≤ b ∧ b ≤ 0x13 then cnpQuarterReset (b - 0x10) s
    else match b with
    | 0x00 => { (freezeLatches (· == 146) (clearRegs 0x00 0x00 s)) with err := { heldPin := (latchOf s .err).level == 0, asserted := (latchOf s .err).level == 0, pulses := s.err.pulses } }
    | 0x01 => fpcReset s
    | 0x02 => clearRegs 0x02 0x02 { s with mbx := {} }
    | 0x03 => clearRegs 0x03 0x03 { s with sec := { s.sec with cand := none, candLen := 0, pulling := none, rcvTag := 0, rcvRes := 0, keyBuf := [], keyTag := 0, keySlot := 0, keyRes := 0 } }
    | 0x08 => seqReset s
    | 0x09 => shpReset s
    | 0x0A => thmReset s
    | 0x0B => reload motLoad (clearRegs 0x0B 0x0B { s with mot := { heardAt := s.now } })
    | 0x0C => reload lkfLoad (clearRegs 0x0C 0x0C (setWet (resumeWet s) { s with lkf := {} }))
    | 0x0F => if inst < 34 then arbReset inst s else s
    | 0x14 => cusReset s
    | 0x15 => clearRegs 0x15 0x15 { s with mem := { regions := s.mem.regions, scratch := s.mem.scratch, rcd := freezeRecorder s } }
    | 0x16 => gclReset s
    | 0x17 => clearRegs 0x17 0x17 s
    | 0x18 => nvsScan (clearRegs 0x18 0x18 { s with nvs := { logPend := s.nvs.logPend, logSince := s.nvs.logSince } })
    | 0x19 => clearRegs 0x19 0x19 { s with pmd := { s.pmd with next := 0, nextReq := 0, failed := [] }, pace := { vdd := s.pace.vdd, at850 := s.pace.at850 } }
    | 0x1A => clearRegs 0x1A 0x1A { s with cas := {} }
    | 0x1B => freezeLatches isIndPin s
    | 0x1C => clearRegs 0x1C 0x1C { s with upd := updAfterReset s }
    | _ => s

/-! ### What the blocks present to the latches after a reset (R17, R126, R290, R465) -/

/-- Custody's restart of a job that a chip reset met (R286 reason 7, R290): after adoption, with the addresses of the resume record. -/
def jobAfterReset (s : State) : State :=
  match s.und.cusJob with
  | some n =>
    if s.cus.job ∨ s.cus.restart ≠ 0 ∨ ¬ procRunning s .cus ∨ s.seq.mustAdopt ∨ ¬ s.seq.loaded ∨ ¬ (1 ≤ s.cus.state ∧ s.cus.state ≤ 5) ∧ s.cus.state ≠ 0 then s
    else
      let s := { s with cus.job := true, cus.jobSlots := n.slots }
      let s := match s.und.resume with
        | some r => if s.und.resumeC = some r then
            { s with cus.allow := r.allow, cus.mask := r.mask, cus.manAddr := r.manAddr, cus.manLen := r.manLen, cus.leafAddr := r.leafAddr, cus.sgAddr := r.sgAddr, cus.sgCount := r.sgCount }
            else s
        | none => s
      jobFaultReason 7 [] s
  | none => s

/-- Each block presents its pins: SEC ERR_N at the held level (R465), custody JOB_ABORT_N, the port TWP0 its alert line, IND the indicators, and SEQ, once it has adopted or
loaded its table, the pins no rail uses and PFW_N. -/
def presentOutputs (s : State) : State :=
  let s := if s.sec.phase ≠ 0 then presentHeld .err s else s
  let s := if s.und.cusJob.isSome ∧ s.cus.restart = 0 ∧ ¬ s.cus.job then s else drivePin .jobAbort (if s.cus.abort then 0 else 1) s
  let s := driveIndicators (driveAlert s)
  if s.seq.loaded ∧ ¬ s.seq.mustAdopt then
    let used := (railsInUse s).filterMap (fun r => if (railRec s r).method = 1 then some (railRec s r).enOrCmd else none)
    let s := { s with und.latches := s.und.latches.map (fun e => if isEnPin e.1 && e.2.held && e.2.want.isNone && !used.contains e.1 then (e.1, { e.2 with want := some e.2.level }) else e) }
    if (latchOf s .pfw).held then presentHeld .pfw s else drivePin .pfw (if s.seq.pfw then 0 else 1) s
  else s

end Sys2Proof.Machine
end

