-- ==== Sys2Proof/Machine/Tick.lean ====
section
/-! DEFINITION. TICK: the timebase moves to its next boundary and fires every class it crosses (01 R25, R26; 18 R489; and the tick-triggered work of every chapter). -/

namespace Sys2Proof.Machine

/-- Core-die logic runs: SEC has been released and the core is powered. -/
def coreRuns (s : State) : Bool := s.sec.phase != 0 && s.pmd.state != 3

/-- Sets that wait for their boundary take effect before anything the boundary triggers (R12, R72, R73, R95); a tile still evaluating keeps its set waiting. -/
def applySetsDue (c1ms : Bool) (late : List Nat) (s : State) : State :=
  let s := commitTick s
  let s := match s.gld.groupPend with
    | some g => if g.2.any late.contains then s else groupApply s
    | none => s
  let s := forEach ((s.gld.tile.filter (fun e => e.2.pending.isSome && !late.contains e.1)).map (·.1)) tileApply s
  if c1ms then configApply late s else s

/-- DRAM_HOT (R330): MR4 is read every 16 ms. -/
def mr4Read (hot : List Nat) (s : State) : State :=
  if dramTrained s ∧ s.now / ms % 16 = 0 then
    let new := (List.range 8).filter (fun i => hot.contains i && !s.mem.hot.contains i)
    forEach new (fun i s => raise uMEM 3 .contained { unit := i } s) { s with mem.hot := (List.range 8).filter hot.contains }
  else s

/-- Pairs of the paging windows left unequal for 1 ms (R11, R35). -/
def pageRestores (s : State) : State := forEach ((s.twp.port.filter (fun e => !pairOk e.2.pageSel)).map (·.1)) pageRestore s

/-- What follows each microsecond: the pace monitors, the link's credits, the mailboxes' handlers, SEC's releases and what waits on them, the update. -/
def usTick (env : TickEnv) (s : State) : State :=
  let s := if s.cfg.state = 1 then { s with cfg.state := 2 } else s
  updReact (applyEnd (holdUpdate (pullWatch (secPoll (mbxTick (gclTick (clkLowTick (paceTick env.pace s))))))))

/-- Fixed blocks on the 10 µs tick: the combiner takes the inputs written before this boundary and the fault caps of the sources set, then SHP's pass, messages and pins follow (R17, R28, R112, R140, R486). -/
def pass10us (s : State) : State :=
  let s := { s with tbs.tick10 := s.now }
  let s := shpPass (capCombine (faultInputs s))
  let s := sendDueCaps (forEach (List.range 8) leaseMirror s)
  let s := seqTick 1 (restartPoll (jobAfterReset s))
  handover (presentOutputs (throttleTime (wakeTick (twpTick 1 s))))

/-- Fixed blocks on the 1 ms tick (R182, R198, R214, R484, R494). -/
def pass1ms (env : TickEnv) (s : State) : State :=
  let s := gclMirrorLate (motTick (thmTick (lkfReaction s)))
  pmdTick (mr4Read env.hot (twpTick 3 (casTick s)))

/-- One class at the present boundary: the fabric's tiles, then the fixed blocks. -/
def classTick (env : TickEnv) (c : Nat) (s : State) : State :=
  let s := rcdTick c (cnpTick c (fabricTick c env.late s))
  match c with
  | 0 => usTick env s
  | 1 => pass10us s
  | 2 => pageRestores (seqTick 2 s)
  | 3 => pass1ms env s
  | 4 => sendTimeSync (twpTick 4 (seqTick 4 s))
  | 5 => powerWindowClose s
  | _ => confirmTick (servoTick s)

/-- Classes whose boundary lies between two counts, shortest first: each fires once (R25, R489). -/
def classesFired (a b : Time) : List Nat := (List.range 7).filter (fun c => decide (a / classNs c < b / classNs c))

/-- The device in D3: the Understory's clock and wake logic alone (R484, R504). -/
def sleepTick (ms1 : Bool) (s : State) : State := if ms1 then pmdTick s else s

/-- TICK (R25). -/
def doTick (env : TickEnv) (s : State) : State :=
  let a := s.now
  let s := supplyRetry (advanceTime s)
  let s := addResidency s.pmd.state (s.now - a) s
  let fired := classesFired a s.now
  if s.pmd.state = 3 then sleepTick (fired.contains 3) s
  else if ¬ coreRuns s then s
  else
    let s := applySetsDue (fired.contains 3) (env.late.map (·.1)) s
    forEach fired (classTick env) s

end Sys2Proof.Machine
end

