-- ==== Sys2Proof/Machine/Settle.lean ====
section
/-! DEFINITION. The end of a step: what a meaning left to it (resets, restarts, captures, alerts) and what follows of itself from the state reached (01 R16; 11 R334; 12 R353;
16 R442–R447; 17 R460–R463; log 9). -/

namespace Sys2Proof.Machine

/-! ### Notes -/

/-- CAPTURE1 of a window latched in this step: its block's first register at detection (R461), in the copy of the Understory too. -/
def fillCapture (key : Nat) (s : State) : State :=
  let base := if key / 16 = 0x0E then key * 0x1000 else key / 16 * 0x10000
  let w := regRead s base
  let s := updWin key (fun x => { x with capture := x.capture.set 1 w }) s
  { s with und.saved := s.und.saved.map (fun v => if v.key = key then { v with capture := v.capture.set 1 w } else v) }

/-- A contained or fatal raise: the alert sources of R353, the wake of R485 and, for a fatal one, the failure event of R447. -/
def severeRaise (fatal : Bool) (s : State) : State :=
  let s := alertSource (if fatal then 2 else 1) s
  let s := if s.pmd.state = 1 ∨ s.pmd.state = 2 then wakeTo 0 s else s
  if fatal then trialEvent 4 s else s

def settleNote (n : Note) (s : State) : State :=
  match n with
  | .blockReset u inst => blockReset u inst s
  | .chipReset c => chipReset c s
  | .procRestart p c => procRestart p c s
  | .slotFault k => jobFaultFromSlot k s
  | .latchFault k => jobFaultFromLatch k s
  | .powerDown k => shutdownPowerDownDone k s
  | .capture1 key => fillCapture key s
  | .logNow => logFlush 1 s
  | .severe f => severeRaise f s
  | .twDone p o r => twFinish p o r 0 [] s

/-- The cause of the first chip reset asked for. -/
def resetAsked (l : List Note) : Option Nat := l.findSome? (fun n => match n with | .chipReset c => some c | _ => none)

/-- Notes that a chip reset of the same step does not make redundant (R462). -/
def beforeReset (n : Note) : Bool := match n with | .capture1 _ => true | .logNow => true | .severe _ => true | _ => false

/-- One round of notes in the order they were left. A chip reset comes last and ends the rest. -/
def noteRound (s : State) : State :=
  let l := s.notes
  let s := { s with notes := [] }
  match resetAsked l with
  | some c => chipReset c { (forEach (l.filter beforeReset) settleNote s) with notes := [] }
  | none => forEach l settleNote s

/-- Rounds until no note is left. -/
def runNotes : Nat → State → State
  | 0, s => s
  | n + 1, s => if s.notes = [] then s else runNotes n (noteRound s)

/-! ### What follows of itself -/

/-- The alert sources of R353 that last: 0 a response on MBX4, 1 a contained and 2 a fatal fault held in a window, 3 a thermal emergency, 5 the MINUTE stage, 6 a job fault. -/
def alertLevels (s : State) : NSet :=
  (List.range 9).filter (fun j =>
    match j with
    | 0 => (tget [] s.mbx.out 4) != []
    | 1 => s.fw.any (fun e => e.2.state != .empty && e.2.worst == 1)
    | 2 => fatalFault s
    | 3 => thermalEmergency s
    | 5 => s.shp.minuteOn
    | 6 => s.cus.restart != 0
    | _ => false)

def signedBlocks (s : State) : Nat := (s.shp.closed.filter (fun b => b.signed.isSome)).length

/-- The alert sources that became active in the step (R353): 4 a ledger block signed, 7 the update state and 8 the boot status changed. -/
def alertEvents (a b : State) : List Nat :=
  (if signedBlocks a < signedBlocks b then [4] else []) ++ (if a.upd.record.state != b.upd.record.state then [7] else []) ++
  (if bootStatus a != bootStatus b then [8] else [])

/-- Raise the alerts of the step; faults raise theirs with the raise itself. -/
def alertReact (a s : State) : State :=
  let now := alertLevels s
  let new := now.filter (fun j => j != 1 && j != 2 && !(twpPort s 0).alertAct.contains j) ++ alertEvents a s
  let s := forEach new alertSource s
  updTwp 0 (fun x => { x with alertAct := now }) s

/-- The parts whose change can have consequences at a step's end. -/
def quiet (a b : State) : Bool :=
  b.notes.isEmpty && b.fw == a.fw && b.seq == a.seq && b.thm == a.thm && b.lkf == a.lkf && b.mot == a.mot && b.cus == a.cus && b.shp.minuteOn == a.shp.minuteOn &&
  b.shp.closed == a.shp.closed && b.mbx == a.mbx && b.upd == a.upd && b.nvs.queue == a.nvs.queue && b.mram == a.mram && b.cfg == a.cfg && b.gld.state == a.gld.state &&
  b.sec == a.sec && b.procs == a.procs && b.afe.tripLevel == a.afe.tripLevel && b.und.shutLatch == a.und.shutLatch && b.und.wet == a.und.wet && b.und.sysShdn == a.und.sysShdn &&
  b.und.ind == a.und.ind && b.gcl == a.gcl

/-- What the recorder's EVENT stream takes of a step (R334): fault captures, and state changes of SEQ, THM, CUS and MOT. -/
def eventsOf (a b : State) : List RcdEntry :=
  let rails := fun (s : State) => s.seq.rail.map (fun e => (e.1, e.2.state))
  let win := fun (s : State) (k : Nat) => tfind s.fw k
  (b.fw.filter (fun e => win a e.1 != some e.2)).map (fun e => .capture e.1 e.2)
    ++ (if b.seq.trayState == a.seq.trayState && b.seq.slotState == a.seq.slotState && rails b == rails a then [] else [.seq b.seq.trayState b.seq.slotState (rails b)])
    ++ (if b.thm.group == a.thm.group then [] else [.thm b.thm.group])
    ++ (if b.cus.state == a.cus.state && b.cus.restart == a.cus.restart then [] else [.cus b.cus.state b.cus.restart])
    ++ (if b.mot.rep == a.mot.rep then [] else [.mot b.mot.rep])

/-- Everything that follows of itself: the update hold (R444), the end of an apply (R67, R97), the update's switch and trial (R442–R447), alerts, the recorder, the indicators. -/
def react (a s : State) : State :=
  let s := if coreRuns s then updReact (applyEnd (holdUpdate s)) else s
  let s := if coreRuns s then alertReact a s else s
  let s := forEach (eventsOf a s) rcdEvent s
  if coreRuns s ∨ s.und.ind ≠ a.und.ind then driveIndicators s else s

/-- The end of a step from `a` whose command led to `s`; the pin logic then writes the pin states that have changed (R41). -/
def settle (a s : State) : State :=
  pinSignals (if quiet a s then s
  else
    let s := react a (runNotes 8 s)
    runNotes 8 s)

/-- The outcome of a command that changes `a` into `s`. -/
def finish (a s : State) : Host.Outcome State Fault Refusal := .next (settle a s)

end Sys2Proof.Machine
end

