-- ==== Sys2Proof/Machine/Meanings.lean ====
section
/-! DEFINITION. The meaning of every command: one definition for each row of the table, over the operations of the chapters. Each answers a next state: the command's effect, settled
to the end of the step. A command for a part that is held in power-on reset, or unpowered in D3, finds nothing that takes it and changes nothing (log 90). -/

namespace Sys2Proof.Machine

/-- The core die takes no command: power-on reset is asserted (R15), or the device is in D3 (R482). -/
def dormant (s : State) : Bool := s.und.supply.porAsserted || s.pmd.state == 3

/-- Everything but the supplies is held while power-on reset is asserted (R15). -/
def inReset (s : State) : Bool := s.und.supply.porAsserted

/-- A command to the core die. -/
def coreStep (f : State → State) (s : State) : Host.Outcome State Fault Refusal := finish s (if dormant s then s else f s)

/-- A command to the Understory or to the standby part of AFE0, which D3 leaves powered. -/
def islandStep (f : State → State) (s : State) : Host.Outcome State Fault Refusal := finish s (if inReset s then s else f s)

/-- A command that also power-on reset leaves standing: the supplies, POR_N and the counter. -/
def supplyStep (f : State → State) (s : State) : Host.Outcome State Fault Refusal := finish s (f s)


/-! ### Reset, supply, timebase and access (01, 00, 19) -/

/-- POWER_ON_RESET (R15): POR_N is asserted; everything is cleared, including the Understory, and the timebase restarts from 0. -/
def execPowerOnReset (s : State) : Host.Outcome State Fault Refusal := supplyStep doPowerOnReset s

/-- STANDBY_SUPPLY_LOSS (R503): VDD_STBY falls below 0.72 V and the device starts a power-on reset that records STANDBY_LOSS. -/
def execStandbySupplyLoss (s : State) : Host.Outcome State Fault Refusal := supplyStep doStandbySupplyLoss s

/-- MAIN_PG_FALL (R503): MAIN_PG falls other than after a D3 entry, and the device starts a power-on reset with POR set alone. -/
def execMainPgFall (s : State) : Host.Outcome State Fault Refusal := supplyStep doMainPgFall s

/-- STANDBY_SUPPLY_GOOD (R503): VDD_STBY and VSTBY_3V3 are both in range, and the Understory asserts PWR_MAIN_EN. -/
def execStandbySupplyGood (s : State) : Host.Outcome State Fault Refusal := supplyStep doStandbySupplyGood s

/-- MAIN_PG_TIMEOUT (R504): MAIN_PG is still low 20 ms after PWR_MAIN_EN; the Understory deasserts PWR_MAIN_EN, waits 1 s and tries again. -/
def execMainPgTimeout (s : State) : Host.Outcome State Fault Refusal := supplyStep doMainPgTimeout s

/-- SEC_ROM_RELEASE (R416): After reset release and a stable crystal, the Understory releases SEC into the ROM, which runs the boot chain into stage-1. -/
def execSecRomRelease (b : BootEnv) (s : State) : Host.Outcome State Fault Refusal := coreStep (doSecRomRelease b) s

/-- INPUT_POWER_GOOD (R419): AFE0 has read the tray input between 44 V and 58 V without a break for 10 ms, and PWR may be released. -/
def execInputPowerGood (s : State) : Host.Outcome State Fault Refusal := coreStep doInputPowerGood s

/-- UP_NO_PEER (R419): UP finds no peer within 100 ms of being enabled, so only two-wire is present and HST is released. -/
def execUpNoPeer (s : State) : Host.Outcome State Fault Refusal := coreStep doUpNoPeer s

/-- RESET_CTRL_KEY (R38): A write of 0xC1EA to ID_RESET_CTRL from an allowed path starts a chip reset. -/
def execResetCtrlKey (path : Path) (value : Word) (s : State) : Host.Outcome State Fault Refusal := coreStep (doResetCtrlKey path value) s

/-- SUPERVISION_WATCHDOG_BITE (R18): The device supervision watchdog expires and causes a chip reset with cause WATCHDOG. -/
def execSupervisionWatchdogBite (s : State) : Host.Outcome State Fault Refusal := coreStep doSupervisionWatchdogBite s

/-- TICK (R25): The timebase counter crosses a whole multiple of a tick class, and that tick fires with every class that shares the instant. -/
def execTick (env : TickEnv) (s : State) : Host.Outcome State Fault Refusal := supplyStep (doTick env) s

/-- HANDOVER_TIMEOUT (R17): A held pin has refused handover for 100 ms, and its block records an uncorrected contained fault once. -/
def execHandoverTimeout (pin : HeldPin) (s : State) : Host.Outcome State Fault Refusal := coreStep (doHandoverTimeout pin) s

/-- LEASE_PIN_EXPIRY (R16): A LEASEn pin falls at the recorded expiry of its lease. -/
def execLeasePinExpiry (slot : Fin 8) (s : State) : Host.Outcome State Fault Refusal := islandStep (doLeasePinExpiry slot) s

/-- PACE_STEP_UP (R19): A region's pace has stayed below its requirement for 8 µs, and VDD_CORE is commanded up 10 mV over AVSBus, repeating every 100 µs. -/
def execPaceStepUp (region : Fin 24) (s : State) : Host.Outcome State Fault Refusal := coreStep (doPaceStepUp region) s

/-- PACE_STEP_DOWN (R19): Every region has exceeded its requirement by 15 % for 100 ms, and VDD_CORE is commanded down 10 mV. -/
def execPaceStepDown (s : State) : Host.Outcome State Fault Refusal := coreStep doPaceStepDown s

/-- PACE_OVERRUN (R20): A region is still short 1 ms after VDD_CORE reached 0.85 V, and a pace overrun fault is raised. -/
def execPaceOverrun (region : Fin 24) (s : State) : Host.Outcome State Fault Refusal := coreStep (doPaceOverrun region) s

/-- CRYSTAL_FAIL (R27): The crystal stops or drifts more than 2 %, and the timebase switches to the internal reference, flagged undisciplined. -/
def execCrystalFail (s : State) : Host.Outcome State Fault Refusal := islandStep doCrystalFail s

/-- REGISTER_WRITE (R9): A write to a register without a row of its own acts according to its access code and path rules. -/
def execRegisterWrite (path : Path) (offset : BitVec 24) (value : Word) (s : State) : Host.Outcome State Fault Refusal := coreStep (doRegisterWrite path offset value) s

/-- RC_READ (R9): A read of a read-to-clear field returns its value and clears it. -/
def execRcRead (path : Path) (offset : BitVec 24) (s : State) : Host.Outcome State Fault Refusal := coreStep (doRcRead path offset) s

/-- UNMAPPED_ACCESS (R36): An access to an unmapped or reserved offset returns 0 or is discarded, and the ID block records a fault. -/
def execUnmappedAccess (path : Path) (offset : BitVec 24) (write : Option Word) (s : State) : Host.Outcome State Fault Refusal := coreStep (doUnmappedAccess path offset write) s

/-- RWP_PAIR_TIMEOUT (R11): An RWP pair left unequal receives no further write for 1 ms, so the block restores the pair in effect and records a corrected fault. -/
def execRwpPairTimeout (offset : BitVec 24) (s : State) : Host.Outcome State Fault Refusal := coreStep (doRwpPairTimeout offset) s

/-- BLOCK_COMMIT (R12): The commit key written to a block's commit register validates the whole staged set, or rejects it with an error code. -/
def execBlockCommit (path : Path) (reg : BitVec 24) (s : State) : Host.Outcome State Fault Refusal := coreStep (doBlockCommit path reg) s

/-- BLOCK_DISCARD (R74): DISCARD written with the commit key copies a block's live set back into its staged set. -/
def execBlockDiscard (path : Path) (reg : BitVec 24) (s : State) : Host.Outcome State Fault Refusal := coreStep (doBlockDiscard path reg) s

/-- BLOCK_COMMIT_APPLY (R12): At the first commit-tick boundary after validation, a validated staged set takes effect. -/
def execBlockCommitApply (reg : BitVec 24) (s : State) : Host.Outcome State Fault Refusal := coreStep (doBlockCommitApply reg) s


/-! ### Glade fabric and configuration (02, 03) -/

/-- SIGNAL_CHANGE_EVALUATE (R62): A change of a trigger signal's value or stale flag starts one evaluation of the change-triggered slot, coalescing further changes. -/
def execSignalChangeEvaluate (slot : Fin 512) (s : State) : Host.Outcome State Fault Refusal := coreStep (doSignalChangeEvaluate slot) s

/-- STRUCTURE_LOAD (R67): SEC presents a verified fabric structure section, and the fabric enters LOADING. -/
def execStructureLoad (s : State) : Host.Outcome State Fault Refusal := coreStep doStructureLoad s

/-- STRUCTURE_LOAD_DONE (R67): All tiles have loaded and read back; the fabric enters ADOPTING, or NO_STRUCTURE on a readback failure. -/
def execStructureLoadDone (quarter : Option (Fin 4)) (readbackOk : Bool) (s : State) : Host.Outcome State Fault Refusal := coreStep (doStructureLoadDone quarter readbackOk) s

/-- STANDBY_APPLY (R68): An accepted structural re-apply finds the tray in standby, and the fabric clears its structure through STANDBY_APPLY. -/
def execStandbyApply (s : State) : Host.Outcome State Fault Refusal := coreStep doStandbyApply s

/-- PARAM_ECC_ERROR (R70): A SECDED error in a structure or parameter store word is corrected, rebuilt from its pair, or halts the slot or tile. -/
def execParamEccError (tile : Fin 64) (e : ParamEcc) (s : State) : Host.Outcome State Fault Refusal := coreStep (doParamEccError tile e) s

/-- PARAM_STAGE_WRITE (R71): A write to a tile's staged parameters is accepted only from its owner processor, or from SEC during a live re-apply. -/
def execParamStageWrite (path : Path) (tile : Fin 64) (pair : Fin 128) (comp : Bool) (value : Word) (s : State) : Host.Outcome State Fault Refusal := coreStep (doParamStageWrite path tile pair comp value) s

/-- TILE_COMMIT (R72): 0x00C7 written to GT_COMMIT validates the tile's staged parameter set. -/
def execTileCommit (path : Path) (tile : Fin 64) (s : State) : Host.Outcome State Fault Refusal := coreStep (doTileCommit path tile) s

/-- TILE_DISCARD (R74): DISCARD with the key copies the tile's live parameter set into its staged set. -/
def execTileDiscard (path : Path) (tile : Fin 64) (s : State) : Host.Outcome State Fault Refusal := coreStep (doTileDiscard path tile) s

/-- TILE_COMMIT_APPLY (R72): A validated tile set is copied to the live store at the next microsecond boundary at which the tile is not evaluating. -/
def execTileCommitApply (tile : Fin 64) (s : State) : Host.Outcome State Fault Refusal := coreStep (doTileCommitApply tile) s

/-- GROUP_COMMIT (R73): 0x00C7 written to GLD_GROUP_COMMIT validates every tile named in the group masks. -/
def execGroupCommit (path : Path) (s : State) : Host.Outcome State Fault Refusal := coreStep (doGroupCommit path) s

/-- GROUP_COMMIT_APPLY (R73): All named tiles of a valid group commit apply at one microsecond boundary at which none of them is evaluating. -/
def execGroupCommitApply (s : State) : Host.Outcome State Fault Refusal := coreStep doGroupCommitApply s

/-- CONFIG_COMMIT_APPLY (R95): A validated configuration-wide commit takes effect at the first 1 ms boundary with no affected tile evaluating. -/
def execConfigCommitApply (s : State) : Host.Outcome State Fault Refusal := coreStep doConfigCommitApply s

/-- APPLY_RETRY (R96): After an apply interrupted by a processor restart, SEC retries it once the processor is released. -/
def execApplyRetry (s : State) : Host.Outcome State Fault Refusal := coreStep doApplyRetry s


/-! ### Power sequencing (04) -/

/-- SEQ_SLOT_UP (R116): SEQ_CMD OP 1 runs the up-graph of each masked slot, or holds a slot in WAITING_TRAY. -/
def execSeqSlotUp (path : Path) (tag : Byte) (mask : Byte) (s : State) : Host.Outcome State Fault Refusal := coreStep (doSeqSlotUp path tag mask) s

/-- SEQ_SLOT_DOWN (R116): SEQ_CMD OP 2 runs the down-graph of each masked slot, or returns a WAITING_TRAY slot to OFF. -/
def execSeqSlotDown (path : Path) (tag : Byte) (mask : Byte) (s : State) : Host.Outcome State Fault Refusal := coreStep (doSeqSlotDown path tag mask) s

/-- SEQ_TRAY_UP (R116): SEQ_CMD OP 3 runs graph 16 and then the up-graphs of the masked slots. -/
def execSeqTrayUp (path : Path) (tag : Byte) (mask : Byte) (s : State) : Host.Outcome State Fault Refusal := coreStep (doSeqTrayUp path tag mask) s

/-- SEQ_TRAY_DOWN (R116): SEQ_CMD OP 4 powers down every slot and then runs graph 17. -/
def execSeqTrayDown (path : Path) (tag : Byte) (s : State) : Host.Outcome State Fault Refusal := coreStep (doSeqTrayDown path tag) s

/-- SEQ_CLEAR (R116): SEQ_CMD OP 5 returns masked FAILED slots to OFF, and with the TRAY bit a FAILED tray to STANDBY. -/
def execSeqClear (path : Path) (tag : Byte) (mask : Byte) (tray : Bool) (s : State) : Host.Outcome State Fault Refusal := coreStep (doSeqClear path tag mask tray) s

/-- SEQ_NOP (R116): SEQ_CMD OP 0 does nothing, and its TAG counts as acted on. -/
def execSeqNop (path : Path) (tag : Byte) (s : State) : Host.Outcome State Fault Refusal := coreStep (doSeqNop path tag) s

/-- HELD_COMMAND_RUN (R117): When a hold ends, the held SEQ command is judged again and runs if nothing refuses it. -/
def execHeldCommandRun (s : State) : Host.Outcome State Fault Refusal := coreStep doHeldCommandRun s

/-- STEP_DELAY_DONE (R108): A step's DELAY_US has passed; it joins the budget queue or acts at once. -/
def execStepDelayDone (graph : Fin 18) (step : Fin 64) (s : State) : Host.Outcome State Fault Refusal := coreStep (doStepDelayDone graph step) s

/-- STEP_ADMIT (R112): A queued ENABLE step fits the inrush budget in age order, is charged and issues its enable. -/
def execStepAdmit (graph : Fin 18) (step : Fin 64) (s : State) : Host.Outcome State Fault Refusal := coreStep (doStepAdmit graph step) s

/-- STEP_QUALIFIED (R108): Power-good has held the level the step waits for through QUAL_US, and the step completes. -/
def execStepQualified (graph : Fin 18) (step : Fin 64) (s : State) : Host.Outcome State Fault Refusal := coreStep (doStepQualified graph step) s

/-- STEP_TIMEOUT (R108): TIMEOUT_US has passed since the step's command without qualification, and the step fails. -/
def execStepTimeout (graph : Fin 18) (step : Fin 64) (s : State) : Host.Outcome State Fault Refusal := coreStep (doStepTimeout graph step) s

/-- PG_CHANGE (R109): A power-good pin level is accepted after its 1 µs deglitch. -/
def execPgChange (pin : Fin 128) (level : Bool) (s : State) : Host.Outcome State Fault Refusal := coreStep (doPgChange pin level) s

/-- VS_WINDOW_FAULT (R119): A rail's VS reading has stayed outside UV_MV to OV_MV for longer than QUAL_US. -/
def execVsWindowFault (rail : Fin 256) (s : State) : Host.Outcome State Fault Refusal := coreStep (doVsWindowFault rail) s

/-- POWER_FAIL_HOLD_EXPIRY (R120): HOLD_US ends, and the slot or tray power-down starts. -/
def execPowerFailHoldExpiry (s : State) : Host.Outcome State Fault Refusal := coreStep doPowerFailHoldExpiry s

/-- SEQ_ADOPTION_START (R125): After a chip or SEQ block reset, section 0x02 has loaded and SEQ starts adopting the tray. -/
def execSeqAdoptionStart (s : State) : Host.Outcome State Fault Refusal := coreStep doSeqAdoptionStart s

/-- ADOPT_RAIL_READ_DONE (R126): An adoption read of a rail completes; the rail is classed and its held levels are presented for handover. -/
def execAdoptRailReadDone (rail : Fin 256) (on : Bool) (good : Bool) (s : State) : Host.Outcome State Fault Refusal := coreStep (doAdoptRailReadDone rail on good) s

/-- QUEUE_WAIT_LONG (R130): A step has spent more than 1 s in QUEUED, and a corrected fault is raised. -/
def execQueueWaitLong (graph : Fin 18) (step : Fin 64) (s : State) : Host.Outcome State Fault Refusal := coreStep (doQueueWaitLong graph step) s

/-- FFR_VALID_CLEAR (R124): Clearing VALID of SEQ_FFR_INFO clears the first-failing-rail mirror. -/
def execFfrValidClear (path : Path) (s : State) : Host.Outcome State Fault Refusal := coreStep (doFfrValidClear path) s


/-! ### Shaping, contract and ledger (05) -/

/-- TRAY_SAMPLE (R131): AFE0 samples tray input voltage and current, adds to the energy accumulator, and writes 10 µs means. -/
def execTraySample (volts : Word) (amps : Word) (ok : Bool) (s : State) : Host.Outcome State Fault Refusal := islandStep (doTraySample volts amps ok) s

/-- SENSE_SAMPLE (R179): A voltage or current channel converts at its fixed rate. -/
def execSenseSample (channel : Fin 128) (raw : Word) (s : State) : Host.Outcome State Fault Refusal := coreStep (doSenseSample channel raw) s

/-- FAST_TRIP (R136): A tray-input window comparator trips, and the throttle pins rise to the requested level within 1 µs. -/
def execFastTrip (c : Comparator) (s : State) : Host.Outcome State Fault Refusal := islandStep (doFastTrip c) s

/-- TRIP_LEVEL_FALL (R137): The input has stayed below a level's release threshold for TRIP_HOLD_US, and the trip level falls by one. -/
def execTripLevelFall (s : State) : Host.Outcome State Fault Refusal := islandStep doTripLevelFall s

/-- MSG_ACK (R148): A MSG_ACK arrives, and for a cap message SHP writes the lease acknowledgement signal. -/
def execMsgAck (slot : Fin 8) (seq : BitVec 16) (s : State) : Host.Outcome State Fault Refusal := coreStep (doMsgAck slot seq) s

/-- TELEMETRY_RECORD (R320): An accelerator telemetry record updates the slot's draw and demand. -/
def execTelemetryRecord (slot : Fin 8) (power : Word) (r : DemandHot) (s : State) : Host.Outcome State Fault Refusal := coreStep (doTelemetryRecord slot power r.demand r.hotspot) s

/-- TELEMETRY_STALE (R142): A slot's telemetry has not been refreshed within its period, and SHP takes its effective cap as its draw. -/
def execTelemetryStale (slot : Fin 8) (s : State) : Host.Outcome State Fault Refusal := coreStep (doTelemetryStale slot) s

/-- STEP_HINT (R151): A step hint arrives from an accelerator and moves its valley-fill state, including HEAD_REQ. -/
def execStepHint (slot : Fin 8) (headReq : Bool) (tailIn : Word) (tailLen : Word) (headW : Word) (headRamp : Word) (s : State) : Host.Outcome State Fault Refusal := coreStep (doStepHint slot headReq tailIn tailLen headW headRamp) s

/-- HINT_TIMEOUT (R152): No tail has started 200 µs after TAIL_IN_US, and the slot returns to IDLE. -/
def execHintTimeout (slot : Fin 8) (s : State) : Host.Outcome State Fault Refusal := coreStep (doHintTimeout slot) s

/-- TAIL_START (R152): TAIL_IN_US is reached, or the draw falls below 80 %, and the slot enters TAIL with a descending floor. -/
def execTailStart (slot : Fin 8) (s : State) : Host.Outcome State Fault Refusal := coreStep (doTailStart slot) s

/-- TAIL_END (R152): TAIL_LEN_US has passed, and the slot enters WAIT with its floor held. -/
def execTailEnd (slot : Fin 8) (s : State) : Host.Outcome State Fault Refusal := coreStep (doTailEnd slot) s

/-- VF_WAIT_TIMEOUT (R152): No HEAD_REQ arrives within VF_TIMEOUT_US of WAIT, and the slot returns to IDLE. -/
def execVfWaitTimeout (slot : Fin 8) (s : State) : Host.Outcome State Fault Refusal := coreStep (doVfWaitTimeout slot) s

/-- STEP_PIN_FALL (R155): A falling edge on STEPs_N starts a pin-hint slot's TAIL. -/
def execStepPinFall (slot : Fin 8) (s : State) : Host.Outcome State Fault Refusal := coreStep (doStepPinFall slot) s

/-- STEP_PIN_RISE (R155): A rising edge on STEPs_N starts the pin-hint slot's head at once and charges the rising rate. -/
def execStepPinRise (slot : Fin 8) (s : State) : Host.Outcome State Fault Refusal := coreStep (doStepPinRise slot) s

/-- SCHED_ARM (R159): SHP_SCHED_ACT ARM checks and arms the inactive schedule bank, replacing any pending arming. -/
def execSchedArm (path : Path) (tag : Byte) (s : State) : Host.Outcome State Fault Refusal := coreStep (doSchedArm path tag) s

/-- SCHED_CANCEL (R159): SHP_SCHED_ACT CANCEL cancels a pending delivered bank. -/
def execSchedCancel (path : Path) (tag : Byte) (s : State) : Host.Outcome State Fault Refusal := coreStep (doSchedCancel path tag) s

/-- SCHEDULE_CHECK_DONE (R159): SHP finishes checking an armed bank and reports its result. -/
def execScheduleCheckDone (s : State) : Host.Outcome State Fault Refusal := coreStep doScheduleCheckDone s

/-- SCHEDULE_TAKE_OVER (R159): The start of VALID_FROM arrives, and the armed bank takes over. -/
def execScheduleTakeOver (s : State) : Host.Outcome State Fault Refusal := coreStep doScheduleTakeOver s

/-- TRIM_SATURATED (R163): TRIM has stood at its limit for 100 ms, and the TRIM stage is entered. -/
def execTrimSaturated (s : State) : Host.Outcome State Fault Refusal := coreStep doTrimSaturated s

/-- MINUTE_CLOSE (R165): At a minute boundary SHP closes a ledger record and writes a checkpoint. -/
def execMinuteClose (s : State) : Host.Outcome State Fault Refusal := coreStep doMinuteClose s

/-- LEDGER_BLOCK_SIGNED (R166): SEC completes the identity-key signature of a closed ledger block. -/
def execLedgerBlockSigned (s : State) : Host.Outcome State Fault Refusal := coreStep doLedgerBlockSigned s

/-- SIGNING_LATE (R166): A closed block is still unsigned 60 s after closing, and SIGNING_LATE is raised. -/
def execSigningLate (s : State) : Host.Outcome State Fault Refusal := coreStep doSigningLate s

/-- SPOOL_WRITE_DONE (R169): A signed block has been written to the ledger spool, and SHP drops it from the checkpoint. -/
def execSpoolWriteDone (s : State) : Host.Outcome State Fault Refusal := coreStep doSpoolWriteDone s

/-- LEDGER_SPOOL_RESTORE (R168): After a start that finds the ledger region lost, HST writes the spooled blocks back in order before serving reads. -/
def execLedgerSpoolRestore (s : State) : Host.Outcome State Fault Refusal := coreStep doLedgerSpoolRestore s

/-- LEDGER_RESIGN (R169): After a power-on reset a checkpointed closed block with no spool slot is signed again and spooled. -/
def execLedgerResign (s : State) : Host.Outcome State Fault Refusal := coreStep doLedgerResign s


/-! ### Thermal, leak and flow (06) -/

/-- THERMAL_SAMPLE (R177): A temperature channel converts and is tested for plausibility. -/
def execThermalSample (channel : Nat) (value : Word) (feFault : Bool) (s : State) : Host.Outcome State Fault Refusal := coreStep (doThermalSample channel value feFault) s

/-- CHANNEL_PLAUSIBLE (R178): An implausible channel has passed every test for 1 s, and it becomes plausible again. -/
def execChannelPlausible (channel : Nat) (s : State) : Host.Outcome State Fault Refusal := coreStep (doChannelPlausible channel) s

/-- SAMPLE_RATE_FALL (R180): A channel's readings have stayed in a lower band for 5 s, and its conversion rate falls one band. -/
def execSampleRateFall (channel : Nat) (s : State) : Host.Outcome State Fault Refusal := coreStep (doSampleRateFall channel) s

/-- STAIRCASE_STEP (R183): A step of a group's schedule falls due, and k rises if the value is at or above THROTTLE. -/
def execStaircaseStep (group : Fin 32) (s : State) : Host.Outcome State Fault Refusal := coreStep (doStaircaseStep group) s

/-- STAIRCASE_RELEASE (R183): The release timer reaches STEP_MS below THROTTLE − HYST_T, and k falls by one. -/
def execStaircaseRelease (group : Fin 32) (s : State) : Host.Outcome State Fault Refusal := coreStep (doStaircaseRelease group) s

/-- SHDN_CLR_REQUEST (R188): A write to THM_SHDN_CLR clears the named shutdown latches, or refuses the clear. -/
def execShdnClrRequest (path : Path) (tag : Byte) (mask : Byte) (tray : Bool) (s : State) : Host.Outcome State Fault Refusal := coreStep (doShdnClrRequest path tag mask tray) s

/-- TCRIT_CONVERSION (R190): AFE0 converts a TCRIT diode and compares it with the strap critical temperature. -/
def execTcritConversion (diode : Fin 2) (value : Word) (faulted : Bool) (s : State) : Host.Outcome State Fault Refusal := islandStep (doTcritConversion diode value faulted) s

/-- LEAK_READING (R194): LKF demodulates a leak rope reading and qualifies its band. -/
def execLeakReading (channel : Fin 16) (r : Word) (q : Word) (s : State) : Host.Outcome State Fault Refusal := coreStep (doLeakReading channel r q) s

/-- LEAK_NOISY (R194): No band has qualified on a leak channel for 500 ms, and it is NOISY. -/
def execLeakNoisy (channel : Fin 16) (s : State) : Host.Outcome State Fault Refusal := coreStep (doLeakNoisy channel) s

/-- LKF_CLEAR_REQUEST (R195): A write to LKF_CLEAR clears the WET latches of DRY channels, or refuses with NOT_DRY. -/
def execLkfClearRequest (path : Path) (tag : Byte) (mask : BitVec 16) (s : State) : Host.Outcome State Fault Refusal := coreStep (doLkfClearRequest path tag mask) s

/-- FLOW_SAMPLE (R196): LKF samples a flow or pressure channel and judges FAULT. -/
def execFlowSample (channel : Fin 16) (x : Word) (s : State) : Host.Outcome State Fault Refusal := coreStep (doFlowSample channel x) s

/-- FLOW_ALARM (R197): A value has stayed beyond a limit for 2 s, and the channel enters LOW or HIGH. -/
def execFlowAlarm (channel : Fin 16) (s : State) : Host.Outcome State Fault Refusal := coreStep (doFlowAlarm channel) s

/-- FLOW_ALARM_END (R197): A value has stayed inside its limit by 5 % for 2 s, and the channel returns to OK. -/
def execFlowAlarmEnd (channel : Fin 16) (s : State) : Host.Outcome State Fault Refusal := coreStep (doFlowAlarmEnd channel) s

/-- FLOW_JUDGE_START (R197): 10 s after the tray enters RUNNING, flow and pressure limits begin to be judged. -/
def execFlowJudgeStart (s : State) : Host.Outcome State Fault Refusal := coreStep doFlowJudgeStart s


/-! ### Motor drive (07) -/

/-- HEARTBEAT_RECEIVE (R214): A motor die takes a valid heartbeat, applying setpoints and flags such as PARK and RESUME. -/
def execHeartbeatReceive (die : Fin 2) (crcOk : Bool) (badPairs : Byte) (s : State) : Host.Outcome State Fault Refusal := coreStep (doHeartbeatReceive die crcOk badPairs) s

/-- HEARTBEAT_REPLY (R214): A die's reply reaches MOT and updates the MOT registers and signals, including override handling. -/
def execHeartbeatReply (die : Fin 2) (r : DieReply) (s : State) : Host.Outcome State Fault Refusal := coreStep (doHeartbeatReply die r) s

/-- DIE_FAILSAFE (R216): A die has seen no valid heartbeat for 20 ms and enters FAILSAFE at full speed. -/
def execDieFailsafe (die : Fin 2) (s : State) : Host.Outcome State Fault Refusal := coreStep (doDieFailsafe die) s

/-- SETPOINT_LOST (R215): A channel has had no matching setpoint pair for 20 ms and goes to RPM_MAX. -/
def execSetpointLost (channel : Fin 16) (s : State) : Host.Outcome State Fault Refusal := coreStep (doSetpointLost channel) s

/-- HOST_SILENCE (R219): A die's host-silence count reaches HOST_SILENCE_S, and every channel goes to full speed. -/
def execHostSilence (die : Fin 2) (s : State) : Host.Outcome State Fault Refusal := coreStep (doHostSilence die) s

/-- START_WATCH_END (R210): The 50 ms phase watch ends; the channel starts ALIGN or catches the rotor on the fly. -/
def execStartWatchEnd (channel : Fin 16) (speed : Word) (hallOk : Bool) (s : State) : Host.Outcome State Fault Refusal := coreStep (doStartWatchEnd channel speed hallOk) s

/-- REVERSE_COAST_END (R210): A rotor found turning backward faster than the handoff speed has coasted for up to REST_MS, and ALIGN then begins. -/
def execReverseCoastEnd (channel : Fin 16) (s : State) : Host.Outcome State Fault Refusal := coreStep (doReverseCoastEnd channel) s

/-- ALIGN_DONE (R208): 250 ms of ALIGN have passed, and the channel enters RAMP. -/
def execAlignDone (channel : Fin 16) (s : State) : Host.Outcome State Fault Refusal := coreStep (doAlignDone channel) s

/-- BEMF_LOCK (R208): Back-EMF lock is gained after the handoff speed, and the channel enters RUN. -/
def execBemfLock (channel : Fin 16) (s : State) : Host.Outcome State Fault Refusal := coreStep (doBemfLock channel) s

/-- RAMP_NO_LOCK (R209): No lock is gained within 200 ms of the handoff speed; the attempt fails and REST or LOCKED_ROTOR follows. -/
def execRampNoLock (channel : Fin 16) (s : State) : Host.Outcome State Fault Refusal := coreStep (doRampNoLock channel) s

/-- REST_DONE (R208): REST_MS has passed, and a new start attempt begins with its watch. -/
def execRestDone (channel : Fin 16) (s : State) : Host.Outcome State Fault Refusal := coreStep (doRestDone channel) s

/-- STALL_DETECT (R209): In RUN the current has stayed at I_LIMIT without a fundamental for 500 ms, and the attempt fails. -/
def execStallDetect (m : StallSense) (s : State) : Host.Outcome State Fault Refusal := coreStep (doStallDetect m.channel m.cur m.fund) s

/-- RUN_COUNT_RESET (R209): A channel has run 10 s in RUN, and its attempt count returns to 0. -/
def execRunCountReset (channel : Fin 16) (s : State) : Host.Outcome State Fault Refusal := coreStep (doRunCountReset channel) s

/-- SENSE_LOST (R223): Phase inputs disagree with the drive for six intervals, and the channel holds OPEN_LOOP. -/
def execSenseLost (m : ChanSense) (s : State) : Host.Outcome State Fault Refusal := coreStep (doSenseLost m.channel m.value) s

/-- SENSE_REGAINED (R223): The inputs agree for 100 intervals, and the channel returns to RUN. -/
def execSenseRegained (channel : Fin 16) (s : State) : Host.Outcome State Fault Refusal := coreStep (doSenseRegained channel) s

/-- SENSE_FAIL (R222): In OPEN_LOOP the current signature has been implausible for 500 ms, and the channel is FAULTED. -/
def execSenseFail (m : OpenSense) (s : State) : Host.Outcome State Fault Refusal := coreStep (doSenseFail m.channel m.fund m.mag m.cur) s

/-- OVERCURRENT (R222): Phase current reaches its overcurrent level; the gates are turned off and the channel is FAULTED. -/
def execOvercurrent (m : PhaseSense) (s : State) : Host.Outcome State Fault Refusal := coreStep (doOvercurrent m.channel m.a m.b) s

/-- OPEN_PHASE (R222): In ALIGN a driven phase carries too little current after 50 ms, and the channel is FAULTED. -/
def execOpenPhase (m : ChanSense) (s : State) : Host.Outcome State Fault Refusal := coreStep (doOpenPhase m.channel m.value) s

/-- SPEED_LOW (R222): The tachometer has stayed below RPM_FAULT for FAULT_MS in RUN, and the channel and its zone go to full speed. -/
def execSpeedLow (m : ChanSense) (s : State) : Host.Outcome State Fault Refusal := coreStep (doSpeedLow m.channel m.value) s

/-- SPEED_LOW_CLEAR (R222): Speed has held at or above 1.1 × RPM_FAULT for FAULT_MS, and SPEED_LOW clears. -/
def execSpeedLowClear (m : ChanSense) (s : State) : Host.Outcome State Fault Refusal := coreStep (doSpeedLowClear m.channel m.value) s

/-- HALL_INVALID (R225): An invalid Hall code switches the channel to sensorless commutation. -/
def execHallInvalid (channel : Fin 16) (s : State) : Host.Outcome State Fault Refusal := coreStep (doHallInvalid channel) s

/-- VMOT_BUS_FAULT (R227): VMOT goes beyond 62 V or below 9.5 V, and every channel of the die coasts. -/
def execVmotBusFault (die : Fin 2) (mv : BitVec 16) (s : State) : Host.Outcome State Fault Refusal := coreStep (doVmotBusFault die mv) s

/-- VMOT_BUS_RECOVER (R227): VMOT has stayed in range for 100 ms, and the channels restart. -/
def execVmotBusRecover (die : Fin 2) (mv : BitVec 16) (s : State) : Host.Outcome State Fault Refusal := coreStep (doVmotBusRecover die mv) s

/-- MOT_CLEAR_REQUEST (R226): A write to MOT_CLEAR clears faulted channels, or refuses with NOT_FAULTED or BUS. -/
def execMotClearRequest (path : Path) (tag : Byte) (mask : BitVec 16) (s : State) : Host.Outcome State Fault Refusal := coreStep (doMotClearRequest path tag mask) s


/-! ### Canopy (08) -/

/-- SEGMENT_DONE (R252): A tile finishes a segment and starts the next segment of the earliest-deadline ready job. -/
def execSegmentDone (tile : Fin 16) (r : SegEnd) (s : State) : Host.Outcome State Fault Refusal := coreStep (doSegmentDone tile r) s

/-- DEADLINE_MISS (R254): A job reaches its deadline without outputs; it is ended and its outputs turn stale. -/
def execDeadlineMiss (model : Fin 32) (s : State) : Host.Outcome State Fault Refusal := coreStep (doDeadlineMiss model) s

/-- CNP_LOAD (R256): CNP_LOAD_CMD LOAD checks a staged image and starts hashing it. -/
def execCnpLoad (path : Path) (tag : Byte) (model : Fin 32) (s : State) : Host.Outcome State Fault Refusal := coreStep (doCnpLoad path tag model) s

/-- CNP_SUSPEND (R249): CNP_LOAD_CMD SUSPEND sends a RUNNING model to SUSPENDED. -/
def execCnpSuspend (path : Path) (tag : Byte) (model : Fin 32) (s : State) : Host.Outcome State Fault Refusal := coreStep (doCnpSuspend path tag model) s

/-- CNP_RESUME (R249): CNP_LOAD_CMD RESUME sends a SUSPENDED model to WARMUP. -/
def execCnpResume (path : Path) (tag : Byte) (model : Fin 32) (s : State) : Host.Outcome State Fault Refusal := coreStep (doCnpResume path tag model) s

/-- CNP_RESET_STATE (R249): CNP_LOAD_CMD RESET_STATE sends the model to WARMUP at its next release. -/
def execCnpResetState (path : Path) (tag : Byte) (model : Fin 32) (s : State) : Host.Outcome State Fault Refusal := coreStep (doCnpResetState path tag model) s

/-- STAGED_HASH_DONE (R256): The in-place hash of a staged image completes; a match stops the model and starts the copy. -/
def execStagedHashDone (s : State) : Host.Outcome State Fault Refusal := coreStep doStagedHashDone s

/-- LOAD_COPY_DONE (R256): The hashed copy completes, and the model enters WARMUP or EMPTY. -/
def execLoadCopyDone (flips : List (Nat × Byte)) (s : State) : Host.Outcome State Fault Refusal := coreStep (doLoadCopyDone flips) s

/-- CNP_STATE_ECC (R250): An uncorrectable error in a model's state clears it and sends the model to WARMUP. -/
def execCnpStateEcc (model : Fin 32) (s : State) : Host.Outcome State Fault Refusal := coreStep (doCnpStateEcc model) s

/-- CANOPY_BOOT_LOAD (R258): After LPDDR5X trains and REC is released, REC loads every enabled model from the set in force. -/
def execCanopyBootLoad (s : State) : Host.Outcome State Fault Refusal := coreStep doCanopyBootLoad s


/-! ### Custody (09) -/

/-- CUS_LOAD (R266): CUS_LOAD_CMD LOAD starts a load by fetching and verifying the manifest. -/
def execCusLoad (path : Path) (tag : Byte) (mask : Byte) (allowRemnant : Bool) (s : State) : Host.Outcome State Fault Refusal := coreStep (doCusLoad path tag mask allowRemnant) s

/-- CUS_PLAN_ONLY (R272): CUS_LOAD_CMD PLAN_ONLY runs the manifest, tree and plan phases without writing to any accelerator. -/
def execCusPlanOnly (path : Path) (tag : Byte) (mask : Byte) (allowRemnant : Bool) (s : State) : Host.Outcome State Fault Refusal := coreStep (doCusPlanOnly path tag mask allowRemnant) s

/-- CUS_CANCEL (R280): CUS_LOAD_CMD CANCEL aborts the load in progress. -/
def execCusCancel (path : Path) (tag : Byte) (s : State) : Host.Outcome State Fault Refusal := coreStep (doCusCancel path tag) s

/-- CUS_RESUME (R281): CUS_LOAD_CMD RESUME makes a paused load fetch again from each cursor's watermark. -/
def execCusResume (path : Path) (tag : Byte) (s : State) : Host.Outcome State Fault Refusal := coreStep (doCusResume path tag) s

/-- MANIFEST_VERIFIED (R266): Manifest verification completes, and the load moves to TREE or PLAN, or is refused. -/
def execManifestVerified (m : ManifestRec) (fetchOk : Bool) (sg : List SgEntry) (s : State) : Host.Outcome State Fault Refusal := coreStep (doManifestVerified m fetchOk sg) s

/-- TREE_DONE (R268): The Merkle tree is built and compared with ROOT, and capacity queries are sent or the load is refused. -/
def execTreeDone (first : Digest) (rest : List Digest) (s : State) : Host.Outcome State Fault Refusal := coreStep (doTreeDone (first :: rest)) s

/-- CAP_ANSWER (R269): A slot's CAP_ANSWER arrives with MODEL_BYTES. -/
def execCapAnswer (slot : Fin 8) (bytes : BitVec 64) (s : State) : Host.Outcome State Fault Refusal := coreStep (doCapAnswer slot bytes) s

/-- CAP_QUERY_TIMEOUT (R269): A slot has not answered its capacity query within 10 ms, and the load is refused with NO_ANSWER. -/
def execCapQueryTimeout (slot : Fin 8) (s : State) : Host.Outcome State Fault Refusal := coreStep (doCapQueryTimeout slot) s

/-- LEAF_FETCH (R274): A free leaf buffer is given to the cursor with the most bytes left, and its leaf is fetched. -/
def execLeafFetch (s : State) : Host.Outcome State Fault Refusal := coreStep doLeafFetch s

/-- LEAF_HASH_DONE (R275): A leaf's hash and writes complete, and it is compared with the tree and cleared. -/
def execLeafHashDone (leaf : BitVec 24) (bytes : List Byte) (s : State) : Host.Outcome State Fault Refusal := coreStep (doLeafHashDone leaf bytes) s

/-- CLEAR_ACK (R275): A slot acknowledges a clearing message, and the leaf counts as cleared. -/
def execClearAck (slot : Fin 8) (leaf : BitVec 24) (s : State) : Host.Outcome State Fault Refusal := coreStep (doClearAck slot leaf) s

/-- CLEAR_ACK_TIMEOUT (R276): A clearing message has gone unacknowledged for 10 ms; it is resent, and after two resends the load fails with LINK. -/
def execClearAckTimeout (slot : Fin 8) (leaf : BitVec 24) (s : State) : Host.Outcome State Fault Refusal := coreStep (doClearAckTimeout slot leaf) s

/-- LOAD_RESUME_AFTER_RESET (R282): After a chip reset during STREAM, CUS re-verifies from the resume record and resumes or fails with RESUME. -/
def execLoadResumeAfterReset (s : State) : Host.Outcome State Fault Refusal := coreStep doLoadResumeAfterReset s

/-- REMNANT_SCRUB (R284): A scrub period falls due, and cleared remnant leaves are re-hashed against the tree. -/
def execRemnantScrub (flips : List (Nat × Nat × Byte)) (s : State) : Host.Outcome State Fault Refusal := coreStep (doRemnantScrub flips) s

/-- JOB_FAULT (R286): A JOB_FAULT message from a job slot starts the restart sequence. -/
def execJobFault (slot : Fin 8) (code : Word) (s : State) : Host.Outcome State Fault Refusal := coreStep (doJobFault slot code) s

/-- CUS_RESTART (R288): CUS_RESTART_CMD RESTART starts the whole-job restart. -/
def execCusRestart (path : Path) (tag : Byte) (s : State) : Host.Outcome State Fault Refusal := coreStep (doCusRestart path tag) s

/-- CUS_HOLD (R289): CUS_RESTART_CMD HOLD aborts the job and stays HELD. -/
def execCusHold (path : Path) (tag : Byte) (s : State) : Host.Outcome State Fault Refusal := coreStep (doCusHold path tag) s

/-- CUS_RELEASE (R289): CUS_RESTART_CMD RELEASE releases JOB_ABORT_N and ends the job without reload. -/
def execCusRelease (path : Path) (tag : Byte) (s : State) : Host.Outcome State Fault Refusal := coreStep (doCusRelease path tag) s

/-- CUS_CONTINUE (R289): CUS_RESTART_CMD CONTINUE starts a held restart again at ABORT_HOLD. -/
def execCusContinue (path : Path) (tag : Byte) (s : State) : Host.Outcome State Fault Refusal := coreStep (doCusContinue path tag) s

/-- ABORT_HOLD_EXPIRY (R288): ABORT_HOLD has passed, and the restart enters QUIESCE. -/
def execAbortHoldExpiry (s : State) : Host.Outcome State Fault Refusal := coreStep doAbortHoldExpiry s

/-- QUIESCE_DONE (R288): Cursors are stopped and buffers freed, and the restart moves on to its power states. -/
def execQuiesceDone (s : State) : Host.Outcome State Fault Refusal := coreStep doQuiesceDone s

/-- READY_WAIT_DONE (R288): Every job slot is ON, trained and has answered capacity; JOB_ABORT_N is released and the reload starts. -/
def execReadyWaitDone (s : State) : Host.Outcome State Fault Refusal := coreStep doReadyWaitDone s

/-- READY_WAIT_TIMEOUT (R289): READY_WAIT has lasted past READY_MIN, and the restart enters HELD. -/
def execReadyWaitTimeout (s : State) : Host.Outcome State Fault Refusal := coreStep doReadyWaitTimeout s

/-- PWR_RETRY (R290): A power request answered RESTARTING is retried by CUS every 10 ms. -/
def execPwrRetry (s : State) : Host.Outcome State Fault Refusal := coreStep doPwrRetry s


/-! ### Gorino Coherent Link (10) -/

/-- PORT_RETRAIN (R302): GCL_P_CTRL RETRAIN sends an ACTIVE port to RECOVERY. -/
def execPortRetrain (path : Path) (port : Fin 11) (tag : Byte) (s : State) : Host.Outcome State Fault Refusal := coreStep (doPortRetrain path port tag) s

/-- PORT_FULL_RETRAIN (R303): GCL_P_CTRL FULL_RETRAIN retrains the port, testing every lane. -/
def execPortFullRetrain (path : Path) (port : Fin 11) (tag : Byte) (s : State) : Host.Outcome State Fault Refusal := coreStep (doPortFullRetrain path port tag) s

/-- PORT_DISABLE (R300): GCL_P_CTRL DISABLE sends the port to DISABLED. -/
def execPortDisable (path : Path) (port : Fin 11) (tag : Byte) (s : State) : Host.Outcome State Fault Refusal := coreStep (doPortDisable path port tag) s

/-- PORT_ENABLE (R300): GCL_P_CTRL ENABLE takes a disabled port to DETECT. -/
def execPortEnable (path : Path) (port : Fin 11) (tag : Byte) (s : State) : Host.Outcome State Fault Refusal := coreStep (doPortEnable path port tag) s

/-- PEER_DETECT (R300): A peer receiver is detected on the lanes, and the port enters EQUALISE. -/
def execPeerDetect (port : Fin 11) (s : State) : Host.Outcome State Fault Refusal := coreStep (doPeerDetect port) s

/-- EQUALISE_DONE (R300): Equalisation converges and lanes are measured; the width is chosen and FEC_LOCK begins. -/
def execEqualiseDone (port : Fin 11) (own : BitVec 16) (peer : BitVec 16) (s : State) : Host.Outcome State Fault Refusal := coreStep (doEqualiseDone port own peer) s

/-- FEC_LOCK_HELD (R300): Codeword lock has held on every lane of the width for 100 µs, and the port enters CONFIG. -/
def execFecLockHeld (port : Fin 11) (s : State) : Host.Outcome State Fault Refusal := coreStep (doFecLockHeld port) s

/-- CONFIG_RECORD (R306): A peer's CONFIG record arrives; the port goes ACTIVE, or DOWN on a mismatch. -/
def execConfigRecord (port : Fin 11) (r : ConfigRec) (s : State) : Host.Outcome State Fault Refusal := coreStep (doConfigRecord port r) s

/-- TRAIN_TIMEOUT (R301): A port has not reached ACTIVE 50 ms after DETECT or RECOVERY, or has no usable width. -/
def execTrainTimeout (port : Fin 11) (s : State) : Host.Outcome State Fault Refusal := coreStep (doTrainTimeout port) s

/-- DOWN_RETRY (R324): A port that has been DOWN for 1 s with a peer detected retries training. -/
def execDownRetry (port : Fin 11) (s : State) : Host.Outcome State Fault Refusal := coreStep (doDownRetry port) s

/-- CODEWORD_LOCK_LOSS (R302): Codeword lock is lost on an active lane for 1 µs, and the port enters RECOVERY. -/
def execCodewordLockLoss (port : Fin 11) (s : State) : Host.Outcome State Fault Refusal := coreStep (doCodewordLockLoss port) s

/-- LOW_POWER_ENTER (R305): Both ends agree through CONTROL flits, and the port enters LOW_POWER. -/
def execLowPowerEnter (port : Fin 11) (s : State) : Host.Outcome State Fault Refusal := coreStep (doLowPowerEnter port) s

/-- LOW_POWER_EXIT (R305): An exit request or a queued message takes the port back to ACTIVE. -/
def execLowPowerExit (port : Fin 11) (s : State) : Host.Outcome State Fault Refusal := coreStep (doLowPowerExit port) s

/-- RECOVERY_LANES_CHOSEN (R303): In RECOVERY the retest of the present width's lanes completes, a width is chosen, and the port enters FEC_LOCK. -/
def execRecoveryLanesChosen (port : Fin 11) (own : BitVec 16) (peer : BitVec 16) (s : State) : Host.Outcome State Fault Refusal := coreStep (doRecoveryLanesChosen port own peer) s

/-- FLIT_RECEIVE (R308): A flit arrives and is checked for CRC and sequence, with acks, NAK, replay and credits handled. -/
def execFlitReceive (port : Fin 11) (f : Flit) (s : State) : Host.Outcome State Fault Refusal := coreStep (doFlitReceive port f) s

/-- RD_S (R315): A cacheable line read from UP is served under the region rules and the directory. -/
def execRdS (port : Fin 11) (tag : BitVec 13) (addr : BitVec 48) (s : State) : Host.Outcome State Fault Refusal := coreStep (doRdS port tag addr) s

/-- RD_UC (R315): An uncached read is served, or denied or poisoned, by port and region. -/
def execRdUc (port : Fin 11) (tag : BitVec 13) (addr : BitVec 48) (len : BitVec 13) (s : State) : Host.Outcome State Fault Refusal := coreStep (doRdUc port tag addr len) s

/-- CSR_RD (R315): A 4-byte control and status read arrives over UP. -/
def execCsrRd (port : Fin 11) (tag : BitVec 13) (addr : BitVec 48) (s : State) : Host.Outcome State Fault Refusal := coreStep (doCsrRd port tag addr) s

/-- CSR_WR (R315): A 4-byte control and status write arrives over UP under each register's authority rules. -/
def execCsrWr (port : Fin 11) (tag : BitVec 13) (addr : BitVec 48) (data : Word) (s : State) : Host.Outcome State Fault Refusal := coreStep (doCsrWr port tag addr data) s

/-- WR (R315): A memory write into the device is always refused. -/
def execWr (port : Fin 11) (tag : BitVec 13) (addr : BitVec 48) (s : State) : Host.Outcome State Fault Refusal := coreStep (doWr port tag addr) s

/-- COMPLETION_RECEIVED (R313): A completion of a device request arrives from a peer. -/
def execCompletionReceived (port : Fin 11) (tag : BitVec 13) (status : Byte) (poison : Bool) (s : State) : Host.Outcome State Fault Refusal := coreStep (doCompletionReceived port tag status poison) s

/-- COMPLETION_TIMEOUT (R304): A device request has had no completion for 100 ms and ends with TIMEOUT. -/
def execCompletionTimeout (port : Fin 11) (tag : BitVec 13) (s : State) : Host.Outcome State Fault Refusal := coreStep (doCompletionTimeout port tag) s

/-- SNP_INV (R317): A snoop from the companion into the device is answered at once with SNP_RSP_I. -/
def execSnpInv (page : BitVec 36) (s : State) : Host.Outcome State Fault Refusal := coreStep (doSnpInv page) s

/-- SNP_RSP_I (R317): The companion answers a snoop; the page goes to I and the held change proceeds. -/
def execSnpRspI (page : BitVec 36) (s : State) : Host.Outcome State Fault Refusal := coreStep (doSnpRspI page) s

/-- SNOOP_RESEND (R317): A snoop is still unanswered after 10 ms and is sent again, raising SNOOP_TIMEOUT after five sends. -/
def execSnoopResend (page : BitVec 36) (s : State) : Host.Outcome State Fault Refusal := coreStep (doSnoopResend page) s

/-- TIME_SYNC (R321): A TIME_SYNC arrives at a follower port and is stamped t2, and TIME_REQ follows. -/
def execTimeSync (port : Fin 11) (t1 : BitVec 64) (s : State) : Host.Outcome State Fault Refusal := coreStep (doTimeSync port t1) s

/-- TIME_REQ (R321): A TIME_REQ arrives at the master port, which answers with TIME_RSP carrying t4. -/
def execTimeReq (port : Fin 11) (s : State) : Host.Outcome State Fault Refusal := coreStep (doTimeReq port) s

/-- TIME_RSP (R321): A TIME_RSP arrives, and the follower computes offset and path delay. -/
def execTimeRsp (port : Fin 11) (t4 : BitVec 64) (s : State) : Host.Outcome State Fault Refusal := coreStep (doTimeRsp port t4) s


/-! ### Memory (11) -/

/-- MI_TRAIN_DONE (R329): LPDDR5X interface training completes or fails its third attempt, and CUS and REC are released or held. -/
def execMiTrainDone (mi : Fin 8) (ok : Bool) (s : State) : Host.Outcome State Fault Refusal := coreStep (doMiTrainDone mi ok) s

/-- DRAM_READ_UE (R332): A DRAM read stays uncorrectable after a retry; the data is poisoned and the region's recovery runs. -/
def execDramReadUe (addr : BitVec 37) (t : Subtree) (s : State) : Host.Outcome State Fault Refusal := coreStep (doDramReadUe addr t.first t.leaves) s

/-- RCD_TRIGGER (R335): MEM_RCD_CTRL TRIGGER triggers the flight recorder. -/
def execRcdTrigger (path : Path) (tag : Byte) (s : State) : Host.Outcome State Fault Refusal := coreStep (doRcdTrigger path tag) s

/-- RCD_REARM (R335): MEM_RCD_CTRL REARM returns a frozen recorder to RECORDING. -/
def execRcdRearm (path : Path) (tag : Byte) (s : State) : Host.Outcome State Fault Refusal := coreStep (doRcdRearm path tag) s

/-- RCD_POST_EXPIRE (R335): POST_S has passed after a trigger, and the window freezes. -/
def execRcdPostExpire (s : State) : Host.Outcome State Fault Refusal := coreStep doRcdPostExpire s

/-- RCD_AUTO_REARM (R335): REARM_MIN minutes pass without a rearm, and the recorder rearms itself. -/
def execRcdAutoRearm (s : State) : Host.Outcome State Fault Refusal := coreStep doRcdAutoRearm s

/-- RCD_STAGING_OVERFLOW (R336): Recorder staging overflows; samples are dropped and a gap marker is written. -/
def execRcdStagingOverflow (s : State) : Host.Outcome State Fault Refusal := coreStep doRcdStagingOverflow s


/-! ### Two-wire ports (12) -/

/-- TWP_TARGET_WRITE (R349): A write transaction to a target port sets the pointer and commits whole words at the stop. -/
def execTwpTargetWrite (port : Fin 16) (addr : BitVec 7) (bytes : List Byte) (s : State) : Host.Outcome State Fault Refusal := coreStep (doTwpTargetWrite port addr bytes) s

/-- TWP_TARGET_READ (R348): A read transaction on a target port returns words from the pointer onward. -/
def execTwpTargetRead (port : Fin 16) (addr : BitVec 7) (r : ReadPhase) (s : State) : Host.Outcome State Fault Refusal :=
  coreStep (doTwpTargetRead port addr r.sent r.count) s

/-- TWP_BUS_ERROR (R351): A misplaced start, repeated start or stop discards the partial byte and the pending page write. -/
def execTwpBusError (port : Fin 16) (bytes : List Byte) (s : State) : Host.Outcome State Fault Refusal := coreStep (doTwpBusError port bytes) s

/-- ALERT_RESPONSE_READ (R353): The manager reads address 0x0C, and TWP0 answers with its highest pending alert address. -/
def execAlertResponseRead (won : Bool) (s : State) : Host.Outcome State Fault Refusal := coreStep (doAlertResponseRead won) s

/-- ALERT_LINE_FALL (R354): TWPn_ALERT_N falls on a controller port and starts the alert responder. -/
def execAlertLineFall (port : Fin 16) (s : State) : Host.Outcome State Fault Refusal := coreStep (doAlertLineFall port) s

/-- ALERT_IGNORE_END (R354): The 1 s during which a stuck alert line is ignored ends. -/
def execAlertIgnoreEnd (port : Fin 16) (s : State) : Host.Outcome State Fault Refusal := coreStep (doAlertIgnoreEnd port) s

/-- CLK_LOW_TIMEOUT (R347): SCL has stayed low for LOW_TIMEOUT_MS in a transaction; the transaction ends. -/
def execClkLowTimeout (port : Fin 16) (sdaLow freed : Bool) (s : State) : Host.Outcome State Fault Refusal := coreStep (doClkLowTimeout port sdaLow freed) s

/-- DATA_LOW_TIMEOUT (R347): SDA has stayed low with SCL high and the bus idle for LOW_TIMEOUT_MS. -/
def execDataLowTimeout (port : Fin 16) (freed : Bool) (s : State) : Host.Outcome State Fault Refusal := coreStep (doDataLowTimeout port freed) s

/-- TWP_BUS_CLEAR_CMD (R356): TWP_P_CTRL BUS_CLEAR requests a bus clear. -/
def execTwpBusClearCmd (path : Path) (port : Fin 16) (tag : Byte) (freed : Bool) (s : State) : Host.Outcome State Fault Refusal := coreStep (doTwpBusClearCmd path port tag freed) s

/-- TWP_RESET_PULSE (R357): TWP_P_CTRL RESET_PULSE drives the port's reset pin low, subject to the 10 s spacing. -/
def execTwpResetPulse (path : Path) (port : Fin 16) (tag : Byte) (s : State) : Host.Outcome State Fault Refusal := coreStep (doTwpResetPulse path port tag) s

/-- RESET_PIN_RELEASE (R357): The 1 ms reset pulse ends, and the pin is released. -/
def execResetPinRelease (port : Fin 16) (s : State) : Host.Outcome State Fault Refusal := coreStep (doResetPinRelease port) s

/-- RESET_PIN_SETTLE (R357): 10 ms after the reset pulse, the port performs bus clear once more. -/
def execResetPinSettle (port : Fin 16) (freed : Bool) (s : State) : Host.Outcome State Fault Refusal := coreStep (doResetPinSettle port freed) s

/-- STUCK_RETRY (R357): A stuck bus is cleared again every 1 s until SDA is released. -/
def execStuckRetry (port : Fin 16) (freed : Bool) (s : State) : Host.Outcome State Fault Refusal := coreStep (doStuckRetry port freed) s

/-- FX_TRANSFER_START (R358): A new TAG in a firmware window queues a controller transfer in ARB_TWn. -/
def execFxTransferStart (path : Path) (port : Fin 16) (window : Fin 5) (ctrl : Word) (s : State) : Host.Outcome State Fault Refusal := coreStep (doFxTransferStart path port window ctrl) s

/-- TRANSFER_DONE (R360): A controller transfer ends on the bus with its result code. -/
def execTransferDone (port : Fin 16) (result : Fin 13) (d : WireData) (s : State) : Host.Outcome State Fault Refusal :=
  coreStep (doTransferDone port result d.nack d.data) s

/-- WAKE_ADDRESS_MATCH (R355): An Understory matcher acknowledges a matching address in D3 or reset, stretches SCL and raises wake. -/
def execWakeAddressMatch (port : Fin 16) (addr : BitVec 7) (s : State) : Host.Outcome State Fault Refusal := islandStep (doWakeAddressMatch port addr) s


/-! ### Pass arbiter (13) -/

/-- ARB_REQUEST (R371): A request reaches an arbiter; it is granted, parked in its queue, or refused with FULL. -/
def execArbRequest (inst : Fin 34) (req : Fin 16) (beats cost : Nat) (lock : Bool) (s : State) : Host.Outcome State Fault Refusal := coreStep (doArbRequest inst req beats cost lock) s

/-- BEAT_COMPLETE (R368): A beat ends, and the arbiter decides the next grant by credit, age and locks. -/
def execBeatComplete (inst : Fin 34) (req : Fin 16) (s : State) : Host.Outcome State Fault Refusal := coreStep (doBeatComplete inst req) s

/-- WINDOW_REFILL (R367): At a window boundary every requester's credit is refilled from its share. -/
def execWindowRefill (inst : Fin 34) (s : State) : Host.Outcome State Fault Refusal := coreStep (doWindowRefill inst) s

/-- LOCK_WATCHDOG_BITE (R375): A lock or beat outlasts LOCK_WD_US; release is forced and the owner's queue is flushed. -/
def execLockWatchdogBite (inst : Fin 34) (sdaFreed : Bool) (s : State) : Host.Outcome State Fault Refusal := coreStep (doLockWatchdogBite inst sdaFreed) s


/-! ### Firmware processors (14) -/

/-- PROC_RELEASE (R384): FPC_P_CTRL RELEASE starts a processor at its vector. -/
def execProcRelease (path : Path) (p : Proc) (tag : Byte) (s : State) : Host.Outcome State Fault Refusal := coreStep (doProcRelease path p tag) s

/-- FPC_RESTART (R386): FPC_P_CTRL RESTART restarts a processor with cause REQUEST. -/
def execFpcRestart (path : Path) (p : Proc) (tag : Byte) (s : State) : Host.Outcome State Fault Refusal := coreStep (doFpcRestart path p tag) s

/-- PROC_READY (R385): A processor writes 0x00A5 to FPC_P_READY and is READY. -/
def execProcReady (path : Path) (p : Proc) (key : Word) (s : State) : Host.Outcome State Fault Refusal := coreStep (doProcReady path p key) s

/-- PROC_WD_KICK (R386): A processor services its processor watchdog. -/
def execProcWdKick (path : Path) (p : Proc) (key : Word) (s : State) : Host.Outcome State Fault Refusal := coreStep (doProcWdKick path p key) s

/-- PROC_WATCHDOG (R386): A processor watchdog expires, and the processor restarts. -/
def execProcWatchdog (p : Proc) (s : State) : Host.Outcome State Fault Refusal := coreStep (doProcWatchdog p) s

/-- PROC_TRAP (R386): An unreturned exception or an unacknowledged trap restarts the processor. -/
def execProcTrap (p : Proc) (s : State) : Host.Outcome State Fault Refusal := coreStep (doProcTrap p) s

/-- PROC_MEMORY_ERROR (R386): An uncorrectable error in a processor's SRAM restarts it. -/
def execProcMemoryError (p : Proc) (s : State) : Host.Outcome State Fault Refusal := coreStep (doProcMemoryError p) s

/-- PROC_RESTORE_DONE (R387): The retained copy is restored and checked; the processor is released, or reloaded from flash. -/
def execProcRestoreDone (p : Proc) (flips : List (Nat × Byte)) (s : State) : Host.Outcome State Fault Refusal := coreStep (doProcRestoreDone p flips) s

/-- PROC_RELOAD_DONE (R388): A reload of a processor's image from flash completes, and the processor is released or HALTED. -/
def execProcReloadDone (p : Proc) (item : Option FlashItem) (s : State) : Host.Outcome State Fault Refusal := coreStep (doProcReloadDone p item) s


/-! ### Mailboxes (14) -/

/-- HANDLER_RESPONSE (R398): A handler answers a mailbox request, and the response or a final EVENT is sent. -/
def execHandlerResponse (p : Proc) (s : State) : Host.Outcome State Fault Refusal := coreStep (doHandlerResponse p) s

/-- MAILBOX_TIMEOUT (R394): A handler has not answered within 2 s, and the request is answered TIMEOUT. -/
def execMailboxTimeout (chan : Fin 8) (s : State) : Host.Outcome State Fault Refusal := coreStep (doMailboxTimeout chan) s

/-- MBX_ACK (R391): 0x00A5 written to MBX_C_ACK releases the outbound buffer for the next fragment or event. -/
def execMbxAck (path : Path) (value : Word) (s : State) : Host.Outcome State Fault Refusal := coreStep (doMbxAck path value) s

/-- PING (R396): PING returns FPC_STATUS and the timebase time. -/
def execPing (m : MbxMsg) (s : State) : Host.Outcome State Fault Refusal := coreStep (doPing m) s

/-- GET_INFO (R396): GET_INFO returns the identification registers and image IDs. -/
def execGetInfo (m : MbxMsg) (s : State) : Host.Outcome State Fault Refusal := coreStep (doGetInfo m) s

/-- CSR_READ (R396): CSR_READ returns a run of register words. -/
def execCsrRead (m : MbxMsg) (s : State) : Host.Outcome State Fault Refusal := coreStep (doCsrRead m) s

/-- CONTRACT_LOAD (R396): CONTRACT_LOAD writes schedule entries into the inactive bank. -/
def execContractLoad (m : MbxMsg) (s : State) : Host.Outcome State Fault Refusal := coreStep (doContractLoad m) s

/-- CONTRACT_ARM (R396): CONTRACT_ARM writes the bank registers and arms the schedule. -/
def execContractArm (m : MbxMsg) (s : State) : Host.Outcome State Fault Refusal := coreStep (doContractArm m) s

/-- CONTRACT_CANCEL (R396): CONTRACT_CANCEL cancels a pending schedule. -/
def execContractCancel (m : MbxMsg) (s : State) : Host.Outcome State Fault Refusal := coreStep (doContractCancel m) s

/-- LEDGER_READ (R168): LEDGER_READ returns a signed ledger block in fragments. -/
def execLedgerRead (m : MbxMsg) (s : State) : Host.Outcome State Fault Refusal := coreStep (doLedgerRead m) s

/-- SLOT_POWER (R396): SLOT_POWER carries SLOT_UP or SLOT_DOWN through PWR. -/
def execSlotPower (m : MbxMsg) (s : State) : Host.Outcome State Fault Refusal := coreStep (doSlotPower m) s

/-- TRAY_POWER (R396): TRAY_POWER carries TRAY_UP, TRAY_DOWN or CLEAR through PWR. -/
def execTrayPower (m : MbxMsg) (s : State) : Host.Outcome State Fault Refusal := coreStep (doTrayPower m) s

/-- SHUTDOWN_CLEAR (R396): SHUTDOWN_CLEAR makes THM write THM_SHDN_CLR. -/
def execShutdownClear (m : MbxMsg) (s : State) : Host.Outcome State Fault Refusal := coreStep (doShutdownClear m) s

/-- MOTOR_CLEAR (R396): MOTOR_CLEAR makes THM write MOT_CLEAR. -/
def execMotorClear (m : MbxMsg) (s : State) : Host.Outcome State Fault Refusal := coreStep (doMotorClear m) s

/-- LEAK_CLEAR (R396): LEAK_CLEAR makes THM write LKF_CLEAR. -/
def execLeakClear (m : MbxMsg) (s : State) : Host.Outcome State Fault Refusal := coreStep (doLeakClear m) s

/-- LOCATE (R498): LOCATE sets the locate indicator on or off. -/
def execLocate (m : MbxMsg) (s : State) : Host.Outcome State Fault Refusal := coreStep (doLocate m) s

/-- INDICATOR (R396): INDICATOR sets indicator modes and patterns through IND. -/
def execIndicator (m : MbxMsg) (s : State) : Host.Outcome State Fault Refusal := coreStep (doIndicator m) s

/-- MODEL_LOAD (R396): MODEL_LOAD writes the custody load registers and command. -/
def execModelLoad (m : MbxMsg) (s : State) : Host.Outcome State Fault Refusal := coreStep (doModelLoad m) s

/-- JOB_RESTART (R396): JOB_RESTART writes CUS_RESTART_CMD. -/
def execJobRestart (m : MbxMsg) (s : State) : Host.Outcome State Fault Refusal := coreStep (doJobRestart m) s

/-- CANOPY_LOAD (R396): CANOPY_LOAD makes REC fetch and verify a model image and then issue CNP LOAD. -/
def execCanopyLoad (m : MbxMsg) (img : Option ImageRec) (s : State) : Host.Outcome State Fault Refusal := coreStep (doCanopyLoad m img) s

/-- CANOPY_CTRL (R396): CANOPY_CTRL writes CNP_LOAD_CMD with SUSPEND, RESUME or RESET_STATE. -/
def execCanopyCtrl (m : MbxMsg) (s : State) : Host.Outcome State Fault Refusal := coreStep (doCanopyCtrl m) s

/-- UPDATE_STAGE (R436): UPDATE_STAGE delivers an update package and starts staging it. -/
def execUpdateStage (m : MbxMsg) (s : State) : Host.Outcome State Fault Refusal := coreStep (doUpdateStage m) s

/-- UPDATE_ACTIVATE (R440): UPDATE_ACTIVATE arms the staged set AT_TIME or AT_RESET. -/
def execUpdateActivate (m : MbxMsg) (s : State) : Host.Outcome State Fault Refusal := coreStep (doUpdateActivate m) s

/-- UPDATE_STATUS (R396): UPDATE_STATUS returns the update state. -/
def execUpdateStatus (m : MbxMsg) (s : State) : Host.Outcome State Fault Refusal := coreStep (doUpdateStatus m) s

/-- ATTEST (R429): ATTEST returns a signed report and the certificates for a nonce. -/
def execAttest (m : MbxMsg) (s : State) : Host.Outcome State Fault Refusal := coreStep (doAttest m) s

/-- PROC_RESTART (R389): PROC_RESTART makes SEC restart a processor, clearing its count or leaving HALTED. -/
def execProcRestart (m : MbxMsg) (s : State) : Host.Outcome State Fault Refusal := coreStep (doProcRestartMsg m) s

/-- CHIP_RESET (R38): CHIP_RESET makes SEC write ID_RESET_CTRL. -/
def execChipReset (m : MbxMsg) (s : State) : Host.Outcome State Fault Refusal := coreStep (doChipResetMsg m) s

/-- RECORDER (R396): RECORDER writes MEM_RCD_CTRL. -/
def execRecorder (m : MbxMsg) (s : State) : Host.Outcome State Fault Refusal := coreStep (doRecorder m) s

/-- RELAY (R493): RELAY delivers an inner message to a follower's MBX5 and wraps its response. -/
def execRelay (m : MbxMsg) (s : State) : Host.Outcome State Fault Refusal := coreStep (doRelay m) s


/-! ### Boot and keys (15) -/

/-- RCV_PULL (R422): SEC_RCV_CTRL PULL fetches an item from companion memory into the candidate area. -/
def execRcvPull (path : Path) (tag : Byte) (kind index : Byte) (s : State) : Host.Outcome State Fault Refusal := coreStep (doRcvPull path tag kind index) s

/-- PULL_DONE (R422): A PULL fetch completes, or ends with LINK. -/
def execPullDone (ok : Bool) (item : ItemBody) (s : State) : Host.Outcome State Fault Refusal := coreStep (doPullDone ok item) s

/-- RCV_APPEND_RESET (R422): SEC_RCV_CTRL APPEND_RESET empties the candidate area for the item. -/
def execRcvAppendReset (path : Path) (tag : Byte) (kind index : Byte) (s : State) : Host.Outcome State Fault Refusal := coreStep (doRcvAppendReset path tag kind index) s

/-- RCV_APPEND (R422): SEC_RCV_CTRL APPEND adds window bytes to the candidate area. -/
def execRcvAppend (path : Path) (tag : Byte) (kind index : Byte) (view : Option ItemBody) (s : State) : Host.Outcome State Fault Refusal := coreStep (doRcvAppend path tag kind index view) s

/-- RCV_VERIFY (R423): SEC_RCV_CTRL VERIFY verifies a pushed item as its format requires. -/
def execRcvVerify (path : Path) (tag : Byte) (kind index : Byte) (s : State) : Host.Outcome State Fault Refusal := coreStep (doRcvVerify path tag kind index) s

/-- RCV_RELEASE (R423): SEC_RCV_CTRL RELEASE continues the boot with the verified pushed items. -/
def execRcvRelease (path : Path) (tag : Byte) (b : BootEnv) (s : State) : Host.Outcome State Fault Refusal := coreStep (doRcvRelease path tag b) s

/-- KEY_SUBMIT (R414): SEC_KEY_CMD SUBMIT acts on the key record in SEC_KEY_BUF: enrol, revoke or deploy. -/
def execKeySubmit (path : Path) (tag : Byte) (record : List Byte) (s : State) : Host.Outcome State Fault Refusal := coreStep (doKeySubmit path tag record) s

/-- FUSE_BLOW_DONE (R414): A fuse blow completes and is read back from both copies. -/
def execFuseBlowDone (readBack : Bool) (s : State) : Host.Outcome State Fault Refusal := coreStep (doFuseBlowDone readBack) s


/-! ### Field update (16) -/

/-- STAGING_DONE (R436): Staging writes and reads back the inactive slot, and the set is classed. -/
def execStagingDone (p : Package) (s : State) : Host.Outcome State Fault Refusal := coreStep (doStagingDone p) s

/-- UPD_ARM_TIME (R440): UPD_CMD ARM_TIME arms the staged set for a timebase time. -/
def execUpdArmTime (path : Path) (tag : Byte) (s : State) : Host.Outcome State Fault Refusal := coreStep (doUpdArmTime path tag) s

/-- UPD_ARM_RESET (R440): UPD_CMD ARM_RESET arms the staged set for the next reset. -/
def execUpdArmReset (path : Path) (tag : Byte) (s : State) : Host.Outcome State Fault Refusal := coreStep (doUpdArmReset path tag) s

/-- UPD_CANCEL (R440): UPD_CMD CANCEL returns an armed set to STAGED. -/
def execUpdCancel (path : Path) (tag : Byte) (s : State) : Host.Outcome State Fault Refusal := coreStep (doUpdCancel path tag) s

/-- UPD_ROLLBACK (R447): UPD_CMD ROLLBACK is a failure event that starts a fallback. -/
def execUpdRollback (path : Path) (tag : Byte) (s : State) : Host.Outcome State Fault Refusal := coreStep (doUpdRollback path tag) s

/-- ACTIVATION_TIME (R445): An AT_TIME activation time arrives; the activation starts or enters DEFERRED. -/
def execActivationTime (s : State) : Host.Outcome State Fault Refusal := coreStep doActivationTime s

/-- DEFER_END (R445): The deferral conditions clear within the window, and the activation starts. -/
def execDeferEnd (s : State) : Host.Outcome State Fault Refusal := coreStep doDeferEnd s

/-- DEFER_WINDOW_END (R445): A deferred activation reaches the end of its window and is cancelled. -/
def execDeferWindowEnd (s : State) : Host.Outcome State Fault Refusal := coreStep doDeferWindowEnd s

/-- PROVING_DONE (R441): The changed items have been verified; the activation reaches its switch point or fails with VERIFY. -/
def execProvingDone (s : State) : Host.Outcome State Fault Refusal := coreStep doProvingDone s

/-- HOLDOFF_EXPIRY (R444): HOLDOFF minutes pass after the last emergency, and the update hold clears. -/
def execHoldoffExpiry (s : State) : Host.Outcome State Fault Refusal := coreStep doHoldoffExpiry s

/-- TRIAL_EXPIRY (R447): TRIAL minutes pass without confirmation, and a fallback starts. -/
def execTrialExpiry (s : State) : Host.Outcome State Fault Refusal := coreStep doTrialExpiry s

/-- FALLBACK_START (R448): After a failure event and once no emergency is in force, the previous slot is activated. -/
def execFallbackStart (s : State) : Host.Outcome State Fault Refusal := coreStep doFallbackStart s


/-! ### Faults and the non-volatile store (17) -/

/-- FW_CLAIM (R457): FW_CTRL CLAIM moves a LATCHED window to HANDLING and acknowledges a trap. -/
def execFwClaim (path : Path) (u : FUnit) (tag : Byte) (s : State) : Host.Outcome State Fault Refusal := coreStep (doFwClaim path u tag) s

/-- FW_RELEASE (R457): FW_CTRL RELEASE returns a HANDLING window to EMPTY. -/
def execFwRelease (path : Path) (u : FUnit) (tag : Byte) (s : State) : Host.Outcome State Fault Refusal := coreStep (doFwRelease path u tag) s

/-- PENDING_CLEAR (R458): A write to FW_PENDING clears pending bits, ending their caps and latches, and may deassert the interrupt. -/
def execPendingClear (path : Path) (u : FUnit) (word : Fin 8) (mask : Word) (s : State) : Host.Outcome State Fault Refusal := coreStep (doPendingClear path u word mask) s

/-- FW_INJECT_REQUEST (R466): FW_INJECT arms inverted check bits for the next COUNT checks of a checker source. -/
def execFwInjectRequest (path : Path) (u : FUnit) (tag : Byte) (source count : Byte) (mode : Fin 4) (s : State) : Host.Outcome State Fault Refusal := coreStep (doFwInjectRequest path u tag source count mode) s

/-- TRAP_ACK_TIMEOUT (R462): A non-maskable trap is not acknowledged within 10 ms, and the owner restarts. -/
def execTrapAckTimeout (u : FUnit) (s : State) : Host.Outcome State Fault Refusal := coreStep (doTrapAckTimeout u) s

/-- ERR_PULSE_END (R464): The 2 µs ERR_N pulse ends, and AFTER_PULSE decides whether the pin is released. -/
def execErrPulseEnd (s : State) : Host.Outcome State Fault Refusal := coreStep doErrPulseEnd s

/-- ERR_HOLD (R464): ID_ERR_CTRL HOLD holds ERR_N asserted. -/
def execErrHold (path : Path) (tag : Byte) (afterPulse : Bool) (s : State) : Host.Outcome State Fault Refusal := coreStep (doErrHold path tag afterPulse) s

/-- ERR_RELEASE (R464): ID_ERR_CTRL RELEASE releases a held ERR_N. -/
def execErrRelease (path : Path) (tag : Byte) (afterPulse : Bool) (s : State) : Host.Outcome State Fault Refusal := coreStep (doErrRelease path tag afterPulse) s

/-- FAULT_LOG_COMMIT (R477): 9 ms after the first uncommitted entry latched, the fault windows request a FAULT_LOG commit. -/
def execFaultLogCommit (s : State) : Host.Outcome State Fault Refusal := coreStep doFaultLogCommit s

/-- NVS_COMMIT (R479): NVS_CMD COMMIT queues a commit of an area's payload. -/
def execNvsCommit (path : Path) (tag : Byte) (area : Byte) (payload : NvsPayload) (s : State) : Host.Outcome State Fault Refusal := coreStep (doNvsCommit path tag area payload) s

/-- NVS_READ (R479): NVS_CMD READ copies an area's newest bank to the shared buffers. -/
def execNvsRead (path : Path) (tag : Byte) (area : Byte) (s : State) : Host.Outcome State Fault Refusal := coreStep (doNvsRead path tag area) s

/-- NVS_ERASE (R479): NVS_CMD ERASE erases an area. -/
def execNvsErase (path : Path) (tag : Byte) (area : Byte) (s : State) : Host.Outcome State Fault Refusal := coreStep (doNvsErase path tag area) s

/-- NVS_MONO_INC (R479): NVS_CMD MONO_INC advances a monotonic counter. -/
def execNvsMonoInc (path : Path) (tag : Byte) (counter : Byte) (s : State) : Host.Outcome State Fault Refusal := coreStep (doNvsMonoInc path tag counter) s

/-- NVS_COMMIT_DONE (R470): The NVS engine finishes writing a bank in rank order and reports the result. -/
def execNvsCommitDone (flips : List (Nat × Byte)) (s : State) : Host.Outcome State Fault Refusal := coreStep (doNvsCommitDone flips) s


/-! ### Device power, timebase, cascade, indicators (18) -/

/-- DOMAIN_SUPPLY_GOOD (R486): A waking domain reports its supply good, and the next paced domains start. -/
def execDomainSupplyGood (domain : Fin 136) (s : State) : Host.Outcome State Fault Refusal := coreStep (doDomainSupplyGood domain) s

/-- DOMAIN_FAIL (R486): A domain has not reported supply good within 50 µs; it is left off and raises DOMAIN_FAIL. -/
def execDomainFail (domain : Fin 136) (s : State) : Host.Outcome State Fault Refusal := coreStep (doDomainFail domain) s

/-- WAKE_EVENT (R485): A wake source, such as an electrical-idle exit or a request for a gated domain, exits a sleep state. -/
def execWakeEvent (source : Fin 8) (s : State) : Host.Outcome State Fault Refusal := islandStep (doWakeEvent source) s

/-- LOCATE_BUTTON (R498): A debounced LOCATE_BTN_N press toggles locate and wakes the device from D3. -/
def execLocateButton (s : State) : Host.Outcome State Fault Refusal := islandStep doLocateButton s

/-- LOCATE_TIMEOUT (R498): Locate turns itself off after LOCATE_S seconds. -/
def execLocateTimeout (s : State) : Host.Outcome State Fault Refusal := islandStep doLocateTimeout s

/-- TBS_ALARM (R491): An alarm time arrives; it interrupts its owner, clears ENABLE and wakes the device from D3. -/
def execTbsAlarm (alarm : Fin 8) (s : State) : Host.Outcome State Fault Refusal := islandStep (doTbsAlarm alarm) s

/-- PPS_EDGE (R488): A rising PPS_IN edge near a whole second is accepted or rejected. -/
def execPpsEdge (s : State) : Host.Outcome State Fault Refusal := coreStep doPpsEdge s

/-- HOLDOVER_ENTER (R488): No valid update for 2 s while LOCKED, and the timebase enters HOLDOVER. -/
def execHoldoverEnter (s : State) : Host.Outcome State Fault Refusal := coreStep doHoldoverEnter s

/-- HOLDOVER_LIMIT (R490): HOLDOVER outlasts HOLDOVER_S, and time is flagged undisciplined. -/
def execHoldoverLimit (s : State) : Host.Outcome State Fault Refusal := coreStep doHoldoverLimit s

/-- MEMBER_CAP (R494): A follower receives MEMBER_CAP, acknowledges it and uses CAP as its P_allow. -/
def execMemberCap (port : Fin 11) (h : MemberHead) (cap capC : Word) (leaseUs sendUs : Word) (s : State) : Host.Outcome State Fault Refusal := coreStep (doMemberCap port h.member h.seq cap capC leaseUs sendUs) s

/-- MEMBER_REPORT (R494): The lead receives a follower's MEMBER_REPORT. -/
def execMemberReport (member : Fin 4) (pin demand avg : Word) (windowEnd : BitVec 64) (s : State) : Host.Outcome State Fault Refusal := coreStep (doMemberReport member pin demand avg windowEnd) s

/-- MEMBER_RECORD (R495): The lead receives a follower's minute record. -/
def execMemberRecord (member : Fin 4) (words : List Word) (s : State) : Host.Outcome State Fault Refusal := coreStep (doMemberRecord member words) s

/-- BOARD_RECORD_CLOSE (R495): 5 s after a minute the lead closes the aggregated board record. -/
def execBoardRecordClose (s : State) : Host.Outcome State Fault Refusal := coreStep doBoardRecordClose s

/-- MEMBER_LOST (R496): A follower stops answering; the lead raises MEMBER_LOST and reserves for it and those beyond. -/
def execMemberLost (member : Fin 4) (s : State) : Host.Outcome State Fault Refusal := coreStep (doMemberLost member) s

/-- MEMBER_LEASE_EXPIRY (R496): A follower's member-cap lease expires, and it falls to CAS_FALLBACK_W. -/
def execMemberLeaseExpiry (s : State) : Host.Outcome State Fault Refusal := coreStep doMemberLeaseExpiry s


/-! ### Test access port and pins (19) -/

/-- TAP_BYPASS (R514): The BYPASS instruction of the test access port. -/
def execTapBypass (s : State) : Host.Outcome State Fault Refusal := coreStep doTapBypass s

/-- TAP_IDCODE (R514): The IDCODE instruction returns 0x10C8_89AB. -/
def execTapIdcode (s : State) : Host.Outcome State Fault Refusal := coreStep doTapIdcode s

/-- TAP_SAMPLE_PRELOAD (R514): The SAMPLE/PRELOAD instruction of the boundary scan. -/
def execTapSamplePreload (s : State) : Host.Outcome State Fault Refusal := coreStep doTapSamplePreload s

/-- TAP_EXTEST (R515): EXTEST drives the pads, only in standby when DEPLOYED, else acts as BYPASS with a fault. -/
def execTapExtest (s : State) : Host.Outcome State Fault Refusal := coreStep doTapExtest s

/-- TAP_CLAMP (R515): CLAMP holds the pads, under the same DEPLOYED restriction. -/
def execTapClamp (s : State) : Host.Outcome State Fault Refusal := coreStep doTapClamp s

/-- TAP_HIGHZ (R515): HIGHZ floats the pads, under the same DEPLOYED restriction. -/
def execTapHighz (s : State) : Host.Outcome State Fault Refusal := coreStep doTapHighz s

/-- TAP_KEY_RECORD (R514): KEY_RECORD writes SEC_KEY_BUF and SEC_KEY_CMD. -/
def execTapKeyRecord (tag : Byte) (submit : Bool) (record : List Byte) (s : State) : Host.Outcome State Fault Refusal := coreStep (doTapKeyRecord tag submit record) s

/-- TAP_CERT_WRITE (R514): CERT_WRITE writes CERT_DEVICE while PROVISIONING. -/
def execTapCertWrite (bytes : List Byte) (s : State) : Host.Outcome State Fault Refusal := coreStep (doTapCertWrite bytes) s

/-- TAP_INJECT (R514): INJECT writes FW_INJECT and FW_INJECT_UNIT of any window. -/
def execTapInject (u : FUnit) (injectUnit : BitVec 16) (tag : Byte) (source count : Byte) (mode : Fin 4) (s : State) : Host.Outcome State Fault Refusal := coreStep (doTapInject u injectUnit tag source count mode) s

/-- TAP_CHIP_RESET (R514): CHIP_RESET starts a chip reset with cause TAP. -/
def execTapChipReset (s : State) : Host.Outcome State Fault Refusal := coreStep doTapChipReset s

/-- POR_N_RELEASE (R508): At the rising edge of POR_N the device samples BOOT_SRC and CAS_ROLE, and AFE0 samples THERM_STRAP. -/
def execPorNRelease (bootSrc : Fin 4) (casRole : Fin 4) (therm : Fin 8) (s : State) : Host.Outcome State Fault Refusal := supplyStep (doPorNRelease bootSrc casRole therm) s


end Sys2Proof.Machine
end

