-- ==== Sys2Proof/Machine/Dispatch.lean ====
section
/-! DEFINITION. The dispatch: one arm for each command. -/

namespace Sys2Proof.Machine

def exec (i : Instr) (s : State) : Host.Outcome State Fault Refusal :=
  match i with
  -- Reset, supply, timebase and access (01, 00, 19)
  | .powerOnReset => Sys2Proof.Machine.execPowerOnReset s
  | .standbySupplyLoss => Sys2Proof.Machine.execStandbySupplyLoss s
  | .mainPgFall => Sys2Proof.Machine.execMainPgFall s
  | .standbySupplyGood => Sys2Proof.Machine.execStandbySupplyGood s
  | .mainPgTimeout => Sys2Proof.Machine.execMainPgTimeout s
  | .secRomRelease b => Sys2Proof.Machine.execSecRomRelease b s
  | .inputPowerGood => Sys2Proof.Machine.execInputPowerGood s
  | .upNoPeer => Sys2Proof.Machine.execUpNoPeer s
  | .resetCtrlKey path value => Sys2Proof.Machine.execResetCtrlKey path value s
  | .supervisionWatchdogBite => Sys2Proof.Machine.execSupervisionWatchdogBite s
  | .tick env => Sys2Proof.Machine.execTick env s
  | .handoverTimeout pin => Sys2Proof.Machine.execHandoverTimeout pin s
  | .leasePinExpiry slot => Sys2Proof.Machine.execLeasePinExpiry slot s
  | .paceStepUp region => Sys2Proof.Machine.execPaceStepUp region s
  | .paceStepDown => Sys2Proof.Machine.execPaceStepDown s
  | .paceOverrun region => Sys2Proof.Machine.execPaceOverrun region s
  | .crystalFail => Sys2Proof.Machine.execCrystalFail s
  | .registerWrite path offset value => Sys2Proof.Machine.execRegisterWrite path offset value s
  | .rcRead path offset => Sys2Proof.Machine.execRcRead path offset s
  | .unmappedAccess path offset write => Sys2Proof.Machine.execUnmappedAccess path offset write s
  | .rwpPairTimeout offset => Sys2Proof.Machine.execRwpPairTimeout offset s
  | .blockCommit path reg => Sys2Proof.Machine.execBlockCommit path reg s
  | .blockDiscard path reg => Sys2Proof.Machine.execBlockDiscard path reg s
  | .blockCommitApply reg => Sys2Proof.Machine.execBlockCommitApply reg s
  -- Glade fabric and configuration (02, 03)
  | .signalChangeEvaluate slot => Sys2Proof.Machine.execSignalChangeEvaluate slot s
  | .structureLoad => Sys2Proof.Machine.execStructureLoad s
  | .structureLoadDone quarter readbackOk => Sys2Proof.Machine.execStructureLoadDone quarter readbackOk s
  | .standbyApply => Sys2Proof.Machine.execStandbyApply s
  | .paramEccError tile e => Sys2Proof.Machine.execParamEccError tile e s
  | .paramStageWrite path tile pair comp value => Sys2Proof.Machine.execParamStageWrite path tile pair comp value s
  | .tileCommit path tile => Sys2Proof.Machine.execTileCommit path tile s
  | .tileDiscard path tile => Sys2Proof.Machine.execTileDiscard path tile s
  | .tileCommitApply tile => Sys2Proof.Machine.execTileCommitApply tile s
  | .groupCommit path => Sys2Proof.Machine.execGroupCommit path s
  | .groupCommitApply => Sys2Proof.Machine.execGroupCommitApply s
  | .configCommitApply => Sys2Proof.Machine.execConfigCommitApply s
  | .applyRetry => Sys2Proof.Machine.execApplyRetry s
  -- Power sequencing (04)
  | .seqSlotUp path tag mask => Sys2Proof.Machine.execSeqSlotUp path tag mask s
  | .seqSlotDown path tag mask => Sys2Proof.Machine.execSeqSlotDown path tag mask s
  | .seqTrayUp path tag mask => Sys2Proof.Machine.execSeqTrayUp path tag mask s
  | .seqTrayDown path tag => Sys2Proof.Machine.execSeqTrayDown path tag s
  | .seqClear path tag mask tray => Sys2Proof.Machine.execSeqClear path tag mask tray s
  | .seqNop path tag => Sys2Proof.Machine.execSeqNop path tag s
  | .heldCommandRun => Sys2Proof.Machine.execHeldCommandRun s
  | .stepDelayDone graph step => Sys2Proof.Machine.execStepDelayDone graph step s
  | .stepAdmit graph step => Sys2Proof.Machine.execStepAdmit graph step s
  | .stepQualified graph step => Sys2Proof.Machine.execStepQualified graph step s
  | .stepTimeout graph step => Sys2Proof.Machine.execStepTimeout graph step s
  | .pgChange pin level => Sys2Proof.Machine.execPgChange pin level s
  | .vsWindowFault rail => Sys2Proof.Machine.execVsWindowFault rail s
  | .powerFailHoldExpiry => Sys2Proof.Machine.execPowerFailHoldExpiry s
  | .seqAdoptionStart => Sys2Proof.Machine.execSeqAdoptionStart s
  | .adoptRailReadDone rail on good => Sys2Proof.Machine.execAdoptRailReadDone rail on good s
  | .queueWaitLong graph step => Sys2Proof.Machine.execQueueWaitLong graph step s
  | .ffrValidClear path => Sys2Proof.Machine.execFfrValidClear path s
  -- Shaping, contract and ledger (05)
  | .traySample volts amps ok => Sys2Proof.Machine.execTraySample volts amps ok s
  | .senseSample channel raw => Sys2Proof.Machine.execSenseSample channel raw s
  | .fastTrip c => Sys2Proof.Machine.execFastTrip c s
  | .tripLevelFall => Sys2Proof.Machine.execTripLevelFall s
  | .msgAck slot seq => Sys2Proof.Machine.execMsgAck slot seq s
  | .telemetryRecord slot power r => Sys2Proof.Machine.execTelemetryRecord slot power r s
  | .telemetryStale slot => Sys2Proof.Machine.execTelemetryStale slot s
  | .stepHint slot headReq tailIn tailLen headW headRamp => Sys2Proof.Machine.execStepHint slot headReq tailIn tailLen headW headRamp s
  | .hintTimeout slot => Sys2Proof.Machine.execHintTimeout slot s
  | .tailStart slot => Sys2Proof.Machine.execTailStart slot s
  | .tailEnd slot => Sys2Proof.Machine.execTailEnd slot s
  | .vfWaitTimeout slot => Sys2Proof.Machine.execVfWaitTimeout slot s
  | .stepPinFall slot => Sys2Proof.Machine.execStepPinFall slot s
  | .stepPinRise slot => Sys2Proof.Machine.execStepPinRise slot s
  | .schedArm path tag => Sys2Proof.Machine.execSchedArm path tag s
  | .schedCancel path tag => Sys2Proof.Machine.execSchedCancel path tag s
  | .scheduleCheckDone => Sys2Proof.Machine.execScheduleCheckDone s
  | .scheduleTakeOver => Sys2Proof.Machine.execScheduleTakeOver s
  | .trimSaturated => Sys2Proof.Machine.execTrimSaturated s
  | .minuteClose => Sys2Proof.Machine.execMinuteClose s
  | .ledgerBlockSigned => Sys2Proof.Machine.execLedgerBlockSigned s
  | .signingLate => Sys2Proof.Machine.execSigningLate s
  | .spoolWriteDone => Sys2Proof.Machine.execSpoolWriteDone s
  | .ledgerSpoolRestore => Sys2Proof.Machine.execLedgerSpoolRestore s
  | .ledgerResign => Sys2Proof.Machine.execLedgerResign s
  -- Thermal, leak and flow (06)
  | .thermalSample channel value feFault => Sys2Proof.Machine.execThermalSample channel value feFault s
  | .channelPlausible channel => Sys2Proof.Machine.execChannelPlausible channel s
  | .sampleRateFall channel => Sys2Proof.Machine.execSampleRateFall channel s
  | .staircaseStep group => Sys2Proof.Machine.execStaircaseStep group s
  | .staircaseRelease group => Sys2Proof.Machine.execStaircaseRelease group s
  | .shdnClrRequest path tag mask tray => Sys2Proof.Machine.execShdnClrRequest path tag mask tray s
  | .tcritConversion diode value faulted => Sys2Proof.Machine.execTcritConversion diode value faulted s
  | .leakReading channel r q => Sys2Proof.Machine.execLeakReading channel r q s
  | .leakNoisy channel => Sys2Proof.Machine.execLeakNoisy channel s
  | .lkfClearRequest path tag mask => Sys2Proof.Machine.execLkfClearRequest path tag mask s
  | .flowSample channel x => Sys2Proof.Machine.execFlowSample channel x s
  | .flowAlarm channel => Sys2Proof.Machine.execFlowAlarm channel s
  | .flowAlarmEnd channel => Sys2Proof.Machine.execFlowAlarmEnd channel s
  | .flowJudgeStart => Sys2Proof.Machine.execFlowJudgeStart s
  -- Motor drive (07)
  | .heartbeatReceive die crcOk badPairs => Sys2Proof.Machine.execHeartbeatReceive die crcOk badPairs s
  | .heartbeatReply die r => Sys2Proof.Machine.execHeartbeatReply die r s
  | .dieFailsafe die => Sys2Proof.Machine.execDieFailsafe die s
  | .setpointLost channel => Sys2Proof.Machine.execSetpointLost channel s
  | .hostSilence die => Sys2Proof.Machine.execHostSilence die s
  | .startWatchEnd channel speed hallOk => Sys2Proof.Machine.execStartWatchEnd channel speed hallOk s
  | .reverseCoastEnd channel => Sys2Proof.Machine.execReverseCoastEnd channel s
  | .alignDone channel => Sys2Proof.Machine.execAlignDone channel s
  | .bemfLock channel => Sys2Proof.Machine.execBemfLock channel s
  | .rampNoLock channel => Sys2Proof.Machine.execRampNoLock channel s
  | .restDone channel => Sys2Proof.Machine.execRestDone channel s
  | .stallDetect m => Sys2Proof.Machine.execStallDetect m s
  | .runCountReset channel => Sys2Proof.Machine.execRunCountReset channel s
  | .senseLost m => Sys2Proof.Machine.execSenseLost m s
  | .senseRegained channel => Sys2Proof.Machine.execSenseRegained channel s
  | .senseFail m => Sys2Proof.Machine.execSenseFail m s
  | .overcurrent m => Sys2Proof.Machine.execOvercurrent m s
  | .openPhase m => Sys2Proof.Machine.execOpenPhase m s
  | .speedLow m => Sys2Proof.Machine.execSpeedLow m s
  | .speedLowClear m => Sys2Proof.Machine.execSpeedLowClear m s
  | .hallInvalid channel => Sys2Proof.Machine.execHallInvalid channel s
  | .vmotBusFault die mv => Sys2Proof.Machine.execVmotBusFault die mv s
  | .vmotBusRecover die mv => Sys2Proof.Machine.execVmotBusRecover die mv s
  | .motClearRequest path tag mask => Sys2Proof.Machine.execMotClearRequest path tag mask s
  -- Canopy (08)
  | .segmentDone tile r => Sys2Proof.Machine.execSegmentDone tile r s
  | .deadlineMiss model => Sys2Proof.Machine.execDeadlineMiss model s
  | .cnpLoad path tag model => Sys2Proof.Machine.execCnpLoad path tag model s
  | .cnpSuspend path tag model => Sys2Proof.Machine.execCnpSuspend path tag model s
  | .cnpResume path tag model => Sys2Proof.Machine.execCnpResume path tag model s
  | .cnpResetState path tag model => Sys2Proof.Machine.execCnpResetState path tag model s
  | .stagedHashDone => Sys2Proof.Machine.execStagedHashDone s
  | .loadCopyDone flips => Sys2Proof.Machine.execLoadCopyDone flips s
  | .cnpStateEcc model => Sys2Proof.Machine.execCnpStateEcc model s
  | .canopyBootLoad => Sys2Proof.Machine.execCanopyBootLoad s
  -- Custody (09)
  | .cusLoad path tag mask allowRemnant => Sys2Proof.Machine.execCusLoad path tag mask allowRemnant s
  | .cusPlanOnly path tag mask allowRemnant => Sys2Proof.Machine.execCusPlanOnly path tag mask allowRemnant s
  | .cusCancel path tag => Sys2Proof.Machine.execCusCancel path tag s
  | .cusResume path tag => Sys2Proof.Machine.execCusResume path tag s
  | .manifestVerified m fetchOk sg => Sys2Proof.Machine.execManifestVerified m fetchOk sg s
  | .treeDone first rest => Sys2Proof.Machine.execTreeDone first rest s
  | .capAnswer slot bytes => Sys2Proof.Machine.execCapAnswer slot bytes s
  | .capQueryTimeout slot => Sys2Proof.Machine.execCapQueryTimeout slot s
  | .leafFetch => Sys2Proof.Machine.execLeafFetch s
  | .leafHashDone leaf bytes => Sys2Proof.Machine.execLeafHashDone leaf bytes s
  | .clearAck slot leaf => Sys2Proof.Machine.execClearAck slot leaf s
  | .clearAckTimeout slot leaf => Sys2Proof.Machine.execClearAckTimeout slot leaf s
  | .loadResumeAfterReset => Sys2Proof.Machine.execLoadResumeAfterReset s
  | .remnantScrub flips => Sys2Proof.Machine.execRemnantScrub flips s
  | .jobFault slot code => Sys2Proof.Machine.execJobFault slot code s
  | .cusRestart path tag => Sys2Proof.Machine.execCusRestart path tag s
  | .cusHold path tag => Sys2Proof.Machine.execCusHold path tag s
  | .cusRelease path tag => Sys2Proof.Machine.execCusRelease path tag s
  | .cusContinue path tag => Sys2Proof.Machine.execCusContinue path tag s
  | .abortHoldExpiry => Sys2Proof.Machine.execAbortHoldExpiry s
  | .quiesceDone => Sys2Proof.Machine.execQuiesceDone s
  | .readyWaitDone => Sys2Proof.Machine.execReadyWaitDone s
  | .readyWaitTimeout => Sys2Proof.Machine.execReadyWaitTimeout s
  | .pwrRetry => Sys2Proof.Machine.execPwrRetry s
  -- Gorino Coherent Link (10)
  | .portRetrain path port tag => Sys2Proof.Machine.execPortRetrain path port tag s
  | .portFullRetrain path port tag => Sys2Proof.Machine.execPortFullRetrain path port tag s
  | .portDisable path port tag => Sys2Proof.Machine.execPortDisable path port tag s
  | .portEnable path port tag => Sys2Proof.Machine.execPortEnable path port tag s
  | .peerDetect port => Sys2Proof.Machine.execPeerDetect port s
  | .equaliseDone port own peer => Sys2Proof.Machine.execEqualiseDone port own peer s
  | .fecLockHeld port => Sys2Proof.Machine.execFecLockHeld port s
  | .configRecord port r => Sys2Proof.Machine.execConfigRecord port r s
  | .trainTimeout port => Sys2Proof.Machine.execTrainTimeout port s
  | .downRetry port => Sys2Proof.Machine.execDownRetry port s
  | .codewordLockLoss port => Sys2Proof.Machine.execCodewordLockLoss port s
  | .lowPowerEnter port => Sys2Proof.Machine.execLowPowerEnter port s
  | .lowPowerExit port => Sys2Proof.Machine.execLowPowerExit port s
  | .recoveryLanesChosen port own peer => Sys2Proof.Machine.execRecoveryLanesChosen port own peer s
  | .flitReceive port f => Sys2Proof.Machine.execFlitReceive port f s
  | .rdS port tag addr => Sys2Proof.Machine.execRdS port tag addr s
  | .rdUc port tag addr len => Sys2Proof.Machine.execRdUc port tag addr len s
  | .csrRd port tag addr => Sys2Proof.Machine.execCsrRd port tag addr s
  | .csrWr port tag addr data => Sys2Proof.Machine.execCsrWr port tag addr data s
  | .wr port tag addr => Sys2Proof.Machine.execWr port tag addr s
  | .completionReceived port tag status poison => Sys2Proof.Machine.execCompletionReceived port tag status poison s
  | .completionTimeout port tag => Sys2Proof.Machine.execCompletionTimeout port tag s
  | .snpInv page => Sys2Proof.Machine.execSnpInv page s
  | .snpRspI page => Sys2Proof.Machine.execSnpRspI page s
  | .snoopResend page => Sys2Proof.Machine.execSnoopResend page s
  | .timeSync port t1 => Sys2Proof.Machine.execTimeSync port t1 s
  | .timeReq port => Sys2Proof.Machine.execTimeReq port s
  | .timeRsp port t4 => Sys2Proof.Machine.execTimeRsp port t4 s
  -- Memory (11)
  | .miTrainDone mi ok => Sys2Proof.Machine.execMiTrainDone mi ok s
  | .dramReadUe addr t => Sys2Proof.Machine.execDramReadUe addr t s
  | .rcdTrigger path tag => Sys2Proof.Machine.execRcdTrigger path tag s
  | .rcdRearm path tag => Sys2Proof.Machine.execRcdRearm path tag s
  | .rcdPostExpire => Sys2Proof.Machine.execRcdPostExpire s
  | .rcdAutoRearm => Sys2Proof.Machine.execRcdAutoRearm s
  | .rcdStagingOverflow => Sys2Proof.Machine.execRcdStagingOverflow s
  -- Two-wire ports (12)
  | .twpTargetWrite port addr bytes => Sys2Proof.Machine.execTwpTargetWrite port addr bytes s
  | .twpTargetRead port addr r => Sys2Proof.Machine.execTwpTargetRead port addr r s
  | .twpBusError port bytes => Sys2Proof.Machine.execTwpBusError port bytes s
  | .alertResponseRead won => Sys2Proof.Machine.execAlertResponseRead won s
  | .alertLineFall port => Sys2Proof.Machine.execAlertLineFall port s
  | .alertIgnoreEnd port => Sys2Proof.Machine.execAlertIgnoreEnd port s
  | .clkLowTimeout port sdaLow freed => Sys2Proof.Machine.execClkLowTimeout port sdaLow freed s
  | .dataLowTimeout port freed => Sys2Proof.Machine.execDataLowTimeout port freed s
  | .twpBusClearCmd path port tag freed => Sys2Proof.Machine.execTwpBusClearCmd path port tag freed s
  | .twpResetPulse path port tag => Sys2Proof.Machine.execTwpResetPulse path port tag s
  | .resetPinRelease port => Sys2Proof.Machine.execResetPinRelease port s
  | .resetPinSettle port freed => Sys2Proof.Machine.execResetPinSettle port freed s
  | .stuckRetry port freed => Sys2Proof.Machine.execStuckRetry port freed s
  | .fxTransferStart path port window ctrl => Sys2Proof.Machine.execFxTransferStart path port window ctrl s
  | .transferDone port result d => Sys2Proof.Machine.execTransferDone port result d s
  | .wakeAddressMatch port addr => Sys2Proof.Machine.execWakeAddressMatch port addr s
  -- Pass arbiter (13)
  | .arbRequest inst req beats cost lock => Sys2Proof.Machine.execArbRequest inst req beats cost lock s
  | .beatComplete inst req => Sys2Proof.Machine.execBeatComplete inst req s
  | .windowRefill inst => Sys2Proof.Machine.execWindowRefill inst s
  | .lockWatchdogBite inst sdaFreed => Sys2Proof.Machine.execLockWatchdogBite inst sdaFreed s
  -- Firmware processors (14)
  | .procRelease path p tag => Sys2Proof.Machine.execProcRelease path p tag s
  | .fpcRestart path p tag => Sys2Proof.Machine.execFpcRestart path p tag s
  | .procReady path p key => Sys2Proof.Machine.execProcReady path p key s
  | .procWdKick path p key => Sys2Proof.Machine.execProcWdKick path p key s
  | .procWatchdog p => Sys2Proof.Machine.execProcWatchdog p s
  | .procTrap p => Sys2Proof.Machine.execProcTrap p s
  | .procMemoryError p => Sys2Proof.Machine.execProcMemoryError p s
  | .procRestoreDone p flips => Sys2Proof.Machine.execProcRestoreDone p flips s
  | .procReloadDone p item => Sys2Proof.Machine.execProcReloadDone p item s
  -- Mailboxes (14)
  | .handlerResponse p => Sys2Proof.Machine.execHandlerResponse p s
  | .mailboxTimeout chan => Sys2Proof.Machine.execMailboxTimeout chan s
  | .mbxAck path value => Sys2Proof.Machine.execMbxAck path value s
  | .ping m => Sys2Proof.Machine.execPing m s
  | .getInfo m => Sys2Proof.Machine.execGetInfo m s
  | .csrRead m => Sys2Proof.Machine.execCsrRead m s
  | .contractLoad m => Sys2Proof.Machine.execContractLoad m s
  | .contractArm m => Sys2Proof.Machine.execContractArm m s
  | .contractCancel m => Sys2Proof.Machine.execContractCancel m s
  | .ledgerRead m => Sys2Proof.Machine.execLedgerRead m s
  | .slotPower m => Sys2Proof.Machine.execSlotPower m s
  | .trayPower m => Sys2Proof.Machine.execTrayPower m s
  | .shutdownClear m => Sys2Proof.Machine.execShutdownClear m s
  | .motorClear m => Sys2Proof.Machine.execMotorClear m s
  | .leakClear m => Sys2Proof.Machine.execLeakClear m s
  | .locate m => Sys2Proof.Machine.execLocate m s
  | .indicator m => Sys2Proof.Machine.execIndicator m s
  | .modelLoad m => Sys2Proof.Machine.execModelLoad m s
  | .jobRestart m => Sys2Proof.Machine.execJobRestart m s
  | .canopyLoad m img => Sys2Proof.Machine.execCanopyLoad m img s
  | .canopyCtrl m => Sys2Proof.Machine.execCanopyCtrl m s
  | .updateStage m => Sys2Proof.Machine.execUpdateStage m s
  | .updateActivate m => Sys2Proof.Machine.execUpdateActivate m s
  | .updateStatus m => Sys2Proof.Machine.execUpdateStatus m s
  | .attest m => Sys2Proof.Machine.execAttest m s
  | .procRestart m => Sys2Proof.Machine.execProcRestart m s
  | .chipReset m => Sys2Proof.Machine.execChipReset m s
  | .recorder m => Sys2Proof.Machine.execRecorder m s
  | .relay m => Sys2Proof.Machine.execRelay m s
  -- Boot and keys (15)
  | .rcvPull path tag kind index => Sys2Proof.Machine.execRcvPull path tag kind index s
  | .pullDone ok item => Sys2Proof.Machine.execPullDone ok item s
  | .rcvAppendReset path tag kind index => Sys2Proof.Machine.execRcvAppendReset path tag kind index s
  | .rcvAppend path tag kind index item => Sys2Proof.Machine.execRcvAppend path tag kind index item s
  | .rcvVerify path tag kind index => Sys2Proof.Machine.execRcvVerify path tag kind index s
  | .rcvRelease path tag b => Sys2Proof.Machine.execRcvRelease path tag b s
  | .keySubmit path tag r => Sys2Proof.Machine.execKeySubmit path tag r s
  | .fuseBlowDone readBack => Sys2Proof.Machine.execFuseBlowDone readBack s
  -- Field update (16)
  | .stagingDone p => Sys2Proof.Machine.execStagingDone p s
  | .updArmTime path tag => Sys2Proof.Machine.execUpdArmTime path tag s
  | .updArmReset path tag => Sys2Proof.Machine.execUpdArmReset path tag s
  | .updCancel path tag => Sys2Proof.Machine.execUpdCancel path tag s
  | .updRollback path tag => Sys2Proof.Machine.execUpdRollback path tag s
  | .activationTime => Sys2Proof.Machine.execActivationTime s
  | .deferEnd => Sys2Proof.Machine.execDeferEnd s
  | .deferWindowEnd => Sys2Proof.Machine.execDeferWindowEnd s
  | .provingDone => Sys2Proof.Machine.execProvingDone s
  | .holdoffExpiry => Sys2Proof.Machine.execHoldoffExpiry s
  | .trialExpiry => Sys2Proof.Machine.execTrialExpiry s
  | .fallbackStart => Sys2Proof.Machine.execFallbackStart s
  -- Faults and the non-volatile store (17)
  | .fwClaim path u tag => Sys2Proof.Machine.execFwClaim path u tag s
  | .fwRelease path u tag => Sys2Proof.Machine.execFwRelease path u tag s
  | .pendingClear path u word mask => Sys2Proof.Machine.execPendingClear path u word mask s
  | .fwInjectRequest path u tag source count mode => Sys2Proof.Machine.execFwInjectRequest path u tag source count mode s
  | .trapAckTimeout u => Sys2Proof.Machine.execTrapAckTimeout u s
  | .errPulseEnd => Sys2Proof.Machine.execErrPulseEnd s
  | .errHold path tag afterPulse => Sys2Proof.Machine.execErrHold path tag afterPulse s
  | .errRelease path tag afterPulse => Sys2Proof.Machine.execErrRelease path tag afterPulse s
  | .faultLogCommit => Sys2Proof.Machine.execFaultLogCommit s
  | .nvsCommit path tag area payload => Sys2Proof.Machine.execNvsCommit path tag area payload s
  | .nvsRead path tag area => Sys2Proof.Machine.execNvsRead path tag area s
  | .nvsErase path tag area => Sys2Proof.Machine.execNvsErase path tag area s
  | .nvsMonoInc path tag counter => Sys2Proof.Machine.execNvsMonoInc path tag counter s
  | .nvsCommitDone flips => Sys2Proof.Machine.execNvsCommitDone flips s
  -- Device power, timebase, cascade, indicators (18)
  | .domainSupplyGood domain => Sys2Proof.Machine.execDomainSupplyGood domain s
  | .domainFail domain => Sys2Proof.Machine.execDomainFail domain s
  | .wakeEvent source => Sys2Proof.Machine.execWakeEvent source s
  | .locateButton => Sys2Proof.Machine.execLocateButton s
  | .locateTimeout => Sys2Proof.Machine.execLocateTimeout s
  | .tbsAlarm alarm => Sys2Proof.Machine.execTbsAlarm alarm s
  | .ppsEdge => Sys2Proof.Machine.execPpsEdge s
  | .holdoverEnter => Sys2Proof.Machine.execHoldoverEnter s
  | .holdoverLimit => Sys2Proof.Machine.execHoldoverLimit s
  | .memberCap port h cap capC leaseUs sendUs => Sys2Proof.Machine.execMemberCap port h cap capC leaseUs sendUs s
  | .memberReport member pin demand avg windowEnd => Sys2Proof.Machine.execMemberReport member pin demand avg windowEnd s
  | .memberRecord member words => Sys2Proof.Machine.execMemberRecord member words s
  | .boardRecordClose => Sys2Proof.Machine.execBoardRecordClose s
  | .memberLost member => Sys2Proof.Machine.execMemberLost member s
  | .memberLeaseExpiry => Sys2Proof.Machine.execMemberLeaseExpiry s
  -- Test access port and pins (19)
  | .tapBypass => Sys2Proof.Machine.execTapBypass s
  | .tapIdcode => Sys2Proof.Machine.execTapIdcode s
  | .tapSamplePreload => Sys2Proof.Machine.execTapSamplePreload s
  | .tapExtest => Sys2Proof.Machine.execTapExtest s
  | .tapClamp => Sys2Proof.Machine.execTapClamp s
  | .tapHighz => Sys2Proof.Machine.execTapHighz s
  | .tapKeyRecord tag submit r => Sys2Proof.Machine.execTapKeyRecord tag submit r s
  | .tapCertWrite bytes => Sys2Proof.Machine.execTapCertWrite bytes s
  | .tapInject u injectUnit tag source count mode => Sys2Proof.Machine.execTapInject u injectUnit tag source count mode s
  | .tapChipReset => Sys2Proof.Machine.execTapChipReset s
  | .porNRelease bootSrc casRole therm => Sys2Proof.Machine.execPorNRelease bootSrc casRole therm s

end Sys2Proof.Machine
end

