-- ==== Sys2Proof/Safety.lean ====
section
/-! DEFINITION. What holds in every state a run reaches, and the words that statements use: the invariant of the device's data, the order of the one-time fuses, and what a command leads
to before the end of its step. -/

namespace Sys2Proof.Machine

/-! ### The invariant -/

/-- Every table of the register store is in its canonical order: keys strictly rising. -/
def RegsOk (s : State) : Prop :=
  tsorted s.regs.words = true ∧ tsorted s.regs.live = true ∧ tsorted s.regs.half = true ∧ tsorted s.regs.commits = true ∧ tsorted s.regs.tags = true

/-- Every signal carries the ones' complement of its value and the complement of its stale flag (R41). -/
def PlaneOk (s : State) : Prop := ∀ e ∈ s.gld.plane, e.2.comp = ~~~ e.2.value ∧ e.2.staleC = !e.2.stale

/-- The undisciplined flag says what R490 says of the timebase. -/
def DiscOk (s : State) : Prop := s.tbs.undisc = undiscFlag s.tbs

/-- Dvorum's eight key slots are programmed (R410). -/
def KeysOk (s : State) : Prop := ∀ k, k < 8 → s.fuses.programmed.testBit k = true

/-- The invariant of the device. -/
def Inv (s : State) : Prop := RegsOk s ∧ PlaneOk s ∧ DiscOk s ∧ KeysOk s

/-! ### Fuses -/

/-- Fuses only blow (R410): a programmed slot stays programmed, a revoked one revoked, and DEPLOYED stays. -/
def FusesGrow (a b : Fuses) : Prop :=
  (∀ k, a.programmed.testBit k = true → b.programmed.testBit k = true) ∧ (∀ k, a.revoked.testBit k = true → b.revoked.testBit k = true) ∧ (a.deployed = true → b.deployed = true)

/-! ### Hypotheses of statements -/

/-- The core die takes commands: power-on reset is over and the device is not in D3. -/
abbrev awake (s : State) : Prop := s.und.supply.porAsserted = false ∧ s.pmd.state ≠ 3

/-- No injection is armed in a fault window (R466), so every check there sees what was stored or sent. -/
abbrev noInjection (u : FUnit) (s : State) : Prop := (winOf s u).injLeft = 0

/-- A SEQ command that nothing refuses or holds, as accepted: its word and TAG kept, the status saying OK (R115). -/
def seqAccepted (w : Word) (s : State) : State :=
  { setTag 0x080010 (fld w 31 24) (setPair 0x080010 w s) with
    seq.cmdTag := fld w 31 24, seq.cmdSlot := 0, seq.cmdResult := 0, seq.cmdCount := inc8 s.seq.cmdCount }

/-- What lets a SEQ command run: its path, a new TAG, no command held, and no refusal or hold (R115–R117). -/
abbrev seqRuns (path : Path) (w : Word) (s : State) : Prop :=
  (path = .proc .pwr ∨ path = .proc .sec) ∧ fld w 31 24 ≠ lastTag s 0x080010 ∧ s.seq.held = none ∧ judgeSeq w s = (0, 0) ∧ seqHolds w s = false

/-- A message that its mailbox takes as a request of a type (R392, R393): it reaches its channel, passes every check, is no answer to a relay and no repeat of a stored request. -/
abbrev mbxFits (typ : Nat) (m : MbxMsg) (s : State) : Prop :=
  mbxReaches s m.chan.val = true ∧ (m.chan.val = 4 → tget [] s.mbx.out 4 = []) ∧ ¬(m.chan.val = 5 ∧ isLead s = true ∧ bit m.flags 0 = true) ∧
  mbxWireCheck m m.crcOk = 0 ∧ tfind s.mbx.stored m.chan.val = none ∧ mbxCheck m typ s = 0

/-- The mailbox with a message accepted: it counts, and joins the open requests of its type's handler (R392, R399). -/
def mbxTaken (typ : Nat) (m : MbxMsg) (img : Option ImageRec) (s : State) : State :=
  { mbxAccept m.chan.val typ m.seq s with
    mbx.open_ := insertReq { chan := m.chan.val, major := m.major, seq := m.seq, typ := typ, handler := ((catalog typ).map (·.2.1)).getD .hst,
                             payload := m.payload, at_ := s.now, img := img } s.mbx.open_ }

end Sys2Proof.Machine
end

