-- ==== Sys2Proof/Certificates/Slice0/Obligations.lean ====
section
/-! DEFINITION. The statements about the device. In a clause `exec c s = .next (settle s t)`, `t` is what the command itself changes, written with the named operations of the model, and
`settle s t` adds what follows of itself at the end of the step (nothing, when the change is quiet). Hypotheses are on the state and the operands alone. -/

open Sys2Proof Sys2Proof.Machine

/-- A step takes the command at the front of the queue and is `exec` of it on the state with the queue's rest. -/
def Obligations.StepRunsFront : Prop :=
  ∀ (c : Instr) (rest : List Instr) (s : State), s.pending = c :: rest → step s = exec c { s with pending := rest }

/-- With no command waiting, a step changes nothing. This is the model's choice (log 1): time passes by TICK commands. -/
def Obligations.StepIdles : Prop := ∀ s : State, s.pending = [] → step s = .next s

/-- No command ends in a fault or a refusal, and none touches the queue. -/
def Obligations.EveryCommandAnswers : Prop := ∀ (c : Instr) (s : State), ∃ t, exec c s = .next t ∧ t.pending = s.pending

/-- From every state with the invariant a step leads to one with it: the register store stays in its canonical order, every signal carries its complements, the undisciplined flag says what the
timebase's state says, and Dvorum's key slots stay programmed. -/
def Obligations.StepKeepsInvariant : Prop := ∀ s t : State, Inv s → step s = .next t → Inv t

/-- The state after reset has the invariant. -/
def Obligations.ResetHasInvariant : Prop := Inv State.reset

/-- A programmed key slot stays programmed, a revoked one revoked, and a deployed device deployed: over every step, resets among them. -/
def Obligations.FusesOnlyBlow : Prop := ∀ s t : State, step s = .next t → FusesGrow s.fuses t.fuses

/-- A command that finds power-on reset asserted, and is none of the supply events, POR_N's release or a tick, changes nothing. What such a command does is the model's reading (log 90). -/
def Obligations.ResetHoldsEverything : Prop :=
  ∀ (c : Instr) (s : State), s.und.supply.porAsserted = true → s.notes = [] →
    (∀ e, c ≠ .tick e) → (∀ b r h, c ≠ .porNRelease b r h) →
    c ≠ .powerOnReset → c ≠ .standbySupplyLoss → c ≠ .mainPgFall → c ≠ .standbySupplyGood → c ≠ .mainPgTimeout → exec c s = .next s

/-- The end of a step adds nothing but the pin states that changed to a change that leaves no action behind and touches none of the parts whose change has consequences. -/
def Obligations.QuietStepsSettleAtOnce : Prop := ∀ a t : State, quiet a t = true → settle a t = pinSignals t

/-- Power-on reset leaves the timebase at 0 and undisciplined, the cause POR alone, SEC held, the fabric without a structure, no bitstream running, every processor held, the motor channels STOPPED, the throttle pins
forced, the pins of the open-drain class released, and LPDDR5X without content. -/
def Obligations.ResetState : Prop :=
  State.reset.pending = [] ∧ State.reset.tbs.count = 0 ∧ State.reset.tbs.undisc = true ∧ State.reset.und.cause = { bits := 1#32, count := 0 } ∧
  State.reset.sec.phase = 0 ∧ State.reset.gld.state = .noStructure ∧ State.reset.cfg.running = none ∧ (∀ p, (procSt State.reset p).state = .held) ∧
  (∀ c, c < 16 → (tget {} State.reset.mch c).state = 1) ∧ State.reset.thrForced = true ∧ State.reset.dram.ledgerLost = true ∧
  (latchOf State.reset .pfw).level = 1 ∧ (latchOf State.reset .err).level = 1 ∧ (latchOf State.reset .jobAbort).level = 1 ∧ (latchOf State.reset .upAlert).level = 1 ∧
  (∀ k, (latchOf State.reset (.lease k)).level = 0)

/-- A power-on reset clears everything, the Understory too, but for the fuses, the MRAM die and the supplies; its causes are POR, with STANDBY_LOSS when VDD_STBY fell. A MAIN_PG that falls while PWR_MAIN_EN is deasserted
(a D3 entry) starts nothing.
Completions stated: powerOnReset, standbySupplyLoss, mainPgFall. -/
def Obligations.PowerOnResets : Prop :=
  (∀ s, ∃ t, exec .powerOnReset s = .next t ∧ t.tbs.count = 0 ∧ t.und.cause = { bits := 1#32, count := 0 } ∧ t.und.supply.porAsserted = true ∧
    t.fuses = s.fuses ∧ t.mram = s.mram ∧ t.pending = s.pending ∧
    { t with pending := [], fresh := 0, fuses := {}, mram := {}, und := State.reset.und } = State.reset) ∧
  (∀ s, ∃ t, exec .standbySupplyLoss s = .next t ∧ t.tbs.count = 0 ∧ t.und.cause = { bits := 3#32, count := 0 } ∧ t.und.supply = {} ∧
    t.fuses = s.fuses ∧ t.mram = s.mram ∧ t.pending = s.pending ∧
    { t with pending := [], fresh := 0, fuses := {}, mram := {}, und := State.reset.und } = State.reset) ∧
  (∀ s, s.und.supply.mainEn = true → ∃ t, exec .mainPgFall s = .next t ∧ t.tbs.count = 0 ∧ t.und.cause = { bits := 1#32, count := 0 } ∧
    t.und.supply.porAsserted = true ∧ t.und.supply.mainPg = false ∧ t.fuses = s.fuses ∧ t.mram = s.mram ∧ t.pending = s.pending ∧
    { t with pending := [], fresh := 0, fuses := {}, mram := {}, und := State.reset.und } = State.reset) ∧
  (∀ s, s.und.supply.mainEn = false → exec .mainPgFall s = .next (settle s s))

/-- PWR_MAIN_EN is asserted once the standby supplies are good; 20 ms without MAIN_PG deassert it for 1 s; POR_N's release samples the straps; the input power is good. Nothing else changes.
Completions stated: standbySupplyGood, mainPgTimeout, porNRelease, inputPowerGood. -/
def Obligations.SupplyEvents : Prop :=
  (∀ s, s.und.supply.standbyGood = false → s.pmd.state ≠ 3 →
    exec .standbySupplyGood s = .next (settle s { s with und.supply := { s.und.supply with standbyGood := true, mainEn := true, enSince := some s.now } })) ∧
  (∀ s t, s.und.supply.enSince = some t → s.und.supply.mainEn = true → s.und.supply.mainPg = false → t + 20000000 ≤ s.now →
    exec .mainPgTimeout s =
      .next (settle s { s with und.supply := { s.und.supply with mainEn := false, enSince := none, retryAt := some (s.now + 1000000000) } })) ∧
  (∀ s (b r : Fin 4) (h : Fin 8), s.und.supply.porAsserted = true →
    exec (.porNRelease b r h) s =
      .next (settle s { s with und.supply.porAsserted := false, und.straps := { casRole := r.val, bootSrc := b.val, therm := h.val }, sec.startAt := s.now })) ∧
  (∀ s, awake s → exec .inputPowerGood s = .next (settle s { s with sec.inputOk := true }))

/-- The release of SEC into the ROM. A device whose fuse copies of the secret, the identity or the lifecycle differ goes no further (phase 4, code 0x0C); the strap for recovery leads to recovery wait for every item; and
a slot without a usable flash device is a failed boot of code 1. A set with a good directory of which no item fails boots: the ROM and stage-1 go through to RUNNING's waiting for its processors (SEC_ROM_RELEASE completes).
Completions stated: secRomRelease. -/
def Obligations.RomRelease : Prop :=
  (∀ s b, awake s → s.sec.phase = 0 → s.fuses.differ = true →
    ∃ t, exec (.secRomRelease b) s = .next (settle s t) ∧ t.sec.phase = 4 ∧ t.sec.code = 0x0C ∧ (winOf t uSEC).pending.contains 5 = true) ∧
  (∀ s b, awake s → s.sec.phase = 0 → s.fuses.differ = false → s.und.straps.bootSrc = 3 →
    ∃ t, exec (.secRomRelease b) s = .next (settle s t) ∧ t.sec.phase = 3 ∧ t.sec.code = 0x0D ∧ t.sec.need = 0xFF) ∧
  (∀ s b, awake s → s.sec.phase = 0 → s.fuses.differ = false → s.und.straps.bootSrc = 1 → tfind b.slots 0 = none →
    ∃ t, exec (.secRomRelease b) s = .next (settle s t) ∧ t.sec.phase = 3 ∧ t.sec.code = 1 ∧ t.sec.slot = 0) ∧
  (∀ s b t k u, awake s → s.sec.phase = 0 → (romStart b s).fuses.differ = false → (romStart b s).und.straps.bootSrc ≠ 3 → k = bootSlot (romStart b s) →
    tfind b.slots k = some t → dirOk t = true → fastRec { romStart b s with sec.slot := k } t k = none → u = rereads t.items { romStart b s with sec.slot := k } →
    bootFails u t none = [] →
    exec (.secRomRelease b) s = .next (settle s (bootDone k (if (romStart b s).und.altGo.isSome then 3 else 0) t (fun n => tfind b.slots n) u)))

/-- The key from an allowed path asks for a chip reset with cause COMMAND; another value is discarded and recorded as corrected, a write from another path as contained; the watchdog asks for one with cause WATCHDOG.
Completions stated: resetCtrlKey, supervisionWatchdogBite. -/
def Obligations.ResetRequests : Prop :=
  (∀ s path, pathOk s path 0x24 = true ↔ path = .twp0 ∨ path = .mbx4 ∨ path = .proc .sec) ∧
  (∀ s path v, awake s → pathOk s path 0x24 = true → fld v 15 0 = 0xC1EA → exec (.resetCtrlKey path v) s = .next (settle s (note (.chipReset 4) s))) ∧
  (∀ s path v, awake s → pathOk s path 0x24 = true → fld v 15 0 ≠ 0xC1EA →
    exec (.resetCtrlKey path v) s = .next (settle s (raise uID 1 .corrected { path := pathCode path, w1 := some 0x24#32, w2 := v } s))) ∧
  (∀ s path v, awake s → pathOk s path 0x24 = false →
    exec (.resetCtrlKey path v) s = .next (settle s (raise uID 2 .contained { path := pathCode path, w1 := some 0x24#32, w2 := v } s))) ∧
  (∀ s, awake s → s.sec.phase = 1 ∨ s.sec.phase = 2 → s.sec.wdKick + superMs s * 1000000 ≤ s.now →
    exec .supervisionWatchdogBite s = .next (settle s (note (.chipReset 3) s)))

/-- Events of the start and of the Understory.
Completions stated: upNoPeer, handoverTimeout, leasePinExpiry, crystalFail. -/
def Obligations.IslandEvents : Prop :=
  (∀ s t, awake s → s.sec.upSince = some t → (gclPort s 0).state = 1 → t + 100000000 ≤ s.now →
    exec .upNoPeer s = .next (settle s { s with sec.hstGo := true })) ∧
  (∀ s pin t, awake s → (latchOf s pin).since = some t → (latchOf s pin).held = true → (latchOf s pin).reported = false → t + 100000000 ≤ s.now →
    exec (.handoverTimeout pin) s = .next (settle s (raise (handoverSource pin).1 (handoverSource pin).2 .contained { unit := pin.num }
      (updLatch pin.num (fun l => { l with reported := true }) s)))) ∧
  (∀ s (k : Fin 8), s.und.supply.porAsserted = false → (latchOf s (.lease k.val)).held = true → (latchOf s (.lease k.val)).level ≠ 0 → leaseLive s k.val = false →
    ∃ t, exec (.leasePinExpiry k) s = .next (settle s t) ∧ (latchOf t (.lease k.val)).level = 0 ∧ { t with und.latches := s.und.latches } = s) ∧
  (∀ s, s.und.supply.porAsserted = false → s.tbs.xtalFail = false →
    ∃ t, t.tbs.xtalFail = true ∧ t.tbs.undisc = true ∧ { t with tbs := s.tbs } = s ∧ exec .crystalFail s = .next (settle s (raise uTBS 0 .contained {} t)))

/-- A region short for 8 µs raises VDD_CORE by 10 mV, up to 0.85 V, at most every 100 µs; with every region 15 % above its requirement for 100 ms it falls by 10 mV, not below its rest value, at most every 100 ms; a region still short 1 ms after 0.85 V
is reported.
Completions stated: paceStepUp, paceStepDown, paceOverrun. -/
def Obligations.PaceSteps : Prop :=
  (∀ s (r : Fin 24) t, awake s → tfind s.pace.short r.val = some t → t + 8000 ≤ s.now → s.pace.vdd < 850 → (∀ u, s.pace.lastUp = some u → u + 100000 ≤ s.now) →
    exec (.paceStepUp r) s = .next (settle s { s with
      pace.vdd := min 850 (s.pace.vdd + 10), pace.lastUp := some s.now, pace.at850 := if 840 ≤ s.pace.vdd then some s.now else s.pace.at850 })) ∧
  (∀ s t, awake s → s.pace.easySince = some t → t + 100000000 ≤ s.now → (∀ u, s.pace.lastDown = some u → u + 100000000 ≤ s.now) → restMv s < s.pace.vdd →
    exec .paceStepDown s = .next (settle s { s with pace.vdd := max (restMv s) (s.pace.vdd - 10), pace.lastDown := some s.now, pace.at850 := none })) ∧
  (∀ s, awake s → s.pace.easySince = none → exec .paceStepDown s = .next (settle s s)) ∧
  (∀ s (r : Fin 24) t, awake s → s.pace.at850 = some t → t + 1000000 ≤ s.now → (tfind s.pace.short r.val).isSome = true → s.pace.overrun.contains r.val = false →
    exec (.paceOverrun r) s = .next (settle s (raise uPMD 0 .contained { unit := r.val } { s with pace.overrun := sadd s.pace.overrun r.val })))

/-- TICK moves the counter to its next count, and no other command moves it. Without a forward step that count is the next multiple of 1 µs; a class fires when a multiple of its period is crossed; what fires acts in the order of the classes, the staged sets that are due first (log 93). While the
device sleeps in D3 only the millisecond class reaches it, and before SEC runs nothing but the counter moves.
Completions stated: tick. -/
def Obligations.TickFires : Prop :=
  (∀ s e, ∃ t, exec (.tick e) s = .next t ∧ t.tbs.count = nextCount s) ∧
  (∀ c s t, exec c s = .next t → (∀ e, c ≠ .tick e) → c ≠ .powerOnReset → c ≠ .standbySupplyLoss → c ≠ .mainPgFall → t.tbs.count = s.tbs.count) ∧
  (∀ s, s.tbs.step = none → s.now < nextCount s ∧ nextCount s ≤ s.now + 1000 ∧ nextCount s % 1000 = 0 ∧ (advanceTime s).now = nextCount s) ∧
  (∀ a b c, (classesFired a b).contains c = true ↔ c < 7 ∧ a / (1000 * 10 ^ c) < b / (1000 * 10 ^ c)) ∧
  (∀ s e, coreRuns (addResidency s.pmd.state (nextCount s - s.now) (supplyRetry (advanceTime s))) = true → s.pmd.state ≠ 3 → s.tbs.step = none →
    exec (.tick e) s = .next (settle s (forEach (classesFired s.now (nextCount s)) (classTick e)
      (applySetsDue ((classesFired s.now (nextCount s)).contains 3) (e.late.map (·.1))
        (addResidency s.pmd.state (nextCount s - s.now) (supplyRetry (advanceTime s))))))) ∧
  (∀ s e, s.sec.phase = 0 → s.pmd.state ≠ 3 → s.tbs.step = none →
    exec (.tick e) s = .next (settle s (addResidency s.pmd.state (nextCount s - s.now) (supplyRetry (advanceTime s)))))

/-- A write takes the meaning of the register's access code: read-only and read-to-clear words discard it, a staged word of a block other than the fabric takes it into the staged set, a command pair acts when both words
match. A path without authority is discarded and recorded. A read answers the register's word and has the side effects of read-to-clear fields alone.
Completions stated: registerWrite, rcRead, unmappedAccess. -/
def Obligations.RegisterAccess : Prop :=
  (∀ s path (o : BitVec 24) w, awake s → o.toNat % 4 = 0 → mapped o.toNat = true → accOf o.toNat = .ro ∨ accOf o.toNat = .rc →
    exec (.registerWrite path o w) s = .next (settle s s)) ∧
  (∀ s path (o : BitVec 24) w c, awake s → o.toNat % 4 = 0 → mapped o.toNat = true → accOf o.toNat = .stg c → ¬ (4 ≤ o.toNat / 0x10000 ∧ o.toNat / 0x10000 ≤ 7) →
    pathOk s path o.toNat = true → exec (.registerWrite path o w) s = .next (settle s (setWord o.toNat (keptBits o.toNat c w) s))) ∧
  (∀ s path (o : BitVec 24) w, awake s → o.toNat % 4 = 0 → mapped o.toNat = true → accOf o.toNat = .rw → pathOk s path o.toNat = true →
    exec (.registerWrite path o w) s = .next (settle s (rwWrite o.toNat w s))) ∧
  (∀ s path (o : BitVec 24) w, awake s → o.toNat % 4 = 0 → mapped o.toNat = true → accOf o.toNat = .w1c → pathOk s path o.toNat = true →
    exec (.registerWrite path o w) s = .next (settle s (w1cWrite path o.toNat w s))) ∧
  (∀ s path (o : BitVec 24) w c, awake s → o.toNat % 4 = 0 → mapped o.toNat = true → accOf o.toNat = .cmd c → pathOk s path o.toNat = true →
    exec (.registerWrite path o w) s = .next (settle s (cmdPairWrite path o.toNat c w s))) ∧
  (∀ s path (o : BitVec 24) w, awake s → o.toNat % 4 = 0 → mapped o.toNat = true → (accOf o.toNat = .rw ∨ accOf o.toNat = .w1c ∨ ∃ c, accOf o.toNat = .cmd c) →
    pathOk s path o.toNat = false → windowOf o.toNat = none →
    exec (.registerWrite path o w) s = .next (settle s (denyWrite path o.toNat w s))) ∧
  (∀ s path (o : BitVec 24), awake s → mapped o.toNat = true →
    (readAccess path o.toNat s).1 = regRead s o.toNat ∧ exec (.rcRead path o) s = .next (settle s (readEffect o.toNat s))) ∧
  (∀ s path (o : BitVec 24) w, awake s → mapped o.toNat = false → pagingWindow o.toNat = false →
    exec (.unmappedAccess path o w) s = .next (settle s (raise uID 0 .contained { path := pathCode path, w1 := some (w32 o.toNat), w2 := w.getD 0 } s)))

/-- The second word of a pair that matches in its field bits makes the block act once; a word that does not match waits; and 1 ms without a further write restores the pair in effect with a corrected fault.
Completions stated: rwpPairTimeout. -/
def Obligations.CommandPairs : Prop :=
  (∀ s path base v (h : HalfPair), tfind s.regs.half base = some h → keptBits (base + 4) true v = ~~~ h.value →
    cmdPairWrite path (base + 4) true v s = pairCommand path base h.value { s with regs.half := terase s.regs.half base }) ∧
  (∀ s path base v (h : HalfPair), tfind s.regs.half base = some h → keptBits (base + 4) true v ≠ ~~~ h.value →
    cmdPairWrite path (base + 4) true v s = { s with regs.half := tput s.regs.half base { h with comp := keptBits (base + 4) true v, since := s.now } }) ∧
  (∀ s (o : BitVec 24) h, awake s → tfind s.regs.half (pairBase o.toNat) = some h → h.since + 1000000 ≤ s.now →
    exec (.rwpPairTimeout o) s = .next (settle s (raise (restoreSource (pairBase o.toNat)).1 (restoreSource (pairBase o.toNat)).2 .corrected
      { w1 := some (w32 (pairBase o.toNat)), w2 := h.value, w3 := h.comp } { s with regs.half := terase s.regs.half (pairBase o.toNat) })))

/-- The key commits the whole staged set: a set that passes waits for the boundary, one that fails leaves the live set and reports code and first word, a second one while one waits reports PENDING. DISCARD puts back what is in
force. At the boundary every word of the set takes effect at once and the result is OK.
Completions stated: blockCommit, blockDiscard, blockCommitApply. -/
def Obligations.BlockCommits : Prop :=
  (∀ s path (r : BitVec 24), awake s → isCommitReg r.toNat = true → pathOk s path r.toNat = true → (commitSt s r.toNat).pending = none → applyTouches s r.toNat = false →
    r.toNat / 0x10000 ≠ 0x0F → validateSet s [] (stagedWords s r.toNat) r.toNat = none →
    exec (.blockCommit path r) s =
      .next (settle s (updCommit r.toNat (fun c => { c with pending := some { requested := s.now, setWords := valueWords (stagedWords s r.toNat) } }) s))) ∧
  (∀ s path (r : BitVec 24) f, awake s → isCommitReg r.toNat = true → pathOk s path r.toNat = true → (commitSt s r.toNat).pending = none → applyTouches s r.toNat = false →
    validateSet s [] (stagedWords s r.toNat) r.toNat = some f →
    exec (.blockCommit path r) s =
      .next (settle s (updCommit r.toNat (fun c => { c with pending := none, first := f.1, result := f.2, seq := inc8 c.seq }) s))) ∧
  (∀ s path (r : BitVec 24), awake s → isCommitReg r.toNat = true → pathOk s path r.toNat = true → (commitSt s r.toNat).pending.isSome = true →
    exec (.blockCommit path r) s = .next (settle s (updCommit r.toNat (fun c => { c with result := 4, seq := inc8 c.seq }) s))) ∧
  (∀ s path (r : BitVec 24), awake s → isCommitReg r.toNat = true → pathOk s path r.toNat = true →
    exec (.blockDiscard path r) s =
      .next (settle s { s with regs.words := s.regs.words.map (fun e => if commitOf e.1 == r.toNat then discardWord s e else e) })) ∧
  (∀ s (r : BitVec 24) j, awake s → (commitSt s r.toNat).pending = some j → commitDue s r.toNat j = true →
    exec (.blockCommitApply r) s = .next (settle s (updCommit r.toNat (fun c => { c with pending := none, first := 0, result := 0, seq := inc8 c.seq })
      (j.setWords.foldl (fun s e => setLive e.1 e.2 s) s))))

/-- Each instruction of the test access port is in force with its data register; those that reach into the device act on it. A device in D3 takes only the boundary instructions.
Completions stated: tapBypass, tapIdcode, tapSamplePreload, tapExtest, tapClamp, tapHighz, tapKeyRecord, tapCertWrite, tapInject, tapChipReset. -/
def Obligations.TestAccessPort : Prop :=
  (∀ s, awake s → exec .tapBypass s = .next (settle s { s with tap := { ir := .bypass, dr := 0#32, bound := 0 } }) ∧
    exec .tapIdcode s = .next (settle s { s with tap := { ir := .idcode, dr := 0x10C889AB#32, bound := 0 } }) ∧
    exec .tapSamplePreload s = .next (settle s { s with tap := { ir := .samplePreload, dr := 0#32, bound := s.tap.bound } })) ∧
  (∀ s, awake s → tapAllowed s = true → exec .tapExtest s = .next (settle s { s with tap := { ir := .extest, dr := 0#32, bound := 1 } }) ∧
    exec .tapClamp s = .next (settle s { s with tap := { ir := .clamp, dr := 0#32, bound := 1 } }) ∧
    exec .tapHighz s = .next (settle s { s with tap := { ir := .highz, dr := 0#32, bound := 1 } })) ∧
  (∀ s i, awake s → tapAllowed s = false → (i = Instr.tapExtest ∨ i = Instr.tapClamp ∨ i = Instr.tapHighz) →
    exec i s = .next (settle s (raise uID 5 .contained { path := 0x14 } { s with tap := { ir := .bypass, dr := 0#32, bound := 0 } }))) ∧
  (∀ s tag r, awake s → exec (.tapKeyRecord tag false r) s = .next (settle s (tapLoad .keyRecord 0 0 { s with sec.keyBuf := r ++ s.sec.keyBuf.drop r.length }))) ∧
  (∀ s tag r, awake s → exec (.tapKeyRecord tag true r) s =
    .next (settle s (keyWrite .tap (w32 (tag.toNat * 16777216 + 1)) (tapLoad .keyRecord 0 0 { s with sec.keyBuf := r ++ s.sec.keyBuf.drop r.length })))) ∧
  (∀ s d, awake s → s.fuses.deployed = false → exec (.tapCertWrite d) s =
    .next (settle s (nvsQueue { rank := 4, area := 0x01, payload := some (.cert d), length := 3112 } (tapLoad .certWrite 0 0 s)))) ∧
  (∀ s d, awake s → s.fuses.deployed = true → exec (.tapCertWrite d) s = .next (settle s (denyWrite .tap 0x180010 0 (tapLoad .certWrite 0 0 s)))) ∧
  (∀ s u (iu : BitVec 16) tag src n (m : Fin 4), awake s → exec (.tapInject u iu tag src n m) s =
    .next (settle s (fwInjectWrite .tap u (injectWord tag.toNat src.toNat n.toNat m.val) (setWord (winBase u + 0x40) (w32 iu.toNat) (tapLoad .inject 0 0 s))))) ∧
  (∀ s, awake s → exec .tapChipReset s = .next (settle s (note (.chipReset 5) (tapLoad .chipReset 0 0 s))))

/-- A due slot of a running tile that has not been evaluated in this microsecond is evaluated once on the live plane, and is due no more; further changes coalesced into this evaluation.
Completions stated: signalChangeEvaluate. -/
def Obligations.ChangeEvaluates : Prop :=
  ∀ s (n : Fin 512), awake s → s.gld.due.contains n.val = true → slotExists s n.val = true → (slotRec s n.val).trigger = 7 → fabRuns s (n.val / 8) = true →
    (∀ t, (slotSt s n.val).lastEval = some t → t / us ≠ s.now / us) →
    ∃ t u, exec (.signalChangeEvaluate n) s = .next (settle s (adoptCheck u)) ∧
      t = evalSlot n.val s.gld.plane (match (slotSt s n.val).lastEval with | some t => min (s.now - t) sec | none => 0) { s with gld.due := sdel s.gld.due n.val } ∧
      u = { t with gld.adopt.slots := sdel t.gld.adopt.slots n.val, gld.qAdopt := t.gld.qAdopt.map (fun e => (e.1, { e.2 with slots := sdel e.2.slots n.val })) }

/-- A verified structure is loaded when the fabric has none; a good readback leads to ADOPTING, a bad one to NO_STRUCTURE with a contained fault; a quarter passes through the same on its own; a structural re-apply that finds the tray
in standby clears the structure and loads the candidate.
Completions stated: structureLoad, structureLoadDone, standbyApply. -/
def Obligations.StructureLoads : Prop :=
  (∀ s b, awake s → s.cfg.running = some b → s.gld.state = .noStructure ∨ s.gld.state = .standbyApply →
    exec .structureLoad s = .next (settle s (beginLoading b s)) ∧
    ∃ t, beginLoading b s = loadSignals b (loadTiles b (List.range 64) t) ∧ t.gld.state = .loading ∧ t.gld.tiles = b.tiles ∧ t.gld.signals = b.signals ∧
      t.gld.loadCount = satInc 65535 s.gld.loadCount ∧ { t with gld := s.gld } = s) ∧
  (∀ s b, awake s → s.cfg.running = some b → s.gld.state = .running → exec .structureLoad s = .next (settle s { s with cfg.result := 0x12 })) ∧
  (∀ s, awake s → s.gld.state = .loading → exec (.structureLoadDone none true) s = .next (settle s (beginAdopting s)) ∧
    exec (.structureLoadDone none false) s = .next (settle s (raise (.block 0x04) 5 .contained {} { dropStructure s with gld.loadFailed := true }))) ∧
  (∀ s (q : Fin 4), awake s → tget FabState.running s.gld.quarter q.val = .loading →
    exec (.structureLoadDone (some q) true) s = .next (settle s (beginQuarterAdopting q.val s)) ∧
    exec (.structureLoadDone (some q) false) s = .next (settle s (raise (.block (0x04 + q.val)) 5 .contained { unit := 16 * q.val }
      (forEach (List.range 16) (fun k => updTile (16 * q.val + k) (fun x => { x with halted := true })) s)))) ∧
  (∀ s b, awake s → s.cfg.candidate = some b → s.cfg.state = 3 → s.gld.state = .running → trayStandbyOff s = true →
    exec .standbyApply s = .next (settle s (loadSections b { discardRegions (regionsMoved s.mem.regions b.regions) (dropStructure s) with gld.state := .standbyApply, gld.loadFailed := false, cfg.candidate := none, cfg.state := 4 })))

/-- A corrected word and a word rebuilt from its pair are corrected faults; both words of a pair lost halt the slot that owns it; a structure word lost halts the tile.
Completions stated: paramEccError. -/
def Obligations.FabricStoreErrors : Prop :=
  (∀ s (t : Fin 64), awake s → exec (.paramEccError t .corrected) s = .next (settle s (raise (gldUnit t.val) 1 .corrected { unit := t.val } s))) ∧
  (∀ s (t : Fin 64) p, awake s →
    exec (.paramEccError t (.oneWord p)) s = .next (settle s (raise (gldUnit t.val) 1 .corrected { unit := t.val, item := 1, w1 := w32 p.val } s))) ∧
  (∀ s (t : Fin 64) p n, awake s → slotOfPair s t.val p.val = some n →
    exec (.paramEccError t (.bothWords p)) s = .next (settle s (raise (gldUnit t.val) 4 .contained { unit := t.val, item := 0, w2 := w32 n } (haltSlot n s)))) ∧
  (∀ s (t : Fin 64), awake s →
    exec (.paramEccError t .structureWord) s = .next (settle s (raise (gldUnit t.val) 4 .contained { unit := t.val, item := 1 } (haltTile t.val s))))

/-- The owner stages words; another path is discarded and recorded. A commit that passes waits with its set, one that fails reports code and first pair; a discard copies the live set back; a set that waited is live from the next
microsecond on, all at once.
Completions stated: paramStageWrite, tileCommit, tileDiscard, tileCommitApply. -/
def Obligations.TileParameters : Prop :=
  (∀ s x (t : Fin 64) (p : Fin 128) w, awake s → Proc.num x = (tileRec s t.val).owner →
    exec (.paramStageWrite (.proc x) t p false w) s =
      .next (settle s (updTile t.val (fun y => { y with staged := tupd {} y.staged p.val (fun q => { q with value := w }) }) s)) ∧
    exec (.paramStageWrite (.proc x) t p true w) s =
      .next (settle s (updTile t.val (fun y => { y with staged := tupd {} y.staged p.val (fun q => { q with comp := w }) }) s))) ∧
  (∀ s path (t : Fin 64) (p : Fin 128) c w, awake s → (∀ x, path ≠ .proc x) →
    ∃ i, exec (.paramStageWrite path t p c w) s = .next (settle s (raise (gldUnit t.val) 6 .contained i s))) ∧
  (∀ s path (t : Fin 64), awake s → mayCommitTile s path t.val = true → tileCommitRefusal s t.val = none →
    validateTile s [(t.val, (tileSt s t.val).staged)] t.val = none →
    exec (.tileCommit path t) s = .next (settle s (updTile t.val (fun x => { x with pending := some (s.now, (tileSt s t.val).staged) }) s))) ∧
  (∀ s path (t : Fin 64) r, awake s → mayCommitTile s path t.val = true → tileCommitRefusal s t.val = none →
    validateTile s [(t.val, (tileSt s t.val).staged)] t.val = some r →
    exec (.tileCommit path t) s = .next (settle s (updTile t.val (fun x => { x with result := r.2, firstPair := r.1, seq := inc8 x.seq }) s))) ∧
  (∀ s path (t : Fin 64), awake s → mayCommitTile s path t.val = true →
    exec (.tileDiscard path t) s = .next (settle s (updTile t.val (fun x => { x with staged := x.live }) s))) ∧
  (∀ s (t : Fin 64) t0 l, awake s → (tileSt s t.val).pending = some (t0, l) → t0 / us < s.now / us → s.gld.groupPend = none →
    exec (.tileCommitApply t) s =
      .next (settle s (updTile t.val (fun x => { x with live := l, pending := none, commits := inc8 x.commits, result := 0, seq := inc8 x.seq }) s)))

/-- A group whose every tile passes waits as one and applies at one instant; one tile that fails fails the group. A validated configuration-wide set takes effect at the next millisecond, and an interrupted one is retried.
Completions stated: groupCommit, groupCommitApply, configCommitApply, applyRetry. -/
def Obligations.GroupCommits : Prop :=
  (∀ s, awake s → s.gld.groupPend = none → (groupTiles s).all (fun t => (tileCommitRefusal s t).isNone &&
      (validateTile s ((groupTiles s).map (fun t => (t, (tileSt s t).staged))) t).isNone) = true →
    exec (.groupCommit (.proc .sec)) s = .next (settle s
      { (forEach (groupTiles s) (fun t => updTile t (fun x => { x with pending := some (s.now, x.staged) })) s) with gld.groupPend := some (s.now, groupTiles s) })) ∧
  (∀ s, awake s → s.gld.groupPend.isSome = true →
    exec (.groupCommit (.proc .sec)) s = .next (settle s { s with gld.groupResult := 4, gld.groupSeq := inc8 s.gld.groupSeq })) ∧
  (∀ s t0 ts, awake s → s.gld.groupPend = some (t0, ts) → t0 / us < s.now / us →
    exec .groupCommitApply s = .next (settle s (forEach ts tileApply { s with gld.groupPend := none, gld.groupResult := 0, gld.groupSeq := inc8 s.gld.groupSeq }))) ∧
  (∀ s j, awake s → s.cfg.apply = some j → j.validated = true → j.requested / ms < s.now / ms →
    exec .configCommitApply s = .next (settle s (cfgReport 0 0 0 0
      { applyWords j.words (forEach j.tiles (fun e s =>
          updTile e.1 (fun x => { x with live := e.2, commits := satInc 65535 x.commits }) s) s) with cfg.apply := none, cfg.running := some j.cand }))) ∧
  (∀ s j, awake s → s.cfg.apply = some j → j.interrupted = true → j.awaiting = none → procRunning s .sec = true →
    exec .applyRetry s = .next (settle s (startLiveApply j.cand j.parts true s)))

/-- Slot up runs the up-graph of each named slot, or holds it in WAITING_TRAY while the tray is not ON; slot down runs its down-graph; tray up runs graph 16 with the named slots waiting; tray down powers everything down; clear
returns FAILED slots and rails, and the tray and its rails when it names the tray, to OFF and clears the first-fault record; OP 0 only takes its TAG (log 99).
Completions stated: seqSlotUp, seqSlotDown, seqTrayUp, seqTrayDown, seqClear, seqNop. -/
def Obligations.SeqCommandsRun : Prop :=
  (∀ s path tag mask, awake s → seqRuns path (seqWord 1 tag.toNat mask.toNat false) s →
    exec (.seqSlotUp path tag mask) s = .next (settle s (forEach (maskBits 8 mask.toNat) (fun k s =>
      if s.seq.trayState = 3 then startGraph k (setSlotState k 3 s) else setSlotState k 2 s) (seqAccepted (seqWord 1 tag.toNat mask.toNat false) s)))) ∧
  (∀ s path tag mask, awake s → seqRuns path (seqWord 2 tag.toNat mask.toNat false) s →
    exec (.seqSlotDown path tag mask) s = .next (settle s (forEach (maskBits 8 mask.toNat) (fun k s =>
      if slotState s k = 2 then cancelHeldUp k (setSlotState k 1 s) else slotDown k false s) (seqAccepted (seqWord 2 tag.toNat mask.toNat false) s)))) ∧
  (∀ s path tag mask, awake s → seqRuns path (seqWord 3 tag.toNat mask.toNat false) s →
    exec (.seqTrayUp path tag mask) s = .next (settle s (graphCheck 16 (startGraph 16 (forEach (maskBits 8 mask.toNat) (fun k s => setSlotState k 2 s)
      { seqAccepted (seqWord 3 tag.toNat mask.toNat false) s with seq.trayState := 2 }))))) ∧
  (∀ s path tag, awake s → seqRuns path (seqWord 4 tag.toNat 0 false) s →
    exec (.seqTrayDown path tag) s = .next (settle s (trayDown false (seqAccepted (seqWord 4 tag.toNat 0 false) s)))) ∧
  (∀ s path tag mask, awake s → seqRuns path (seqWord 5 tag.toNat mask.toNat false) s →
    exec (.seqClear path tag mask false) s = .next (settle s { (forEach (maskBits 8 mask.toNat) (fun k s => setSlotState k 1 (runSeq.clearFailedRails k s))
      (seqAccepted (seqWord 5 tag.toNat mask.toNat false) s)) with seq.ffr := {}, seq.ffrValid := false })) ∧
  (∀ s path tag mask, awake s → seqRuns path (seqWord 5 tag.toNat mask.toNat true) s →
    exec (.seqClear path tag mask true) s = .next (settle s { runSeq.clearFailedRails 0xFF (forEach (maskBits 8 mask.toNat) (fun k s => setSlotState k 1 (runSeq.clearFailedRails k s))
      (seqAccepted (seqWord 5 tag.toNat mask.toNat true) s)) with seq.trayState := 1, seq.ffr := {}, seq.ffrValid := false })) ∧
  (∀ s path tag, awake s → path = .proc .pwr ∨ path = .proc .sec → tag.toNat ≠ lastTag s 0x080010 →
    exec (.seqNop path tag) s = .next (settle s
      { setTag 0x080010 tag.toNat (setPair 0x080010 (seqWord 0 tag.toNat 0 false) s) with seq.cmdTag := tag.toNat }))

/-- A refused command reports its code and first failing slot and changes nothing else; a held one waits with result HELD and is judged again when the hold ends; a repeated TAG does nothing; a write from a path other than PWR and SEC
is discarded and recorded.
Completions stated: heldCommandRun. -/
def Obligations.SeqCommandsRefused : Prop :=
  (∀ s path tag mask, awake s → path = .proc .pwr ∨ path = .proc .sec → (tag : Byte).toNat ≠ lastTag s 0x080010 → s.seq.held = none →
    (judgeSeq (seqWord 1 tag.toNat (mask : Byte).toNat false) s).1 ≠ 0 →
    ∃ t, exec (.seqSlotUp path tag mask) s = .next (settle s t) ∧ t.seq.cmdResult = (judgeSeq (seqWord 1 tag.toNat mask.toNat false) s).1 ∧
      t.seq.cmdSlot = (judgeSeq (seqWord 1 tag.toNat mask.toNat false) s).2 ∧ t.seq.cmdTag = tag.toNat ∧
      { t with regs := s.regs, seq.cmdTag := s.seq.cmdTag, seq.cmdSlot := s.seq.cmdSlot, seq.cmdResult := s.seq.cmdResult, seq.cmdCount := s.seq.cmdCount } = s) ∧
  (∀ s path tag mask, awake s → (∀ p, path = .proc p → p ≠ .pwr ∧ p ≠ .sec) →
    exec (.seqSlotUp path tag mask) s = .next (settle s (raise uSEQ 6 .contained { path := pathCode path, w1 := some 0x080010, w2 := seqWord 1 (tag : Byte).toNat (mask : Byte).toNat false } s))) ∧
  (∀ s w, awake s → s.seq.held = some w → seqHolds w s = true → exec .heldCommandRun s = .next (settle s s)) ∧
  (∀ s w, awake s → s.seq.held = some w → seqHolds w s = false → judgeSeq w s = (0, 0) →
    exec .heldCommandRun s = .next (settle s (runSeq w { s with seq.held := none, seq.cmdTag := fld w 31 24, seq.cmdSlot := 0, seq.cmdResult := 0, seq.cmdCount := inc8 s.seq.cmdCount })))

/-- Steps advance at the count of a 10 µs tick alone. A step whose delay has passed acts, unless its rail's pin is not yet handed over; the oldest queued step that fits the inrush budget is charged and enabled; a qualified step is done and its rail ON or OFF; a step that timed out fails its graph or is reported; a second in the
queue is reported once.
Completions stated: stepDelayDone, stepAdmit, stepQualified, stepTimeout, queueWaitLong. -/
def Obligations.GraphSteps : Prop :=
  (∀ s (g : Fin 18) (i : Fin 64), awake s → stepTick s = true → (stepRun s g.val i.val).state = .delay →
    (stepRun s g.val i.val).delayAt + (stepRun s g.val i.val).delayUs * us ≤ s.now → (stepRec s g.val i.val).action = 0 ∨ railHanded s (stepRec s g.val i.val).rail = true →
    exec (.stepDelayDone g i) s = .next (settle s (stepAct g.val i.val s))) ∧
  (∀ s (g : Fin 18) (i : Fin 64), awake s → stepTick s = false → exec (.stepDelayDone g i) s = .next (settle s s) ∧ exec (.stepAdmit g i) s = .next (settle s s) ∧
    exec (.stepQualified g i) s = .next (settle s s) ∧ exec (.stepTimeout g i) s = .next (settle s s)) ∧
  (∀ s (g : Fin 18) (i : Fin 64), awake s → stepTick s = true → queueHead (releaseCharges s) = some (g.val, i.val) →
    budgetA (releaseCharges s) + railInrush (releaseCharges s) (stepRec (releaseCharges s) g.val i.val).rail ≤ shelfA (releaseCharges s) →
    budgetSlew (releaseCharges s) + railSlew (releaseCharges s) (stepRec (releaseCharges s) g.val i.val).rail ≤ shelfSlew (releaseCharges s) →
    ∃ t, exec (.stepAdmit g i) s = .next (settle s (activateEnable g.val i.val t)) ∧
      t.seq.charges = (releaseCharges s).seq.charges ++ [⟨stepKey g.val i.val, railInrush (releaseCharges s) (stepRec (releaseCharges s) g.val i.val).rail,
        railSlew (releaseCharges s) (stepRec (releaseCharges s) g.val i.val).rail⟩] ∧
      { t with seq.charges := (releaseCharges s).seq.charges, seq.waitMaxUs := (releaseCharges s).seq.waitMaxUs } = releaseCharges s) ∧
  (∀ s (g : Fin 18) (i : Fin 64), awake s → stepTick s = true → stepQualifies s g.val i.val = true → exec (.stepQualified g i) s = .next (settle s (completeStep g.val i.val s))) ∧
  (∀ s (g : Fin 18) (i : Fin 64), awake s → stepTick s = true → (stepRun s g.val i.val).state = .active → (stepRun s g.val i.val).fail = 0 → (stepRun s g.val i.val).cmdAt + (stepRun s g.val i.val).timeoutUs * us ≤ s.now →
    stepQualifies s g.val i.val = false →
    exec (.stepTimeout g i) s = .next (settle s (if (stepRec s g.val i.val).action = 1 then enableFail g.val i.val 0x08 s else downFailure (stepRec s g.val i.val).rail 0x0A s))) ∧
  (∀ s (g : Fin 18) (i : Fin 64), awake s → (stepRun s g.val i.val).state = .queued → (stepRun s g.val i.val).queuedAt + sec < s.now → (stepRun s g.val i.val).longSaid = false →
    exec (.queueWaitLong g i) s = .next (settle s (raise uSEQ 5 .corrected { unit := (stepRec s g.val i.val).rail }
      (updStep g.val i.val (fun y => { y with longSaid := true }) s))))

/-- A power-good pin reaches every rail that uses it, inverted where its record says so; a supervised rail outside its window for QUAL_US is a running fault; a hold that ends starts the power-down, a thermal one without the fault mark; VALID
cleared empties the first-fault record.
Completions stated: pgChange, vsWindowFault, powerFailHoldExpiry, ffrValidClear. -/
def Obligations.RailSupervision : Prop :=
  (∀ s (p : Fin 128) l, awake s → exec (.pgChange p l) s = .next (settle s
    (forEach ((railsInUse s).filter (fun r => (railRec s r).pg == p.val)) (fun r s => railPg r (l != ((railRec s r).flags / 2 % 2 == 1)) true s)
      { s with seq.pgPin := tput s.seq.pgPin p.val (if l then 2 else 1) }))) ∧
  (∀ s (r : Fin 256) t, awake s → (railSt s r.val).vsOut = some t → (railSt s r.val).state = .on → (railSt s r.val).supervised = true → t + railQualUs s r.val * us < s.now →
    exec (.vsWindowFault r) s = .next (settle s (runningFault r.val (if (railSt s r.val).vsHigh then 0x03 else 0x02) (railSt s r.val).vsHigh s))) ∧
  (∀ s k h, awake s → s.seq.adopting = false → k < 8 → s.seq.holds = [(k, h)] → h.start + h.holdUs * us ≤ s.now → slotState s k = 3 ∨ slotState s k = 4 →
    exec .powerFailHoldExpiry s = .next (settle s (releasePfw (slotDown k (!h.commanded) { s with seq.holds := [] })))) ∧
  (∀ s h, awake s → s.seq.adopting = false → s.seq.holds = [(8, h)] → h.start + h.holdUs * us ≤ s.now → s.seq.trayState = 2 ∨ s.seq.trayState = 3 →
    exec .powerFailHoldExpiry s = .next (settle s (releasePfw (trayDown (!h.commanded) { s with seq.holds := [] })))) ∧
  (∀ s path, awake s → pathOk s path 0x080208 = true → exec (.ffrValidClear path) s = .next (settle s { s with seq.ffr := {}, seq.ffrValid := false }))

/-- Adoption starts with section 0x02 loaded: the tray and the slots with rails are ADOPTING, and the rails that are read over a bus are read. A read classes its rail ON, OFF or MIXED, presents its held level and goes on to the classes of the
slots.
Completions stated: seqAdoptionStart, adoptRailReadDone. -/
def Obligations.Adoption : Prop :=
  (∀ s, awake s → s.seq.mustAdopt = true → s.seq.loaded = true → s.seq.adopting = false →
    ∀ u, u = forEach (List.range 8) (fun k s => if slotHasRails s k then setSlotState k 7 s else s) { s with seq.adopting := true, seq.trayState := 6 } →
    exec .seqAdoptionStart s = .next (settle s (forEach (railsInUse u) (fun r s =>
      if (railRec (takePgPin r s) r).method = 2 ∨ (railRec (takePgPin r s) r).method = 3 then
        twSubmit (railRec (takePgPin r s) r).port (adoptOp r (railRec (takePgPin r s) r)) (takePgPin r s)
      else takePgPin r s) u))) ∧
  (∀ s (r : Fin 256) on good, awake s → s.seq.adopting = true → (railRec s r.val).method = 2 ∨ (railRec s r.val).method = 3 → (railRec s r.val).pg = 0xFFFF → (railSt s r.val).cls = 0 →
    exec (.adoptRailReadDone r on good) s = .next (settle s (adoptClassify (updRail r.val (fun x =>
      { x with cls := if on = true ∧ good = true then 1 else if on = false ∧ good = false then 2 else 3, cmdOn := on, pg := good, pgSince := s.now
               state := if on = false ∧ good = false then .off else .on }) s))))

/-- A sample, converted by SCALE and OFFSET, adds its signed power to the energy accumulator exactly, in D3 too, and a saturated or bad one marks the open record; every tenth closes a mean; one beyond a
comparator's threshold raises the trip level at least to its own. A fast trip raises the level of its comparator and is reported; the level falls by one once
its comparators have been released for the hold time. A sense sample reaches its signal, its rail and its trip limits.
Completions stated: traySample, senseSample, fastTrip, tripLevelFall. -/
def Obligations.TrayInput : Prop :=
  (∀ s (v i w j : Word), awake s → w = trayConverted s 162 v → j = trayConverted s 163 i → s.afe.samples < 9 → j.toInt ≤ 26214400 → samplesTrip w j (afeSample w j s) = [] →
    ∃ t, exec (.traySample v i true) s = .next (settle s t) ∧ t.afe.samples = s.afe.samples + 1 ∧
      t.afe.accum * 4294967296000 + t.afe.accFrac = s.afe.accum * 4294967296000 + s.afe.accFrac + w.toInt * j.toInt ∧ t.shp.meterFault = false ∧
      { t with afe := s.afe, shp := s.shp } = s) ∧
  (∀ s (v i w j : Word), awake s → w = trayConverted s 162 v → j = trayConverted s 163 i → s.afe.samples = 9 → j.toInt ≤ 26214400 → samplesTrip w j (afeSample w j s) = [] →
    ∃ t, exec (.traySample v i true) s = .next (settle s t) ∧ t.afe.samples = 0 ∧ t.shp.inP = qdiv (s.afe.sumP + w.toInt * j.toInt) 655360 ∧
      t.shp.inV = qdiv (s.afe.sumV + w.toInt) 10 ∧ t.shp.inI = qdiv (s.afe.sumI + j.toInt) 10 ∧ t.shp.winCount = (if s.shp.winOpen = true then s.shp.winCount + 1 else s.shp.winCount)) ∧
  (∀ s (v i : Word) ok, awake s → 26214400 < (trayConverted s 163 i).toInt ∨ ok = false →
    ∃ t, exec (.traySample v i ok) s = .next (settle s t) ∧ t.shp.cur.flags = s.shp.cur.flags ||| 2) ∧
  (∀ s (v i : Word) ok c, awake s → c < 4 → compEnabled s c = true → compTrips s c (trayConverted s 162 v).toInt (satAmps (trayConverted s 163 i)) = true →
    ∃ t, exec (.traySample v i ok) s = .next (settle s t) ∧ compLevel (compOf c) ≤ t.afe.tripLevel) ∧
  (∀ s (v i w j : Word) ok, s.und.supply.porAsserted = false → s.pmd.state = 3 → w = trayConverted s 162 v → j = trayConverted s 163 i →
    ∃ t, exec (.traySample v i ok) s = .next (settle s t) ∧
      t.afe.accum * 4294967296000 + t.afe.accFrac = s.afe.accum * 4294967296000 + s.afe.accFrac + w.toInt * satAmps j ∧ { t with afe := s.afe } = s) ∧
  (∀ s (c : Fin 128) raw r w, awake s → senseRec s c.val = some r → w = convertSense s c.val r.kind raw →
    exec (.senseSample c raw) s = .next (settle s (senseTrip c.val w.toInt
      (if c.val < 64 then railVsReading c.val ((qdiv (w.toInt * 1000) 65536).toNat) (writeSignal c.val w false s) else writeSignal c.val w false s)))) ∧
  (∀ s c, awake s → compEnabled s (compNum c) = true → s.afe.tripLevel < compLevel c → compLevel c < 3 → s.afe.tripLevel ≠ 0 →
    exec (.fastTrip c) s = .next (settle s (raise uSHP 0 .corrected { item := compLevel c - 1 } (writeFixedSignal 0x09 0x0030 (w32 (compLevel c)) false
      { s with afe.tripLevel := compLevel c, afe.below := terase s.afe.below (compNum c), afe.on := sadd s.afe.on (compNum c) })))) ∧
  (∀ s, awake s → compEnabled s 2 = true → s.afe.tripLevel < 3 → s.afe.tripLevel ≠ 0 →
    exec (.fastTrip .i3) s = .next (settle s (raise uSHP 1 .contained {} (rcdTrigger 3 (writeFixedSignal 0x09 0x0030 (w32 3) false
      { s with afe.tripLevel := 3, afe.below := terase s.afe.below 2, afe.on := sadd s.afe.on 2 }))))) ∧
  (∀ s c, awake s → compEnabled s (compNum c) = true → s.afe.tripLevel = 0 →
    ∃ t, exec (.fastTrip c) s = .next (settle s t) ∧ t.afe.tripLevel = compLevel c ∧ t.shp.cur.trips = satInc 65535 s.shp.cur.trips) ∧
  (∀ s c, awake s → c ≠ .uv → compEnabled s (compNum c) = true → compLevel c ≤ s.afe.tripLevel → s.afe.tripLevel ≠ 0 →
    exec (.fastTrip c) s = .next (settle s (writeFixedSignal 0x09 0x0030 (w32 s.afe.tripLevel) false
      { s with afe.below := terase s.afe.below (compNum c), afe.on := sadd s.afe.on (compNum c) }))) ∧
  (∀ s t, awake s → s.afe.tripLevel = 1 → compEnabled s 0 = true → tfind s.afe.below 0 = some t → t + tripHoldUs s * us ≤ s.now → s.afe.fellAt + tripHoldUs s * us ≤ s.now →
    exec .tripLevelFall s = .next (settle s (writeFixedSignal 0x09 0x0030 (w32 0) false { s with afe.tripLevel := 0, afe.fellAt := s.now })))

/-- A slot's record gives its draw and demand, and refreshes the mirrors of its fields; it is missed when stale; an acknowledgement moves the slot's lease; a step hint, its tail, the wait after it and the pin each move the slot's valley-fill state by the rule.
Completions stated: msgAck, telemetryRecord, telemetryStale, stepHint, hintTimeout, tailStart, tailEnd, vfWaitTimeout, stepPinFall, stepPinRise. -/
def Obligations.SlotTelemetryAndValleyFill : Prop :=
  (∀ s (k : Fin 8) (q : BitVec 16) e, awake s → (shpSlot s k.val).sent.find? (fun e => e.1 == q.toNat) = some e →
    exec (.msgAck k q) s = .next (settle s (writeFixedSignal 0x09 (0x0001 + k.val) (w32 (e.2 / 2 * 2 + 1)) false
      (updShp k.val (fun x => { x with sent := x.sent.filter (fun y => y.1 != q.toNat) }) s)))) ∧
  (∀ s (k : Fin 8) p d h, awake s → viaGcl s k.val = true →
    exec (.telemetryRecord k p ⟨d, h⟩) s = .next (settle s (gclMirror k.val p d h
      (writeFixedSignal 0x09 (0x0028 + k.val) (qWord d.toInt) false (writeFixedSignal 0x09 (0x0020 + k.val) (qWord p.toInt) false
        (updShp k.val (fun x => { x with telDraw := p.toInt, telDemand := d.toInt, freshAt := some s.now, staleSaid := false, seen := true, sbDraw := none }) s)))))) ∧
  (∀ s (k : Fin 8), awake s → telStale s k.val = true → (shpSlot s k.val).staleSaid = false → slotState s k.val = 4 →
    exec (.telemetryStale k) s = .next (settle s (raise uSHP 4 .corrected { unit := k.val } (updShp k.val (fun x => { x with staleSaid := true }) s)))) ∧
  (∀ s (k : Fin 8) hr ti tl hw hp, awake s → vfEnabled s k.val = true → vfPin s k.val = false → viaGcl s k.val = true → slotState s k.val = 4 → (shpSlot s k.val).vf = .idle →
    exec (.stepHint k hr ti tl hw hp) s = .next (settle s (updShp k.val (fun _ => { shpSlot s k.val with
      vf := .hinted, vfAt := s.now, headReq := none,
      hint := { tailIn := ti.toNat, tailLen := tl.toNat, headW := hw.toInt, headRamp := hp.toNat, arrived := s.now, drawAt := (shpSlot s k.val).draw } }) s))) ∧
  (∀ s (k : Fin 8), awake s → (shpSlot s k.val).vf = .hinted → (shpSlot s k.val).hint.arrived + ((shpSlot s k.val).hint.tailIn + 200) * us ≤ s.now →
    exec (.hintTimeout k) s = .next (settle s (vfIdle k.val s))) ∧
  (∀ s (k : Fin 8), awake s → (shpSlot s k.val).vf = .hinted → (shpSlot s k.val).hint.arrived + (shpSlot s k.val).hint.tailIn * us ≤ s.now →
    exec (.tailStart k) s = .next (settle s (updShp k.val (fun x =>
      { x with vf := .tail, vfAt := s.now, floor := max 0 (if telStale s k.val then (shpSlot s k.val).eff else (shpSlot s k.val).telDraw) }) s))) ∧
  (∀ s (k : Fin 8), awake s → (shpSlot s k.val).vf = .tail → vfPin s k.val = false → (shpSlot s k.val).vfAt + (shpSlot s k.val).hint.tailLen * us ≤ s.now →
    exec (.tailEnd k) s = .next (settle s (updShp k.val (fun x => { x with vf := .wait, vfAt := s.now }) s))) ∧
  (∀ s (k : Fin 8), awake s → (shpSlot s k.val).vf = .wait → (shpSlot s k.val).headReq = none → (shpSlot s k.val).vfAt + vfTimeoutUs s * us ≤ s.now →
    exec (.vfWaitTimeout k) s = .next (settle s (vfIdle k.val s))) ∧
  (∀ s (k : Fin 8), awake s → vfPin s k.val = true → vfEnabled s k.val = true → slotState s k.val = 4 →
    exec (.stepPinFall k) s = .next (settle s (updShp k.val (fun x => { x with vf := .tail, vfAt := s.now, floor := 0 }) s))) ∧
  (∀ s (k : Fin 8) rate, awake s → vfPin s k.val = true → vfEnabled s k.val = true → slotState s k.val = 4 →
    rate = qdiv (wq (fld (pinHint s k.val) 15 0)) ((max (fld (pinHint s k.val) 31 16) 1 : Nat) : Int) →
    exec (.stepPinRise k) s = .next (settle s { updShp k.val (fun x => { x with vf := .idle, vfAt := s.now, pinHead := some s.now, rate := rate }) s with
      shp.rising := (s.shp.rising.filter (fun e => e.1 != k.val)) ++ [(k.val, rate)] }))

/-- ARM takes the staged bank for checking under its TAG, CANCEL disarms; a check that fails reports its code, and one that passes arms the schedule, which takes over at its first minute; 100 ms of a saturated trim raise the TRIM stage.
Completions stated: schedArm, schedCancel, scheduleCheckDone, scheduleTakeOver, trimSaturated. -/
def Obligations.Schedules : Prop :=
  (∀ s path tag, awake s → pathOk s path 0x090130 = true → (tag : Byte).toNat ≠ lastTag s 0x090130 → s.shp.checking = none →
    ∃ t d, exec (.schedArm path tag) s = .next (settle s t) ∧ t.shp.checking = some d ∧ d.tag = tag.toNat ∧ d.from_ = (regWord s 0x090120).toNat ∧
      d.until_ = (regWord s 0x090124).toNat ∧ d.bank = 1 - s.shp.bank ∧ d.entries = (List.range (min (regWord s 0x090128).toNat 1440)).map (entryOfWords s.shp.bankWords) ∧
      { t with regs := s.regs, shp.checking := s.shp.checking } = s) ∧
  (∀ s path tag, awake s → pathOk s path 0x090130 = true → (tag : Byte).toNat ≠ lastTag s 0x090130 →
    ∃ t, exec (.schedCancel path tag) s = .next (settle s t) ∧ t.shp.armed = none ∧ t.shp.resTag = tag.toNat ∧ t.shp.result = 0 ∧
      { t with regs := s.regs, shp.armed := s.shp.armed, shp.resTag := s.shp.resTag, shp.result := s.shp.result } = s) ∧
  (∀ s d, awake s → s.shp.checking = some d → (regWord s 0x090128).toNat < 1 ∨ 1440 < (regWord s 0x090128).toNat →
    exec .scheduleCheckDone s = .next (settle s { s with shp.checking := none, shp.resTag := d.tag, shp.resEntry := 0, shp.result := 2 })) ∧
  (∀ s d, awake s → s.shp.checking = some d → 1 ≤ (regWord s 0x090128).toNat → (regWord s 0x090128).toNat ≤ 1440 →
    crc32c (bankBytes s.shp.bankWords (regWord s 0x090128).toNat) ≠ regWord s 0x09012C →
    exec .scheduleCheckDone s = .next (settle s { s with shp.checking := none, shp.resTag := d.tag, shp.resEntry := 0, shp.result := 1 })) ∧
  (∀ s d z, awake s → s.shp.checking = some d → 1 ≤ (regWord s 0x090128).toNat → (regWord s 0x090128).toNat ≤ 1440 →
    crc32c (bankBytes s.shp.bankWords (regWord s 0x090128).toNat) = regWord s 0x09012C → badEntry d.entries = none → d.from_ < d.until_ → minuteCount s < d.until_ → s.shp.armed = none →
    z = { s with shp.checking := none, shp.resTag := d.tag, shp.resEntry := 0 } → scheduleLate d z = false →
    exec .scheduleCheckDone s = .next (settle s (takeOver { z with shp.armed := some d, shp.result := 0 }))) ∧
  (∀ s d, awake s → s.shp.armed = some d → d.from_ ≤ minuteCount s →
    exec .scheduleTakeOver s = .next (settle s { s with shp.inForce := some d, shp.armed := none, shp.bank := d.bank, shp.bankWords := s.shp.bankOther, shp.bankOther := s.shp.bankWords })) ∧
  (∀ s t, awake s → s.shp.trimSince = some t → t + 100 * ms ≤ s.now → s.shp.trimOn = false →
    exec .trimSaturated s = .next (settle s (raise uSHP 5 .corrected {} { s with shp.trimOn := true })))

/-- A minute boundary seals the record of the minute, with the energy it took, and appends it; the oldest closed block is signed over its bytes, with the identity key in force, and queued for the spool (its signature is a free value); a minute without a signature is reported once; a
block that the spool holds is let go; the ledger region is restored from the spool once memory is trained; and a block that a reset caught before its signature is signed again.
Completions stated: minuteClose, ledgerBlockSigned, signingLate, spoolWriteDone, ledgerSpoolRestore, ledgerResign. -/
def Obligations.ContractLedger : Prop :=
  (∀ s, awake s → s.shp.lastMinute < minuteCount s → leadsBoard s = false → isLead s = true → s.shp.cur.noCap = false →
    ∃ f, exec .minuteClose s = .next (settle s (ledgerAppend (sealRecord (recordWords s.shp.cur (s.shp.seq + 1) f (s.afe.accum - s.shp.cur.startAccum)
      (excessOf s.shp.cur.capW (s.afe.accum - s.shp.cur.startAccum)))) (excessOf s.shp.cur.capW (s.afe.accum - s.shp.cur.startAccum))
      (minuteCount s) (openRecord { s with cas.substituted := false, cas.energy := 0 })))) ∧
  (∀ s b, awake s → firstUnsigned s.shp.closed = some b → s.sec.identityKey = true →
    ∃ t sb, exec .ledgerBlockSigned s = .next (settle s (nvsQueue { rank := 4, area := 0x0E, payload := some (.spool sb), length := 2392 } (ledgerWrite sb t))) ∧
      sb.block = b.block ∧ sb.flags = 0 ∧ sb.svn = s.sec.fwSvn ∧ sb.sig = Config.sign (identityKey s.sec.fwSvn) (blockMessage b.block s.sec.fwSvn) s.fresh ∧
      sb.digest = blockDigest b.block s.sec.fwSvn sb.sig ∧ t.fresh = s.fresh + 1 ∧ { t with fresh := s.fresh, shp := s.shp } = s) ∧
  (∀ s b, awake s → firstUnsigned s.shp.closed = some b → b.closed + 60 * sec ≤ s.now → b.late = false →
    exec .signingLate s = .next (settle s (raise uSHP 7 .corrected { item := 1 }
      { s with shp.closed := s.shp.closed.map (fun x => if x.block.blockSeq = b.block.blockSeq then { x with late := true } else x) }))) ∧
  (∀ s, awake s → exec .spoolWriteDone s = .next (settle s { s with shp.closed := s.shp.closed.filter (fun b => match b.signed with
    | some sb => decide (tfind s.mram.spool (sb.block.blockSeq % 1024) ≠ some sb) | none => true) })) ∧
  (∀ s, awake s → s.dram.ledgerLost = true → (List.range 8).all s.mem.trained.contains = true →
    exec .ledgerSpoolRestore s = .next (settle s { s with dram.ledger := (s.mram.spool.map (·.2)).foldl (fun l b => insertBlock b l) [], dram.ledgerLost := false })) ∧
  (∀ s c b, awake s → nvsNewest s 0x0A = some (.ledger c) → c.awaiting = some b.block → firstUnsigned s.shp.closed = some b → s.sec.identityKey = true →
    ∃ t sb, exec .ledgerResign s = .next (settle s (nvsQueue { rank := 4, area := 0x0E, payload := some (.spool sb), length := 2392 } (ledgerWrite sb t))) ∧
      sb.block = b.block ∧ sb.svn = s.sec.fwSvn ∧ t.fresh = s.fresh + 1 ∧ { t with fresh := s.fresh, shp := s.shp } = s)

/-- A good sample of a quiet temperature channel, converted by the channel's SCALE and OFFSET, becomes its value, its signal and its history, and is held against the trip limits; one the front-end reports faulty makes the channel implausible and is reported. A channel that has
passed for a second is plausible again, and one that has needed a lower rate for five seconds samples more slowly. Completions stated: thermalSample, channelPlausible, sampleRateFall. -/
def Obligations.ThermalChannels : Prop :=
  (∀ s c raw (w : Word) r, awake s → senseRec s c = some r → isTempKind r.kind = true → w = convertSense s c r.kind raw → (∀ i, 2 ≤ i → i ≤ 5 → senseParOf s c i = 0) → (thermCh s c).implaus = false →
    w.toInt < grpPar s r.group 0 - 655360 → (thermCh s c).srate = 0 →
    exec (.thermalSample c raw false) s = .next (settle s (senseTrip c w.toInt (writeSignal c w false (updCh c (fun _ => { thermCh s c with
      value := w.toInt, seen := true, recent := prune s.now (thermCh s c).recent ++ [(s.now, w.toInt)], feFault := false, range := false, rate := false, neigh := false,
      passSince := some ((thermCh s c).passSince.getD s.now), lowSince := none }) s))))) ∧
  (∀ s c raw (w : Word) r, awake s → senseRec s c = some r → isTempKind r.kind = true → w = convertSense s c r.kind raw → (thermCh s c).implaus = false →
    ∃ x, x.implaus = true ∧ x.feFault = true ∧ x.value = w.toInt ∧ x.passSince = none ∧ x.srate = max (thermCh s c).srate 2 ∧
      exec (.thermalSample c raw true) s = .next (settle s (senseTrip c w.toInt (raise uTHM 0 .corrected { unit := c, w1 := w } (writeSignal c w true
        (updCh c (fun _ => x) s)))))) ∧
  (∀ s c t, awake s → (thermCh s c).passSince = some t → (thermCh s c).implaus = true → t + 1000000000 ≤ s.now →
    exec (.channelPlausible c) s = .next (settle s (updCh c (fun x => { x with implaus := false }) s))) ∧
  (∀ s c t, awake s → (thermCh s c).lowSince = some t → 0 < (thermCh s c).srate → t + 5000000000 ≤ s.now →
    ∃ u, exec (.sampleRateFall c) s = .next (settle s u) ∧ (thermCh u c).srate = (thermCh s c).srate - 1 ∧
      (∀ n, n ≠ c → thermCh u n = thermCh s n) ∧ { u with thm.ch := s.thm.ch } = s)

/-- At a due instant of a throttling group the count rises by one, or stays at its limit, when the group is still at or above THROTTLE; below THROTTLE less the hysteresis it falls by one each period; the mirror in the Understory follows the count. THM_SHDN_CLR acts for THM and
SEC alone: a clear that names a latch that is not set is refused with result 1, one named by another path is reported and changes nothing else, and one that nothing opposes clears the latches it names. Completions stated: staircaseStep, staircaseRelease, shdnClrRequest. -/
def Obligations.ThermalGroups : Prop :=
  (∀ s (g : Fin 32) t, awake s → (groupS s g.val).sched = some t → (groupS s g.val).state = 2 → t + ((groupS s g.val).schedN + 1) * stepMs s g.val * 1000000 ≤ s.now →
    (groupS s g.val).value < grpPar s g.val 1 →
    ∃ u, exec (.staircaseStep g) s = .next (settle s u) ∧ (groupS u g.val).k = (groupS s g.val).k ∧ (groupS u g.val).schedN = (groupS s g.val).schedN + 1 ∧
      (groupS u g.val).atLimit = false ∧ (∀ n, n ≠ g.val → groupS u n = groupS s n) ∧ { u with thm.group := s.thm.group, und.thmMirror := s.und.thmMirror } = s) ∧
  (∀ s (g : Fin 32) t, awake s → (groupS s g.val).sched = some t → (groupS s g.val).state = 2 → t + ((groupS s g.val).schedN + 1) * stepMs s g.val * 1000000 ≤ s.now →
    grpPar s g.val 1 ≤ (groupS s g.val).value → (groupS s g.val).k + 1 < stepLimit s g.val →
    ∃ u, exec (.staircaseStep g) s = .next (settle s u) ∧ (groupS u g.val).k = (groupS s g.val).k + 1 ∧ (groupS u g.val).schedN = (groupS s g.val).schedN + 1 ∧
      u.und.thmMirror = tput s.und.thmMirror g.val (mkPair (w32 (((groupS s g.val).k + 1) * 256 + 2))) ∧
      (∀ n, n ≠ g.val → groupS u n = groupS s n) ∧ { u with thm.group := s.thm.group, und.thmMirror := s.und.thmMirror } = s) ∧
  (∀ s (g : Fin 32) t, awake s → (groupS s g.val).release = some t → (groupS s g.val).state = 2 → 0 < (groupS s g.val).k → t + stepMs s g.val * 1000000 ≤ s.now →
    exec (.staircaseRelease g) s = .next (settle s (mirrorGroup g.val (updGrp g.val (fun x => { x with
      k := x.k - 1, release := some (t + stepMs s g.val * 1000000), atLimit := false }) s)))) ∧
  (∀ s path tag mask tray, awake s → path ≠ .proc .thm → path ≠ .proc .sec →
    ∃ w, exec (.shdnClrRequest path tag mask tray) s = .next (settle s (raise uTHM 9 .contained { path := pathCode path, w1 := some 0x0A0020, w2 := w } s))) ∧
  (∀ s path tag, awake s → path = .proc .thm ∨ path = .proc .sec → (tag : Byte).toNat ≠ lastTag s 0x0A0020 → s.und.shutLatch = [] →
    ∃ u, exec (.shdnClrRequest path tag 0 true) s = .next (settle s u) ∧ u.thm.resTag = tag.toNat ∧ u.thm.result = 1 ∧
      { u with regs := s.regs, thm.resTag := s.thm.resTag, thm.result := s.thm.result, thm.resGroup := s.thm.resGroup } = s) ∧
  (∀ s path tag mask tray, awake s → path = .proc .thm ∨ path = .proc .sec → (tag : Byte).toNat ≠ lastTag s 0x0A0020 →
    judgeShdnClr s (namedLatches (mask : Byte).toNat tray) = (0, 0) →
    ∃ u, exec (.shdnClrRequest path tag mask tray) s = .next (settle s u) ∧ u.thm.resTag = tag.toNat ∧ u.thm.result = 0 ∧
      u.und.shutLatch = (namedLatches mask.toNat tray).foldl sdel s.und.shutLatch)

/-- A conversion of a diode is kept and shown in its signal; critical ones are counted and a faulted or cooler one starts the count anew. A diode that fails is reported. The third critical conversion in a row asserts SYS_SHDN_N, is reported as fatal and
sets the tray latch with cause STRAP; in D3 the front-end asserts the pin alone, and the latch in the Understory is set. Completions stated: tcritConversion. -/
def Obligations.CriticalShutdown : Prop :=
  (∀ s (d : Fin 2) (w v : Word) t, awake s → v = (if (senseRec s (160 + d.val)).isSome then gainOffset s (160 + d.val) w else w) → w.toInt < critTemp s →
    t = writeSignal (160 + d.val) v false (critKeep d.val w false s) →
    tget 0 t.afe.critRun d.val = 0 ∧ tget 0 t.afe.critVal d.val = w.toInt ∧ t.afe.critFault = sdel s.afe.critFault d.val ∧
    exec (.tcritConversion d w false) s = .next (settle s (if (senseRec s (160 + d.val)).isSome then senseTrip (160 + d.val) v.toInt t else t))) ∧
  (∀ s (d : Fin 2) (w v : Word) t, awake s → v = (if (senseRec s (160 + d.val)).isSome then gainOffset s (160 + d.val) w else w) → critTemp s ≤ w.toInt →
    tget 0 s.afe.critRun d.val < 2 → t = writeSignal (160 + d.val) v false (critKeep d.val w false s) →
    tget 0 t.afe.critRun d.val = tget 0 s.afe.critRun d.val + 1 ∧ tget 0 t.afe.critVal d.val = w.toInt ∧
    exec (.tcritConversion d w false) s = .next (settle s (if (senseRec s (160 + d.val)).isSome then senseTrip (160 + d.val) v.toInt t else t))) ∧
  (∀ s (d : Fin 2) w, awake s → senseRec s (160 + d.val) = none → critTemp s ≤ w.toInt → tget 0 s.afe.critRun d.val = 2 → s.und.sysShdn = false →
    ∃ u, exec (.tcritConversion d w false) s = .next (settle s (setShutLatch 8 4 0 w.toInt 0 0 true (raise uTHM 7 .fatal { unit := d.val, w1 := w } (rcdTrigger 4 u)))) ∧
      u.und.sysShdn = true ∧ tget 0 u.afe.critRun d.val = 3) ∧
  (∀ s (d : Fin 2) (w v : Word), awake s → v = (if (senseRec s (160 + d.val)).isSome then gainOffset s (160 + d.val) w else w) → s.afe.critFault = [] →
    exec (.tcritConversion d w true) s = .next (settle s (raise uTHM 5 .contained { unit := d.val } (writeSignal (160 + d.val) v true (critKeep d.val w true s))))) ∧
  (∀ s (d : Fin 2) w, s.und.supply.porAsserted = false → s.pmd.state = 3 → critTemp s ≤ w.toInt → tget 0 s.afe.critRun d.val = 2 → s.und.sysShdn = false →
    ∃ u, exec (.tcritConversion d w false) s = .next (settle s u) ∧ u.und.sysShdn = true ∧ u.und.shutLatch = sadd s.und.shutLatch 8 ∧
      { u with und.sysShdn := s.und.sysShdn, und.shutLatch := s.und.shutLatch, afe := s.afe } = s)

/-- The ratios of the measured resistances to SCALE place a leak reading in a band; five readings of one band in a row qualify a leak channel's state, and WET stays latched, with its mirror; half a second without a qualified band is NOISY; LKF_CLEAR acts for THM and SEC alone and only on channels qualified dry. A flow sample is the
channel's value and signal, in mode 1 from the mean frequency of 100 ms; two seconds beyond a limit raise the alarm, two inside end it, and judging starts ten seconds after the tray runs. Completions stated: leakReading, leakNoisy, lkfClearRequest, flowSample, flowAlarm, flowAlarmEnd, flowJudgeStart. -/
def Obligations.LeakAndFlow : Prop :=
  (∀ s (c : Fin 16) (ip qd : Word) r q, awake s → (lkfCh s c.val).state ≠ 7 → r = leakRatio s c.val ip → q = leakRatio s c.val qd →
    leakBand s c.val r q = (lkfCh s c.val).band → (lkfCh s c.val).run < 4 →
    exec (.leakReading c ip qd) s = .next (settle s (updLkf c.val (fun x => { x with run := (lkfCh s c.val).run + 1, value := r, aux := q }) s))) ∧
  (∀ s (c : Fin 16) (ip qd : Word) r q, awake s → (lkfCh s c.val).state ≠ 7 → r = leakRatio s c.val ip → q = leakRatio s c.val qd →
    leakBand s c.val r q ≠ (lkfCh s c.val).band →
    exec (.leakReading c ip qd) s = .next (settle s (updLkf c.val (fun x => { x with band := leakBand s c.val r q, run := 1, value := r, aux := q }) s))) ∧
  (∀ s (c : Fin 16) (ip qd : Word) r q, awake s → (lkfCh s c.val).state ≠ 7 → r = leakRatio s c.val ip → q = leakRatio s c.val qd →
    leakBand s c.val r q = 1 → (lkfCh s c.val).band = 1 → 4 ≤ (lkfCh s c.val).run → s.und.wet.contains c.val = false →
    ∃ u, exec (.leakReading c ip qd) s = .next (settle s (enterLkf c.val 1 u)) ∧ u.und.wet = sadd s.und.wet c.val ∧ u.und.wetMirror = mkPair (w32 (bitsMask u.und.wet)) ∧
      (lkfCh u c.val).qualAt = s.now ∧ (lkfCh u c.val).taken = 1 ∧ { u with lkf.ch := s.lkf.ch, und.wet := s.und.wet, und.wetMirror := s.und.wetMirror } = s) ∧
  (∀ s (c : Fin 16) (ip qd : Word) r q b, awake s → (lkfCh s c.val).state ≠ 7 → r = leakRatio s c.val ip → q = leakRatio s c.val qd →
    b = leakBand s c.val r q → b ≠ 1 → b ≠ 0xFF → (lkfCh s c.val).band = b → 4 ≤ (lkfCh s c.val).run →
    ∃ u, exec (.leakReading c ip qd) s = .next (settle s (enterLkf c.val (leakState s c.val b) u)) ∧ (lkfCh u c.val).qualAt = s.now ∧ (lkfCh u c.val).taken = b ∧
      { u with lkf.ch := s.lkf.ch } = s) ∧
  (∀ s (c : Fin 16), awake s → (lkfCh s c.val).state ≠ 7 → (lkfCh s c.val).qualAt + 500000000 ≤ s.now →
    exec (.leakNoisy c) s = .next (settle s (enterLkf c.val (leakState s c.val 4) (updLkf c.val (fun x => { x with taken := 4 }) s)))) ∧
  (∀ s path tag mask, awake s → path ≠ .proc .thm → path ≠ .proc .sec →
    ∃ w, exec (.lkfClearRequest path tag mask) s = .next (settle s (raise uLKF 4 .contained { path := pathCode path, w1 := some 0x0C0010, w2 := w } s))) ∧
  (∀ s path tag (mask : BitVec 16) c, awake s → path = .proc .thm ∨ path = .proc .sec → (tag : Byte).toNat ≠ lastTag s 0x0C0010 →
    (maskBits 16 mask.toNat).find? (fun c => (lkfCh s c).taken != 0) = some c →
    ∃ u, exec (.lkfClearRequest path tag mask) s = .next (settle s u) ∧ u.lkf.resTag = tag.toNat ∧ u.lkf.result = 1 ∧ u.lkf.resCh = c ∧
      { u with regs := s.regs, lkf.resTag := s.lkf.resTag, lkf.result := s.lkf.result, lkf.resCh := s.lkf.resCh } = s) ∧
  (∀ s path tag (mask : BitVec 16), awake s → path = .proc .thm ∨ path = .proc .sec → (tag : Byte).toNat ≠ lastTag s 0x0C0010 →
    (maskBits 16 mask.toNat).find? (fun c => (lkfCh s c).taken != 0) = none →
    ∃ u, exec (.lkfClearRequest path tag mask) s = .next (settle s (forEach (maskBits 16 mask.toNat) (fun c s => if (lkfCh s c).state = 1 then enterLkf c 0 s else s) u)) ∧
      u.lkf.resTag = tag.toNat ∧ u.lkf.result = 0 ∧ u.und.wet = (maskBits 16 mask.toNat).foldl sdel s.und.wet ∧ u.und.wetMirror = mkPair (w32 (bitsMask u.und.wet)) ∧
      { u with regs := s.regs, und.wet := s.und.wet, und.wetMirror := s.und.wetMirror, lkf.resTag := s.lkf.resTag, lkf.result := s.lkf.result, lkf.resCh := s.lkf.resCh } = s) ∧
  (∀ s (c : Fin 16) (x : Word) q f, awake s → (tget {} s.lkf.recs (16 + c.val)).mode = 1 → (lkfCh s (16 + c.val)).state < 3 → q = flowPulse (lkfCh s (16 + c.val)) s.now x.toInt →
    f = flowMean q.freqs → f ≤ 5000 * 65536 → s.lkf.judging = false →
    ∃ u, exec (.flowSample c x) s = .next (settle s (writeSignal (lkfSignal (16 + c.val)) (qWord (qdiv (60 * f) (max (lkfParN s (16 + c.val) 2) 1))) false u)) ∧
      (lkfCh u (16 + c.val)).value = qdiv (60 * f) (max (lkfParN s (16 + c.val) 2) 1) ∧ (lkfCh u (16 + c.val)).freqs = q.freqs ∧ (lkfCh u (16 + c.val)).pulseAt = q.pulseAt ∧
      (lkfCh u (16 + c.val)).state = q.state ∧ { u with lkf.ch := s.lkf.ch } = s) ∧
  (∀ s (c : Fin 16) (x : Word), awake s → ((tget {} s.lkf.recs (16 + c.val)).mode = 2 ∧ 66 * 65536 ≤ x.toInt * 1000 ∧ x.toInt * 1000 ≤ 3234 * 65536) ∨
      ((tget {} s.lkf.recs (16 + c.val)).mode = 3 ∧ 5 * 65536 ≤ x.toInt * 100 ∧ x.toInt * 100 ≤ 95 * 65536) → (lkfCh s (16 + c.val)).state < 3 → s.lkf.judging = false →
    ∃ u, exec (.flowSample c x) s = .next (settle s (writeSignal (lkfSignal (16 + c.val))
        (qWord (qdiv (lkfPar s (16 + c.val) 2 * x.toInt) 65536 + lkfPar s (16 + c.val) 3)) false u)) ∧
      (lkfCh u (16 + c.val)).value = qdiv (lkfPar s (16 + c.val) 2 * x.toInt) 65536 + lkfPar s (16 + c.val) 3 ∧
      (lkfCh u (16 + c.val)).state = (lkfCh s (16 + c.val)).state ∧ { u with lkf.ch := s.lkf.ch } = s) ∧
  (∀ s (c : Fin 16) t, awake s → (lkfCh s (16 + c.val)).beyond = some t → s.lkf.judging = true → (lkfCh s (16 + c.val)).state = 0 → t + 2000000000 ≤ s.now →
    exec (.flowAlarm c) s = .next (settle s (enterLkf (16 + c.val) (if (lkfCh s (16 + c.val)).beyondHi then 2 else 1) s))) ∧
  (∀ s (c : Fin 16) t, awake s → (lkfCh s (16 + c.val)).inside = some t → s.lkf.judging = true → (lkfCh s (16 + c.val)).state = 1 ∨ (lkfCh s (16 + c.val)).state = 2 →
    t + 2000000000 ≤ s.now → exec (.flowAlarmEnd c) s = .next (settle s (enterLkf (16 + c.val) 0 s))) ∧
  (∀ s t, awake s → s.lkf.runSince = some t → s.seq.trayState = 3 → t + 10000000000 ≤ s.now →
    exec .flowJudgeStart s = .next (settle s { s with lkf.judging := true }))

/-- A heartbeat with a bad checksum or a repeated SEQ is counted and discarded. A good one is the die's last: a die in BOOT that gets its configuration runs, a parked one runs again, one that is silent and heard is silent no more, its channels take the setpoints
whose pairs match, and a FAULTED channel that it clears is stopped. A reply with a bad checksum is
reported; a good one is what MOT's registers show of the die and of its channels. Completions stated: heartbeatReceive, heartbeatReply. -/
def Obligations.Heartbeats : Prop :=
  (∀ s (d : Fin 2) h bad, awake s → tfind s.mot.hb d.val = some h →
    exec (.heartbeatReceive d false bad) s = .next (settle s (updDie d.val (fun x => { x with discarded := x.discarded + 1 }) s))) ∧
  (∀ s (d : Fin 2) h bad, awake s → tfind s.mot.hb d.val = some h → (motDie s d.val).lastSeq = some h.seq →
    exec (.heartbeatReceive d true bad) s = .next (settle s (updDie d.val (fun x => { x with discarded := x.discarded + 1 }) s))) ∧
  (∀ s (d : Fin 2) h bad, awake s → noInjection uMOT s → tfind s.mot.hb d.val = some h → (motDie s d.val).lastSeq ≠ some h.seq →
    ∃ u, exec (.heartbeatReceive d true bad) s = .next (settle s u) ∧ (motDie u d.val).lastSeq = some h.seq ∧ (motDie u d.val).lastValid = s.now ∧
      (motDie u d.val).standby = h.standby ∧ (h.heard = true → (motDie u d.val).silent = false) ∧
      ((motDie s d.val).state = .boot → h.cfg.isSome = true ∨ (motDie s d.val).cfgId = some h.cfgId → (motDie u d.val).state = .run) ∧
      ((motDie s d.val).state = .boot → h.cfg = none → (motDie s d.val).cfgId ≠ some h.cfgId → (motDie u d.val).state = .boot) ∧
      ((motDie s d.val).state = .run → (motDie u d.val).state = (if h.park then .parked else .run)) ∧
      ((motDie s d.val).state = .parked → h.park = false ∨ (motDie s d.val).parkLine = true → (motDie u d.val).state = .run) ∧
      (∀ i, i < 8 → h.cfg = none → (motCh s (8 * d.val + i)).state ≠ 0 → bad.getLsbD i = false →
        (motCh u (8 * d.val + i)).setpoint = h.setpoints.getD i 0 ∧ (motCh u (8 * d.val + i)).lost = false) ∧
      (∀ i, i < 8 → h.cfg = none → h.clear.testBit i = true → (motCh s (8 * d.val + i)).state = 7 →
        (motCh u (8 * d.val + i)).state = 1 ∧ (motCh u (8 * d.val + i)).fault = 0) ∧
      (∀ e, e ≠ d.val → motDie u e = motDie s e) ∧ { u with mdie := s.mdie, mch := s.mch } = s) ∧
  (∀ s (d : Fin 2) (r : DieReply), awake s → noInjection uMOT s → r.crcOk = false →
    exec (.heartbeatReply d r) s = .next (settle s (raise uMOT 5 .corrected { unit := d.val } { s with mot.hbBad := tupd 0 s.mot.hbBad d.val (satInc 255) }))) ∧
  (∀ s (d : Fin 2) (r : DieReply), awake s → noInjection uMOT s → r.crcOk = true →
    ∃ u, exec (.heartbeatReply d r) s = .next (settle s u) ∧ u.mot.replied.contains d.val = true ∧ tget .boot u.mot.repDie d.val = (motDie s d.val).state ∧
      tget 0 u.mot.repVmot d.val = r.vmotMv ∧
      (motDie u d.val).discarded = 0 ∧ (∀ i, i < 8 → (motRep u (8 * d.val + i)).state = (motCh s (8 * d.val + i)).state ∧
        (motRep u (8 * d.val + i)).fault = faultCode (motCh s (8 * d.val + i)) ∧ (motRep u (8 * d.val + i)).starts = (motCh s (8 * d.val + i)).starts ∧
        (motRep u (8 * d.val + i)).tach = repTach s (8 * d.val + i) (r.tach.getD i 0) ∧ (motRep u (8 * d.val + i)).current = r.current.getD i 0))

/-- A running die without a valid heartbeat for 19.6 ms is in FAILSAFE; a channel without a matching pair for as long has lost its setpoint; a die whose host has been silent for its time turns every fan to full speed; a supply out of
range stops the channels and one that has been back in range for 100 ms restarts them; the first change of each is the die's or the channel's own, and `applyDie` brings the channels to the speed then asked for.
Completions stated: dieFailsafe, setpointLost, hostSilence, vmotBusFault, vmotBusRecover. -/
def Obligations.DieSupervision : Prop :=
  (∀ s (d : Fin 2), awake s → (motDie s d.val).state = .run → (motDie s d.val).lastValid + 19600000 ≤ s.now →
    exec (.dieFailsafe d) s = .next (settle s (applyDie d.val (updDie d.val (fun x => { x with state := .failsafe, resumeRun := 0, repFailsafe := true }) s)))) ∧
  (∀ s (c : Fin 16), awake s → (motCh s c.val).state ≠ 0 → (motDie s (c.val / 8)).state = .run → (motCh s c.val).pairAt + 19600000 ≤ s.now →
    exec (.setpointLost c) s = .next (settle s (applyTarget c.val (updMot c.val (fun x => { x with lost := true }) s)))) ∧
  (∀ s (d : Fin 2), awake s → (motDie s d.val).silent = false → (motDie s d.val).state ≠ .boot → (motDie s d.val).standby = false →
    (motDie s d.val).silenceS * 1000000000 ≤ (motDie s d.val).silNs + (s.now - (motDie s d.val).lastValid) →
    exec (.hostSilence d) s = .next (settle s (applyDie d.val (updDie d.val (fun x => { x with silent := true, repSilent := true }) s)))) ∧
  (∀ s (d : Fin 2) (mv : BitVec 16), awake s → 62000 < mv.toNat ∨ mv.toNat < 9500 →
    ∃ u, exec (.vmotBusFault d mv) s = .next (settle s u) ∧ (motDie u d.val).busFault = true ∧ (motDie u d.val).vmotMv = mv.toNat ∧ (motDie u d.val).busAt = s.now ∧
      (∀ c, (motCh s c).state = 0 ∨ (motCh s c).state = 7 → motCh u c = motCh s c) ∧
      (∀ c, c / 8 = d.val → (motCh s c).state ≠ 0 → (motCh s c).state ≠ 7 → (motCh u c).state = 1 ∧ (motCh u c).tries = 0 ∧ (motCh u c).gates = .off) ∧
      (∀ c, c / 8 ≠ d.val → motCh u c = motCh s c) ∧ { u with mdie := s.mdie, mch := s.mch } = s) ∧
  (∀ s (d : Fin 2) (mv : BitVec 16), awake s → (motDie s d.val).busFault = true → (motDie s d.val).busAt + 100000000 ≤ s.now → 10800 ≤ mv.toNat → mv.toNat ≤ 60000 →
    exec (.vmotBusRecover d mv) s = .next (settle s (applyDie d.val (updDie d.val (fun x => { x with vmotMv := mv.toNat, busFault := false }) s))))

/-- After 50 ms of watch a turning fan is caught in RUN, one turning backwards coasts, one whose setpoint has become 0 is stopped, and one at rest is aligned (250 ms) or, with valid Hall codes, started in RUN. Then RAMP, RUN after 1 s at the earliest, the attempts that fail, the rests
between them, and loss and return of the sense. The gates are off in UNUSED, STOPPED, REST and FAULTED, the two gates of a phase never on together, and the regulator's reference rises by no more than RPM_MAX in 2 s.
Completions stated: startWatchEnd, reverseCoastEnd, alignDone, bemfLock, rampNoLock, stallDetect, restDone, runCountReset, senseLost, senseRegained, hallInvalid. -/
def Obligations.MotorStarts : Prop :=
  (∀ s (c : Fin 16) w hok t, awake s → (motCh s c.val).watch = some t → t + 50000000 ≤ s.now → chTarget s c.val ≠ 0 → handoffQ s c.val ≤ w.toInt →
    exec (.startWatchEnd c w hok) s = .next (settle s (startHall c.val hok (runCh c.val w.toInt (updMot c.val (fun x => { x with hallInv := false }) (beginStart c.val s)))))) ∧
  (∀ s (c : Fin 16) w hok t, awake s → (motCh s c.val).watch = some t → t + 50000000 ≤ s.now → chTarget s c.val = 0 →
    exec (.startWatchEnd c w hok) s = .next (settle s (enterCh c.val 1 s))) ∧
  (∀ s (c : Fin 16) w hok t, awake s → (motCh s c.val).watch = some t → t + 50000000 ≤ s.now → chTarget s c.val ≠ 0 → w.toInt < handoffQ s c.val → w.toInt < - handoffQ s c.val →
    exec (.startWatchEnd c w hok) s = .next (settle s (updMot c.val (fun x => { x with watch := none, coast := some s.now }) s))) ∧
  (∀ s (c : Fin 16) w hok t, awake s → (motCh s c.val).watch = some t → t + 50000000 ≤ s.now → chTarget s c.val ≠ 0 → w.toInt < handoffQ s c.val → - handoffQ s c.val ≤ w.toInt →
    hasHall s c.val = false ∨ hok = false →
    exec (.startWatchEnd c w hok) s = .next (settle s (startHall c.val false (beginAttempt c.val 2 s)))) ∧
  (∀ s (c : Fin 16) w t, awake s → (motCh s c.val).watch = some t → t + 50000000 ≤ s.now → chTarget s c.val ≠ 0 → w.toInt < handoffQ s c.val → - handoffQ s c.val ≤ w.toInt →
    hasHall s c.val = true →
    exec (.startWatchEnd c w true) s = .next (settle s (startHall c.val true (runCh c.val (max 0 w.toInt) (countStart c.val s))))) ∧
  (∀ s (c : Fin 16), awake s → (motCh s c.val).coast.isSome = true → chTarget s c.val ≠ 0 → exec (.reverseCoastEnd c) s = .next (settle s (beginAttempt c.val 2 s))) ∧
  (∀ s (c : Fin 16), awake s → (motCh s c.val).state = 2 → (motCh s c.val).at_ + 250000000 ≤ s.now →
    ∃ u, exec (.alignDone c) s = .next (settle s u) ∧ (motCh u c.val).state = 3 ∧ (motCh u c.val).at_ = s.now ∧ (motCh u c.val).tries = (motCh s c.val).tries ∧
      (∀ n, n ≠ c.val → motCh u n = motCh s n) ∧ { u with mch := s.mch } = s) ∧
  (∀ s (c : Fin 16), awake s → (motCh s c.val).state = 3 → (motCh s c.val).at_ + 1000000000 ≤ s.now →
    exec (.bemfLock c) s = .next (settle s (runCh c.val (handoffQ s c.val) s))) ∧
  (∀ s (c : Fin 16), awake s → (motCh s c.val).state = 3 → (motCh s c.val).at_ + 1200000000 ≤ s.now → exec (.rampNoLock c) s = .next (settle s (failAttempt c.val s))) ∧
  (∀ s (c : Fin 16) cur, awake s → (motCh s c.val).state = 4 → (motCh s c.val).at_ + 500000000 ≤ s.now → chPar s c.val 2 ≤ cur.toNat →
    exec (.stallDetect ⟨c, cur, false⟩) s = .next (settle s (failAttempt c.val s))) ∧
  (∀ s (c : Fin 16), awake s → (motCh s c.val).state = 6 → (motCh s c.val).watch = none → (motCh s c.val).coast = none → (motCh s c.val).at_ + restNs s c.val ≤ s.now →
    (motDie s (c.val / 8)).busFault = false →
    exec (.restDone c) s = .next (settle s (updMot c.val (fun x => { x with watch := some s.now }) s))) ∧
  (∀ s (c : Fin 16), awake s → (motCh s c.val).state = 4 → (motCh s c.val).at_ + 10000000000 ≤ s.now →
    exec (.runCountReset c) s = .next (settle s (updMot c.val (fun x => { x with tries := 0, starting := false }) s))) ∧
  (∀ s (c : Fin 16) mag, awake s → (motCh s c.val).state = 4 →
    ∃ u, exec (.senseLost ⟨c, mag⟩) s = .next (settle s u) ∧ (motCh u c.val).state = 5 ∧ (motCh u c.val).fault = (motCh s c.val).fault ∧ (motCh u c.val).magLoss = mag.toNat ∧
      (motCh u c.val).report = sadd (motCh s c.val).report 6 ∧ (motCh u c.val).faults = (motCh s c.val).faults ∧
      (∀ n, n ≠ c.val → motCh u n = motCh s n) ∧ { u with mch := s.mch } = s) ∧
  (∀ s (c : Fin 16), awake s → (motCh s c.val).state = 5 → exec (.senseRegained c) s = .next (settle s (runCh c.val (motCh s c.val).speed s))) ∧
  (∀ s (c : Fin 16), awake s → hasHall s c.val = true → (motCh s c.val).hallBad = false → 2 ≤ (motCh s c.val).state → (motCh s c.val).state ≤ 5 →
    exec (.hallInvalid c) s = .next (settle s (hallLost c.val s))) ∧
  (∀ s c p, gateOut s c p ≠ (true, true)) ∧
  (∀ s c p, (motCh s c).state = 0 ∨ (motCh s c).state = 1 ∨ (motCh s c).state = 6 ∨ (motCh s c).state = 7 → gateOut s c p = (false, false) ∧ chDrive s c = .none) ∧
  (∀ s c, (motCh s c).ref < (motCh s c).goal →
    regNow s c ≤ (motCh s c).goal ∧ regNow s c ≤ (motCh s c).ref + rpmMaxQ s c * ((s.now - (motCh s c).refAt : Nat) : Int) / 2000000000) ∧
  (∀ s c, (motCh s c).goal ≤ (motCh s c).ref → regNow s c = (motCh s c).goal)

/-- A failed sense, an overcurrent in a driven state and an open phase leave the channel FAULTED with its code, counted once; a low speed is reported while the channel runs on; MOT_CLEAR from another path is reported, one that names a
channel whose reply does not show it FAULTED, or whose die has a supply fault, is refused and changes no channel, and one that names FAULTED channels is carried by the next heartbeats.
Completions stated: senseFail, overcurrent, openPhase, speedLow, speedLowClear, motClearRequest. -/
def Obligations.MotorFaults : Prop :=
  (∀ s (c : Fin 16) fund mag cur, awake s → (motCh s c.val).state = 5 → (motCh s c.val).at_ + 500000000 ≤ s.now → plausible s c.val fund.toNat mag.toNat cur.toNat = false →
    (motCh s c.val).faults < 65535 →
    ∃ u, exec (.senseFail ⟨c, fund, mag, cur⟩) s = .next (settle s u) ∧ (motCh u c.val).state = 7 ∧ (motCh u c.val).fault = 5 ∧ (motCh u c.val).faults = (motCh s c.val).faults + 1 ∧
      { u with mch := s.mch } = s) ∧
  (∀ s (c : Fin 16) a b, awake s → 2 ≤ (motCh s c.val).state → (motCh s c.val).state ≤ 5 → overLevel s c.val a.toInt b.toInt = true → (motCh s c.val).faults < 65535 →
    ∃ u, exec (.overcurrent ⟨c, a, b⟩) s = .next (settle s u) ∧ (motCh u c.val).state = 7 ∧ (motCh u c.val).fault = 3 ∧ (motCh u c.val).faults = (motCh s c.val).faults + 1 ∧
      { u with mch := s.mch } = s) ∧
  (∀ s (c : Fin 16) cur, awake s → (motCh s c.val).state = 2 → (motCh s c.val).at_ + 50000000 ≤ s.now → 10 * cur.toNat < (motCh s c.val).capI → (motCh s c.val).faults < 65535 →
    ∃ u, exec (.openPhase ⟨c, cur⟩) s = .next (settle s u) ∧ (motCh u c.val).state = 7 ∧ (motCh u c.val).fault = 2 ∧ (motCh u c.val).faults = (motCh s c.val).faults + 1 ∧
      { u with mch := s.mch } = s) ∧
  (∀ s (c : Fin 16) (tach : Word), awake s → (motCh s c.val).state = 4 → (motCh s c.val).slow = false → (motDie s (c.val / 8)).state ≠ .boot →
    (motCh s c.val).at_ + 2 * chPar s c.val 5 * 1000000 ≤ s.now → tach.toInt < (chPar s c.val 4 : Int) * 65536 →
    exec (.speedLow ⟨c, tach⟩) s = .next (settle s (applyDie (c.val / 8) (chFault c.val 4 s)))) ∧
  (∀ s (c : Fin 16) (tach : Word), awake s → (motCh s c.val).state = 4 → (motCh s c.val).slow = true → (motCh s c.val).slowAt + chPar s c.val 5 * 1000000 ≤ s.now →
    11 * (chPar s c.val 4 : Int) * 65536 ≤ 10 * tach.toInt →
    exec (.speedLowClear ⟨c, tach⟩) s = .next (settle s (applyDie (c.val / 8) (updMot c.val (fun x => { x with slow := false }) s)))) ∧
  (∀ s path tag mask, awake s → path ≠ .proc .thm → path ≠ .proc .sec →
    ∃ w, exec (.motClearRequest path tag mask) s = .next (settle s (raise uMOT 9 .contained { path := pathCode path, w1 := some 0x0B0040, w2 := w } s))) ∧
  (∀ s path tag (mask : BitVec 16) c, awake s → path = .proc .thm ∨ path = .proc .sec → (tag : Byte).toNat ≠ lastTag s 0x0B0040 →
    (maskBits 16 mask.toNat).find? (fun c => (motRep s c).state != 7 || s.mot.repBus.contains (c / 8)) = some c →
    ∃ u, exec (.motClearRequest path tag mask) s = .next (settle s u) ∧ u.mot.resTag = tag.toNat ∧ u.mot.result = (if (motRep s c).state ≠ 7 then 1 else 2) ∧ u.mot.resCh = c ∧
      { u with regs := s.regs, mot.resTag := s.mot.resTag, mot.result := s.mot.result, mot.resCh := s.mot.resCh } = s) ∧
  (∀ s path tag (mask : BitVec 16), awake s → path = .proc .thm ∨ path = .proc .sec → (tag : Byte).toNat ≠ lastTag s 0x0B0040 →
    (maskBits 16 mask.toNat).find? (fun c => (motRep s c).state != 7 || s.mot.repBus.contains (c / 8)) = none →
    ∃ u, exec (.motClearRequest path tag mask) s = .next (settle s u) ∧ u.mot.resTag = tag.toNat ∧ u.mot.result = 0 ∧
      u.mot.clearing = (maskBits 16 mask.toNat).foldl sadd s.mot.clearing ∧
      { u with regs := s.regs, mot.resTag := s.mot.resTag, mot.result := s.mot.result, mot.resCh := s.mot.resCh, mot.clearing := s.mot.clearing } = s)

/-- For INT8 operands of any length the exact sum, the sum over the complemented operand and the sum of the weights add to 0, so the check of such a segment passes; and it fails on any sums that do not. The sums that the engine forms for a layer's row, in any format, pass in the same way. A requantised sum is an INT8 value. -/
def Obligations.TwinCheck : Prop :=
  (∀ w x : List Int, w.length = x.length → dotInt8 w x + dotInt8 w (twinInt8 x) + w.foldl (· + ·) 0 = 0) ∧
  (∀ w x : List Int, w.length = x.length → twinOk 0 (dotInt8 w x, dotInt8 w (twinInt8 x), w.foldl (· + ·) 0) = true) ∧
  (∀ a b c : Int, twinOk 0 (a, b, c) = true ↔ a + b + c = 0) ∧
  (∀ (fp : Bool) afmt (w a : List Int), w.length = a.length → (afmt = 0 → fp = false) →
    twinOk afmt (exactSum (terms fp w a), exactSum (terms fp w (twinAct afmt a)), exactSum (w.map (· * 2 ^ 150))) = true) ∧
  (∀ sum mult : Int, ∀ sh, -128 ≤ requantise sum mult sh ∧ requantise sum mult sh ≤ 127)

/-- CNP_LOAD_CMD acts for REC and SEC alone, once a TAG. A load that none of the codes of R257 refuses waits for the hash of its staged image; a model without a descriptor is code 1. SUSPEND takes an ACTIVE model without a job to
SUSPENDED, RESUME a suspended one to WARMUP, RESET_STATE notes that the next release begins in WARMUP; in another state SUSPEND is refused with code 0xB, and nothing else changes. Completions stated: cnpLoad, cnpSuspend, cnpResume, cnpResetState. -/
def Obligations.CanopyCommands : Prop :=
  (∀ s path tag (m : Fin 32), awake s → path ≠ .proc .recd → path ≠ .proc .sec →
    (∃ w, exec (.cnpLoad path tag m) s = .next (settle s (raise uCNP 10 .contained { path := pathCode path, w1 := some 0x100010, w2 := w } s))) ∧
    (∃ w, exec (.cnpSuspend path tag m) s = .next (settle s (raise uCNP 10 .contained { path := pathCode path, w1 := some 0x100010, w2 := w } s))) ∧
    (∃ w, exec (.cnpResume path tag m) s = .next (settle s (raise uCNP 10 .contained { path := pathCode path, w1 := some 0x100010, w2 := w } s))) ∧
    (∃ w, exec (.cnpResetState path tag m) s = .next (settle s (raise uCNP 10 .contained { path := pathCode path, w1 := some 0x100010, w2 := w } s)))) ∧
  (∀ s path tag (m : Fin 32), awake s → path = .proc .recd ∨ path = .proc .sec → (tag : Byte).toNat ≠ lastTag s 0x100010 → descOf s m.val = none →
    ∃ u, exec (.cnpLoad path tag m) s = .next (settle s (raise uCNP 9 .corrected { unit := m.val, item := 1, w1 := w32 0 } u)) ∧
      u.cnp.resTag = tag.toNat ∧ u.cnp.result = 1 ∧ u.cnp.resModel = m.val ∧ { u with regs := s.regs, cnp := s.cnp } = s) ∧
  (∀ s path tag (m : Fin 32) d i, awake s → path = .proc .recd ∨ path = .proc .sec → (tag : Byte).toNat ≠ lastTag s 0x100010 → descOf s m.val = some d → loadRefusal s m.val = none →
    (regWord s 0x100018).toNat * 4096 + (regWord s 0x10001C).toNat ≤ regionMib s 5 * 1048576 → tfind s.mem.scratch (regWord s 0x100018).toNat = some i →
    imgFormatOk i (regWord s 0x10001C).toNat = true → imgShapeOk d i = true → layersOk i = true →
    ∃ u, exec (.cnpLoad path tag m) s = .next (settle s u) ∧ u.cnp.load = some ⟨m.val, i, loadDigest s, 2⟩ ∧ u.cnp.resTag = tag.toNat ∧ u.cnp.result = 0 ∧ u.cnp.step = 2 ∧
      u.cnp.model = s.cnp.model ∧ { u with regs := s.regs, cnp := s.cnp } = s) ∧
  (∀ s path tag (m : Fin 32) d, awake s → path = .proc .recd ∨ path = .proc .sec → (tag : Byte).toNat ≠ lastTag s 0x100010 → descOf s m.val = some d → d.flags % 2 = 1 →
    (cnpModel s m.val).state = 5 → (cnpModel s m.val).job = none → (cnpModel s m.val).loadReq = false →
    ∃ u, exec (.cnpSuspend path tag m) s = .next (settle s u) ∧ (cnpModel u m.val).state = 6 ∧ (cnpModel u m.val).outStale = true ∧ u.cnp.result = 0) ∧
  (∀ s path tag (m : Fin 32) d, awake s → path = .proc .recd ∨ path = .proc .sec → (tag : Byte).toNat ≠ lastTag s 0x100010 → descOf s m.val = some d → d.flags % 2 = 1 →
    (cnpModel s m.val).state ≠ 5 →
    ∃ u, exec (.cnpSuspend path tag m) s = .next (settle s u) ∧ u.cnp.result = 0xB ∧ u.cnp.resTag = tag.toNat ∧ u.cnp.model = s.cnp.model ∧
      { u with regs := s.regs, cnp := s.cnp } = s) ∧
  (∀ s path tag (m : Fin 32) d, awake s → path = .proc .recd ∨ path = .proc .sec → (tag : Byte).toNat ≠ lastTag s 0x100010 → descOf s m.val = some d → d.flags % 2 = 1 →
    (cnpModel s m.val).state = 6 → s.cnp.gated = false →
    ∃ u, exec (.cnpResume path tag m) s = .next (settle s (enterWarmup m.val u)) ∧ u.cnp.result = 0 ∧ u.cnp.resTag = tag.toNat ∧ u.cnp.model = s.cnp.model) ∧
  (∀ s path tag (m : Fin 32) d, awake s → path = .proc .recd ∨ path = .proc .sec → (tag : Byte).toNat ≠ lastTag s 0x100010 → descOf s m.val = some d → d.flags % 2 = 1 →
    (cnpModel s m.val).state = 5 →
    ∃ u, exec (.cnpResetState path tag m) s = .next (settle s u) ∧ u.cnp.result = 0 ∧ (cnpModel u m.val).warmNext = true ∧ (cnpModel u m.val).state = 5 ∧
      (∀ n, n ≠ m.val → cnpModel u n = cnpModel s n) ∧ { u with regs := s.regs, cnp := s.cnp } = s)

/-- A staged image whose hash is its digest replaces the model's once its job is over; another is refused with code 6. A copy that verifies is the model's image, to start in WARMUP; one that does not leaves it EMPTY. REC's boot sequence takes
exactly the signed images of the set in force for enabled models that are EMPTY, and loads them in turn. Completions stated: stagedHashDone, loadCopyDone, canopyBootLoad. -/
def Obligations.CanopyLoadSteps : Prop :=
  (∀ s l, awake s → s.cnp.load = some l → l.step = 2 → imageDigest l.image = l.digest → (cnpModel s l.model).job = none →
    ∃ u, exec .stagedHashDone s = .next (settle s u) ∧ u.cnp.load = some { l with step := 4 } ∧ u.cnp.step = 4 ∧ (cnpModel u l.model).state = 3) ∧
  (∀ s l, awake s → s.cnp.load = some l → l.step = 2 → imageDigest l.image ≠ l.digest → s.cnp.boot = [] →
    exec .stagedHashDone s = .next (settle s (cnpResult s.cnp.resTag 6 2 l.model { s with cnp.load := none }))) ∧
  (∀ s l flips, awake s → s.cnp.load = some l → l.step = 4 → (cnpModel s l.model).state = 3 → s.cnp.boot = [] → copyOk l flips = true →
    ∃ u, exec (.loadCopyDone flips) s = .next (settle s u) ∧ u.cnp.load = none ∧ u.cnp.result = 0 ∧ u.cnp.step = 5 ∧ (cnpModel u l.model).image = some l.image ∧
      (cnpModel u l.model).warmNext = true ∧ (∀ d t, descOf s l.model = some d → t ∈ maskTiles d → (cnpTile u t).held.contains l.model = true) ∧ (∀ n, n ≠ l.model → cnpModel u n = cnpModel s n) ∧ { u with cnp := s.cnp } = s) ∧
  (∀ s l flips, awake s → s.cnp.load = some l → l.step = 4 → (cnpModel s l.model).state = 3 → s.cnp.boot = [] → copyOk l flips = false →
    ∃ u, exec (.loadCopyDone flips) s = .next (settle s (raise uCNP 9 .corrected { unit := l.model, item := 6, w1 := w32 5 } u)) ∧ u.cnp.load = none ∧ u.cnp.result = 6 ∧
      (cnpModel u l.model).image = none ∧ (cnpModel u l.model).state = 2 ∧ { u with cnp := s.cnp } = s) ∧
  (∀ s, awake s → dramTrained s = true → procRunning s .recd = true → s.cnp.load.isSome = true →
    ∃ u, exec .canopyBootLoad s = .next (settle s u) ∧ { u with cnp.boot := s.cnp.boot } = s ∧
      (∀ i, i ∈ u.cnp.boot ↔ i ∈ imagesInForce s ∧ imageSigned s i = true ∧ ∃ d, descOf s i.model = some d ∧ d.flags % 2 = 1 ∧ (cnpModel s i.model).state = 2)) ∧
  (∀ s i r d, awake s → dramTrained s = true → procRunning s .recd = true → s.cnp.load = none →
    (imagesInForce s).filter (fun i => imageSigned s i && (match descOf s i.model with | some d => d.flags % 2 == 1 && (cnpModel s i.model).state == 2 | none => false)) = i :: r →
    loadRefusal s i.model = none → descOf s i.model = some d → imgFormatOk i i.total = true → imgShapeOk d i = true → layersOk i = true →
    exec .canopyBootLoad s = .next (settle s { s with cnp.boot := r, cnp.load := some ⟨i.model, i, imageDigest i, 2⟩, cnp.result := 0, cnp.step := 2, cnp.resModel := i.model }))

/-- A segment that ends well counts its tile's steps and time and leaves one segment less of its layer on that tile, and the last one of the last layer completes the job; an uncorrectable error in resident memory halts the tile, one in a streamed weight ends the job; twin sums that do not
agree are a twin failure of the layer (no injection being armed). A job past its deadline is dropped as missed, and an uncorrectable error in a model's state drops its job and, where nothing waits for the job's end, starts it anew in WARMUP. Completions stated: segmentDone, deadlineMiss, cnpStateEcc. -/
def Obligations.CanopyJobs : Prop :=
  (∀ s (t : Fin 16) (r : SegEnd) m j d i, awake s → (cnpTile s t.val).running = some m → (cnpModel s m).job = some j → descOf s m = some d → (cnpModel s m).image = some i →
    r.fault = none → r.corrected = false → isCritical d = false → 1 < tget 0 j.left t.val →
    noInjection (cnpUnit (t.val / 4)) s → noInjection uCNP s →
    ∃ u, exec (.segmentDone t r) s = .next (settle s (dispatchTiles u)) ∧ (cnpTile u t.val).steps = (cnpTile s t.val).steps + r.steps ∧ (cnpTile u t.val).running = none ∧
      (cnpModel u m).job = some { j with left := tput j.left t.val (tget 0 j.left t.val - 1) } ∧ (∀ n, n ≠ m → cnpModel u n = cnpModel s n) ∧
      (∀ n, n ≠ t.val → cnpTile u n = cnpTile s n) ∧ { u with cnp := s.cnp } = s) ∧
  (∀ s (t : Fin 16) (r : SegEnd) m j d i, awake s → (cnpTile s t.val).running = some m → (cnpModel s m).job = some j → descOf s m = some d → (cnpModel s m).image = some i →
    r.fault = none → r.corrected = false → isCritical d = false → (tput j.left t.val (tget 0 j.left t.val - 1)).all (fun e => e.2 == 0) = true → i.layers[j.layer + 1]? = none →
    noInjection (cnpUnit (t.val / 4)) s → noInjection uCNP s →
    ∃ u, exec (.segmentDone t r) s = .next (settle s (dispatchTiles (jobComplete m u))) ∧ (cnpTile u t.val).steps = (cnpTile s t.val).steps + r.steps ∧
      (cnpModel u m).job = some { j with left := tput j.left t.val (tget 0 j.left t.val - 1) } ∧ { u with cnp := s.cnp } = s) ∧
  (∀ s (t : Fin 16) (r : SegEnd) m, awake s → (cnpTile s t.val).running = some m → r.corrected = false → r.fault = some .resident →
    noInjection (cnpUnit (t.val / 4)) s → noInjection uCNP s →
    ∃ u, exec (.segmentDone t r) s = .next (settle s (dispatchTiles (haltCt t.val 7 false u))) ∧ (cnpTile u t.val).running = none ∧ (cnpTile u t.val).uncorrected = satInc 65535 (cnpTile s t.val).uncorrected ∧
      { u with cnp.tile := s.cnp.tile } = s) ∧
  (∀ s (t : Fin 16) (r : SegEnd) m, awake s → (cnpTile s t.val).running = some m → r.corrected = false → r.fault = some .streamed →
    noInjection (cnpUnit (t.val / 4)) s → noInjection uCNP s →
    ∃ u, exec (.segmentDone t r) s = .next (settle s (dispatchTiles (raise (cnpUnit (t.val / 4)) 8 .contained { unit := t.val, w1 := w32 m } (dropJob m 5 u)))) ∧
      (cnpTile u t.val).running = none ∧ { u with cnp.tile := s.cnp.tile } = s) ∧
  (∀ s (t : Fin 16) (r : SegEnd) m j d i l, awake s → (cnpTile s t.val).running = some m → (cnpModel s m).job = some j → descOf s m = some d → (cnpModel s m).image = some i →
    i.layers[j.layer]? = some l → r.fault = none → r.corrected = false → isCritical d = true → l.flags % 2 = 1 → tget 0 j.left t.val = 1 →
    (twinSums (runOf d i (cnpModel s m)) (histVals s i (cnpModel s m).history) (snapVals s i j.snap) j.layer r.flips).all (twinOk l.afmt) = false →
    noInjection (cnpUnit (t.val / 4)) s → noInjection uCNP s →
    ∃ u, exec (.segmentDone t r) s = .next (settle s (dispatchTiles (twinFail d m t.val j.layer false u))) ∧ (cnpTile u t.val).running = none ∧ { u with cnp := s.cnp } = s) ∧
  (∀ s (m : Fin 32) j, awake s → (cnpModel s m.val).job = some j → j.deadline ≤ s.now →
    exec (.deadlineMiss m) s = .next (settle s (countMiss m.val (raise uCNP 0 .corrected { unit := m.val, w1 := lo32 j.release, w2 := hi32 j.release }
      (dropJob m.val 2 (updModel m.val (fun x => { x with misses := satInc 4294967295 x.misses }) s)))))) ∧
  (∀ s (m : Fin 32), awake s → (cnpModel s m.val).state = 4 ∨ (cnpModel s m.val).state = 5 → (cnpModel s m.val).loadReq = false → (cnpModel s m.val).suspendReq = false →
    exec (.cnpStateEcc m) s = .next (settle s (dispatchTiles (enterWarmup m.val (raise uCNP 6 .contained { unit := m.val } (dropJob m.val 5 s))))))

/-- The custody commands act for CUS and SEC alone. LOAD and PLAN_ONLY of active slots with good addresses enter the MANIFEST phase with the mask and the flag; a load in progress makes them BUSY. CANCEL aborts a load with result 0x10, and
RESUME streams on from PAUSED. That no job exists at PLAN_ONLY is the model's premise (log 102). Completions stated: cusLoad, cusPlanOnly, cusCancel, cusResume. -/
def Obligations.CustodyCommands : Prop :=
  (∀ s path tag mask allow, awake s → path ≠ .proc .cus → path ≠ .proc .sec →
    (∃ w, exec (.cusLoad path tag mask allow) s = .next (settle s (raise uCUS 10 .contained { path := pathCode path, w1 := w32 0x140010, w2 := w } s))) ∧
    (∃ w, exec (.cusPlanOnly path tag mask allow) s = .next (settle s (raise uCUS 10 .contained { path := pathCode path, w1 := w32 0x140010, w2 := w } s))) ∧
    (∃ w, exec (.cusCancel path tag) s = .next (settle s (raise uCUS 10 .contained { path := pathCode path, w1 := w32 0x140010, w2 := w } s))) ∧
    (∃ w, exec (.cusResume path tag) s = .next (settle s (raise uCUS 10 .contained { path := pathCode path, w1 := w32 0x140010, w2 := w } s)))) ∧
  (∀ s path tag mask allow, awake s → path = .proc .cus ∨ path = .proc .sec → (tag : Byte).toNat ≠ lastTag s 0x140010 → 1 ≤ s.cus.state → s.cus.state ≤ 5 →
    ∃ u, exec (.cusLoad path tag mask allow) s = .next (settle s u) ∧ u.cus.resTag = tag.toNat ∧ u.cus.result = 1 ∧ u.cus.state = s.cus.state ∧
      { u with regs := s.regs, cus := s.cus } = s) ∧
  (∀ s path tag (mask : Byte) allow, awake s → path = .proc .cus ∨ path = .proc .sec → (tag : Byte).toNat ≠ lastTag s 0x140010 → s.cus.state = 0 → s.cus.restart = 0 → mask ≠ 0 →
    (∀ k, k < 8 → mask.toNat.testBit k = true → portTrained s (dnPort k) = true) →
    (regWord s 0x140020).toNat ≠ 0 → 1 ≤ (regWord s 0x140034).toNat → (regWord s 0x140034).toNat ≤ 65536 →
    (∃ u, exec (.cusLoad path tag mask allow) s = .next (settle s u) ∧ u.cus.state = 1 ∧ u.cus.mask = mask.toNat ∧ u.cus.allow = allow ∧ u.cus.planOnly = false ∧ u.cus.job = false ∧
      u.cus.manLen = (regWord s 0x140020).toNat ∧ u.cus.sgCount = (regWord s 0x140034).toNat ∧ u.cus.resTag = tag.toNat) ∧
    (s.cus.job = false → ∃ u, exec (.cusPlanOnly path tag mask allow) s = .next (settle s u) ∧ u.cus.state = 1 ∧ u.cus.mask = mask.toNat ∧ u.cus.allow = allow ∧ u.cus.planOnly = true ∧ u.cus.job = false ∧
      u.cus.resTag = tag.toNat)) ∧
  (∀ s path tag, awake s → path = .proc .cus ∨ path = .proc .sec → (tag : Byte).toNat ≠ lastTag s 0x140010 → 1 ≤ s.cus.state → s.cus.state ≤ 5 →
    ∃ u, exec (.cusCancel path tag) s = .next (settle s u) ∧ u.cus.state = 9 ∧ u.cus.result = 0x10 ∧ u.cus.resTag = tag.toNat) ∧
  (∀ s path tag, awake s → path = .proc .cus ∨ path = .proc .sec → (tag : Byte).toNat ≠ lastTag s 0x140010 → s.cus.state = 5 → allCleared s = false →
    ∃ u, exec (.cusResume path tag) s = .next (settle s u) ∧ u.cus.state = 4 ∧ u.cus.result = 0 ∧ u.cus.resTag = tag.toNat)

/-- In MANIFEST, a fetch that fails is refused with code 8 and a manifest with the code of the first check it fails; a good one is taken, and its tree is fetched unless it is retained. In TREE, the digests computed from the leaf list give the root: a tree of the manifest's root leads to PLAN
and another is refused with code 9. In PLAN, each answer is noted, the last one plans, and 10 ms without an answer refuse with code 0x0B. Completions stated: manifestVerified, treeDone, capAnswer, capQueryTimeout. -/
def Obligations.CustodyPhases : Prop :=
  (∀ s m sg, awake s → s.cus.state = 1 → exec (.manifestVerified m false sg) s = .next (settle s (refuseLoad 8 0xF s))) ∧
  (∀ s m sg r, awake s → s.cus.state = 1 → manifestCheck s m = some r → s.cus.resuming = none →
    exec (.manifestVerified m true sg) s = .next (settle s (refuseLoad r 0xF s))) ∧
  (∀ s m sg, awake s → s.cus.state = 1 → manifestCheck s m = none → s.cus.resuming = none → sgOk s m sg = true → s.cus.tree = none →
    exec (.manifestVerified m true sg) s = .next (settle s (setLoad 2 { s with cus.man := some m, cus.manId := lo32 (manDigest m), cus.sg := sg, cus.tree := none }))) ∧
  (∀ s m sg t, awake s → s.cus.state = 1 → manifestCheck s m = none → s.cus.resuming = none → sgOk s m sg = true → s.cus.tree = some t → t.root = m.root →
    exec (.manifestVerified m true sg) s = .next (settle s (enterPlan { s with cus.man := some m, cus.manId := lo32 (manDigest m), cus.sg := sg }))) ∧
  (∀ s m l ls, awake s → s.cus.state = 2 → s.cus.man = some m → (l :: ls).length = m.leafCount → merkleRoot (l :: ls) = m.root →
    exec (.treeDone l ls) s = .next (settle s (enterPlan { s with cus.tree := some ⟨m.root, l :: ls⟩ }))) ∧
  (∀ s m l ls, awake s → s.cus.state = 2 → s.cus.man = some m → merkleRoot (l :: ls) ≠ m.root ∨ (l :: ls).length ≠ m.leafCount → s.cus.resuming = none →
    exec (.treeDone l ls) s = .next (settle s (refuseLoad 9 0xF s))) ∧
  (∀ s (k : Fin 8) (b : BitVec 64) n, awake s → s.cus.state = 3 → (tfind s.cus.queried k.val).isSome = true → n < 8 → s.cus.mask.testBit n = true → n ≠ k.val → tfind s.cus.caps n = none →
    exec (.capAnswer k b) s = .next (settle s { s with cus.caps := tput s.cus.caps k.val b.toNat })) ∧
  (∀ s (k : Fin 8) (b : BitVec 64), awake s → s.cus.state = 3 → (tfind s.cus.queried k.val).isSome = true →
    (∀ n, n < 8 → s.cus.mask.testBit n = true → n ≠ k.val → (tfind s.cus.caps n).isSome = true) →
    exec (.capAnswer k b) s = .next (settle s (planDone { s with cus.caps := tput s.cus.caps k.val b.toNat }))) ∧
  (∀ s (k : Fin 8) t, awake s → tfind s.cus.queried k.val = some t → s.cus.state = 3 → tfind s.cus.caps k.val = none → t + 10000000 ≤ s.now →
    exec (.capQueryTimeout k) s = .next (settle s (refuseLoad 0x0B k.val s)))

/-- A buffer goes to the cursor with most bytes left, while fewer than 128 leaves are in flight. A leaf whose hash is not the tree's is a failed attempt; one that matches waits for its clear at the slot, or is remnant content. An acknowledgement in time clears the
leaf; a clear that is not acknowledged is sent again twice and then fails the load. After a chip reset the recorded load starts again. A scrub withdraws the remnant leaves whose content no longer has its digest. Completions stated: leafFetch, leafHashDone, clearAck, clearAckTimeout, loadResumeAfterReset, remnantScrub. -/
def Obligations.CustodyStreaming : Prop :=
  (∀ s, awake s → 128 ≤ inflight s → exec .leafFetch s = .next (settle s s)) ∧
  (∀ s l, awake s → inflight s < 128 → s.cus.state ≠ 4 → s.cus.job = true → s.cus.restart = 0 → (cursor s 8).head ≠ [] → (cursor s 8).infl.length < 24 → cursorPick s 8 = some l →
    exec .leafFetch s = .next (settle s (fetchLeaf 8 l s))) ∧
  (∀ s c l, awake s → inflight s < 128 → s.cus.state = 4 → c < 9 → (cursor s c).infl.length < 24 → cursorPick s c = some l →
    (∀ b x, b < 9 → (cursor s b).infl.length < 24 → cursorPick s b = some x → cursorBytes s b < cursorBytes s c ∨ (cursorBytes s b = cursorBytes s c ∧ c ≤ b)) →
    exec .leafFetch s = .next (settle s (fetchLeaf c l s))) ∧
  (∀ s c l (leaf : BitVec 24) (bytes : List Byte) t, awake s → leaf.toNat = l → c < 9 → tfind (cursor s c).infl l = some true → c = 8 ∨ writesAcked s (dnPort c) l = true →
    (∀ b, b < c → tfind (cursor s b).infl l ≠ some true) → s.cus.tree = some t → t.leaves[l]? ≠ some (merkleLeaf l bytes) →
    exec (.leafHashDone leaf bytes) s = .next (settle s (leafFail c l s))) ∧
  (∀ s c l (leaf : BitVec 24) (bytes : List Byte) t, awake s → leaf.toNat = l → c < 8 → tfind (cursor s c).infl l = some true → writesAcked s (dnPort c) l = true →
    (∀ b, b < c → tfind (cursor s b).infl l ≠ some true) → s.cus.tree = some t → t.leaves[l]? = some (merkleLeaf l bytes) →
    ∃ u, exec (.leafHashDone leaf bytes) s = .next (settle s u) ∧ tfind (cursor u c).infl l = none ∧ tfind (cursor u c).waits l = some (s.now, 0)) ∧
  (∀ s l (leaf : BitVec 24) (bytes : List Byte) t, awake s → leaf.toNat = l → tfind (cursor s 8).infl l = some true →
    (∀ b, b < 8 → tfind (cursor s b).infl l ≠ some true) → s.cus.tree = some t → t.leaves[l]? = some (merkleLeaf l bytes) →
    ∃ u, exec (.leafHashDone leaf bytes) s = .next (settle s (refetchDone l u)) ∧ tfind (cursor u 8).infl l = none ∧ tget [] u.cus.remData l = bytes.take (leafBytes s l)) ∧
  (∀ s (k : Fin 8) (leaf : BitVec 24), awake s → (tfind (cursor s k.val).waits leaf.toNat).isSome = true → portActive s (dnPort k.val) = true →
    exec (.clearAck k leaf) s = .next (settle s (leafCleared k.val leaf.toNat (updCursor k.val (fun x => { x with waits := terase x.waits leaf.toNat }) s)))) ∧
  (∀ s (k : Fin 8) (leaf : BitVec 24) t n, awake s → tfind (cursor s k.val).waits leaf.toNat = some (t, n) → t + 10000000 ≤ s.now → s.cus.state = 4 → n < 2 →
    ∃ u, exec (.clearAckTimeout k leaf) s = .next (settle s (raise uCUS 3 .corrected { unit := k.val, w1 := w32 leaf.toNat } u)) ∧
      tfind (cursor u k.val).waits leaf.toNat = some (s.now, n + 1) ∧ u.cus.state = s.cus.state) ∧
  (∀ s (k : Fin 8) (leaf : BitVec 24) t n, awake s → tfind (cursor s k.val).waits leaf.toNat = some (t, n) → t + 10000000 ≤ s.now → s.cus.state = 4 → 2 ≤ n →
    exec (.clearAckTimeout k leaf) s = .next (settle s (failLoad 0x0F k.val 1 s))) ∧
  (∀ s r, awake s → s.und.resume = some r → s.und.resumeC = some r → s.cus.state = 0 → procRunning s .cus = true → r.state = 4 ∨ r.state = 5 → noInjection uCUS s →
    ∃ u, exec .loadResumeAfterReset s = .next (settle s u) ∧ u.cus.state = 1 ∧ u.cus.mask = r.mask ∧ u.cus.resuming = some r) ∧
  (∀ s r, awake s → s.und.resume = some r → s.und.resumeC ≠ some r → s.cus.state = 0 → procRunning s .cus = true → noInjection uCUS s →
    exec .loadResumeAfterReset s = .next (settle s (raise uCUS 9 .corrected {} { s with und.resume := none, und.resumeC := none }))) ∧
  (∀ s flips u, awake s → s.cus.job = true → s.cus.scrubAt + fld (liveWord s 0x140080) 7 0 * 3600 * 1000000000 ≤ s.now → u = decayRemnant flips s →
    exec (.remnantScrub flips) s = .next (settle s (forEach (scrubBad u) withdrawLeaf { u with cus.scrubAt := s.now, cus.scrubLeaf := (s.cus.remCleared.getLast?).getD 0 })))

/-- A slot's JOB_FAULT is reason 2; the restart commands act for CUS and SEC alone: RESTART begins a restart, HOLD holds a job, RELEASE ends it and lets JOB_ABORT_N go, CONTINUE goes on from HELD. ABORT_HOLD, QUIESCE, READY_WAIT and the
retries of a power command move on by the rule while CUS runs. Completions stated: jobFault, cusRestart, cusHold, cusRelease, cusContinue, abortHoldExpiry, quiesceDone, readyWaitDone, readyWaitTimeout, pwrRetry. -/
def Obligations.JobRestart : Prop :=
  (∀ s (k : Fin 8) code, awake s → portActive s (dnPort k.val) = true → (jobMask s).contains k.val = true →
    exec (.jobFault k code) s = .next (settle s (jobFaultReason 2 [k.val] s))) ∧
  (∀ s path tag, awake s → path ≠ .proc .cus → path ≠ .proc .sec →
    (∃ w, exec (.cusRestart path tag) s = .next (settle s (raise uCUS 10 .contained { path := pathCode path, w1 := w32 0x140090, w2 := w } s))) ∧
    (∃ w, exec (.cusHold path tag) s = .next (settle s (raise uCUS 10 .contained { path := pathCode path, w1 := w32 0x140090, w2 := w } s))) ∧
    (∃ w, exec (.cusRelease path tag) s = .next (settle s (raise uCUS 10 .contained { path := pathCode path, w1 := w32 0x140090, w2 := w } s))) ∧
    (∃ w, exec (.cusContinue path tag) s = .next (settle s (raise uCUS 10 .contained { path := pathCode path, w1 := w32 0x140090, w2 := w } s)))) ∧
  (∀ s path tag, awake s → path = .proc .cus ∨ path = .proc .sec → (tag : Byte).toNat ≠ lastTag s 0x140090 → s.cus.job = true → s.cus.restart = 0 →
    ∃ u, exec (.cusRestart path tag) s = .next (settle s (jobFaultReason 1 [] u)) ∧ { u with regs := s.regs } = s) ∧
  (∀ s path tag, awake s → path = .proc .cus ∨ path = .proc .sec → (tag : Byte).toNat ≠ lastTag s 0x140090 → s.cus.job = true →
    ∃ u, exec (.cusHold path tag) s = .next (settle s u) ∧ u.cus.restart = 7 ∧ u.cus.abort = true) ∧
  (∀ s path tag, awake s → path = .proc .cus ∨ path = .proc .sec → (tag : Byte).toNat ≠ lastTag s 0x140090 → s.cus.restart = 7 →
    (∃ u, exec (.cusRelease path tag) s = .next (settle s u) ∧ u.cus.restart = 0 ∧ u.cus.job = false ∧ u.cus.abort = false ∧ u.cus.remCleared = [] ∧ u.cus.state = s.cus.state) ∧
    (∃ u, exec (.cusContinue path tag) s = .next (settle s u) ∧ u.cus.restart = 1 ∧ u.cus.since = s.now ∧ { u with regs := s.regs, cus := s.cus, und.cusJob := s.und.cusJob } = s)) ∧
  (∀ s, awake s → procRunning s .cus = true → s.cus.restart = 1 → s.cus.since + abortHoldNs s ≤ s.now →
    exec .abortHoldExpiry s = .next (settle s { s with cus.restart := 2, cus.since := s.now })) ∧
  (∀ s, awake s → procRunning s .cus = true → s.cus.restart = 2 → cusPolicy s = 0 →
    ∃ u, exec .quiesceDone s = .next (settle s u) ∧ u.cus.restart = 5 ∧ u.cus.since = s.now ∧ u.cus.caps = []) ∧
  (∀ s, awake s → procRunning s .cus = true → s.cus.restart = 2 → cusPolicy s ≠ 0 → s.cus.pwrRetry = none → (∀ k, k < 8 → slotState s k = 1) →
    ∃ u, exec .quiesceDone s = .next (settle s u) ∧ u.cus.restart = 4 ∧ u.cus.since = s.now ∧ u.cus.raised = []) ∧
  (∀ s, awake s → procRunning s .cus = true → s.cus.restart = 5 → jobReady s = true →
    ∃ u, exec .readyWaitDone s = .next (settle s u) ∧ u.cus.restart = 6 ∧ u.cus.abort = false ∧ u.cus.state = 1 ∧ u.cus.reload = true ∧ u.cus.mask = s.cus.jobSlots) ∧
  (∀ s, awake s → procRunning s .cus = true → s.cus.restart = 5 → s.cus.since + readyMin s * 60000000000 ≤ s.now →
    exec .readyWaitTimeout s = .next (settle s (raise uCUS 5 .contained { item := 0 } { s with cus.restart := 7 }))) ∧
  (∀ s t, awake s → procRunning s .cus = true → s.cus.pwrRetry = some t → t + 10000000 ≤ s.now → s.cus.restart ≠ 3 →
    exec .pwrRetry s = .next (settle s (restartPoll { s with cus.pwrRetry := none }))) ∧
  (∀ s t, awake s → procRunning s .cus = true → s.cus.pwrRetry = some t → t + 10000000 ≤ s.now → s.cus.restart = 3 → s.cus.cycled = [] →
    exec .pwrRetry s = .next (settle s { s with cus.pwrRetry := none, cus.restart := 4, cus.since := s.now }))

/-- The lanes a port chooses are lanes usable at both ends, its width is their number, and no width is chosen only when no lane set of R301 is usable; the transmitter stops before its replay buffer would be overwritten, whatever waits. -/
def Obligations.LinkWidthsAndReplay : Prop :=
  (∀ p u i, (chooseWidth p u).2.testBit i = true → u.testBit i = true) ∧
  (∀ p u, p ≤ 10 → (chooseWidth p u).1 = ((List.range 16).filter (fun i => (chooseWidth p u).2.testBit i)).length) ∧
  (∀ p u, p ≠ 0 → ((chooseWidth p u).1 = 0 ↔ ∀ i, i < 4 → u.testBit i = false)) ∧
  (∀ dn d now fuel q a, q.buf.length ≤ d → (pump dn d now fuel (q, a)).1.buf.length ≤ d) ∧
  (∀ dn d now fuel q a, ∃ new, (pump dn d now fuel (q, a)).1.buf = q.buf ++ new)

/-- RETRAIN, FULL_RETRAIN, DISABLE and ENABLE act for HST and SEC alone, once a TAG. A port goes from DETECT to EQUALISE, LOCK, CONFIG and ACTIVE by the events of the rule, to DOWN when it fails or takes more than 50 ms, and from there back to
DETECT after a second; it recovers when codewords lose lock, and enters and leaves LOW_POWER with its width. Completions stated: portRetrain, portFullRetrain, portDisable, portEnable, peerDetect, equaliseDone, fecLockHeld, configRecord, trainTimeout, downRetry, codewordLockLoss,
lowPowerEnter, lowPowerExit, recoveryLanesChosen. -/
def Obligations.PortTraining : Prop :=
  (∀ s path (p : Fin 11) tag, awake s → path = .proc .hst ∨ path = .proc .sec → (tag : Byte).toNat ≠ lastTag s (0x161004 + 0x100 * p.val) →
    (∃ u, exec (.portRetrain path p tag) s = .next (settle s (enterRecovery p.val false u)) ∧ { u with regs := s.regs } = s) ∧
    (∃ u, exec (.portFullRetrain path p tag) s = .next (settle s (enterRecovery p.val true u)) ∧ { u with regs := s.regs } = s) ∧
    ((gclPort s p.val).state ≠ 0 → (gclPort s p.val).state ≠ 8 →
      ∃ u, exec (.portDisable path p tag) s = .next (settle s (portLost p.val 0 u)) ∧ { u with regs := s.regs } = s) ∧
    ((gclPort s p.val).state = 0 → ∃ u, exec (.portEnable path p tag) s = .next (settle s (enterDetect p.val u)) ∧ { u with regs := s.regs } = s)) ∧
  (∀ s path (p : Fin 11) tag, awake s → path ≠ .proc .hst → path ≠ .proc .sec →
    (∃ w, exec (.portRetrain path p tag) s = .next (settle s (raise uGCL 12 .contained { path := pathCode path, w1 := w32 (0x161004 + 0x100 * p.val), w2 := w } s))) ∧
    (∃ w, exec (.portFullRetrain path p tag) s = .next (settle s (raise uGCL 12 .contained { path := pathCode path, w1 := w32 (0x161004 + 0x100 * p.val), w2 := w } s))) ∧
    (∃ w, exec (.portEnable path p tag) s = .next (settle s (raise uGCL 12 .contained { path := pathCode path, w1 := w32 (0x161004 + 0x100 * p.val), w2 := w } s))) ∧
    (∃ w, exec (.portDisable path p tag) s = .next (settle s (raise uGCL 12 .contained { path := pathCode path, w1 := w32 (0x161004 + 0x100 * p.val), w2 := w } s)))) ∧
  (∀ s (p : Fin 11), awake s → (gclPort s p.val).state = 1 →
    exec (.peerDetect p) s = .next (settle s (updPort p.val (fun q => { q with state := 2, at_ := s.now }) s))) ∧
  (∀ s (p : Fin 11) (own peer : BitVec 16) w m, awake s → (gclPort s p.val).state = 2 → (gclPort s p.val).at_ + 1000000 ≤ s.now → (gclPort s p.val).testAll = true →
    chooseWidth p.val (own.toNat &&& peer.toNat &&& (2 ^ fullLanes p.val - 1)) = (w, m) → w ≠ 0 →
    ∃ u, exec (.equaliseDone p own peer) s = .next (settle s u) ∧ (gclPort u p.val).state = 3 ∧ (gclPort u p.val).width = w ∧ (gclPort u p.val).lanes = m ∧
      (∀ n, n ≠ p.val → gclPort u n = gclPort s n) ∧ { u with gcl := s.gcl } = s) ∧
  (∀ s (p : Fin 11), awake s → (gclPort s p.val).state = 3 → (gclPort s p.val).at_ + 100000 ≤ s.now →
    exec (.fecLockHeld p) s = .next (settle s (updPort p.val (fun q => { q with state := 4, at_ := s.now }) s))) ∧
  (∀ s (p : Fin 11) (r : ConfigRec), awake s → (gclPort s p.val).state = 4 → r.version / 256 = 1 → r.role = wantRole p.val → r.width = (gclPort s p.val).width →
    exec (.configRecord p r) s = .next (settle s (portUp p.val r s))) ∧
  (∀ s (p : Fin 11) (r : ConfigRec), awake s → (gclPort s p.val).state = 4 → r.version / 256 ≠ 1 ∨ r.role ≠ wantRole p.val →
    exec (.configRecord p r) s = .next (settle s (updPort p.val (fun q => { q with peerRole := r.role, peerUnit := r.unit }) (portDown p.val s)))) ∧
  (∀ s (p : Fin 11), awake s → (gclPort s p.val).state ∈ [1, 2, 3, 4, 6] → (gclPort s p.val).trainAt + 50000000 ≤ s.now →
    exec (.trainTimeout p) s = .next (settle s (portDown p.val s))) ∧
  (∀ s (p : Fin 11), awake s → (gclPort s p.val).state = 8 → (gclPort s p.val).at_ + 1000000000 ≤ s.now →
    exec (.downRetry p) s = .next (settle s (enterDetect p.val s))) ∧
  (∀ s (p : Fin 11), awake s → (gclPort s p.val).state = 5 →
    exec (.codewordLockLoss p) s = .next (settle s (updPort p.val (fun q => { q with
      state := 6, at_ := s.now, trainAt := s.now, recovering := true, testAll := false, wasWidth := q.width, recoveries := satInc 65535 q.recoveries, badTimes := [] }) s))) ∧
  (∀ s (p : Fin 11), awake s → (gclPort s p.val).state = 5 → (gclPort s p.val).queue = [] →
    exec (.lowPowerEnter p) s = .next (settle s (updPort p.val (fun q => { q with state := 7, at_ := s.now }) s))) ∧
  (∀ s (p : Fin 11), awake s → (gclPort s p.val).state = 7 →
    exec (.lowPowerExit p) s = .next (settle s (pumpPort p.val (updPort p.val (fun q => { q with state := 5, at_ := s.now }) s)))) ∧
  (∀ s (p : Fin 11) own peer, awake s → (gclPort s p.val).state = 6 →
    exec (.recoveryLanesChosen p own peer) s = .next (settle s (lanesChosen p.val own.toNat peer.toNat s)))

/-- A flit that fails its check or comes out of order is discarded and asks for a replay; a good control flit moves credits and acknowledgements, and a good SLOT flit in order delivers its messages. Reads, writes and register accesses are answered by R315: a write of memory is always refused, an
RD_UC of a length that is not allowed is refused with status 3. Completions end their request; snoops are answered, resent each 10 ms and released; the time messages are stamped and answered.
Completions stated: flitReceive, rdS, rdUc, csrRd, csrWr, wr, completionReceived, completionTimeout, snpInv, snpRspI, snoopResend, timeSync, timeReq, timeRsp. -/
def Obligations.LinkTraffic : Prop :=
  (∀ s (p : Fin 11) (f : Flit), awake s → (gclPort s p.val).state = 5 → f.corr = 0 → f.uncorr = 0 → (gclPort s p.val).badTimes.length ≤ 16 → noInjection uGCL s → f.crcOk = false →
    exec (.flitReceive p f) s = .next (settle s (raise uGCL 2 .corrected { unit := p.val } (discardFlit p.val (updPort p.val (fun q => { q with
      crcErr := satInc 4294967295 q.crcErr }) s))))) ∧
  (∀ s (p : Fin 11) (f : Flit), awake s → (gclPort s p.val).state = 5 → f.corr = 0 → f.uncorr = 0 → (gclPort s p.val).badTimes.length ≤ 16 → noInjection uGCL s → f.crcOk = true → f.nak = false →
    f.ackValid = false → (∀ x, x ∈ (gclPort s p.val).buf → x.replays < 4) → f.crClass = 7 → 2 ≤ f.typ →
    exec (.flitReceive p f) s = .next (settle s (pumpPort p.val s))) ∧
  (∀ s (p : Fin 11) (f : Flit), awake s → (gclPort s p.val).state = 5 → f.corr = 0 → f.uncorr = 0 → (gclPort s p.val).badTimes.length ≤ 16 → noInjection uGCL s → f.crcOk = true → f.nak = false →
    f.ackValid = false → (∀ x, x ∈ (gclPort s p.val).buf → x.replays < 4) → f.crClass = 7 → f.typ ≤ 1 → f.fseq ≠ (gclPort s p.val).rxNext →
    exec (.flitReceive p f) s = .next (settle s (pumpPort p.val (discardFlit p.val s)))) ∧
  (∀ s (p : Fin 11) (f : Flit), awake s → (gclPort s p.val).state = 5 → f.corr = 0 → f.uncorr = 0 → (gclPort s p.val).badTimes.length ≤ 16 → noInjection uGCL s → f.crcOk = true → f.nak = false →
    f.ackValid = false → f.crClass = 7 → f.typ = 0 → f.fseq = (gclPort s p.val).rxNext →
    exec (.flitReceive p f) s = .next (settle s (pumpPort p.val (forEach f.msgs (takeRxMsg p.val) (updPort p.val (fun q => { q with
      discarding := false, rxNext := (q.rxNext + 1) % 4096 }) s))))) ∧
  (∀ s (p : Fin 11) tag a, awake s → (gclPort s p.val).state = 5 →
    exec (.rdS p tag a) s = .next (settle s (answerRead p.val tag.toNat (a.toNat / 64 * 64) 64 true s))) ∧
  (∀ s (p : Fin 11) tag a (len : BitVec 13), awake s → (gclPort s p.val).state = 5 →
    exec (.rdUc p tag a len) s = .next (settle s (if (∃ k, k ≤ 6 ∧ len.toNat = 64 * 2 ^ k) ∧ a.toNat % len.toNat = 0 then answerRead p.val tag.toNat a.toNat len.toNat false s
      else refuseAccess p.val tag.toNat 3 a.toNat s))) ∧
  (∀ s (p : Fin 11) tag a path, awake s → (gclPort s p.val).state = 5 → csrPath s p.val = some path → a.toNat < 0x1000000 → csrStatus a.toNat = 0 →
    exec (.csrRd p tag a) s = .next (settle s (gclSend p.val (.cmpData tag.toNat 0 false [(readAccess path a.toNat s).1]) (readAccess path a.toNat s).2))) ∧
  (∀ s (p : Fin 11) tag a w path, awake s → (gclPort s p.val).state = 5 → csrPath s p.val = some path → a.toNat < 0x1000000 →
    exec (.csrWr p tag a w) s = .next (settle s (gclSend p.val (.cmp tag.toNat (csrStatus a.toNat)) (writeAccess path a.toNat w s)))) ∧
  (∀ s (p : Fin 11) tag a, awake s → (gclPort s p.val).state = 5 → a.toNat < 0x800000000000 ∨ regionOf s (a.toNat - 0x800000000000) ≠ 0 →
    exec (.wr p tag a) s = .next (settle s (refuseAccess p.val tag.toNat 3 a.toNat s))) ∧
  (∀ s (p : Fin 11) (tag : BitVec 13) r c l i, awake s → (gclPort s p.val).state = 5 → (gclPort s p.val).reqs.find? (fun r => r.tag == tag.toNat) = some r → r.owner = .leaf c l i →
    exec (.completionReceived p tag 0 false) s = .next (settle s (leafArrived c l i (dropReq p.val tag.toNat s))) ∧
    exec (.completionReceived p tag 0 true) s = .next (settle s (leafFail c l (dropReq p.val tag.toNat s)))) ∧
  (∀ s (p : Fin 11) (tag : BitVec 13) r c l i, awake s → (gclPort s p.val).reqs.find? (fun r => r.tag == tag.toNat) = some r → r.sent + 100000000 ≤ s.now → r.owner = .leaf c l i →
    exec (.completionTimeout p tag) s = .next (settle s (leafFail c l (raise uGCL 9 .contained { unit := p.val, w1 := w32 tag.toNat } (dropReq p.val tag.toNat s))))) ∧
  (∀ s (pg : BitVec 36), awake s → (gclPort s 0).state = 5 → exec (.snpInv pg) s = .next (settle s (gclSend 0 (.snpRsp pg.toNat) s))) ∧
  (∀ s (pg : BitVec 36) n, awake s → (gclPort s 0).state = 5 → s.gcl.snoops.find? (fun n => n.page == pg.toNat) = some n →
    exec (.snpRspI pg) s = .next (settle s (forEach n.held applyChange { s with
      gcl.snoops := s.gcl.snoops.filter (fun x => x.page != pg.toNat), gcl.dirS := sdel s.gcl.dirS pg.toNat }))) ∧
  (∀ s (pg : BitVec 36) n, awake s → s.gcl.snoops.find? (fun n => n.page == pg.toNat) = some n → n.sent + 10000000 ≤ s.now → n.sends < 5 →
    ∃ u, exec (.snoopResend pg) s = .next (settle s (gclSend 0 (.snpInv pg.toNat) u)) ∧ u.gcl.sent = satInc 65535 s.gcl.sent ∧ u.gcl.timeouts = satInc 65535 s.gcl.timeouts ∧
      u.gcl.dirS = s.gcl.dirS ∧ { u with gcl := s.gcl } = s) ∧
  (∀ s (p : Fin 11) t1, awake s → (gclPort s p.val).state = 5 → followsTime s p.val = true →
    exec (.timeSync p t1) s = .next (settle s (gclSend p.val .timeReq (updPort p.val (fun q => { q with t1 := t1.toNat, t2 := stamp s p.val, t3 := stamp s p.val }) s)))) ∧
  (∀ s (p : Fin 11), awake s → (gclPort s p.val).state = 5 → followsTime s p.val = false →
    exec (.timeReq p) s = .next (settle s (gclSend p.val (.timeRsp (stamp s p.val))
      (if 1 ≤ p.val ∧ p.val ≤ 8 then gclSend p.val (.msgAck (Config.freeValue s.fresh % 65536)) { s with fresh := s.fresh + 1 } else s)))) ∧
  (∀ s (p : Fin 11) (t4 : BitVec 64), awake s → (gclPort s p.val).state = 5 → followsTime s p.val = true → gclTimeEn s = false →
    exec (.timeRsp p t4) s = .next (settle s (updPort p.val (fun q => { q with
      timeOffset := qdiv (((gclPort s p.val).t2 - (gclPort s p.val).t1) - ((t4.toNat : Int) - (gclPort s p.val).t3)) 2
      pathDelay := qdiv (((gclPort s p.val).t2 - (gclPort s p.val).t1) + ((t4.toNat : Int) - (gclPort s p.val).t3)) 2 }) s)))

/-- A register write to either word of either pair from a path other than REC and SEC changes nothing but the record of an uncorrected contained fault in MEM's window, and so do the commands that write MEM_RCD_CTRL; from REC or SEC the
write takes its meaning: the staged word of MEM_RCD_CFG in the bits that fields have (R9), or the pair of MEM_RCD_CTRL. Completion stated: registerWrite of these words. -/
def Obligations.RecorderAuthority : Prop :=
  (∀ s path (o : BitVec 24) w, awake s → path ≠ .proc .recd → path ≠ .proc .sec → o ∈ [0x150300#24, 0x150304#24, 0x150310#24, 0x150314#24] →
    ∃ r, exec (.registerWrite path o w) s = .next (settle s (raise uMEM 6 .contained r s))) ∧
  (∀ s path tag, awake s → path ≠ .proc .recd → path ≠ .proc .sec →
    (∃ r, exec (.rcdTrigger path tag) s = .next (settle s (raise uMEM 6 .contained r s))) ∧ (∃ r, exec (.rcdRearm path tag) s = .next (settle s (raise uMEM 6 .contained r s)))) ∧
  (∀ s path w, awake s → path = .proc .recd ∨ path = .proc .sec →
    exec (.registerWrite path 0x150300#24 w) s = .next (settle s (setWord 0x150300 (keptBits 0x150300 false w) s)) ∧ exec (.registerWrite path 0x150304#24 w) s = .next (settle s (setWord 0x150304 (keptBits 0x150304 true w) s)) ∧
    exec (.registerWrite path 0x150310#24 w) s = .next (settle s (cmdPairWrite path 0x150310 false w s)) ∧
    exec (.registerWrite path 0x150314#24 w) s = .next (settle s (cmdPairWrite path 0x150314 true w s)))

/-- An interface that trains may be used; the third failure of one is reported. An uncorrectable read is counted, reported and handled by its region. TRIGGER freezes what RCD_POST_EXPIRE ends, and REARM or the automatic rearm starts anew.
A request of a requester that does not exist is nothing, the ninth is refused with FULL, others queue with their stamp; a beat that ends leaves the queue; a refill gives each requester its share; a lock over its time is broken. Completions stated: miTrainDone, dramReadUe, rcdTrigger, rcdRearm, rcdPostExpire, rcdAutoRearm, rcdStagingOverflow, arbRequest, beatComplete, windowRefill, lockWatchdogBite. -/
def Obligations.MemoryAndArbiter : Prop :=
  (∀ s (i : Fin 8), awake s → s.sec.phase ≠ 0 → s.mem.trained.contains i.val = false → s.mem.failed.contains i.val = false →
    exec (.miTrainDone i true) s = .next (settle s (rcdStart { s with mem.trained := sadd s.mem.trained i.val, mem.tries := terase s.mem.tries i.val }))) ∧
  (∀ s (i : Fin 8), awake s → s.sec.phase ≠ 0 → s.mem.trained.contains i.val = false → s.mem.failed.contains i.val = false → tget 0 s.mem.tries i.val = 2 →
    exec (.miTrainDone i false) s = .next (settle s (raise uMEM 2 .contained { unit := i.val } { s with
      mem.tries := tput s.mem.tries i.val 3, mem.failed := sadd s.mem.failed i.val }))) ∧
  (∀ s (a : BitVec 37) first leaves, awake s → regionOf s a.toNat = 5 →
    exec (.dramReadUe a ⟨first, leaves⟩) s = .next (settle s (raise uMEM 1 .contained { unit := a.toNat / 4096 % 8, w1 := some (lo32 a.toNat), w2 := hi32 a.toNat, w3 := w32 0 } { s with
        mem.unc := tput s.mem.unc (a.toNat / 4096 % 8) (satInc 65535 (tget 0 s.mem.unc (a.toNat / 4096 % 8))) }))) ∧
  (∀ s (a : BitVec 37) first leaves l, awake s → regionOf s a.toNat = 0 → remLeafAt s (a.toNat / 1048576) = some l →
    exec (.dramReadUe a ⟨first, leaves⟩) s = .next (settle s (withdrawLeaf l (raise uMEM 1 .contained { unit := a.toNat / 4096 % 8, w1 := some (lo32 a.toNat), w2 := hi32 a.toNat, w3 := w32 0 } { s with
        mem.unc := tput s.mem.unc (a.toNat / 4096 % 8) (satInc 65535 (tget 0 s.mem.unc (a.toNat / 4096 % 8))) })))) ∧
  (∀ s (a : BitVec 37) first leaves, awake s → regionOf s a.toNat = 2 →
    ∃ u, exec (.dramReadUe a ⟨first, leaves⟩) s = .next (settle s { u with mem.rcd.badPages := sadd u.mem.rcd.badPages ((a.toNat - regionBaseMib u 2 * 1048576) / 4096) }) ∧
      u = raise uMEM 1 .contained { unit := a.toNat / 4096 % 8, w1 := some (lo32 a.toNat), w2 := hi32 a.toNat, w3 := w32 0 } { s with
        mem.unc := tput s.mem.unc (a.toNat / 4096 % 8) (satInc 65535 (tget 0 s.mem.unc (a.toNat / 4096 % 8))) }) ∧
  (∀ s path tag, awake s → path = .proc .recd ∨ path = .proc .sec → (tag : Byte).toNat ≠ lastTag s 0x150310 →
    (∃ u, exec (.rcdTrigger path tag) s = .next (settle s (rcdTrigger 7 u)) ∧ { u with regs := s.regs } = s) ∧
    (s.mem.rcd.state = 3 → ∃ u, exec (.rcdRearm path tag) s = .next (settle s u) ∧ u.mem.rcd.state = 1 ∧ u.mem.rcd.since = s.now ∧ u.mem.rcd.head = s.mem.rcd.head)) ∧
  (∀ s, awake s → s.mem.rcd.state = 2 → s.mem.rcd.since + fld (liveWord s 0x150300) 5 0 * 1000000000 ≤ s.now →
    exec .rcdPostExpire s = .next (settle s { s with mem.rcd.state := 3, mem.rcd.since := s.now })) ∧
  (∀ s, awake s → s.mem.rcd.state = 3 → s.mem.rcd.since + fld (liveWord s 0x150300) 23 16 * 60000000000 ≤ s.now →
    exec .rcdAutoRearm s = .next (settle s (raise uMEM 5 .corrected {} { s with mem.rcd.state := 1, mem.rcd.since := s.now, mem.rcd.lost := satInc 255 s.mem.rcd.lost }))) ∧
  (∀ s, awake s → s.mem.rcd.state = 1 ∨ s.mem.rcd.state = 2 →
    exec .rcdStagingOverflow s = .next (settle s (raise uMEM 4 .corrected {} (rcdEvent .gap { s with mem.rcd.gaps := satInc 255 s.mem.rcd.gaps })))) ∧
  (∀ s (i : Fin 34) (r : Fin 16) n c lock, awake s → arbCount i.val ≤ r.val → exec (.arbRequest i r n c lock) s = .next (settle s s)) ∧
  (∀ s (i : Fin 34) (r : Fin 16) n c, awake s → r.val < arbCount i.val → (arbReq s i.val r.val).queue.length < 8 → 16 ≤ i.val → i.val < 32 →
    exec (.arbRequest i r n c false) s = .next (settle s (arbGo i.val (updReq i.val r.val (fun x => { x with
      queue := x.queue ++ [{ stamp := s.now, left := max n 1, cost := c, lock := false, op := some { owner := .other r.val, kind := .other, addr := 0, page := 0xFF, value := 0 } }] }) s)))) ∧
  (∀ s (i : Fin 34) (r : Fin 16) n c, awake s → r.val < arbCount i.val → (arbReq s i.val r.val).queue.length < 8 → i.val < 16 ∨ 32 ≤ i.val →
    exec (.arbRequest i r n c false) s = .next (settle s (arbGo i.val (updReq i.val r.val (fun x => { x with
      queue := x.queue ++ [{ stamp := s.now, left := max n 1, cost := c, lock := false, op := none }] }) s)))) ∧
  (∀ s (i : Fin 34) (r : Fin 16) n c lock, awake s → r.val < arbCount i.val → 8 ≤ (arbReq s i.val r.val).queue.length → i.val < 16 ∨ 32 ≤ i.val →
    exec (.arbRequest i r n c lock) s = .next (settle s (raise uARB 2 .corrected { unit := i.val, w2 := w32 r.val } (updReq i.val r.val (fun x => { x with full := true }) s)))) ∧
  (∀ s (i : Fin 34) (r : Fin 16) e q t, awake s → i.val < 16 ∨ 32 ≤ i.val → (arbInst s i.val).beats = [⟨r.val, t⟩] → (arbInst s i.val).lock = none →
    (arbReq s i.val r.val).queue = e :: q → e.left = 1 →
    ∃ u, exec (.beatComplete i r) s = .next (settle s (arbGo i.val u)) ∧ (arbReq u i.val r.val).queue = q ∧ (arbInst u i.val).beats = [] ∧ { u with arb := s.arb } = s) ∧
  (∀ s (i : Fin 34) (r : Fin 16) o, awake s → 16 ≤ i.val → i.val < 32 → (twpPort s (i.val - 16)).cur = some o → o.kind = .other → twReq o.owner = r.val →
    exec (.beatComplete i r) s = .next (settle s (arbBeatEnd i.val r.val (updTwp (i.val - 16) (fun x => { x with cur := none }) s)))) ∧
  (∀ s (i : Fin 34), awake s → arbWindow s i.val ≠ 0 → (arbInst s i.val).refilled / arbWindow s i.val < s.now / arbWindow s i.val → (arbInst s i.val).swap = none →
    exec (.windowRefill i) s = .next (settle s (forEach (List.range (arbCount i.val)) (refillReq i.val)
      (updArb i.val (fun a => { a with refilled := s.now, windows := inc8 a.windows, units := arbUnits s i.val }) s)))) ∧
  (∀ s (i : Fin 34) l freed, awake s → i.val < 16 ∨ 32 ≤ i.val → (arbInst s i.val).lock = some l → l.start + arbLockWd s i.val * 1000 ≤ s.now →
    ∃ u, exec (.lockWatchdogBite i freed) s = .next (settle s (arbGo i.val (raise uARB 0 .contained { unit := i.val, w2 := w32 l.owner } u))) ∧
      (arbInst u i.val).lock = none ∧ (arbReq u i.val l.owner).queue = [] ∧ (arbInst u i.val).bites = satInc 65535 (arbInst s i.val).bites ∧ { u with arb := s.arb } = s) ∧
  (∀ s (i : Fin 34) l freed, awake s → 16 ≤ i.val → i.val < 32 → (arbInst s i.val).lock = some l → l.start + arbLockWd s i.val * 1000 ≤ s.now →
    ∃ u, exec (.lockWatchdogBite i freed) s = .next (settle s (arbGo i.val u)) ∧ (arbInst u i.val).lock = none ∧ (arbReq u i.val l.owner).queue = [] ∧
      (twpPort u (i.val - 16)).cur = none)

/-- A target that is not addressed answers nothing; one that is takes the write at its pointer or reads on from it. Bus errors and timeouts are flagged and reported; the responder reads the alert address; a stuck bus is cleared or its reset pin
pulsed; a firmware transfer starts on its own processor's window; a transaction that ends is followed by the next one of its transfer, or the transfer leaves the arbiter with its result.
Completions stated: twpTargetWrite, twpTargetRead, twpBusError, alertResponseRead, alertLineFall, alertIgnoreEnd, clkLowTimeout, dataLowTimeout, twpBusClearCmd, twpResetPulse, resetPinRelease, resetPinSettle, stuckRetry, fxTransferStart, transferDone,
wakeAddressMatch. -/
def Obligations.TwoWire : Prop :=
  (∀ s (p : Fin 16) a bytes, awake s → targetAcks s p.val a.toNat = false → exec (.twpTargetWrite p a bytes) s = .next (settle s s)) ∧
  (∀ s (p : Fin 16) a hi lo data ptr u, awake s → targetAcks s p.val a.toNat = true →
    targetPointer p.val hi lo (updTwp p.val (fun x => { x with deaf := false, sclLow := false }) s) = (some ptr, u) →
    exec (.twpTargetWrite p a (hi :: lo :: data)) s = .next (settle s (targetData p.val a.toNat ptr [hi, lo] data u))) ∧
  (∀ s (p : Fin 16) a sent n r, awake s → targetAcks s p.val a.toNat = true → hasPec s p.val = false → 0 < n →
    r = readWords p.val (twpPort s p.val).page (((twpPort s p.val).pointer % 4 + n + 3) / 4) ((twpPort s p.val).pointer / 4 * 4) (updTwp p.val (fun x => { x with deaf := false, sclLow := false }) s) →
    exec (.twpTargetRead p a ⟨sent, n⟩) s = .next (settle s (updTwp p.val (fun x => { x with
      driven := ((r.1.flatMap wordBytes).drop ((twpPort s p.val).pointer % 4)).take n, pointer := (x.pointer + n) % 65536 }) r.2))) ∧
  (∀ s (p : Fin 16) a sent n r, awake s → targetAcks s p.val a.toNat = true → hasPec s p.val = true → 0 < n →
    r = readWords p.val (twpPort s p.val).page ((n + 4) / 5) ((twpPort s p.val).pointer / 4 * 4) (updTwp p.val (fun x => { x with deaf := false, sclLow := false }) s) →
    exec (.twpTargetRead p a ⟨sent, n⟩) s = .next (settle s (updTwp p.val (fun x => { x with
      driven := (pecReads (sent ++ [BitVec.ofNat 8 (2 * a.toNat + 1)]) r.1).take n, pointer := (x.pointer + 4 * ((n + 4) / 5)) % 65536 }) r.2))) ∧
  (∀ s (p : Fin 16), awake s → isTarget s p.val = true →
    exec (.twpBusError p []) s = .next (settle s (raise (.twp p.val) 0 .corrected { unit := p.val } (twpFlag p.val 0 (updTwp p.val (fun x => { x with
      errors := satInc 255 x.errors, deaf := false }) s))))) ∧
  (∀ s k l, awake s → (twpPort s 0).alertPend = k :: l →
    exec (.alertResponseRead true) s = .next (settle s (driveAlert (updTwp 0 (fun x => { x with alertPend := sdel x.alertPend k }) s))) ∧
    exec (.alertResponseRead false) s = .next (settle s s)) ∧
  (∀ s (p : Fin 16), awake s → isController s p.val = true → (twpRec s p.val).smbus.testBit 2 = true → (twpPort s p.val).ignoreAt = none →
    exec (.alertLineFall p) s = .next (settle s (twSubmit p.val alertOp (updTwp p.val (fun x => { x with alertRun := 0, alertNack := 0, alertLow := true }) s)))) ∧
  (∀ s (p : Fin 16) t, awake s → (twpPort s p.val).ignoreAt = some t → t ≤ s.now →
    exec (.alertIgnoreEnd p) s = .next (settle s (updTwp p.val (fun x => { x with ignoreAt := none }) s))) ∧
  (∀ s (p : Fin 16) sda freed, awake s → isTarget s p.val = true → (twpPort s p.val).cur = none → hasTimeout s p.val = true →
    exec (.clkLowTimeout p sda freed) s = .next (settle s (updTwp p.val (fun x => { x with deaf := true }) (raise (.twp p.val) 2 .corrected {} (twpFlag p.val 1 (updTwp p.val (fun x => { x with sclLow := true }) s)))))) ∧
  (∀ s (p : Fin 16) sda freed o, awake s → isController s p.val = true → (twpPort s p.val).cur = some o → hasTimeout s p.val = true →
    exec (.clkLowTimeout p sda freed) s = .next (settle s (clkLowEnd p.val sda freed (raise (.twp p.val) 2 .corrected {} (twpFlag p.val 1 (updTwp p.val (fun x => { x with sclLow := true }) s)))))) ∧
  (∀ s freed, awake s → (twpPort s 0).cur = none → (twpRec s 0).role ≠ 0 →
    exec (.dataLowTimeout 0 freed) s = .next (settle s (raise (.twp 0) 7 .contained {} (twpFlag 0 2 (updTwp 0 (fun x => { x with sdaLow := true, sclLow := false }) s))))) ∧
  (∀ s (p : Fin 16) freed, awake s → p ≠ 0 → (twpPort s p.val).cur = none → isController s p.val = true →
    exec (.dataLowTimeout p freed) s = .next (settle s (arbGo (16 + p.val) (busClear p.val freed (raise (.twp p.val) 2 .corrected {} (twpFlag p.val 2
      (updTwp p.val (fun x => { x with sdaLow := true, sclLow := false }) s))))))) ∧
  (∀ s path (p : Fin 16) tag freed, awake s → path = .proc .sec → (tag : Byte).toNat ≠ lastTag s (0x0E0124 + 0x1000 * p.val) → p.val ≠ 0 → isController s p.val = true →
    (twpPort s p.val).stuck = false → (twpPort s p.val).sdaLow = false → (twpPort s p.val).pulseAt = none →
    ∃ u, exec (.twpBusClearCmd path p tag freed) s = .next (settle s (arbGo (16 + p.val) u)) ∧ (twpPort u p.val).resTag = tag.toNat ∧ (twpPort u p.val).result = 0 ∧
      (twpPort u p.val).clears = satInc 255 (twpPort s p.val).clears) ∧
  (∀ s path (p : Fin 16) tag, awake s → path = .proc .sec → (tag : Byte).toNat ≠ lastTag s (0x0E0124 + 0x1000 * p.val) → p.val ≠ 0 → isController s p.val = true →
    (twpRec s p.val).resetPin ≤ 127 → (twpPort s p.val).lastPulse = none → (latchOf s (.en (twpRec s p.val).resetPin)).held = false →
    ∃ u, exec (.twpResetPulse path p tag) s = .next (settle s u) ∧ (twpPort u p.val).result = 0 ∧ (twpPort u p.val).pulseAt = some s.now ∧
      (latchOf u (.en (twpRec s p.val).resetPin)).level = 0) ∧
  (∀ s (p : Fin 16) t, awake s → (twpPort s p.val).pulseAt = some t → t + 1000000 ≤ s.now →
    exec (.resetPinRelease p) s = .next (settle s (drivePin (.en (twpRec s p.val).resetPin) 1 (updTwp p.val (fun x => { x with pulseAt := none, settleAt := some s.now }) s)))) ∧
  (∀ s (p : Fin 16) freed t, awake s → (twpPort s p.val).settleAt = some t → t + 10000000 ≤ s.now →
    exec (.resetPinSettle p freed) s = .next (settle s (arbGo (16 + p.val) (busClear p.val freed (updTwp p.val (fun x => { x with settleAt := none }) s))))) ∧
  (∀ s (p : Fin 16) freed t, awake s → (twpPort s p.val).retryAt = some t → (twpPort s p.val).stuck = true → t ≤ s.now →
    exec (.stuckRetry p freed) s = .next (settle s (arbGo (16 + p.val) (busClear p.val freed s)))) ∧
  (∀ s path (p : Fin 16) (k : Fin 5) w, awake s → pathOk s path (fxBase p.val k.val) = true →
    exec (.fxTransferStart path p k w) s = .next (settle s (fxStart p.val k.val w s))) ∧
  (∀ s path (p : Fin 16) (k : Fin 5), pathOk s path (fxBase p.val k.val) = (path == .proc (fxProc k.val))) ∧
  (∀ s (p : Fin 16) (r : Fin 13) (nack : Byte) data o c z, awake s → (twpPort s p.val).cur = some o → r.val ≠ 12 → o.kind ≠ .other → (twpPort s p.val).curAbort = false →
    c = (if r.val = 0 ∨ r.val = 5 then twChecked s p.val o data else (r.val, data)) →
    z = updTwp p.val (fun x => { x with cur := none, curAbort := false, clkEnd := none, sclLow := false }) s →
    exec (.transferDone p r ⟨nack, data⟩) s = .next (settle s (twReoffer p.val
      (if twGoesOn o c.1 c.2 then arbBeatEnd (16 + p.val) (twReq o.owner) (twNext p.val (twReq o.owner) c.2 false z)
       else twFinish p.val o c.1 nack.toNat c.2 (arbBeatEnd (16 + p.val) (twReq o.owner) (twNext p.val (twReq o.owner) [] true z)))))) ∧
  (∀ s (p : Fin 16) a, s.und.supply.porAsserted = false → s.pmd.state = 3 → (addrMatch s p.val a.toNat).isSome = true →
    exec (.wakeAddressMatch p a) s = .next (settle s (leaveD3 (twpFlag p.val 11 s))))

/-- SEC releases a HELD processor and restarts one; a processor's own key makes it READY and services its watchdog; traps, memory errors and its watchdog restart it; a restored or reloaded copy starts it, or it halts. A message of the
catalogue that passes the checks of R392 joins the open requests of its handler, for every type by name; one that fails is answered by the hardware. A handler answers the request it has started; a request older than 2 s is answered TIMEOUT.
Completions stated: procRelease, fpcRestart, procReady, procWdKick, procWatchdog, procTrap, procMemoryError, procRestoreDone, procReloadDone, handlerResponse, mailboxTimeout, mbxAck, ping, getInfo, csrRead, contractLoad, contractArm, contractCancel, ledgerRead, slotPower, trayPower, shutdownClear, motorClear, leakClear, locate, indicator, modelLoad, jobRestart, canopyLoad, canopyCtrl, updateStage, updateActivate, updateStatus, attest, procRestart, chipReset, recorder, relay. -/
def Obligations.ProcessorsAndMailboxes : Prop :=
  (∀ s p tag, awake s → (tag : Byte).toNat ≠ lastTag s (0x010104 + 0x40 * p.num) → (procSt s p).state = .held →
    ∃ u, exec (.procRelease (.proc .sec) p tag) s = .next (settle s u) ∧ (procSt u p).state = .starting ∧ (procSt u p).kick = s.now ∧
      (∀ q, q ≠ p → procSt u q = procSt s q) ∧ { u with regs := s.regs, procs := s.procs } = s) ∧
  (∀ s p tag, awake s → (tag : Byte).toNat ≠ lastTag s (0x010104 + 0x40 * p.num) → (procSt s p).state ≠ .halted →
    ∃ u, exec (.fpcRestart (.proc .sec) p tag) s = .next (settle s (procRestart p 3 u)) ∧ { u with regs := s.regs } = s) ∧
  (∀ s p w, awake s → fld w 15 0 = 0xA5 → (procSt s p).state = .starting →
    ∃ u, exec (.procReady (.proc p) p w) s = .next (settle s u) ∧ (procSt u p).state = .ready ∧ (procSt u p).causeAt = none ∧
      (∀ q, q ≠ p → procSt u q = procSt s q) ∧ { u with procs := s.procs } = s) ∧
  (∀ s p w, awake s → fld w 15 0 = 0xA5 →
    exec (.procWdKick (.proc p) p w) s = .next (settle s (updProc p (fun x => { x with kick := s.now }) (if p = .sec then { s with sec.wdKick := s.now } else s)))) ∧
  (∀ s p, awake s → (procSt s p).kick + procWdMs s p * 1000000 ≤ s.now → exec (.procWatchdog p) s = .next (settle s (procRestart p 2 s))) ∧
  (∀ s p, awake s → exec (.procTrap p) s = .next (settle s (procRestart p 1 s)) ∧ exec (.procMemoryError p) s = .next (settle s (procRestart p 5 s))) ∧
  (∀ s p flips, awake s → (procSt s p).state = .restarting → copyIntact s p flips = true →
    exec (.procRestoreDone p flips) s = .next (settle s (updProc p (fun x => { x with state := .starting, kick := s.now }) s))) ∧
  (∀ s p flips, awake s → (procSt s p).state = .restarting → copyIntact s p flips = false → p ≠ .sec →
    exec (.procRestoreDone p flips) s = .next (settle s (updProc p (fun x => { x with state := .reloading }) (raise uFPC 1 .contained { unit := p.num } (updProc p (fun x => { x with copy := none }) s))))) ∧
  (∀ s p i f z, awake s → (procSt s p).state = .reloading → i.body = .fw f → i.kind = 1 → i.index = p.num → badReads i < 3 → z = rereads [i] s → fwCheck z p.num f = 0 →
    exec (.procReloadDone p (some i)) s = .next (settle s (updProc p (fun x => { x with state := .starting, kick := z.now }) (storeCopy p f z)))) ∧
  (∀ s p, awake s → (procSt s p).state = .reloading → exec (.procReloadDone p none) s = .next (settle s (procHalt p s))) ∧
  (∀ s p r, awake s → (procSt s p).state = .ready → s.mbx.open_.find? (fun r => r.handler == p && r.started) = some r →
    exec (.handlerResponse p) s = .next (settle s (finishReq r s))) ∧
  (∀ s (c : Fin 8) r, awake s → s.mbx.open_.find? (fun r => r.chan == c.val && decide (r.at_ + 2000000000 ≤ s.now)) = some r →
    exec (.mailboxTimeout c) s = .next (settle s (raise uMBX 2 .contained { unit := c.val, w1 := some (w32 r.typ) } (hwAnswer r 0x0E s)))) ∧
  (∀ s w, awake s → fld w 15 0 = 0xA5 →
    exec (.mbxAck .twp0 w) s = .next (settle s { s with mbx.out := tset [] s.mbx.out 4 ((tget [] s.mbx.out 4).drop 1) })) ∧
  (∀ s (m : MbxMsg) img (e : Nat × Instr), awake s →
    e ∈ [(0x01, .ping m), (0x02, .getInfo m), (0x03, .csrRead m), (0x10, .contractLoad m), (0x11, .contractArm m), (0x12, .contractCancel m), (0x13, .ledgerRead m),
      (0x20, .slotPower m), (0x21, .trayPower m), (0x22, .shutdownClear m), (0x23, .motorClear m), (0x24, .leakClear m), (0x28, .locate m), (0x29, .indicator m),
      (0x30, .modelLoad m), (0x31, .jobRestart m), (0x38, .canopyLoad m img), (0x39, .canopyCtrl m), (0x40, .updateStage m), (0x41, .updateActivate m), (0x42, .updateStatus m),
      (0x48, .attest m), (0x50, .procRestart m), (0x51, .chipReset m), (0x58, .recorder m), (0x60, .relay m)] →
    noInjection uMBX s → mbxReaches s m.chan.val = true → (m.chan.val = 4 → tget [] s.mbx.out 4 = []) →
    mbxWireCheck m m.crcOk ≠ 0 → exec e.2 s = .next (settle s (mbxRefuse m e.1 (mbxWireCheck m m.crcOk) false s))) ∧
  (∀ s (m : MbxMsg) img, awake s → noInjection uMBX s →
    (mbxFits 0x01 m s → exec (.ping m) s = .next (settle s (mbxTaken 0x01 m none s))) ∧
    (mbxFits 0x02 m s → exec (.getInfo m) s = .next (settle s (mbxTaken 0x02 m none s))) ∧
    (mbxFits 0x03 m s → exec (.csrRead m) s = .next (settle s (mbxTaken 0x03 m none s))) ∧
    (mbxFits 0x10 m s → exec (.contractLoad m) s = .next (settle s (mbxTaken 0x10 m none s))) ∧
    (mbxFits 0x11 m s → exec (.contractArm m) s = .next (settle s (mbxTaken 0x11 m none s))) ∧
    (mbxFits 0x12 m s → exec (.contractCancel m) s = .next (settle s (mbxTaken 0x12 m none s))) ∧
    (mbxFits 0x13 m s → exec (.ledgerRead m) s = .next (settle s (mbxTaken 0x13 m none s))) ∧
    (mbxFits 0x20 m s → exec (.slotPower m) s = .next (settle s (mbxTaken 0x20 m none s))) ∧
    (mbxFits 0x21 m s → exec (.trayPower m) s = .next (settle s (mbxTaken 0x21 m none s))) ∧
    (mbxFits 0x22 m s → exec (.shutdownClear m) s = .next (settle s (mbxTaken 0x22 m none s))) ∧
    (mbxFits 0x23 m s → exec (.motorClear m) s = .next (settle s (mbxTaken 0x23 m none s))) ∧
    (mbxFits 0x24 m s → exec (.leakClear m) s = .next (settle s (mbxTaken 0x24 m none s))) ∧
    (mbxFits 0x28 m s → exec (.locate m) s = .next (settle s (mbxTaken 0x28 m none s))) ∧
    (mbxFits 0x29 m s → exec (.indicator m) s = .next (settle s (mbxTaken 0x29 m none s))) ∧
    (mbxFits 0x30 m s → exec (.modelLoad m) s = .next (settle s (mbxTaken 0x30 m none s))) ∧
    (mbxFits 0x31 m s → exec (.jobRestart m) s = .next (settle s (mbxTaken 0x31 m none s))) ∧
    (mbxFits 0x38 m s → exec (.canopyLoad m img) s = .next (settle s (mbxTaken 0x38 m img s))) ∧
    (mbxFits 0x39 m s → exec (.canopyCtrl m) s = .next (settle s (mbxTaken 0x39 m none s))) ∧
    (mbxFits 0x40 m s → exec (.updateStage m) s = .next (settle s (mbxTaken 0x40 m none s))) ∧
    (mbxFits 0x41 m s → exec (.updateActivate m) s = .next (settle s (mbxTaken 0x41 m none s))) ∧
    (mbxFits 0x42 m s → exec (.updateStatus m) s = .next (settle s (mbxTaken 0x42 m none s))) ∧
    (mbxFits 0x48 m s → exec (.attest m) s = .next (settle s (mbxTaken 0x48 m none s))) ∧
    (mbxFits 0x50 m s → exec (.procRestart m) s = .next (settle s (mbxTaken 0x50 m none s))) ∧
    (mbxFits 0x51 m s → exec (.chipReset m) s = .next (settle s (mbxTaken 0x51 m none s))) ∧
    (mbxFits 0x58 m s → exec (.recorder m) s = .next (settle s (mbxTaken 0x58 m none s))) ∧
    (mbxFits 0x60 m s → exec (.relay m) s = .next (settle s (mbxTaken 0x60 m none s))))

/-- In recovery, UP and TWP0 may pull, push and verify one item at a time and ask for the release. A release with nothing left to fail goes on with the boot. A key record that is judged good starts a fuse blow, which ends with the slot
programmed or revoked, or with the result saying that the read-back failed. A package that is not whole is refused with its code, a whole one is staged; ARM, CANCEL and ROLLBACK act for HST and SEC in the states that allow them; an activation starts at its time, waits while something defers it, or lapses; a set that does not prove itself is rejected; a trial that is not
confirmed falls back: the previous set is proven again and its record queued.
Completions stated: rcvPull, pullDone, rcvAppendReset, rcvAppend, rcvVerify, rcvRelease, keySubmit, fuseBlowDone, stagingDone, updArmTime, updArmReset, updCancel, updRollback, activationTime, deferEnd, deferWindowEnd, provingDone,
holdoffExpiry, trialExpiry, fallbackStart. -/
def Obligations.RecoveryKeysAndUpdate : Prop :=
  (∀ s path tag k i, awake s → path = .up ∨ path = .twp0 → s.sec.phase = 3 → (tag : Byte).toNat ≠ lastTag s 0x030020 →
    ((regWord s 0x030030).toNat ≤ 16777216 → (gclPort s 0).state = 5 →
      ∃ u, exec (.rcvPull path tag k i) s =
          .next (settle s (gclFetch 0 ((regWord s 0x030028).toNat + 2 ^ 32 * (regWord s 0x03002C).toNat) (regWord s 0x030030).toNat u)) ∧
        u.sec.pulling = some tag.toNat ∧ u.sec.cand = none ∧ u.sec.candKind = (k : Byte).toNat ∧ u.sec.candIdx = (i : Byte).toNat ∧ u.sec.candLen = (regWord s 0x030030).toNat ∧
        { u with regs := s.regs, sec := s.sec } = s) ∧
    (∃ u, exec (.rcvAppendReset path tag k i) s = .next (settle s u) ∧ u.sec.cand = none ∧ u.sec.candLen = 0 ∧ u.sec.rcvTag = tag.toNat ∧ u.sec.rcvRes = 0 ∧
      { u with regs := s.regs, sec := s.sec } = s) ∧
    (∀ view, (regWord s 0x030030).toNat ≤ 4096 → s.sec.candLen + (regWord s 0x030030).toNat ≤ 16777216 →
      ∃ u, exec (.rcvAppend path tag k i view) s = .next (settle s u) ∧ u.sec.cand = some (readItem view (candBytes s ++ windowBytes s (regWord s 0x030030).toNat)) ∧ u.sec.candLen = s.sec.candLen + (regWord s 0x030030).toNat ∧ u.sec.rcvRes = 0 ∧
        { u with regs := s.regs, sec := s.sec } = s) ∧
    (s.sec.cand = none → ∃ u, exec (.rcvVerify path tag k i) s = .next (settle s u) ∧ u.sec.rcvTag = tag.toNat ∧ u.sec.rcvRes = 5 ∧ { u with regs := s.regs, sec := s.sec } = s) ∧
    (∀ body, s.sec.cand = some body → s.sec.candKind = k.toNat → s.sec.candIdx = i.toNat → candCode s k.toNat i.toNat (some body) = 0 → k = 3 →
      ∃ u, exec (.rcvVerify path tag k i) s = .next (settle s u) ∧ u.sec.rcvRes = 0 ∧ u.sec.need = s.sec.need ∧ u.sec.pushed.any (fun j => j.kind == 3 && j.index == i.toNat) = true) ∧
    (∀ b, ∃ u, exec (.rcvRelease path tag b) s = .next (settle s (rcvRelease tag.toNat b u)) ∧ { u with regs := s.regs } = s) ∧
    (∀ b u t, u = setTag 0x030020 tag.toNat (setPair 0x030020 (rcvWord tag.toNat 5 0 0) s) → s.und.straps.bootSrc = 3 → s.sec.need = 0 → t = withPushed none s.sec.pushed → bootFails u t none = [] →
      exec (.rcvRelease path tag b) s = .next (settle s (bootDone (bootSlot u) (if s.sec.pushed = [] then 0 else 2) t (fun n => tfind b.slots n) (rcvResult tag.toNat 0 u))))) ∧
  (∀ s t item, awake s → s.sec.pulling = some t →
    exec (.pullDone true item) s = .next (settle s { s with sec.pulling := none, sec.cand := some (pulledItem s.sec.candLen item), sec.rcvTag := t, sec.rcvRes := 0 }) ∧
    exec (.pullDone false item) s = .next (settle s { s with sec.pulling := none, sec.cand := none, sec.candLen := 0, sec.rcvTag := t, sec.rcvRes := 0xF0 })) ∧
  (∀ s path tag r, awake s → path = .twp0 ∨ path = .tap → (tag : Byte).toNat ≠ lastTag s 0x030200 → keyJudge s path (fillKeyBuf r s).sec.keyBuf = 0 →
    ∃ u k, exec (.keySubmit path tag r) s = .next (settle s u) ∧ k = readKeyRec (fillKeyBuf r s).sec.keyBuf ∧
      u.sec.fuseJob = some { tag := tag.toNat, op := k.op, slot := k.slot, digest := shake256 (leBytes 1793 k.pubkey) } ∧ u.fuses = s.fuses) ∧
  (∀ s j, awake s → s.sec.fuseJob = some j →
    ∃ u, exec (.fuseBlowDone true) s = .next (settle s (raise uSEC 6 .corrected { unit := j.slot, item := j.op } u)) ∧ u.sec.fuseJob = none ∧ u.sec.keyRes = 0 ∧
      (j.op = 1 → u.fuses.programmed.testBit j.slot = true) ∧ (j.op = 2 → u.fuses.revoked.testBit j.slot = true) ∧ (j.op = 3 → u.fuses.deployed = true) ∧
      { u with fuses := s.fuses, sec := s.sec } = s) ∧
  (∀ s j, awake s → s.sec.fuseJob = some j →
    ∃ u, exec (.fuseBlowDone false) s = .next (settle s (raise uSEC 7 .contained { unit := j.slot, w1 := some 9 } u)) ∧ u.sec.fuseJob = none ∧ u.sec.keyRes = 9 ∧
      u.fuses.deployed = s.fuses.deployed ∧ { u with fuses := s.fuses, sec := s.sec, fresh := s.fresh } = s) ∧
  (∀ s p, awake s → s.upd.record.state = 1 → procRunning s .hst = true → packageCheck s (1 - s.upd.record.inForce) p ≠ 0 →
    exec (.stagingDone p) s = .next (settle s (stagingRefused (packageCheck s (1 - s.upd.record.inForce) p) 0 false s))) ∧
  (∀ s p t, awake s → s.upd.record.state = 1 → procRunning s .hst = true → packageCheck s (1 - s.upd.record.inForce) p = 0 → (∀ q, q ∈ p.parts → partCheck s.sec.set q = 0) → p.flashOk = true →
    t = stagedSet s.sec.set (s.upd.record.seqInForce + 1) p → (∀ i, i ∈ t.items → badReads i ≠ 3) →
    ∃ u, exec (.stagingDone p) s = .next (settle s u) ∧ u.upd.record.state = 2 ∧ u.upd.staged = some t ∧ u.upd.result = 0 ∧ u.upd.staging = false ∧ u.upd.maxDefer = p.maxDefer) ∧
  (∀ s path tag, awake s → path = .proc .hst ∨ path = .proc .sec → (tag : Byte).toNat ≠ lastTag s 0x1C0010 →
    (s.upd.record.state = 2 → s.upd.staged.isSome = true →
      (∃ u, exec (.updArmTime path tag) s = .next (settle s u) ∧ u.upd.record.state = 3 ∧ u.upd.record.mode = 1 ∧ u.upd.record.armTime = updTime s ∧
        u.upd.record.windowEnd = updTime s + s.upd.maxDefer * 60000000000 ∧ u.upd.result = 0) ∧
      (∃ u, exec (.updArmReset path tag) s = .next (settle s u) ∧ u.upd.record.state = 3 ∧ u.upd.record.mode = 2 ∧ u.upd.result = 0)) ∧
    (s.upd.record.state = 3 ∨ s.upd.record.state = 4 →
      ∃ u, exec (.updCancel path tag) s = .next (settle s u) ∧ u.upd.record.state = 2 ∧ u.upd.record.mode = 0 ∧ u.upd.staged = s.upd.staged ∧ u.upd.result = 0) ∧
    (s.upd.record.state = 6 → s.upd.event = none →
      ∃ u, exec (.updRollback path tag) s = .next (settle s u) ∧ u.upd.event = some 6 ∧ u.upd.result = 0 ∧ { u with regs := s.regs, upd := s.upd } = s)) ∧
  (∀ s, awake s → s.upd.record.state = 3 → s.upd.record.mode = 1 → s.upd.record.armTime ≤ s.now →
    exec .activationTime s = .next (settle s (if s.upd.record.windowEnd + 1000 ≤ s.now then cancelWindow s else if deferBlocked s then enterDeferred s else startActivation s))) ∧
  (∀ s, awake s → s.upd.record.state = 4 → deferBlocked s = false → s.now ≤ s.upd.record.windowEnd → exec .deferEnd s = .next (settle s (startActivation s))) ∧
  (∀ s, awake s → s.upd.record.state = 4 → s.upd.record.windowEnd ≤ s.now → exec .deferWindowEnd s = .next (settle s (cancelWindow s))) ∧
  (∀ s, awake s → s.upd.record.state = 5 → s.upd.proving = true → emergency s = false → s.upd.staged = none →
    exec .provingDone s = .next (settle s (provingFailed (1 - s.upd.record.inForce) 2 s))) ∧
  (∀ s t, awake s → s.upd.record.state = 5 → s.upd.proving = true → emergency s = false → s.upd.staged = some t → (proveSet s t).1 = 0 →
    exec .provingDone s = .next (settle s (queueSwitch (trialRec (proveSet s t).2 t) { (proveSet s t).2 with upd.proving := false }))) ∧
  (∀ s t, awake s → s.und.emergEnd = some t → s.und.updHold = true → emergency s = false → t + holdoffMin s * 60000000000 ≤ s.now →
    exec .holdoffExpiry s = .next (settle s { s with und.updHold := false, und.emergEnd := none })) ∧
  (∀ s, awake s → s.upd.record.state = 6 → s.upd.trialMin * 60000000000 ≤ trialNs s →
    exec .trialExpiry s = .next (settle s (fallbackBegins (trialEvent 7 s)))) ∧
  (∀ s, awake s → s.upd.record.state = 7 → emergency s = false → s.upd.record.cls ≠ 2 → s.upd.prev = none →
    exec .fallbackStart s = .next (settle s (saveRecord { s.upd.record with state := 8 } s))) ∧
  (∀ s t, awake s → s.upd.record.state = 7 → emergency s = false → s.upd.record.cls = 0 → s.upd.prev = some t → (proveSet s t).1 = 0 →
    exec .fallbackStart s = .next (settle s (queueSwitch { fellBackRec s.upd.record with seqInForce := t.seq }
      (updResult 0x0E (s.upd.event.getD 0) { (proveSet s t).2 with upd.record := { s.upd.record with state := 8 } }))))

/-- The owner claims a LATCHED window and releases it, clears pending bits and injects errors into checkers alone; a trap without an acknowledgement restarts its owner; the ERR_N pulse ends and is held or released by command. Commits, reads,
erasures and counter increments act within their writer's authority; a commit that is written and read back is the area's newest copy.
Completions stated: fwClaim, fwRelease, pendingClear, fwInjectRequest, trapAckTimeout, errPulseEnd, errHold, errRelease, faultLogCommit, nvsCommit, nvsRead, nvsErase, nvsMonoInc, nvsCommitDone. -/
def Obligations.FaultsAndStore : Prop :=
  (∀ s path u tag, awake s → pathOk s path (winBase u + 0x30) = true → (tag : Byte).toNat ≠ lastTag s (winBase u + 0x30) →
    ((winOf s u).state = .latched → ∃ t, exec (.fwClaim path u tag) s = .next (settle s t) ∧ (winOf t u).state = .handling ∧ (winOf t u).trapSince = none ∧
      (winOf t u).pending = (winOf s u).pending ∧ { t with regs := s.regs, fw := s.fw } = s) ∧
    ((winOf s u).state = .handling → ∃ t, exec (.fwRelease path u tag) s = .next (settle s t) ∧ (winOf t u).state = .empty ∧ (winOf t u).worst = 0 ∧
      (winOf t u).pending = (winOf s u).pending)) ∧
  (∀ s path u tag, awake s → pathOk s path (winBase u + 0x30) = false → ∃ t, exec (.fwClaim path u tag) s = .next (settle s (raise uNVS 6 .contained t s))) ∧
  (∀ s path u (j : Fin 8) mask, awake s → pathOk s path (winBase u + 0x60 + 4 * j.val) = true →
    ∃ t, exec (.pendingClear path u j mask) s = .next (settle s t) ∧
      (∀ b, (winOf t u).pending.contains b = ((winOf s u).pending.contains b && !(b / 32 == j.val && mask.getLsbD (b % 32)))) ∧ (winOf t u).state = (winOf s u).state ∧
      { t with fw := s.fw } = s) ∧
  (∀ s path u tag src n (mode : Fin 4), awake s → pathOk s path (winBase u + 0x38) = true → (tag : Byte).toNat ≠ lastTag s (winBase u + 0x38) →
    (isChecker u (src : Byte).toNat = true → ∃ t, exec (.fwInjectRequest path u tag src n mode) s = .next (settle s t) ∧ (winOf t u).injResult = 0 ∧ (winOf t u).injSource = src.toNat ∧
      (winOf t u).injMode = mode.val ∧ (winOf t u).injLeft = (if mode.val = 1 ∨ mode.val = 2 then (n : Byte).toNat else 0) ∧ { t with regs := s.regs, fw := s.fw } = s) ∧
    (isChecker u src.toNat = false → ∃ t, exec (.fwInjectRequest path u tag src n mode) s = .next (settle s t) ∧ (winOf t u).injResult = 1 ∧
      (winOf t u).injLeft = (winOf s u).injLeft ∧ { t with regs := s.regs, fw := s.fw } = s)) ∧
  (∀ s u t, awake s → (winOf s u).trapSince = some t → t + 10000000 ≤ s.now →
    exec (.trapAckTimeout u) s = .next (settle s (note (.procRestart (winOwner s u) 1) (updWin u.key (fun x => { x with trapSince := none }) s)))) ∧
  (∀ s t, awake s → s.err.pulseEnd = some t → t ≤ s.now →
    exec .errPulseEnd s = .next (settle s (if bit (regWord s 0x110) 8 = true ∨ s.err.heldPin = true then { s with err.pulseEnd := none, err.heldPin := true }
      else drivePin .err 1 { s with err.pulseEnd := none, err.asserted := false }))) ∧
  (∀ s path tag after, awake s → path = .proc .sec ∨ path = .proc .hst → (tag : Byte).toNat ≠ lastTag s 0x110 →
    (∃ u, exec (.errHold path tag after) s = .next (settle s (drivePin .err 0 u)) ∧ u.err.heldPin = true ∧ u.err.asserted = true ∧ { u with regs := s.regs, err := s.err } = s) ∧
    (s.err.pulseEnd = none → ∃ u, exec (.errRelease path tag after) s = .next (settle s (drivePin .err 1 u)) ∧ u.err.heldPin = false ∧ u.err.asserted = false ∧
      { u with regs := s.regs, err := s.err } = s)) ∧
  (∀ s t, awake s → s.nvs.logSince = some t → t + 9000000 ≤ s.now → exec .faultLogCommit s = .next (settle s (logFlush 2 s))) ∧
  (∀ s path tag area q, awake s → (∀ p, path ≠ .proc p) →
    (∃ r, exec (.nvsCommit path tag area q) s = .next (settle s (raise uNVS 6 .contained r s))) ∧ (∃ r, exec (.nvsRead path tag area) s = .next (settle s (raise uNVS 6 .contained r s))) ∧
    (∃ r, exec (.nvsErase path tag area) s = .next (settle s (raise uNVS 6 .contained r s))) ∧ (∃ r, exec (.nvsMonoInc path tag area) s = .next (settle s (raise uNVS 6 .contained r s)))) ∧
  (∀ s p tag area q, awake s → (tag : Byte).toNat ≠ lastTag s 0x180010 → areaWriter p (area : Byte).toNat = true → nvsBusy s = false →
    (payloadFits area.toNat q = true → payloadLen area.toNat q ≤ areaLen area.toNat →
      ∃ u, exec (.nvsCommit (.proc p) tag area q) s = .next (settle s (nvsQueue { rank := areaRank area.toNat, area := area.toNat, payload := some q, length := payloadLen area.toNat q, tag := some tag.toNat } u)) ∧ { u with regs := s.regs } = s) ∧
    (∃ u, exec (.nvsErase (.proc p) tag area) s = .next (settle s (nvsQueue { rank := areaRank area.toNat, area := area.toNat, payload := none, length := 0, erase := true, tag := some tag.toNat } u)) ∧ { u with regs := s.regs } = s)) ∧
  (∀ s p tag area, awake s → (tag : Byte).toNat ≠ lastTag s 0x180010 → (bankA s (area : Byte).toNat).valid = false → (bankB s area.toNat).valid = false →
    ∃ u, exec (.nvsRead (.proc p) tag area) s = .next (settle s u) ∧ u.nvs.resTag = tag.toNat ∧ u.nvs.resArea = area.toNat ∧ u.nvs.result = 3 ∧ { u with regs := s.regs, nvs := s.nvs } = s) ∧
  (∀ s p tag (c : Byte), awake s → (tag : Byte).toNat ≠ lastTag s 0x180010 → monoWriter p c.toNat = true → nvsBusy s = false →
    ∃ u, exec (.nvsMonoInc (.proc p) tag c) s = .next (settle s (monoInc c.toNat (some tag.toNat) u)) ∧ { u with regs := s.regs } = s) ∧
  (∀ s p tag area q, awake s → (tag : Byte).toNat ≠ lastTag s 0x180010 → nvsFetch (area : Byte).toNat (setTag 0x180010 tag.toNat (setPair 0x180010 (nvsWord tag.toNat 2 area.toNat) s)) =
      (some q, setTag 0x180010 tag.toNat (setPair 0x180010 (nvsWord tag.toNat 2 area.toNat) s)) →
    ∃ u, exec (.nvsRead (.proc p) tag area) s = .next (settle s u) ∧ u.nvs.resTag = tag.toNat ∧ u.nvs.resArea = area.toNat ∧ u.nvs.result = 0 ∧ u.nvs.readBuf = some q ∧
      { u with regs := s.regs, nvs := s.nvs } = s) ∧
  (∀ s j flips, awake s → readBackOk s j (keptFlips flips) = true → fixedFlips flips = [] → s.nvs.queue = [j] → j.tag = none → j.again = false → j.area = 0x06 → j.erase = false → (bankA s 6).valid = false → (bankB s 6).valid = false →
    ∃ u, exec (.nvsCommitDone flips) s = .next (settle s u) ∧ u.nvs.queue = [] ∧ (bankA u 6).valid = true ∧ (bankA u 6).seq = 1 ∧ (bankA u 6).payload = j.payload.map (bankPayload s))

/-- A gated domain that is good again is on, one that is not after 50 µs has failed; wake events bring the device nearer D0; the locate button toggles, and locate ends at its time. An alarm fires once its time has come; a PPS edge within
1 ms of a whole second is taken once; holdover begins 2 s after the last update and is reported at its limit. A follower takes a cap whose complement is right; the lead keeps its members' reports and records, and reports those it loses. A follower hands on what is addressed to another member.
Completions stated: domainSupplyGood, domainFail, wakeEvent, locateButton, locateTimeout, tbsAlarm, ppsEdge, holdoverEnter, holdoverLimit, memberCap, memberReport, memberRecord, boardRecordClose, memberLost, memberLeaseExpiry. -/
def Obligations.PowerTimeAndCascade : Prop :=
  (∀ s (d : Fin 136) t, awake s → tfind s.pmd.waking d.val = some t →
    exec (.domainSupplyGood d) s = .next (settle s (arrive { s with pmd.waking := terase s.pmd.waking d.val, pmd.off := sdel s.pmd.off d.val })) ∧
    (t + 50000 ≤ s.now → exec (.domainFail d) s = .next (settle s (arrive (raise uPMD 1 .contained { unit := d.val } { s with
      pmd.waking := terase s.pmd.waking d.val, pmd.failed := sadd s.pmd.failed d.val }))))) ∧
  (∀ s, awake s → exec (.wakeEvent 2) s = .next (settle s (wakeTo 1 s)) ∧ exec (.wakeEvent 3) s = .next (settle s (wakeTo 0 s)) ∧ exec (.wakeEvent 4) s = .next (settle s (wakeTo 0 s))) ∧
  (∀ s, s.und.supply.porAsserted = false → s.pmd.state = 3 → exec (.wakeEvent 0) s = .next (settle s (leaveD3 s)) ∧ exec (.wakeEvent 1) s = .next (settle s (leaveD3 s))) ∧
  (∀ s, awake s → exec .locateButton s = .next (settle s { s with und.ind.presses := satInc 255 s.und.ind.presses, und.ind.locate := !s.und.ind.locate, und.ind.since := s.now })) ∧
  (∀ s, awake s → s.und.ind.locate = true → s.und.ind.locateS ≠ 0 → s.und.ind.since + s.und.ind.locateS * 1000000000 ≤ s.now →
    exec .locateTimeout s = .next (settle s { s with und.ind.locate := false, und.ind.since := s.now })) ∧
  (∀ s (k : Fin 8), awake s → almOn s k.val = true → almTime s k.val ≤ s.now →
    ∃ u, exec (.tbsAlarm k) s = .next (settle s u) ∧ u.tbs.alarmSaid = sadd s.tbs.alarmSaid k.val ∧ { u with regs := s.regs, tbs := s.tbs } = s) ∧
  (∀ s, awake s → ppsEn s = true → (secondOffset s.now).natAbs ≤ 1000000 → s.tbs.ppsSec ≠ some (nearSecond s.now) →
    ∃ u, exec .ppsEdge s = .next (settle s u) ∧ u.tbs.ppsOff = some (secondOffset s.now) ∧ u.tbs.ppsSec = some (nearSecond s.now) ∧ u.tbs.ppsOk = satInc 65535 s.tbs.ppsOk ∧
      { u with tbs := s.tbs } = s) ∧
  (∀ s, awake s → s.tbs.state = .locked → s.tbs.lastUpd + 2000000000 ≤ s.now →
    ∃ u, exec .holdoverEnter s = .next (settle s u) ∧ u.tbs.state = .holdover ∧ u.tbs.holdAt = s.now ∧ u.tbs.count = s.tbs.count ∧ { u with tbs := s.tbs } = s) ∧
  (∀ s, awake s → s.tbs.state = .holdover → s.tbs.holdSaid = false → s.tbs.holdAt + holdoverS s * 1000000000 ≤ s.now →
    ∃ u, exec .holdoverLimit s = .next (settle s (raise uTBS 2 .contained {} u)) ∧ u.tbs.holdSaid = true ∧ u.tbs.undisc = true ∧ { u with tbs := s.tbs } = s) ∧
  (∀ s (p : Fin 11) (m : Fin 4) q cap le se, awake s → isLead s = false → m.val = s.und.straps.casRole → 9 ≤ p.val → (gclPort s p.val).state = 5 →
    ∃ u, exec (.memberCap p ⟨m, q⟩ cap (~~~ cap) le se) s = .next (settle s (gclSend p.val (.msgAck q.toNat) u)) ∧ u.cas.cap = cap ∧ u.cas.lapsed = false ∧
      u.cas.leaseEnd = some (leaseExpiryNs s ((se.toNat + le.toNat) % 4294967296)) ∧ { u with cas := s.cas } = s) ∧
  (∀ s (m : Fin 4) q cap cc le se, awake s → isLead s = false → m.val ≠ s.und.straps.casRole → (gclPort s 10).state = 5 →
    exec (.memberCap 10 ⟨m, q⟩ cap cc le se) s = .next (settle s (gclSend 9 (.memberCap m.val cap le.toNat se.toNat) s))) ∧
  (∀ s (m : Fin 4) pin d avg we ws, awake s → isLead s = false → (gclPort s 9).state = 5 →
    exec (.memberReport m pin d avg we) s = .next (settle s (gclSend 10 (.memberReport pin d avg we.toNat) s)) ∧
    exec (.memberRecord m ws) s = .next (settle s (gclSend 10 (.memberRecord (ws.take 16)) s))) ∧
  (∀ s (m : Fin 4) pin d avg we, awake s → isLead s = true → m.val ≠ 0 → (gclPort s 9).state = 5 → (member s m.val).mismatch = false →
    exec (.memberReport m pin d avg we) s = .next (settle s (updMember m.val (fun x => { x with
      present := true, linked := true, pin := pin, demand := d, avg := avg, winEnd := we.toNat, lastRep := some s.now }) s))) ∧
  (∀ s (m : Fin 4) ws, awake s → isLead s = true → m.val ≠ 0 → (member s m.val).present = true →
    exec (.memberRecord m ws) s = .next (settle s (updMember m.val (fun x => { x with record := some (ws.take 16) }) s))) ∧
  (∀ s w t, awake s → s.cas.boardDue = some t → s.cas.ownRec = some w → w.length = 16 → t ≤ s.now → s.cas.member = [] → (recWord w 3).testBit 4 = false →
    ∃ u x e, exec .boardRecordClose s = .next (settle s (ledgerAppend (sealRecord x) e ((t - 5000000000) / 60000000000) u)) ∧ x.length = 15 ∧
      { s with cas.ownRec := none, cas.boardDue := none } = u) ∧
  (∀ s (m : Fin 4), awake s → isLead s = true → (member s m.val).present = true → (member s m.val).linked = true → (member s m.val).lastRep = none →
    ∃ u, exec (.memberLost m) s = .next (settle s (raise uCAS 0 .contained { unit := m.val } u)) ∧ (∀ n, m.val ≤ n → n < 4 → (member s n).present = true → (member u n).linked = false) ∧
      { u with cas := s.cas } = s) ∧
  (∀ s t, awake s → s.cas.leaseEnd = some t → isLead s = false → t ≤ s.now → s.cas.lapsed = false →
    exec .memberLeaseExpiry s = .next (settle s (raise uCAS 2 .contained {} { s with cas.lapsed := true })))
end

