-- ==== Sys2Proof/Laws/Kept.lean ====
section
/-! SUPPORT. What the operations of the model keep: the queue of waiting commands, the order of the one-time fuses, and the clauses of the invariant over the register store, the signal
plane and the timebase. A lemma here for each operation that writes one of these; `kept_mk` for every update that writes none of them. -/

namespace Sys2Proof.Machine

/-! ### Tables -/

theorem mem_tput {α : Type} {t : Tab α} {j : Nat} {x : α} {e : Nat × α} : e ∈ tput t j x → e = (j, x) ∨ e ∈ t := by
  induction t with
  | nil => intro h; simp [tput] at h; exact .inl h
  | cons p r ih =>
    intro h
    unfold tput at h
    split at h
    · simp at h; rcases h with h | h | h <;> simp [h]
    · split at h
      · simp at h; rcases h with h | h <;> simp [h]
      · simp at h
        rcases h with h | h
        · simp [h]
        · rcases ih h with h | h <;> simp [h]

theorem mem_terase {α : Type} {t : Tab α} {j : Nat} {e : Nat × α} : e ∈ terase t j → e ∈ t := by
  induction t with
  | nil => intro h; simp [terase] at h
  | cons p r ih =>
    intro h
    unfold terase at h
    split at h
    · exact List.mem_cons_of_mem _ (ih h)
    · simp at h; rcases h with h | h
      · simp [h]
      · exact List.mem_cons_of_mem _ (ih h)

theorem tfind_mem {α : Type} {t : Tab α} {j : Nat} {x : α} : tfind t j = some x → (j, x) ∈ t := by
  induction t with
  | nil => intro h; simp [tfind] at h
  | cons p r ih =>
    intro h
    unfold tfind at h
    split at h
    · rename_i hk; simp at h; subst h; subst hk; simp
    · exact List.mem_cons_of_mem _ (ih h)

/-- A property of every entry passes to a table with one entry set. -/
theorem all_tset {α : Type} [DecidableEq α] {P : Nat × α → Prop} {t : Tab α} {d x : α} {j : Nat} (h : ∀ e ∈ t, P e) (hx : P (j, x)) : ∀ e ∈ tset d t j x, P e := by
  intro e he
  unfold tset at he
  split at he
  · exact h e (mem_terase he)
  · rcases mem_tput he with he | he
    · exact he ▸ hx
    · exact h e he

/-- The first key of a table is above `k`, if it has one. -/
def above {α : Type} (k : Nat) : Tab α → Prop
  | [] => True
  | (a, _) :: _ => k < a

theorem tsorted_cons {α : Type} {a : Nat} {x : α} {r : Tab α} : tsorted ((a, x) :: r) = true ↔ above a r ∧ tsorted r = true := by
  cases r with
  | nil => simp [tsorted, above]
  | cons p r => simp [tsorted, above]

theorem above_mono {α : Type} {a b : Nat} {r : Tab α} (h : a < b) (h' : above b r) : above a r := by
  cases r with
  | nil => trivial
  | cons p r => exact Nat.lt_trans h h'

theorem above_tput {α : Type} {k j : Nat} {x : α} {t : Tab α} (h : above k t) (hj : k < j) : above k (tput t j x) := by
  cases t with
  | nil => exact hj
  | cons p r =>
    unfold tput
    split
    · exact hj
    · split
      · exact hj
      · exact h

theorem tsorted_tput {α : Type} {t : Tab α} {j : Nat} {x : α} : tsorted t = true → tsorted (tput t j x) = true := by
  induction t with
  | nil => intro _; rfl
  | cons p r ih =>
    intro h
    obtain ⟨k, v⟩ := p
    have ⟨h1, h2⟩ := tsorted_cons.1 h
    unfold tput
    split
    · rename_i hj; exact tsorted_cons.2 ⟨hj, h⟩
    · split
      · rename_i hk; subst hk; exact tsorted_cons.2 ⟨h1, h2⟩
      · rename_i h3 h4; exact tsorted_cons.2 ⟨above_tput h1 (by omega), ih h2⟩

theorem tsorted_filter {α : Type} {t : Tab α} (f : Nat × α → Bool) : tsorted t = true → tsorted (t.filter f) = true ∧ ∀ k, above k t → above k (t.filter f) := by
  induction t with
  | nil => intro _; exact ⟨rfl, fun _ h => h⟩
  | cons p r ih =>
    intro h
    obtain ⟨k, v⟩ := p
    have ⟨h1, h2⟩ := tsorted_cons.1 h
    have ⟨i1, i2⟩ := ih h2
    by_cases hf : f (k, v) = true
    · rw [List.filter_cons_of_pos hf]
      exact ⟨tsorted_cons.2 ⟨i2 k h1, i1⟩, fun _ h => h⟩
    · rw [List.filter_cons_of_neg hf]
      exact ⟨i1, fun j hj => i2 j (above_mono hj h1)⟩

theorem terase_eq {α : Type} (t : Tab α) (j : Nat) : terase t j = t.filter (fun e => !decide (e.1 = j)) := by
  induction t with
  | nil => rfl
  | cons p r ih =>
    obtain ⟨k, v⟩ := p
    unfold terase
    by_cases hk : k = j
    · simp [hk, ih]
    · simp [hk, ih]

theorem tsorted_terase {α : Type} {t : Tab α} {j : Nat} (h : tsorted t = true) : tsorted (terase t j) = true := by
  rw [terase_eq]; exact (tsorted_filter _ h).1

theorem tsorted_tset {α : Type} [DecidableEq α] {t : Tab α} {d x : α} {j : Nat} (h : tsorted t = true) : tsorted (tset d t j x) = true := by
  unfold tset; split
  · exact tsorted_terase h
  · exact tsorted_tput h

theorem tsorted_map {α : Type} {t : Tab α} {f : Nat × α → Nat × α} (hf : ∀ e, (f e).1 = e.1) : tsorted t = true → tsorted (t.map f) = true := by
  induction t with
  | nil => intro _; rfl
  | cons p r ih =>
    intro h
    obtain ⟨k, v⟩ := p
    have ⟨h1, h2⟩ := tsorted_cons.1 h
    rw [List.map_cons]
    have : f (k, v) = (k, (f (k, v)).2) := Prod.ext (hf (k, v)) rfl
    rw [this]
    refine tsorted_cons.2 ⟨?_, ih h2⟩
    cases r with
    | nil => trivial
    | cons q r => show k < (f q).1; rw [hf q]; exact h1

/-! ### The relation -/

/-- `b` comes from `a` by operations of the device. -/
structure Kept (a b : State) : Prop where
  queue : b.pending = a.pending
  fuses : FusesGrow a.fuses b.fuses
  plane : PlaneOk a → PlaneOk b
  regs  : RegsOk a → RegsOk b
  disc  : DiscOk a → DiscOk b

theorem FusesGrow.refl (a : Fuses) : FusesGrow a a := ⟨fun _ h => h, fun _ h => h, fun h => h⟩
theorem FusesGrow.trans {a b c : Fuses} (h : FusesGrow a b) (k : FusesGrow b c) : FusesGrow a c :=
  ⟨fun i x => k.1 i (h.1 i x), fun i x => k.2.1 i (h.2.1 i x), fun x => k.2.2 (h.2.2 x)⟩

theorem Kept.refl (a : State) : Kept a a := ⟨rfl, FusesGrow.refl _, id, id, id⟩

theorem Kept.trans {a b c : State} (h : Kept a b) (k : Kept b c) : Kept a c :=
  ⟨k.queue.trans h.queue, h.fuses.trans k.fuses, k.plane ∘ h.plane, k.regs ∘ h.regs, k.disc ∘ h.disc⟩

/-! ### Steps of a proof -/

/-- An update that leaves the queue, the fuses and the register store alone, the signal plane as it is, and the timebase's flag in step. -/
theorem kept_mk {a s : State} {x_fresh x_notes x_tbs x_und x_pace x_fw x_err x_procs x_mbx x_sec x_upd x_nvs x_mram x_cfg x_gld x_seq x_shp x_afe x_thm x_thrForced x_lkf x_mdie x_mch x_mot x_cnp x_cus x_gcl x_mem x_dram x_twpCfg x_twp x_arb x_pmd x_cas x_tap} (h : Kept a s) (hg : x_gld.plane = s.gld.plane) (ht : s.tbs.undisc = undiscFlag s.tbs → x_tbs.undisc = undiscFlag x_tbs) :
    Kept a (State.mk s.pending x_fresh x_notes x_tbs x_und s.fuses x_pace s.regs x_fw x_err x_procs x_mbx x_sec x_upd x_nvs x_mram x_cfg x_gld x_seq x_shp x_afe x_thm x_thrForced x_lkf x_mdie x_mch x_mot x_cnp x_cus x_gcl x_mem x_dram x_twpCfg x_twp x_arb x_pmd x_cas x_tap) :=
  ⟨h.queue, h.fuses, fun p => by have := h.plane p; unfold PlaneOk at *; rw [hg]; exact this, h.regs, fun d => ht (h.disc d)⟩

theorem kept_regs {a s : State} {r : RegS} (h : Kept a s) (hr : RegsOk s → RegsOk { s with regs := r }) : Kept a { s with regs := r } :=
  ⟨h.queue, h.fuses, h.plane, fun p => hr (h.regs p), h.disc⟩
theorem kept_gld {a s : State} {g : Fabric} (h : Kept a s) (hg : PlaneOk s → PlaneOk { s with gld := g }) : Kept a { s with gld := g } :=
  ⟨h.queue, h.fuses, fun p => hg (h.plane p), h.regs, h.disc⟩

/-- A signal with its complements. -/
def sigOk (x : Signal) : Prop := x.comp = ~~~ x.value ∧ x.staleC = !x.stale

theorem sigOk_get {s : State} (p : PlaneOk s) (i : Nat) : sigOk (tget {} s.gld.plane i) := by
  unfold tget
  cases h : tfind s.gld.plane i with
  | none => exact ⟨by decide, by decide⟩
  | some x => exact p _ (tfind_mem h)

theorem plane_tset {s : State} {i : Nat} {x : Signal} {g : Fabric} (hx : PlaneOk s → sigOk x) (hg : g.plane = tset {} s.gld.plane i x) (p : PlaneOk s) : PlaneOk { s with gld := g } := by
  unfold PlaneOk; rw [show State.gld _ = g from rfl, hg]
  exact all_tset p (hx p)

theorem kept_ite {a x y : State} {c : Prop} [Decidable c] (hx : Kept a x) (hy : Kept a y) : Kept a (if c then x else y) := by
  split
  · exact hx
  · exact hy
theorem foldl_kept_of {a : State} {α β : Type} {p : β → State} {f : β → α → β} {l : List α} {b : β} (hf : ∀ b x, Kept a (p b) → Kept a (p (f b x))) (h : Kept a (p b)) :
    Kept a (p (l.foldl f b)) := by
  induction l generalizing b with
  | nil => exact h
  | cons x r ih => exact ih (hf b x h)
theorem kept_cut {a : State} {P : Prop} (x : State) (h : Kept a x) (k : Kept a x → P) : P := k h

theorem foldl_kept {a : State} {α : Type} {f : State → α → State} {l : List α} {s : State} (hf : ∀ s x, Kept a s → Kept a (f s x)) (h : Kept a s) : Kept a (l.foldl f s) := by
  induction l generalizing s with
  | nil => exact h
  | cons x r ih => exact ih (hf s x h)
theorem forEach_kept {a : State} {α : Type} {f : α → State → State} {l : List α} {s : State} (hf : ∀ x s, Kept a s → Kept a (f x s)) (h : Kept a s) : Kept a (forEach l f s) :=
  foldl_kept (fun s x => hf x s) h
theorem whenDo_kept {a : State} {f : State → State} {c : Bool} {s : State} (hf : ∀ s, Kept a s → Kept a (f s)) (h : Kept a s) : Kept a (whenDo c f s) := by
  unfold whenDo; split
  · exact hf s h
  · exact h

/-! ### The operations that write these -/
theorem setTag_kept : ∀ {a : State} x0 x1 s, Kept a s → Kept a (setTag x0 x1 s) := by
  intro a x0 x1 s h
  exact kept_regs h (fun ⟨h1, h2, h3, h4, h5⟩ => ⟨h1, h2, h3, h4, tsorted_tset h5⟩)

theorem setWord_kept : ∀ {a : State} x0 x1 s, Kept a s → Kept a (setWord x0 x1 s) := by
  intro a x0 x1 s h
  exact kept_regs h (fun ⟨h1, h2, h3, h4, h5⟩ => ⟨tsorted_tput h1, h2, h3, h4, h5⟩)

theorem setLive_kept : ∀ {a : State} x0 x1 s, Kept a s → Kept a (setLive x0 x1 s) := by
  intro a x0 x1 s h
  exact kept_regs h (fun ⟨h1, h2, h3, h4, h5⟩ => ⟨h1, tsorted_tput h2, h3, h4, h5⟩)

theorem setPair_kept : ∀ {a : State} x0 x1 s, Kept a s → Kept a (setPair x0 x1 s) := by
  intro a x0 x1 s h
  exact kept_regs h (fun ⟨h1, h2, h3, h4, h5⟩ => ⟨tsorted_tput h1, h2, tsorted_terase h3, h4, h5⟩)

theorem updCommit_kept : ∀ {a : State} x0 x1 s, Kept a s → Kept a (updCommit x0 x1 s) := by
  intro a x0 x1 s h
  exact kept_regs h (fun ⟨h1, h2, h3, h4, h5⟩ => ⟨h1, h2, h3, tsorted_tset h4, h5⟩)

theorem discardWord_key (s : State) (e : Nat × Word) : (discardWord s e).1 = e.1 := by
  unfold discardWord; split <;> rfl
theorem discardStaged_kept : ∀ {a : State} x0 s, Kept a s → Kept a (discardStaged x0 s) := by
  intro a x0 s h
  refine kept_regs h (fun ⟨h1, h2, h3, h4, h5⟩ => ⟨tsorted_map ?_ h1, h2, h3, h4, h5⟩)
  intro e; split
  · exact discardWord_key s e
  · rfl

theorem clearRegs_kept : ∀ {a : State} x0 x1 s, Kept a s → Kept a (clearRegs x0 x1 s) := by
  intro a x0 x1 s h
  exact kept_regs h (fun ⟨h1, h2, h3, h4, h5⟩ => ⟨(tsorted_filter _ h1).1, (tsorted_filter _ h2).1, (tsorted_filter _ h3).1, (tsorted_filter _ h4).1, (tsorted_filter _ h5).1⟩)

theorem writeSignal_kept : ∀ {a : State} x0 x1 x2 s, Kept a s → Kept a (writeSignal x0 x1 x2 s) := by
  intro a x0 x1 x2 s h
  have h0 : ∀ t, Kept a { s with gld.plane := tset {} s.gld.plane x0 { tget {} s.gld.plane x0 with value := x1, comp := ~~~ x1, stale := x2, staleC := !x2 }, gld.due := t } := fun t =>
    kept_gld h (plane_tset (fun _ => ⟨rfl, rfl⟩) rfl)
  unfold writeSignal
  lift_lets; intro o n g s'
  split
  · exact h0 s.gld.due
  · exact h0 _

theorem dropStructure_kept : ∀ {a : State} s, Kept a s → Kept a (dropStructure s) := by
  intro a s h
  unfold dropStructure
  refine forEach_kept (fun n s h => ?_) (kept_gld h id)
  exact kept_gld h (plane_tset (x := { tget {} s.gld.plane (1024 + n) with stale := true, staleC := false }) (fun p => ⟨(sigOk_get p _).1, rfl⟩) rfl)

theorem loadSignals_kept : ∀ {a : State} x0 s, Kept a s → Kept a (loadSignals x0 s) := by
  intro a x0 s h
  unfold loadSignals
  refine forEach_kept (fun g s h => ?_) (forEach_kept (fun e s h => kept_gld h (plane_tset (x := { tget {} s.gld.plane e.1 with typ := e.2 }) (fun p => ⟨(sigOk_get p _).1, (sigOk_get p _).2⟩) rfl)) h)
  exact kept_gld h (plane_tset (x := { tget {} s.gld.plane g.index with typ := g.type, prod := g.producer }) (fun p => ⟨(sigOk_get p _).1, (sigOk_get p _).2⟩) rfl)

theorem setTbs_kept : ∀ {a : State} x0 s, Kept a s → Kept a (setTbs x0 s) := by
  intro a x0 s h
  exact ⟨h.queue, h.fuses, h.plane, h.regs, fun _ => rfl⟩

theorem powerOn_kept : ∀ {a : State} x0 x1 s, Kept a s → Kept a (powerOn x0 x1 s) := by
  intro a x0 x1 s h
  exact ⟨h.queue, h.fuses, fun _ e he => (List.not_mem_nil he).elim, fun _ => ⟨rfl, rfl, rfl, rfl, rfl⟩, fun _ => rfl⟩

theorem testBit_or_left {a b k : Nat} (h : a.testBit k = true) : (a ||| b).testBit k = true := by simp [Nat.testBit_or, h]
theorem blowFuse_grows (j : FuseJob) (ok touched : Bool) (f : Fuses) : FusesGrow f (blowFuse j ok touched f) := by
  unfold blowFuse
  split
  · exact FusesGrow.refl f
  · split
    · exact ⟨fun _ h => testBit_or_left h, fun _ h => h, id⟩
    · exact ⟨fun _ h => h, fun _ h => testBit_or_left h, id⟩
    · split
      · exact ⟨fun _ h => h, fun _ h => h, fun _ => rfl⟩
      · exact FusesGrow.refl f

/-! ### Raising a fault (R457, R462) -/

theorem note_kept {a s : State} (n : Note) (h : Kept a s) : Kept a (note n s) := kept_mk h rfl (fun h => h)
theorem updWin_kept {a s : State} (k : Nat) (f : FaultWin → FaultWin) (h : Kept a s) : Kept a (updWin k f s) := kept_mk h rfl (fun h => h)

theorem rcdTrigger_kept {a s : State} (n : Nat) (h : Kept a s) : Kept a (rcdTrigger n s) := by
  unfold rcdTrigger
  exact kept_ite h (kept_ite (kept_mk h rfl (fun h => h)) (kept_ite (kept_mk h rfl (fun h => h)) h))

theorem drivePin_kept {a s : State} (p : HeldPin) (l : Nat) (h : Kept a s) : Kept a (drivePin p l s) := kept_mk h rfl (fun h => h)

theorem driveThr_kept {a s : State} (k : Nat) (h : Kept a s) : Kept a (driveThr k s) := drivePin_kept _ _ h

theorem throttlePins_kept {a s : State} (b n : Nat) (h : Kept a s) : Kept a (throttlePins b n s) := by
  unfold throttlePins
  split
  · exact kept_ite h (forEach_kept (fun k s => driveThr_kept k) h)
  · exact h

theorem assertErr_kept {a s : State} (h : Kept a s) : Kept a (assertErr s) :=
  drivePin_kept _ _ (kept_mk h rfl (fun h => h))

theorem askChipReset_kept {a s : State} (u : FUnit) (h : Kept a s) : Kept a (askChipReset u s) :=
  note_kept _ (kept_mk h rfl (fun h => h))

theorem askBlockReset_kept {a s : State} (u : FUnit) (i : Nat) (h : Kept a s) : Kept a (askBlockReset u i s) :=
  kept_ite (updWin_kept _ _ h) (note_kept _ (updWin_kept _ _ h))

/-- A raise writes the unit's window, the marks of the end of the step, the log's entries, ERR_N and the recorder; nothing that the invariant is about. -/
theorem raise_kept {a s : State} (u : FUnit) (src : Nat) (cls : FClass) (i : FaultInfo) (h : Kept a s) : Kept a (raise u src cls i s) := by
  unfold raise
  extract_lets r w w1 e w2 w3 s1 s2 nv s3 s4 s5 s6 s7
  have h1 : Kept a s1 := throttlePins_kept _ _ (updWin_kept _ _ h)
  clear_value s1
  have h2 : Kept a s2 := kept_ite (note_kept _ h1) h1
  clear_value s2
  have h3 : Kept a s3 := kept_ite (kept_mk h2 rfl (fun h => h)) h2
  clear_value s3
  have h4 : Kept a s4 := kept_ite (note_kept _ h3) h3
  clear_value s4
  have h5 : Kept a s5 := kept_ite (assertErr_kept h4) h4
  clear_value s5
  have h6 : Kept a s6 := kept_ite (rcdTrigger_kept _ h5) h5
  clear_value s6
  have h7 : Kept a s7 := kept_ite (note_kept _ h6) h6
  exact kept_ite (askChipReset_kept _ h7) (kept_ite (askBlockReset_kept _ _ h7) h7)

end Sys2Proof.Machine
end

