-- ==== Sys2Proof/Laws/State.lean ====
section
/-! SUPPORT. For each update of the state, what every field of the state is after it: true by unfolding the update, so that a proof never unfolds a record. -/

namespace Sys2Proof.Machine

variable (s : State)

/-! ### `setWord` -/

@[simp] theorem setWord_pending (off) (w) : (setWord off w s).pending = s.pending := rfl
@[simp] theorem setWord_fresh (off) (w) : (setWord off w s).fresh = s.fresh := rfl
@[simp] theorem setWord_notes (off) (w) : (setWord off w s).notes = s.notes := rfl
@[simp] theorem setWord_tbs (off) (w) : (setWord off w s).tbs = s.tbs := rfl
@[simp] theorem setWord_und (off) (w) : (setWord off w s).und = s.und := rfl
@[simp] theorem setWord_fuses (off) (w) : (setWord off w s).fuses = s.fuses := rfl
@[simp] theorem setWord_pace (off) (w) : (setWord off w s).pace = s.pace := rfl
@[simp] theorem setWord_regs (off) (w) : (setWord off w s).regs = { s.regs with words := tput s.regs.words off w } := rfl
@[simp] theorem setWord_fw (off) (w) : (setWord off w s).fw = s.fw := rfl
@[simp] theorem setWord_err (off) (w) : (setWord off w s).err = s.err := rfl
@[simp] theorem setWord_procs (off) (w) : (setWord off w s).procs = s.procs := rfl
@[simp] theorem setWord_mbx (off) (w) : (setWord off w s).mbx = s.mbx := rfl
@[simp] theorem setWord_sec (off) (w) : (setWord off w s).sec = s.sec := rfl
@[simp] theorem setWord_upd (off) (w) : (setWord off w s).upd = s.upd := rfl
@[simp] theorem setWord_nvs (off) (w) : (setWord off w s).nvs = s.nvs := rfl
@[simp] theorem setWord_mram (off) (w) : (setWord off w s).mram = s.mram := rfl
@[simp] theorem setWord_cfg (off) (w) : (setWord off w s).cfg = s.cfg := rfl
@[simp] theorem setWord_gld (off) (w) : (setWord off w s).gld = s.gld := rfl
@[simp] theorem setWord_seq (off) (w) : (setWord off w s).seq = s.seq := rfl
@[simp] theorem setWord_shp (off) (w) : (setWord off w s).shp = s.shp := rfl
@[simp] theorem setWord_afe (off) (w) : (setWord off w s).afe = s.afe := rfl
@[simp] theorem setWord_thm (off) (w) : (setWord off w s).thm = s.thm := rfl
@[simp] theorem setWord_thrForced (off) (w) : (setWord off w s).thrForced = s.thrForced := rfl
@[simp] theorem setWord_lkf (off) (w) : (setWord off w s).lkf = s.lkf := rfl
@[simp] theorem setWord_mdie (off) (w) : (setWord off w s).mdie = s.mdie := rfl
@[simp] theorem setWord_mch (off) (w) : (setWord off w s).mch = s.mch := rfl
@[simp] theorem setWord_mot (off) (w) : (setWord off w s).mot = s.mot := rfl
@[simp] theorem setWord_cnp (off) (w) : (setWord off w s).cnp = s.cnp := rfl
@[simp] theorem setWord_cus (off) (w) : (setWord off w s).cus = s.cus := rfl
@[simp] theorem setWord_gcl (off) (w) : (setWord off w s).gcl = s.gcl := rfl
@[simp] theorem setWord_mem (off) (w) : (setWord off w s).mem = s.mem := rfl
@[simp] theorem setWord_dram (off) (w) : (setWord off w s).dram = s.dram := rfl
@[simp] theorem setWord_twpCfg (off) (w) : (setWord off w s).twpCfg = s.twpCfg := rfl
@[simp] theorem setWord_twp (off) (w) : (setWord off w s).twp = s.twp := rfl
@[simp] theorem setWord_arb (off) (w) : (setWord off w s).arb = s.arb := rfl
@[simp] theorem setWord_pmd (off) (w) : (setWord off w s).pmd = s.pmd := rfl
@[simp] theorem setWord_cas (off) (w) : (setWord off w s).cas = s.cas := rfl
@[simp] theorem setWord_tap (off) (w) : (setWord off w s).tap = s.tap := rfl

/-! ### `setLive` -/

@[simp] theorem setLive_pending (off) (w) : (setLive off w s).pending = s.pending := rfl
@[simp] theorem setLive_fresh (off) (w) : (setLive off w s).fresh = s.fresh := rfl
@[simp] theorem setLive_notes (off) (w) : (setLive off w s).notes = s.notes := rfl
@[simp] theorem setLive_tbs (off) (w) : (setLive off w s).tbs = s.tbs := rfl
@[simp] theorem setLive_und (off) (w) : (setLive off w s).und = s.und := rfl
@[simp] theorem setLive_fuses (off) (w) : (setLive off w s).fuses = s.fuses := rfl
@[simp] theorem setLive_pace (off) (w) : (setLive off w s).pace = s.pace := rfl
@[simp] theorem setLive_regs (off) (w) : (setLive off w s).regs = { s.regs with live := tput s.regs.live off w } := rfl
@[simp] theorem setLive_fw (off) (w) : (setLive off w s).fw = s.fw := rfl
@[simp] theorem setLive_err (off) (w) : (setLive off w s).err = s.err := rfl
@[simp] theorem setLive_procs (off) (w) : (setLive off w s).procs = s.procs := rfl
@[simp] theorem setLive_mbx (off) (w) : (setLive off w s).mbx = s.mbx := rfl
@[simp] theorem setLive_sec (off) (w) : (setLive off w s).sec = s.sec := rfl
@[simp] theorem setLive_upd (off) (w) : (setLive off w s).upd = s.upd := rfl
@[simp] theorem setLive_nvs (off) (w) : (setLive off w s).nvs = s.nvs := rfl
@[simp] theorem setLive_mram (off) (w) : (setLive off w s).mram = s.mram := rfl
@[simp] theorem setLive_cfg (off) (w) : (setLive off w s).cfg = s.cfg := rfl
@[simp] theorem setLive_gld (off) (w) : (setLive off w s).gld = s.gld := rfl
@[simp] theorem setLive_seq (off) (w) : (setLive off w s).seq = s.seq := rfl
@[simp] theorem setLive_shp (off) (w) : (setLive off w s).shp = s.shp := rfl
@[simp] theorem setLive_afe (off) (w) : (setLive off w s).afe = s.afe := rfl
@[simp] theorem setLive_thm (off) (w) : (setLive off w s).thm = s.thm := rfl
@[simp] theorem setLive_thrForced (off) (w) : (setLive off w s).thrForced = s.thrForced := rfl
@[simp] theorem setLive_lkf (off) (w) : (setLive off w s).lkf = s.lkf := rfl
@[simp] theorem setLive_mdie (off) (w) : (setLive off w s).mdie = s.mdie := rfl
@[simp] theorem setLive_mch (off) (w) : (setLive off w s).mch = s.mch := rfl
@[simp] theorem setLive_mot (off) (w) : (setLive off w s).mot = s.mot := rfl
@[simp] theorem setLive_cnp (off) (w) : (setLive off w s).cnp = s.cnp := rfl
@[simp] theorem setLive_cus (off) (w) : (setLive off w s).cus = s.cus := rfl
@[simp] theorem setLive_gcl (off) (w) : (setLive off w s).gcl = s.gcl := rfl
@[simp] theorem setLive_mem (off) (w) : (setLive off w s).mem = s.mem := rfl
@[simp] theorem setLive_dram (off) (w) : (setLive off w s).dram = s.dram := rfl
@[simp] theorem setLive_twpCfg (off) (w) : (setLive off w s).twpCfg = s.twpCfg := rfl
@[simp] theorem setLive_twp (off) (w) : (setLive off w s).twp = s.twp := rfl
@[simp] theorem setLive_arb (off) (w) : (setLive off w s).arb = s.arb := rfl
@[simp] theorem setLive_pmd (off) (w) : (setLive off w s).pmd = s.pmd := rfl
@[simp] theorem setLive_cas (off) (w) : (setLive off w s).cas = s.cas := rfl
@[simp] theorem setLive_tap (off) (w) : (setLive off w s).tap = s.tap := rfl

/-! ### `setPair` -/

@[simp] theorem setPair_pending (off) (w) : (setPair off w s).pending = s.pending := rfl
@[simp] theorem setPair_fresh (off) (w) : (setPair off w s).fresh = s.fresh := rfl
@[simp] theorem setPair_notes (off) (w) : (setPair off w s).notes = s.notes := rfl
@[simp] theorem setPair_tbs (off) (w) : (setPair off w s).tbs = s.tbs := rfl
@[simp] theorem setPair_und (off) (w) : (setPair off w s).und = s.und := rfl
@[simp] theorem setPair_fuses (off) (w) : (setPair off w s).fuses = s.fuses := rfl
@[simp] theorem setPair_pace (off) (w) : (setPair off w s).pace = s.pace := rfl
@[simp] theorem setPair_regs (off) (w) : (setPair off w s).regs = { s.regs with words := tput s.regs.words off w, half := terase s.regs.half off } := rfl
@[simp] theorem setPair_fw (off) (w) : (setPair off w s).fw = s.fw := rfl
@[simp] theorem setPair_err (off) (w) : (setPair off w s).err = s.err := rfl
@[simp] theorem setPair_procs (off) (w) : (setPair off w s).procs = s.procs := rfl
@[simp] theorem setPair_mbx (off) (w) : (setPair off w s).mbx = s.mbx := rfl
@[simp] theorem setPair_sec (off) (w) : (setPair off w s).sec = s.sec := rfl
@[simp] theorem setPair_upd (off) (w) : (setPair off w s).upd = s.upd := rfl
@[simp] theorem setPair_nvs (off) (w) : (setPair off w s).nvs = s.nvs := rfl
@[simp] theorem setPair_mram (off) (w) : (setPair off w s).mram = s.mram := rfl
@[simp] theorem setPair_cfg (off) (w) : (setPair off w s).cfg = s.cfg := rfl
@[simp] theorem setPair_gld (off) (w) : (setPair off w s).gld = s.gld := rfl
@[simp] theorem setPair_seq (off) (w) : (setPair off w s).seq = s.seq := rfl
@[simp] theorem setPair_shp (off) (w) : (setPair off w s).shp = s.shp := rfl
@[simp] theorem setPair_afe (off) (w) : (setPair off w s).afe = s.afe := rfl
@[simp] theorem setPair_thm (off) (w) : (setPair off w s).thm = s.thm := rfl
@[simp] theorem setPair_thrForced (off) (w) : (setPair off w s).thrForced = s.thrForced := rfl
@[simp] theorem setPair_lkf (off) (w) : (setPair off w s).lkf = s.lkf := rfl
@[simp] theorem setPair_mdie (off) (w) : (setPair off w s).mdie = s.mdie := rfl
@[simp] theorem setPair_mch (off) (w) : (setPair off w s).mch = s.mch := rfl
@[simp] theorem setPair_mot (off) (w) : (setPair off w s).mot = s.mot := rfl
@[simp] theorem setPair_cnp (off) (w) : (setPair off w s).cnp = s.cnp := rfl
@[simp] theorem setPair_cus (off) (w) : (setPair off w s).cus = s.cus := rfl
@[simp] theorem setPair_gcl (off) (w) : (setPair off w s).gcl = s.gcl := rfl
@[simp] theorem setPair_mem (off) (w) : (setPair off w s).mem = s.mem := rfl
@[simp] theorem setPair_dram (off) (w) : (setPair off w s).dram = s.dram := rfl
@[simp] theorem setPair_twpCfg (off) (w) : (setPair off w s).twpCfg = s.twpCfg := rfl
@[simp] theorem setPair_twp (off) (w) : (setPair off w s).twp = s.twp := rfl
@[simp] theorem setPair_arb (off) (w) : (setPair off w s).arb = s.arb := rfl
@[simp] theorem setPair_pmd (off) (w) : (setPair off w s).pmd = s.pmd := rfl
@[simp] theorem setPair_cas (off) (w) : (setPair off w s).cas = s.cas := rfl
@[simp] theorem setPair_tap (off) (w) : (setPair off w s).tap = s.tap := rfl

/-! ### `setTag` -/

@[simp] theorem setTag_pending (off) (w) : (setTag off w s).pending = s.pending := rfl
@[simp] theorem setTag_fresh (off) (w) : (setTag off w s).fresh = s.fresh := rfl
@[simp] theorem setTag_notes (off) (w) : (setTag off w s).notes = s.notes := rfl
@[simp] theorem setTag_tbs (off) (w) : (setTag off w s).tbs = s.tbs := rfl
@[simp] theorem setTag_und (off) (w) : (setTag off w s).und = s.und := rfl
@[simp] theorem setTag_fuses (off) (w) : (setTag off w s).fuses = s.fuses := rfl
@[simp] theorem setTag_pace (off) (w) : (setTag off w s).pace = s.pace := rfl
@[simp] theorem setTag_regs (off) (w) : (setTag off w s).regs = { s.regs with tags := tset 0 s.regs.tags off w } := rfl
@[simp] theorem setTag_fw (off) (w) : (setTag off w s).fw = s.fw := rfl
@[simp] theorem setTag_err (off) (w) : (setTag off w s).err = s.err := rfl
@[simp] theorem setTag_procs (off) (w) : (setTag off w s).procs = s.procs := rfl
@[simp] theorem setTag_mbx (off) (w) : (setTag off w s).mbx = s.mbx := rfl
@[simp] theorem setTag_sec (off) (w) : (setTag off w s).sec = s.sec := rfl
@[simp] theorem setTag_upd (off) (w) : (setTag off w s).upd = s.upd := rfl
@[simp] theorem setTag_nvs (off) (w) : (setTag off w s).nvs = s.nvs := rfl
@[simp] theorem setTag_mram (off) (w) : (setTag off w s).mram = s.mram := rfl
@[simp] theorem setTag_cfg (off) (w) : (setTag off w s).cfg = s.cfg := rfl
@[simp] theorem setTag_gld (off) (w) : (setTag off w s).gld = s.gld := rfl
@[simp] theorem setTag_seq (off) (w) : (setTag off w s).seq = s.seq := rfl
@[simp] theorem setTag_shp (off) (w) : (setTag off w s).shp = s.shp := rfl
@[simp] theorem setTag_afe (off) (w) : (setTag off w s).afe = s.afe := rfl
@[simp] theorem setTag_thm (off) (w) : (setTag off w s).thm = s.thm := rfl
@[simp] theorem setTag_thrForced (off) (w) : (setTag off w s).thrForced = s.thrForced := rfl
@[simp] theorem setTag_lkf (off) (w) : (setTag off w s).lkf = s.lkf := rfl
@[simp] theorem setTag_mdie (off) (w) : (setTag off w s).mdie = s.mdie := rfl
@[simp] theorem setTag_mch (off) (w) : (setTag off w s).mch = s.mch := rfl
@[simp] theorem setTag_mot (off) (w) : (setTag off w s).mot = s.mot := rfl
@[simp] theorem setTag_cnp (off) (w) : (setTag off w s).cnp = s.cnp := rfl
@[simp] theorem setTag_cus (off) (w) : (setTag off w s).cus = s.cus := rfl
@[simp] theorem setTag_gcl (off) (w) : (setTag off w s).gcl = s.gcl := rfl
@[simp] theorem setTag_mem (off) (w) : (setTag off w s).mem = s.mem := rfl
@[simp] theorem setTag_dram (off) (w) : (setTag off w s).dram = s.dram := rfl
@[simp] theorem setTag_twpCfg (off) (w) : (setTag off w s).twpCfg = s.twpCfg := rfl
@[simp] theorem setTag_twp (off) (w) : (setTag off w s).twp = s.twp := rfl
@[simp] theorem setTag_arb (off) (w) : (setTag off w s).arb = s.arb := rfl
@[simp] theorem setTag_pmd (off) (w) : (setTag off w s).pmd = s.pmd := rfl
@[simp] theorem setTag_cas (off) (w) : (setTag off w s).cas = s.cas := rfl
@[simp] theorem setTag_tap (off) (w) : (setTag off w s).tap = s.tap := rfl

/-! ### `updCommit` -/

@[simp] theorem updCommit_pending (r) (f) : (updCommit r f s).pending = s.pending := rfl
@[simp] theorem updCommit_fresh (r) (f) : (updCommit r f s).fresh = s.fresh := rfl
@[simp] theorem updCommit_notes (r) (f) : (updCommit r f s).notes = s.notes := rfl
@[simp] theorem updCommit_tbs (r) (f) : (updCommit r f s).tbs = s.tbs := rfl
@[simp] theorem updCommit_und (r) (f) : (updCommit r f s).und = s.und := rfl
@[simp] theorem updCommit_fuses (r) (f) : (updCommit r f s).fuses = s.fuses := rfl
@[simp] theorem updCommit_pace (r) (f) : (updCommit r f s).pace = s.pace := rfl
@[simp] theorem updCommit_regs (r) (f) : (updCommit r f s).regs = { s.regs with commits := tupd {} s.regs.commits r f } := rfl
@[simp] theorem updCommit_fw (r) (f) : (updCommit r f s).fw = s.fw := rfl
@[simp] theorem updCommit_err (r) (f) : (updCommit r f s).err = s.err := rfl
@[simp] theorem updCommit_procs (r) (f) : (updCommit r f s).procs = s.procs := rfl
@[simp] theorem updCommit_mbx (r) (f) : (updCommit r f s).mbx = s.mbx := rfl
@[simp] theorem updCommit_sec (r) (f) : (updCommit r f s).sec = s.sec := rfl
@[simp] theorem updCommit_upd (r) (f) : (updCommit r f s).upd = s.upd := rfl
@[simp] theorem updCommit_nvs (r) (f) : (updCommit r f s).nvs = s.nvs := rfl
@[simp] theorem updCommit_mram (r) (f) : (updCommit r f s).mram = s.mram := rfl
@[simp] theorem updCommit_cfg (r) (f) : (updCommit r f s).cfg = s.cfg := rfl
@[simp] theorem updCommit_gld (r) (f) : (updCommit r f s).gld = s.gld := rfl
@[simp] theorem updCommit_seq (r) (f) : (updCommit r f s).seq = s.seq := rfl
@[simp] theorem updCommit_shp (r) (f) : (updCommit r f s).shp = s.shp := rfl
@[simp] theorem updCommit_afe (r) (f) : (updCommit r f s).afe = s.afe := rfl
@[simp] theorem updCommit_thm (r) (f) : (updCommit r f s).thm = s.thm := rfl
@[simp] theorem updCommit_thrForced (r) (f) : (updCommit r f s).thrForced = s.thrForced := rfl
@[simp] theorem updCommit_lkf (r) (f) : (updCommit r f s).lkf = s.lkf := rfl
@[simp] theorem updCommit_mdie (r) (f) : (updCommit r f s).mdie = s.mdie := rfl
@[simp] theorem updCommit_mch (r) (f) : (updCommit r f s).mch = s.mch := rfl
@[simp] theorem updCommit_mot (r) (f) : (updCommit r f s).mot = s.mot := rfl
@[simp] theorem updCommit_cnp (r) (f) : (updCommit r f s).cnp = s.cnp := rfl
@[simp] theorem updCommit_cus (r) (f) : (updCommit r f s).cus = s.cus := rfl
@[simp] theorem updCommit_gcl (r) (f) : (updCommit r f s).gcl = s.gcl := rfl
@[simp] theorem updCommit_mem (r) (f) : (updCommit r f s).mem = s.mem := rfl
@[simp] theorem updCommit_dram (r) (f) : (updCommit r f s).dram = s.dram := rfl
@[simp] theorem updCommit_twpCfg (r) (f) : (updCommit r f s).twpCfg = s.twpCfg := rfl
@[simp] theorem updCommit_twp (r) (f) : (updCommit r f s).twp = s.twp := rfl
@[simp] theorem updCommit_arb (r) (f) : (updCommit r f s).arb = s.arb := rfl
@[simp] theorem updCommit_pmd (r) (f) : (updCommit r f s).pmd = s.pmd := rfl
@[simp] theorem updCommit_cas (r) (f) : (updCommit r f s).cas = s.cas := rfl
@[simp] theorem updCommit_tap (r) (f) : (updCommit r f s).tap = s.tap := rfl

/-! ### `note` -/

@[simp] theorem note_pending (n) : (note n s).pending = s.pending := rfl
@[simp] theorem note_fresh (n) : (note n s).fresh = s.fresh := rfl
@[simp] theorem note_notes (n) : (note n s).notes = s.notes ++ [n] := rfl
@[simp] theorem note_tbs (n) : (note n s).tbs = s.tbs := rfl
@[simp] theorem note_und (n) : (note n s).und = s.und := rfl
@[simp] theorem note_fuses (n) : (note n s).fuses = s.fuses := rfl
@[simp] theorem note_pace (n) : (note n s).pace = s.pace := rfl
@[simp] theorem note_regs (n) : (note n s).regs = s.regs := rfl
@[simp] theorem note_fw (n) : (note n s).fw = s.fw := rfl
@[simp] theorem note_err (n) : (note n s).err = s.err := rfl
@[simp] theorem note_procs (n) : (note n s).procs = s.procs := rfl
@[simp] theorem note_mbx (n) : (note n s).mbx = s.mbx := rfl
@[simp] theorem note_sec (n) : (note n s).sec = s.sec := rfl
@[simp] theorem note_upd (n) : (note n s).upd = s.upd := rfl
@[simp] theorem note_nvs (n) : (note n s).nvs = s.nvs := rfl
@[simp] theorem note_mram (n) : (note n s).mram = s.mram := rfl
@[simp] theorem note_cfg (n) : (note n s).cfg = s.cfg := rfl
@[simp] theorem note_gld (n) : (note n s).gld = s.gld := rfl
@[simp] theorem note_seq (n) : (note n s).seq = s.seq := rfl
@[simp] theorem note_shp (n) : (note n s).shp = s.shp := rfl
@[simp] theorem note_afe (n) : (note n s).afe = s.afe := rfl
@[simp] theorem note_thm (n) : (note n s).thm = s.thm := rfl
@[simp] theorem note_thrForced (n) : (note n s).thrForced = s.thrForced := rfl
@[simp] theorem note_lkf (n) : (note n s).lkf = s.lkf := rfl
@[simp] theorem note_mdie (n) : (note n s).mdie = s.mdie := rfl
@[simp] theorem note_mch (n) : (note n s).mch = s.mch := rfl
@[simp] theorem note_mot (n) : (note n s).mot = s.mot := rfl
@[simp] theorem note_cnp (n) : (note n s).cnp = s.cnp := rfl
@[simp] theorem note_cus (n) : (note n s).cus = s.cus := rfl
@[simp] theorem note_gcl (n) : (note n s).gcl = s.gcl := rfl
@[simp] theorem note_mem (n) : (note n s).mem = s.mem := rfl
@[simp] theorem note_dram (n) : (note n s).dram = s.dram := rfl
@[simp] theorem note_twpCfg (n) : (note n s).twpCfg = s.twpCfg := rfl
@[simp] theorem note_twp (n) : (note n s).twp = s.twp := rfl
@[simp] theorem note_arb (n) : (note n s).arb = s.arb := rfl
@[simp] theorem note_pmd (n) : (note n s).pmd = s.pmd := rfl
@[simp] theorem note_cas (n) : (note n s).cas = s.cas := rfl
@[simp] theorem note_tap (n) : (note n s).tap = s.tap := rfl

/-! ### `updWin` -/

@[simp] theorem updWin_pending (k) (f) : (updWin k f s).pending = s.pending := rfl
@[simp] theorem updWin_fresh (k) (f) : (updWin k f s).fresh = s.fresh := rfl
@[simp] theorem updWin_notes (k) (f) : (updWin k f s).notes = s.notes := rfl
@[simp] theorem updWin_tbs (k) (f) : (updWin k f s).tbs = s.tbs := rfl
@[simp] theorem updWin_und (k) (f) : (updWin k f s).und = s.und := rfl
@[simp] theorem updWin_fuses (k) (f) : (updWin k f s).fuses = s.fuses := rfl
@[simp] theorem updWin_pace (k) (f) : (updWin k f s).pace = s.pace := rfl
@[simp] theorem updWin_regs (k) (f) : (updWin k f s).regs = s.regs := rfl
@[simp] theorem updWin_fw (k) (f) : (updWin k f s).fw = tupd {} s.fw k f := rfl
@[simp] theorem updWin_err (k) (f) : (updWin k f s).err = s.err := rfl
@[simp] theorem updWin_procs (k) (f) : (updWin k f s).procs = s.procs := rfl
@[simp] theorem updWin_mbx (k) (f) : (updWin k f s).mbx = s.mbx := rfl
@[simp] theorem updWin_sec (k) (f) : (updWin k f s).sec = s.sec := rfl
@[simp] theorem updWin_upd (k) (f) : (updWin k f s).upd = s.upd := rfl
@[simp] theorem updWin_nvs (k) (f) : (updWin k f s).nvs = s.nvs := rfl
@[simp] theorem updWin_mram (k) (f) : (updWin k f s).mram = s.mram := rfl
@[simp] theorem updWin_cfg (k) (f) : (updWin k f s).cfg = s.cfg := rfl
@[simp] theorem updWin_gld (k) (f) : (updWin k f s).gld = s.gld := rfl
@[simp] theorem updWin_seq (k) (f) : (updWin k f s).seq = s.seq := rfl
@[simp] theorem updWin_shp (k) (f) : (updWin k f s).shp = s.shp := rfl
@[simp] theorem updWin_afe (k) (f) : (updWin k f s).afe = s.afe := rfl
@[simp] theorem updWin_thm (k) (f) : (updWin k f s).thm = s.thm := rfl
@[simp] theorem updWin_thrForced (k) (f) : (updWin k f s).thrForced = s.thrForced := rfl
@[simp] theorem updWin_lkf (k) (f) : (updWin k f s).lkf = s.lkf := rfl
@[simp] theorem updWin_mdie (k) (f) : (updWin k f s).mdie = s.mdie := rfl
@[simp] theorem updWin_mch (k) (f) : (updWin k f s).mch = s.mch := rfl
@[simp] theorem updWin_mot (k) (f) : (updWin k f s).mot = s.mot := rfl
@[simp] theorem updWin_cnp (k) (f) : (updWin k f s).cnp = s.cnp := rfl
@[simp] theorem updWin_cus (k) (f) : (updWin k f s).cus = s.cus := rfl
@[simp] theorem updWin_gcl (k) (f) : (updWin k f s).gcl = s.gcl := rfl
@[simp] theorem updWin_mem (k) (f) : (updWin k f s).mem = s.mem := rfl
@[simp] theorem updWin_dram (k) (f) : (updWin k f s).dram = s.dram := rfl
@[simp] theorem updWin_twpCfg (k) (f) : (updWin k f s).twpCfg = s.twpCfg := rfl
@[simp] theorem updWin_twp (k) (f) : (updWin k f s).twp = s.twp := rfl
@[simp] theorem updWin_arb (k) (f) : (updWin k f s).arb = s.arb := rfl
@[simp] theorem updWin_pmd (k) (f) : (updWin k f s).pmd = s.pmd := rfl
@[simp] theorem updWin_cas (k) (f) : (updWin k f s).cas = s.cas := rfl
@[simp] theorem updWin_tap (k) (f) : (updWin k f s).tap = s.tap := rfl

/-! ### `updProc` -/

@[simp] theorem updProc_pending (p) (f) : (updProc p f s).pending = s.pending := rfl
@[simp] theorem updProc_fresh (p) (f) : (updProc p f s).fresh = s.fresh := rfl
@[simp] theorem updProc_notes (p) (f) : (updProc p f s).notes = s.notes := rfl
@[simp] theorem updProc_tbs (p) (f) : (updProc p f s).tbs = s.tbs := rfl
@[simp] theorem updProc_und (p) (f) : (updProc p f s).und = s.und := rfl
@[simp] theorem updProc_fuses (p) (f) : (updProc p f s).fuses = s.fuses := rfl
@[simp] theorem updProc_pace (p) (f) : (updProc p f s).pace = s.pace := rfl
@[simp] theorem updProc_regs (p) (f) : (updProc p f s).regs = s.regs := rfl
@[simp] theorem updProc_fw (p) (f) : (updProc p f s).fw = s.fw := rfl
@[simp] theorem updProc_err (p) (f) : (updProc p f s).err = s.err := rfl
@[simp] theorem updProc_procs (p) (f) : (updProc p f s).procs = tupd {} s.procs p.num f := rfl
@[simp] theorem updProc_mbx (p) (f) : (updProc p f s).mbx = s.mbx := rfl
@[simp] theorem updProc_sec (p) (f) : (updProc p f s).sec = s.sec := rfl
@[simp] theorem updProc_upd (p) (f) : (updProc p f s).upd = s.upd := rfl
@[simp] theorem updProc_nvs (p) (f) : (updProc p f s).nvs = s.nvs := rfl
@[simp] theorem updProc_mram (p) (f) : (updProc p f s).mram = s.mram := rfl
@[simp] theorem updProc_cfg (p) (f) : (updProc p f s).cfg = s.cfg := rfl
@[simp] theorem updProc_gld (p) (f) : (updProc p f s).gld = s.gld := rfl
@[simp] theorem updProc_seq (p) (f) : (updProc p f s).seq = s.seq := rfl
@[simp] theorem updProc_shp (p) (f) : (updProc p f s).shp = s.shp := rfl
@[simp] theorem updProc_afe (p) (f) : (updProc p f s).afe = s.afe := rfl
@[simp] theorem updProc_thm (p) (f) : (updProc p f s).thm = s.thm := rfl
@[simp] theorem updProc_thrForced (p) (f) : (updProc p f s).thrForced = s.thrForced := rfl
@[simp] theorem updProc_lkf (p) (f) : (updProc p f s).lkf = s.lkf := rfl
@[simp] theorem updProc_mdie (p) (f) : (updProc p f s).mdie = s.mdie := rfl
@[simp] theorem updProc_mch (p) (f) : (updProc p f s).mch = s.mch := rfl
@[simp] theorem updProc_mot (p) (f) : (updProc p f s).mot = s.mot := rfl
@[simp] theorem updProc_cnp (p) (f) : (updProc p f s).cnp = s.cnp := rfl
@[simp] theorem updProc_cus (p) (f) : (updProc p f s).cus = s.cus := rfl
@[simp] theorem updProc_gcl (p) (f) : (updProc p f s).gcl = s.gcl := rfl
@[simp] theorem updProc_mem (p) (f) : (updProc p f s).mem = s.mem := rfl
@[simp] theorem updProc_dram (p) (f) : (updProc p f s).dram = s.dram := rfl
@[simp] theorem updProc_twpCfg (p) (f) : (updProc p f s).twpCfg = s.twpCfg := rfl
@[simp] theorem updProc_twp (p) (f) : (updProc p f s).twp = s.twp := rfl
@[simp] theorem updProc_arb (p) (f) : (updProc p f s).arb = s.arb := rfl
@[simp] theorem updProc_pmd (p) (f) : (updProc p f s).pmd = s.pmd := rfl
@[simp] theorem updProc_cas (p) (f) : (updProc p f s).cas = s.cas := rfl
@[simp] theorem updProc_tap (p) (f) : (updProc p f s).tap = s.tap := rfl

/-! ### `updTile` -/

@[simp] theorem updTile_pending (t) (f) : (updTile t f s).pending = s.pending := rfl
@[simp] theorem updTile_fresh (t) (f) : (updTile t f s).fresh = s.fresh := rfl
@[simp] theorem updTile_notes (t) (f) : (updTile t f s).notes = s.notes := rfl
@[simp] theorem updTile_tbs (t) (f) : (updTile t f s).tbs = s.tbs := rfl
@[simp] theorem updTile_und (t) (f) : (updTile t f s).und = s.und := rfl
@[simp] theorem updTile_fuses (t) (f) : (updTile t f s).fuses = s.fuses := rfl
@[simp] theorem updTile_pace (t) (f) : (updTile t f s).pace = s.pace := rfl
@[simp] theorem updTile_regs (t) (f) : (updTile t f s).regs = s.regs := rfl
@[simp] theorem updTile_fw (t) (f) : (updTile t f s).fw = s.fw := rfl
@[simp] theorem updTile_err (t) (f) : (updTile t f s).err = s.err := rfl
@[simp] theorem updTile_procs (t) (f) : (updTile t f s).procs = s.procs := rfl
@[simp] theorem updTile_mbx (t) (f) : (updTile t f s).mbx = s.mbx := rfl
@[simp] theorem updTile_sec (t) (f) : (updTile t f s).sec = s.sec := rfl
@[simp] theorem updTile_upd (t) (f) : (updTile t f s).upd = s.upd := rfl
@[simp] theorem updTile_nvs (t) (f) : (updTile t f s).nvs = s.nvs := rfl
@[simp] theorem updTile_mram (t) (f) : (updTile t f s).mram = s.mram := rfl
@[simp] theorem updTile_cfg (t) (f) : (updTile t f s).cfg = s.cfg := rfl
@[simp] theorem updTile_gld (t) (f) : (updTile t f s).gld = { s.gld with tile := tupd {} s.gld.tile t f } := rfl
@[simp] theorem updTile_seq (t) (f) : (updTile t f s).seq = s.seq := rfl
@[simp] theorem updTile_shp (t) (f) : (updTile t f s).shp = s.shp := rfl
@[simp] theorem updTile_afe (t) (f) : (updTile t f s).afe = s.afe := rfl
@[simp] theorem updTile_thm (t) (f) : (updTile t f s).thm = s.thm := rfl
@[simp] theorem updTile_thrForced (t) (f) : (updTile t f s).thrForced = s.thrForced := rfl
@[simp] theorem updTile_lkf (t) (f) : (updTile t f s).lkf = s.lkf := rfl
@[simp] theorem updTile_mdie (t) (f) : (updTile t f s).mdie = s.mdie := rfl
@[simp] theorem updTile_mch (t) (f) : (updTile t f s).mch = s.mch := rfl
@[simp] theorem updTile_mot (t) (f) : (updTile t f s).mot = s.mot := rfl
@[simp] theorem updTile_cnp (t) (f) : (updTile t f s).cnp = s.cnp := rfl
@[simp] theorem updTile_cus (t) (f) : (updTile t f s).cus = s.cus := rfl
@[simp] theorem updTile_gcl (t) (f) : (updTile t f s).gcl = s.gcl := rfl
@[simp] theorem updTile_mem (t) (f) : (updTile t f s).mem = s.mem := rfl
@[simp] theorem updTile_dram (t) (f) : (updTile t f s).dram = s.dram := rfl
@[simp] theorem updTile_twpCfg (t) (f) : (updTile t f s).twpCfg = s.twpCfg := rfl
@[simp] theorem updTile_twp (t) (f) : (updTile t f s).twp = s.twp := rfl
@[simp] theorem updTile_arb (t) (f) : (updTile t f s).arb = s.arb := rfl
@[simp] theorem updTile_pmd (t) (f) : (updTile t f s).pmd = s.pmd := rfl
@[simp] theorem updTile_cas (t) (f) : (updTile t f s).cas = s.cas := rfl
@[simp] theorem updTile_tap (t) (f) : (updTile t f s).tap = s.tap := rfl

/-! ### `updSlot` -/

@[simp] theorem updSlot_pending (n) (f) : (updSlot n f s).pending = s.pending := rfl
@[simp] theorem updSlot_fresh (n) (f) : (updSlot n f s).fresh = s.fresh := rfl
@[simp] theorem updSlot_notes (n) (f) : (updSlot n f s).notes = s.notes := rfl
@[simp] theorem updSlot_tbs (n) (f) : (updSlot n f s).tbs = s.tbs := rfl
@[simp] theorem updSlot_und (n) (f) : (updSlot n f s).und = s.und := rfl
@[simp] theorem updSlot_fuses (n) (f) : (updSlot n f s).fuses = s.fuses := rfl
@[simp] theorem updSlot_pace (n) (f) : (updSlot n f s).pace = s.pace := rfl
@[simp] theorem updSlot_regs (n) (f) : (updSlot n f s).regs = s.regs := rfl
@[simp] theorem updSlot_fw (n) (f) : (updSlot n f s).fw = s.fw := rfl
@[simp] theorem updSlot_err (n) (f) : (updSlot n f s).err = s.err := rfl
@[simp] theorem updSlot_procs (n) (f) : (updSlot n f s).procs = s.procs := rfl
@[simp] theorem updSlot_mbx (n) (f) : (updSlot n f s).mbx = s.mbx := rfl
@[simp] theorem updSlot_sec (n) (f) : (updSlot n f s).sec = s.sec := rfl
@[simp] theorem updSlot_upd (n) (f) : (updSlot n f s).upd = s.upd := rfl
@[simp] theorem updSlot_nvs (n) (f) : (updSlot n f s).nvs = s.nvs := rfl
@[simp] theorem updSlot_mram (n) (f) : (updSlot n f s).mram = s.mram := rfl
@[simp] theorem updSlot_cfg (n) (f) : (updSlot n f s).cfg = s.cfg := rfl
@[simp] theorem updSlot_gld (n) (f) : (updSlot n f s).gld = { s.gld with slot := tupd {} s.gld.slot n f } := rfl
@[simp] theorem updSlot_seq (n) (f) : (updSlot n f s).seq = s.seq := rfl
@[simp] theorem updSlot_shp (n) (f) : (updSlot n f s).shp = s.shp := rfl
@[simp] theorem updSlot_afe (n) (f) : (updSlot n f s).afe = s.afe := rfl
@[simp] theorem updSlot_thm (n) (f) : (updSlot n f s).thm = s.thm := rfl
@[simp] theorem updSlot_thrForced (n) (f) : (updSlot n f s).thrForced = s.thrForced := rfl
@[simp] theorem updSlot_lkf (n) (f) : (updSlot n f s).lkf = s.lkf := rfl
@[simp] theorem updSlot_mdie (n) (f) : (updSlot n f s).mdie = s.mdie := rfl
@[simp] theorem updSlot_mch (n) (f) : (updSlot n f s).mch = s.mch := rfl
@[simp] theorem updSlot_mot (n) (f) : (updSlot n f s).mot = s.mot := rfl
@[simp] theorem updSlot_cnp (n) (f) : (updSlot n f s).cnp = s.cnp := rfl
@[simp] theorem updSlot_cus (n) (f) : (updSlot n f s).cus = s.cus := rfl
@[simp] theorem updSlot_gcl (n) (f) : (updSlot n f s).gcl = s.gcl := rfl
@[simp] theorem updSlot_mem (n) (f) : (updSlot n f s).mem = s.mem := rfl
@[simp] theorem updSlot_dram (n) (f) : (updSlot n f s).dram = s.dram := rfl
@[simp] theorem updSlot_twpCfg (n) (f) : (updSlot n f s).twpCfg = s.twpCfg := rfl
@[simp] theorem updSlot_twp (n) (f) : (updSlot n f s).twp = s.twp := rfl
@[simp] theorem updSlot_arb (n) (f) : (updSlot n f s).arb = s.arb := rfl
@[simp] theorem updSlot_pmd (n) (f) : (updSlot n f s).pmd = s.pmd := rfl
@[simp] theorem updSlot_cas (n) (f) : (updSlot n f s).cas = s.cas := rfl
@[simp] theorem updSlot_tap (n) (f) : (updSlot n f s).tap = s.tap := rfl

/-! ### `updLatch` -/

@[simp] theorem updLatch_pending (p) (f) : (updLatch p f s).pending = s.pending := rfl
@[simp] theorem updLatch_fresh (p) (f) : (updLatch p f s).fresh = s.fresh := rfl
@[simp] theorem updLatch_notes (p) (f) : (updLatch p f s).notes = s.notes := rfl
@[simp] theorem updLatch_tbs (p) (f) : (updLatch p f s).tbs = s.tbs := rfl
@[simp] theorem updLatch_und (p) (f) : (updLatch p f s).und = { s.und with latches := tupd {} s.und.latches p f } := rfl
@[simp] theorem updLatch_fuses (p) (f) : (updLatch p f s).fuses = s.fuses := rfl
@[simp] theorem updLatch_pace (p) (f) : (updLatch p f s).pace = s.pace := rfl
@[simp] theorem updLatch_regs (p) (f) : (updLatch p f s).regs = s.regs := rfl
@[simp] theorem updLatch_fw (p) (f) : (updLatch p f s).fw = s.fw := rfl
@[simp] theorem updLatch_err (p) (f) : (updLatch p f s).err = s.err := rfl
@[simp] theorem updLatch_procs (p) (f) : (updLatch p f s).procs = s.procs := rfl
@[simp] theorem updLatch_mbx (p) (f) : (updLatch p f s).mbx = s.mbx := rfl
@[simp] theorem updLatch_sec (p) (f) : (updLatch p f s).sec = s.sec := rfl
@[simp] theorem updLatch_upd (p) (f) : (updLatch p f s).upd = s.upd := rfl
@[simp] theorem updLatch_nvs (p) (f) : (updLatch p f s).nvs = s.nvs := rfl
@[simp] theorem updLatch_mram (p) (f) : (updLatch p f s).mram = s.mram := rfl
@[simp] theorem updLatch_cfg (p) (f) : (updLatch p f s).cfg = s.cfg := rfl
@[simp] theorem updLatch_gld (p) (f) : (updLatch p f s).gld = s.gld := rfl
@[simp] theorem updLatch_seq (p) (f) : (updLatch p f s).seq = s.seq := rfl
@[simp] theorem updLatch_shp (p) (f) : (updLatch p f s).shp = s.shp := rfl
@[simp] theorem updLatch_afe (p) (f) : (updLatch p f s).afe = s.afe := rfl
@[simp] theorem updLatch_thm (p) (f) : (updLatch p f s).thm = s.thm := rfl
@[simp] theorem updLatch_thrForced (p) (f) : (updLatch p f s).thrForced = s.thrForced := rfl
@[simp] theorem updLatch_lkf (p) (f) : (updLatch p f s).lkf = s.lkf := rfl
@[simp] theorem updLatch_mdie (p) (f) : (updLatch p f s).mdie = s.mdie := rfl
@[simp] theorem updLatch_mch (p) (f) : (updLatch p f s).mch = s.mch := rfl
@[simp] theorem updLatch_mot (p) (f) : (updLatch p f s).mot = s.mot := rfl
@[simp] theorem updLatch_cnp (p) (f) : (updLatch p f s).cnp = s.cnp := rfl
@[simp] theorem updLatch_cus (p) (f) : (updLatch p f s).cus = s.cus := rfl
@[simp] theorem updLatch_gcl (p) (f) : (updLatch p f s).gcl = s.gcl := rfl
@[simp] theorem updLatch_mem (p) (f) : (updLatch p f s).mem = s.mem := rfl
@[simp] theorem updLatch_dram (p) (f) : (updLatch p f s).dram = s.dram := rfl
@[simp] theorem updLatch_twpCfg (p) (f) : (updLatch p f s).twpCfg = s.twpCfg := rfl
@[simp] theorem updLatch_twp (p) (f) : (updLatch p f s).twp = s.twp := rfl
@[simp] theorem updLatch_arb (p) (f) : (updLatch p f s).arb = s.arb := rfl
@[simp] theorem updLatch_pmd (p) (f) : (updLatch p f s).pmd = s.pmd := rfl
@[simp] theorem updLatch_cas (p) (f) : (updLatch p f s).cas = s.cas := rfl
@[simp] theorem updLatch_tap (p) (f) : (updLatch p f s).tap = s.tap := rfl

/-! ### `updPort` -/

@[simp] theorem updPort_pending (p) (f) : (updPort p f s).pending = s.pending := rfl
@[simp] theorem updPort_fresh (p) (f) : (updPort p f s).fresh = s.fresh := rfl
@[simp] theorem updPort_notes (p) (f) : (updPort p f s).notes = s.notes := rfl
@[simp] theorem updPort_tbs (p) (f) : (updPort p f s).tbs = s.tbs := rfl
@[simp] theorem updPort_und (p) (f) : (updPort p f s).und = s.und := rfl
@[simp] theorem updPort_fuses (p) (f) : (updPort p f s).fuses = s.fuses := rfl
@[simp] theorem updPort_pace (p) (f) : (updPort p f s).pace = s.pace := rfl
@[simp] theorem updPort_regs (p) (f) : (updPort p f s).regs = s.regs := rfl
@[simp] theorem updPort_fw (p) (f) : (updPort p f s).fw = s.fw := rfl
@[simp] theorem updPort_err (p) (f) : (updPort p f s).err = s.err := rfl
@[simp] theorem updPort_procs (p) (f) : (updPort p f s).procs = s.procs := rfl
@[simp] theorem updPort_mbx (p) (f) : (updPort p f s).mbx = s.mbx := rfl
@[simp] theorem updPort_sec (p) (f) : (updPort p f s).sec = s.sec := rfl
@[simp] theorem updPort_upd (p) (f) : (updPort p f s).upd = s.upd := rfl
@[simp] theorem updPort_nvs (p) (f) : (updPort p f s).nvs = s.nvs := rfl
@[simp] theorem updPort_mram (p) (f) : (updPort p f s).mram = s.mram := rfl
@[simp] theorem updPort_cfg (p) (f) : (updPort p f s).cfg = s.cfg := rfl
@[simp] theorem updPort_gld (p) (f) : (updPort p f s).gld = s.gld := rfl
@[simp] theorem updPort_seq (p) (f) : (updPort p f s).seq = s.seq := rfl
@[simp] theorem updPort_shp (p) (f) : (updPort p f s).shp = s.shp := rfl
@[simp] theorem updPort_afe (p) (f) : (updPort p f s).afe = s.afe := rfl
@[simp] theorem updPort_thm (p) (f) : (updPort p f s).thm = s.thm := rfl
@[simp] theorem updPort_thrForced (p) (f) : (updPort p f s).thrForced = s.thrForced := rfl
@[simp] theorem updPort_lkf (p) (f) : (updPort p f s).lkf = s.lkf := rfl
@[simp] theorem updPort_mdie (p) (f) : (updPort p f s).mdie = s.mdie := rfl
@[simp] theorem updPort_mch (p) (f) : (updPort p f s).mch = s.mch := rfl
@[simp] theorem updPort_mot (p) (f) : (updPort p f s).mot = s.mot := rfl
@[simp] theorem updPort_cnp (p) (f) : (updPort p f s).cnp = s.cnp := rfl
@[simp] theorem updPort_cus (p) (f) : (updPort p f s).cus = s.cus := rfl
@[simp] theorem updPort_gcl (p) (f) : (updPort p f s).gcl = { s.gcl with port := tupd {} s.gcl.port p f } := rfl
@[simp] theorem updPort_mem (p) (f) : (updPort p f s).mem = s.mem := rfl
@[simp] theorem updPort_dram (p) (f) : (updPort p f s).dram = s.dram := rfl
@[simp] theorem updPort_twpCfg (p) (f) : (updPort p f s).twpCfg = s.twpCfg := rfl
@[simp] theorem updPort_twp (p) (f) : (updPort p f s).twp = s.twp := rfl
@[simp] theorem updPort_arb (p) (f) : (updPort p f s).arb = s.arb := rfl
@[simp] theorem updPort_pmd (p) (f) : (updPort p f s).pmd = s.pmd := rfl
@[simp] theorem updPort_cas (p) (f) : (updPort p f s).cas = s.cas := rfl
@[simp] theorem updPort_tap (p) (f) : (updPort p f s).tap = s.tap := rfl

/-! ### `updTwp` -/

@[simp] theorem updTwp_pending (p) (f) : (updTwp p f s).pending = s.pending := rfl
@[simp] theorem updTwp_fresh (p) (f) : (updTwp p f s).fresh = s.fresh := rfl
@[simp] theorem updTwp_notes (p) (f) : (updTwp p f s).notes = s.notes := rfl
@[simp] theorem updTwp_tbs (p) (f) : (updTwp p f s).tbs = s.tbs := rfl
@[simp] theorem updTwp_und (p) (f) : (updTwp p f s).und = s.und := rfl
@[simp] theorem updTwp_fuses (p) (f) : (updTwp p f s).fuses = s.fuses := rfl
@[simp] theorem updTwp_pace (p) (f) : (updTwp p f s).pace = s.pace := rfl
@[simp] theorem updTwp_regs (p) (f) : (updTwp p f s).regs = s.regs := rfl
@[simp] theorem updTwp_fw (p) (f) : (updTwp p f s).fw = s.fw := rfl
@[simp] theorem updTwp_err (p) (f) : (updTwp p f s).err = s.err := rfl
@[simp] theorem updTwp_procs (p) (f) : (updTwp p f s).procs = s.procs := rfl
@[simp] theorem updTwp_mbx (p) (f) : (updTwp p f s).mbx = s.mbx := rfl
@[simp] theorem updTwp_sec (p) (f) : (updTwp p f s).sec = s.sec := rfl
@[simp] theorem updTwp_upd (p) (f) : (updTwp p f s).upd = s.upd := rfl
@[simp] theorem updTwp_nvs (p) (f) : (updTwp p f s).nvs = s.nvs := rfl
@[simp] theorem updTwp_mram (p) (f) : (updTwp p f s).mram = s.mram := rfl
@[simp] theorem updTwp_cfg (p) (f) : (updTwp p f s).cfg = s.cfg := rfl
@[simp] theorem updTwp_gld (p) (f) : (updTwp p f s).gld = s.gld := rfl
@[simp] theorem updTwp_seq (p) (f) : (updTwp p f s).seq = s.seq := rfl
@[simp] theorem updTwp_shp (p) (f) : (updTwp p f s).shp = s.shp := rfl
@[simp] theorem updTwp_afe (p) (f) : (updTwp p f s).afe = s.afe := rfl
@[simp] theorem updTwp_thm (p) (f) : (updTwp p f s).thm = s.thm := rfl
@[simp] theorem updTwp_thrForced (p) (f) : (updTwp p f s).thrForced = s.thrForced := rfl
@[simp] theorem updTwp_lkf (p) (f) : (updTwp p f s).lkf = s.lkf := rfl
@[simp] theorem updTwp_mdie (p) (f) : (updTwp p f s).mdie = s.mdie := rfl
@[simp] theorem updTwp_mch (p) (f) : (updTwp p f s).mch = s.mch := rfl
@[simp] theorem updTwp_mot (p) (f) : (updTwp p f s).mot = s.mot := rfl
@[simp] theorem updTwp_cnp (p) (f) : (updTwp p f s).cnp = s.cnp := rfl
@[simp] theorem updTwp_cus (p) (f) : (updTwp p f s).cus = s.cus := rfl
@[simp] theorem updTwp_gcl (p) (f) : (updTwp p f s).gcl = s.gcl := rfl
@[simp] theorem updTwp_mem (p) (f) : (updTwp p f s).mem = s.mem := rfl
@[simp] theorem updTwp_dram (p) (f) : (updTwp p f s).dram = s.dram := rfl
@[simp] theorem updTwp_twpCfg (p) (f) : (updTwp p f s).twpCfg = s.twpCfg := rfl
@[simp] theorem updTwp_twp (p) (f) : (updTwp p f s).twp = { s.twp with port := tupd {} s.twp.port p f } := rfl
@[simp] theorem updTwp_arb (p) (f) : (updTwp p f s).arb = s.arb := rfl
@[simp] theorem updTwp_pmd (p) (f) : (updTwp p f s).pmd = s.pmd := rfl
@[simp] theorem updTwp_cas (p) (f) : (updTwp p f s).cas = s.cas := rfl
@[simp] theorem updTwp_tap (p) (f) : (updTwp p f s).tap = s.tap := rfl

/-! ### `updArb` -/

@[simp] theorem updArb_pending (i) (f) : (updArb i f s).pending = s.pending := rfl
@[simp] theorem updArb_fresh (i) (f) : (updArb i f s).fresh = s.fresh := rfl
@[simp] theorem updArb_notes (i) (f) : (updArb i f s).notes = s.notes := rfl
@[simp] theorem updArb_tbs (i) (f) : (updArb i f s).tbs = s.tbs := rfl
@[simp] theorem updArb_und (i) (f) : (updArb i f s).und = s.und := rfl
@[simp] theorem updArb_fuses (i) (f) : (updArb i f s).fuses = s.fuses := rfl
@[simp] theorem updArb_pace (i) (f) : (updArb i f s).pace = s.pace := rfl
@[simp] theorem updArb_regs (i) (f) : (updArb i f s).regs = s.regs := rfl
@[simp] theorem updArb_fw (i) (f) : (updArb i f s).fw = s.fw := rfl
@[simp] theorem updArb_err (i) (f) : (updArb i f s).err = s.err := rfl
@[simp] theorem updArb_procs (i) (f) : (updArb i f s).procs = s.procs := rfl
@[simp] theorem updArb_mbx (i) (f) : (updArb i f s).mbx = s.mbx := rfl
@[simp] theorem updArb_sec (i) (f) : (updArb i f s).sec = s.sec := rfl
@[simp] theorem updArb_upd (i) (f) : (updArb i f s).upd = s.upd := rfl
@[simp] theorem updArb_nvs (i) (f) : (updArb i f s).nvs = s.nvs := rfl
@[simp] theorem updArb_mram (i) (f) : (updArb i f s).mram = s.mram := rfl
@[simp] theorem updArb_cfg (i) (f) : (updArb i f s).cfg = s.cfg := rfl
@[simp] theorem updArb_gld (i) (f) : (updArb i f s).gld = s.gld := rfl
@[simp] theorem updArb_seq (i) (f) : (updArb i f s).seq = s.seq := rfl
@[simp] theorem updArb_shp (i) (f) : (updArb i f s).shp = s.shp := rfl
@[simp] theorem updArb_afe (i) (f) : (updArb i f s).afe = s.afe := rfl
@[simp] theorem updArb_thm (i) (f) : (updArb i f s).thm = s.thm := rfl
@[simp] theorem updArb_thrForced (i) (f) : (updArb i f s).thrForced = s.thrForced := rfl
@[simp] theorem updArb_lkf (i) (f) : (updArb i f s).lkf = s.lkf := rfl
@[simp] theorem updArb_mdie (i) (f) : (updArb i f s).mdie = s.mdie := rfl
@[simp] theorem updArb_mch (i) (f) : (updArb i f s).mch = s.mch := rfl
@[simp] theorem updArb_mot (i) (f) : (updArb i f s).mot = s.mot := rfl
@[simp] theorem updArb_cnp (i) (f) : (updArb i f s).cnp = s.cnp := rfl
@[simp] theorem updArb_cus (i) (f) : (updArb i f s).cus = s.cus := rfl
@[simp] theorem updArb_gcl (i) (f) : (updArb i f s).gcl = s.gcl := rfl
@[simp] theorem updArb_mem (i) (f) : (updArb i f s).mem = s.mem := rfl
@[simp] theorem updArb_dram (i) (f) : (updArb i f s).dram = s.dram := rfl
@[simp] theorem updArb_twpCfg (i) (f) : (updArb i f s).twpCfg = s.twpCfg := rfl
@[simp] theorem updArb_twp (i) (f) : (updArb i f s).twp = s.twp := rfl
@[simp] theorem updArb_arb (i) (f) : (updArb i f s).arb = { s.arb with inst := tupd {} s.arb.inst i f } := rfl
@[simp] theorem updArb_pmd (i) (f) : (updArb i f s).pmd = s.pmd := rfl
@[simp] theorem updArb_cas (i) (f) : (updArb i f s).cas = s.cas := rfl
@[simp] theorem updArb_tap (i) (f) : (updArb i f s).tap = s.tap := rfl

/-! ### `updMember` -/

@[simp] theorem updMember_pending (m) (f) : (updMember m f s).pending = s.pending := rfl
@[simp] theorem updMember_fresh (m) (f) : (updMember m f s).fresh = s.fresh := rfl
@[simp] theorem updMember_notes (m) (f) : (updMember m f s).notes = s.notes := rfl
@[simp] theorem updMember_tbs (m) (f) : (updMember m f s).tbs = s.tbs := rfl
@[simp] theorem updMember_und (m) (f) : (updMember m f s).und = s.und := rfl
@[simp] theorem updMember_fuses (m) (f) : (updMember m f s).fuses = s.fuses := rfl
@[simp] theorem updMember_pace (m) (f) : (updMember m f s).pace = s.pace := rfl
@[simp] theorem updMember_regs (m) (f) : (updMember m f s).regs = s.regs := rfl
@[simp] theorem updMember_fw (m) (f) : (updMember m f s).fw = s.fw := rfl
@[simp] theorem updMember_err (m) (f) : (updMember m f s).err = s.err := rfl
@[simp] theorem updMember_procs (m) (f) : (updMember m f s).procs = s.procs := rfl
@[simp] theorem updMember_mbx (m) (f) : (updMember m f s).mbx = s.mbx := rfl
@[simp] theorem updMember_sec (m) (f) : (updMember m f s).sec = s.sec := rfl
@[simp] theorem updMember_upd (m) (f) : (updMember m f s).upd = s.upd := rfl
@[simp] theorem updMember_nvs (m) (f) : (updMember m f s).nvs = s.nvs := rfl
@[simp] theorem updMember_mram (m) (f) : (updMember m f s).mram = s.mram := rfl
@[simp] theorem updMember_cfg (m) (f) : (updMember m f s).cfg = s.cfg := rfl
@[simp] theorem updMember_gld (m) (f) : (updMember m f s).gld = s.gld := rfl
@[simp] theorem updMember_seq (m) (f) : (updMember m f s).seq = s.seq := rfl
@[simp] theorem updMember_shp (m) (f) : (updMember m f s).shp = s.shp := rfl
@[simp] theorem updMember_afe (m) (f) : (updMember m f s).afe = s.afe := rfl
@[simp] theorem updMember_thm (m) (f) : (updMember m f s).thm = s.thm := rfl
@[simp] theorem updMember_thrForced (m) (f) : (updMember m f s).thrForced = s.thrForced := rfl
@[simp] theorem updMember_lkf (m) (f) : (updMember m f s).lkf = s.lkf := rfl
@[simp] theorem updMember_mdie (m) (f) : (updMember m f s).mdie = s.mdie := rfl
@[simp] theorem updMember_mch (m) (f) : (updMember m f s).mch = s.mch := rfl
@[simp] theorem updMember_mot (m) (f) : (updMember m f s).mot = s.mot := rfl
@[simp] theorem updMember_cnp (m) (f) : (updMember m f s).cnp = s.cnp := rfl
@[simp] theorem updMember_cus (m) (f) : (updMember m f s).cus = s.cus := rfl
@[simp] theorem updMember_gcl (m) (f) : (updMember m f s).gcl = s.gcl := rfl
@[simp] theorem updMember_mem (m) (f) : (updMember m f s).mem = s.mem := rfl
@[simp] theorem updMember_dram (m) (f) : (updMember m f s).dram = s.dram := rfl
@[simp] theorem updMember_twpCfg (m) (f) : (updMember m f s).twpCfg = s.twpCfg := rfl
@[simp] theorem updMember_twp (m) (f) : (updMember m f s).twp = s.twp := rfl
@[simp] theorem updMember_arb (m) (f) : (updMember m f s).arb = s.arb := rfl
@[simp] theorem updMember_pmd (m) (f) : (updMember m f s).pmd = s.pmd := rfl
@[simp] theorem updMember_cas (m) (f) : (updMember m f s).cas = { s.cas with member := tupd {} s.cas.member m f } := rfl
@[simp] theorem updMember_tap (m) (f) : (updMember m f s).tap = s.tap := rfl

/-! ### `updCh` -/

@[simp] theorem updCh_pending (n) (f) : (updCh n f s).pending = s.pending := rfl
@[simp] theorem updCh_fresh (n) (f) : (updCh n f s).fresh = s.fresh := rfl
@[simp] theorem updCh_notes (n) (f) : (updCh n f s).notes = s.notes := rfl
@[simp] theorem updCh_tbs (n) (f) : (updCh n f s).tbs = s.tbs := rfl
@[simp] theorem updCh_und (n) (f) : (updCh n f s).und = s.und := rfl
@[simp] theorem updCh_fuses (n) (f) : (updCh n f s).fuses = s.fuses := rfl
@[simp] theorem updCh_pace (n) (f) : (updCh n f s).pace = s.pace := rfl
@[simp] theorem updCh_regs (n) (f) : (updCh n f s).regs = s.regs := rfl
@[simp] theorem updCh_fw (n) (f) : (updCh n f s).fw = s.fw := rfl
@[simp] theorem updCh_err (n) (f) : (updCh n f s).err = s.err := rfl
@[simp] theorem updCh_procs (n) (f) : (updCh n f s).procs = s.procs := rfl
@[simp] theorem updCh_mbx (n) (f) : (updCh n f s).mbx = s.mbx := rfl
@[simp] theorem updCh_sec (n) (f) : (updCh n f s).sec = s.sec := rfl
@[simp] theorem updCh_upd (n) (f) : (updCh n f s).upd = s.upd := rfl
@[simp] theorem updCh_nvs (n) (f) : (updCh n f s).nvs = s.nvs := rfl
@[simp] theorem updCh_mram (n) (f) : (updCh n f s).mram = s.mram := rfl
@[simp] theorem updCh_cfg (n) (f) : (updCh n f s).cfg = s.cfg := rfl
@[simp] theorem updCh_gld (n) (f) : (updCh n f s).gld = s.gld := rfl
@[simp] theorem updCh_seq (n) (f) : (updCh n f s).seq = s.seq := rfl
@[simp] theorem updCh_shp (n) (f) : (updCh n f s).shp = s.shp := rfl
@[simp] theorem updCh_afe (n) (f) : (updCh n f s).afe = s.afe := rfl
@[simp] theorem updCh_thm (n) (f) : (updCh n f s).thm = { s.thm with ch := tupd {} s.thm.ch n f } := rfl
@[simp] theorem updCh_thrForced (n) (f) : (updCh n f s).thrForced = s.thrForced := rfl
@[simp] theorem updCh_lkf (n) (f) : (updCh n f s).lkf = s.lkf := rfl
@[simp] theorem updCh_mdie (n) (f) : (updCh n f s).mdie = s.mdie := rfl
@[simp] theorem updCh_mch (n) (f) : (updCh n f s).mch = s.mch := rfl
@[simp] theorem updCh_mot (n) (f) : (updCh n f s).mot = s.mot := rfl
@[simp] theorem updCh_cnp (n) (f) : (updCh n f s).cnp = s.cnp := rfl
@[simp] theorem updCh_cus (n) (f) : (updCh n f s).cus = s.cus := rfl
@[simp] theorem updCh_gcl (n) (f) : (updCh n f s).gcl = s.gcl := rfl
@[simp] theorem updCh_mem (n) (f) : (updCh n f s).mem = s.mem := rfl
@[simp] theorem updCh_dram (n) (f) : (updCh n f s).dram = s.dram := rfl
@[simp] theorem updCh_twpCfg (n) (f) : (updCh n f s).twpCfg = s.twpCfg := rfl
@[simp] theorem updCh_twp (n) (f) : (updCh n f s).twp = s.twp := rfl
@[simp] theorem updCh_arb (n) (f) : (updCh n f s).arb = s.arb := rfl
@[simp] theorem updCh_pmd (n) (f) : (updCh n f s).pmd = s.pmd := rfl
@[simp] theorem updCh_cas (n) (f) : (updCh n f s).cas = s.cas := rfl
@[simp] theorem updCh_tap (n) (f) : (updCh n f s).tap = s.tap := rfl

/-! ### `updGrp` -/

@[simp] theorem updGrp_pending (g) (f) : (updGrp g f s).pending = s.pending := rfl
@[simp] theorem updGrp_fresh (g) (f) : (updGrp g f s).fresh = s.fresh := rfl
@[simp] theorem updGrp_notes (g) (f) : (updGrp g f s).notes = s.notes := rfl
@[simp] theorem updGrp_tbs (g) (f) : (updGrp g f s).tbs = s.tbs := rfl
@[simp] theorem updGrp_und (g) (f) : (updGrp g f s).und = s.und := rfl
@[simp] theorem updGrp_fuses (g) (f) : (updGrp g f s).fuses = s.fuses := rfl
@[simp] theorem updGrp_pace (g) (f) : (updGrp g f s).pace = s.pace := rfl
@[simp] theorem updGrp_regs (g) (f) : (updGrp g f s).regs = s.regs := rfl
@[simp] theorem updGrp_fw (g) (f) : (updGrp g f s).fw = s.fw := rfl
@[simp] theorem updGrp_err (g) (f) : (updGrp g f s).err = s.err := rfl
@[simp] theorem updGrp_procs (g) (f) : (updGrp g f s).procs = s.procs := rfl
@[simp] theorem updGrp_mbx (g) (f) : (updGrp g f s).mbx = s.mbx := rfl
@[simp] theorem updGrp_sec (g) (f) : (updGrp g f s).sec = s.sec := rfl
@[simp] theorem updGrp_upd (g) (f) : (updGrp g f s).upd = s.upd := rfl
@[simp] theorem updGrp_nvs (g) (f) : (updGrp g f s).nvs = s.nvs := rfl
@[simp] theorem updGrp_mram (g) (f) : (updGrp g f s).mram = s.mram := rfl
@[simp] theorem updGrp_cfg (g) (f) : (updGrp g f s).cfg = s.cfg := rfl
@[simp] theorem updGrp_gld (g) (f) : (updGrp g f s).gld = s.gld := rfl
@[simp] theorem updGrp_seq (g) (f) : (updGrp g f s).seq = s.seq := rfl
@[simp] theorem updGrp_shp (g) (f) : (updGrp g f s).shp = s.shp := rfl
@[simp] theorem updGrp_afe (g) (f) : (updGrp g f s).afe = s.afe := rfl
@[simp] theorem updGrp_thm (g) (f) : (updGrp g f s).thm = { s.thm with group := tupd {} s.thm.group g f } := rfl
@[simp] theorem updGrp_thrForced (g) (f) : (updGrp g f s).thrForced = s.thrForced := rfl
@[simp] theorem updGrp_lkf (g) (f) : (updGrp g f s).lkf = s.lkf := rfl
@[simp] theorem updGrp_mdie (g) (f) : (updGrp g f s).mdie = s.mdie := rfl
@[simp] theorem updGrp_mch (g) (f) : (updGrp g f s).mch = s.mch := rfl
@[simp] theorem updGrp_mot (g) (f) : (updGrp g f s).mot = s.mot := rfl
@[simp] theorem updGrp_cnp (g) (f) : (updGrp g f s).cnp = s.cnp := rfl
@[simp] theorem updGrp_cus (g) (f) : (updGrp g f s).cus = s.cus := rfl
@[simp] theorem updGrp_gcl (g) (f) : (updGrp g f s).gcl = s.gcl := rfl
@[simp] theorem updGrp_mem (g) (f) : (updGrp g f s).mem = s.mem := rfl
@[simp] theorem updGrp_dram (g) (f) : (updGrp g f s).dram = s.dram := rfl
@[simp] theorem updGrp_twpCfg (g) (f) : (updGrp g f s).twpCfg = s.twpCfg := rfl
@[simp] theorem updGrp_twp (g) (f) : (updGrp g f s).twp = s.twp := rfl
@[simp] theorem updGrp_arb (g) (f) : (updGrp g f s).arb = s.arb := rfl
@[simp] theorem updGrp_pmd (g) (f) : (updGrp g f s).pmd = s.pmd := rfl
@[simp] theorem updGrp_cas (g) (f) : (updGrp g f s).cas = s.cas := rfl
@[simp] theorem updGrp_tap (g) (f) : (updGrp g f s).tap = s.tap := rfl

/-! ### `updLkf` -/

@[simp] theorem updLkf_pending (c) (f) : (updLkf c f s).pending = s.pending := rfl
@[simp] theorem updLkf_fresh (c) (f) : (updLkf c f s).fresh = s.fresh := rfl
@[simp] theorem updLkf_notes (c) (f) : (updLkf c f s).notes = s.notes := rfl
@[simp] theorem updLkf_tbs (c) (f) : (updLkf c f s).tbs = s.tbs := rfl
@[simp] theorem updLkf_und (c) (f) : (updLkf c f s).und = s.und := rfl
@[simp] theorem updLkf_fuses (c) (f) : (updLkf c f s).fuses = s.fuses := rfl
@[simp] theorem updLkf_pace (c) (f) : (updLkf c f s).pace = s.pace := rfl
@[simp] theorem updLkf_regs (c) (f) : (updLkf c f s).regs = s.regs := rfl
@[simp] theorem updLkf_fw (c) (f) : (updLkf c f s).fw = s.fw := rfl
@[simp] theorem updLkf_err (c) (f) : (updLkf c f s).err = s.err := rfl
@[simp] theorem updLkf_procs (c) (f) : (updLkf c f s).procs = s.procs := rfl
@[simp] theorem updLkf_mbx (c) (f) : (updLkf c f s).mbx = s.mbx := rfl
@[simp] theorem updLkf_sec (c) (f) : (updLkf c f s).sec = s.sec := rfl
@[simp] theorem updLkf_upd (c) (f) : (updLkf c f s).upd = s.upd := rfl
@[simp] theorem updLkf_nvs (c) (f) : (updLkf c f s).nvs = s.nvs := rfl
@[simp] theorem updLkf_mram (c) (f) : (updLkf c f s).mram = s.mram := rfl
@[simp] theorem updLkf_cfg (c) (f) : (updLkf c f s).cfg = s.cfg := rfl
@[simp] theorem updLkf_gld (c) (f) : (updLkf c f s).gld = s.gld := rfl
@[simp] theorem updLkf_seq (c) (f) : (updLkf c f s).seq = s.seq := rfl
@[simp] theorem updLkf_shp (c) (f) : (updLkf c f s).shp = s.shp := rfl
@[simp] theorem updLkf_afe (c) (f) : (updLkf c f s).afe = s.afe := rfl
@[simp] theorem updLkf_thm (c) (f) : (updLkf c f s).thm = s.thm := rfl
@[simp] theorem updLkf_thrForced (c) (f) : (updLkf c f s).thrForced = s.thrForced := rfl
@[simp] theorem updLkf_lkf (c) (f) : (updLkf c f s).lkf = { s.lkf with ch := tupd {} s.lkf.ch c f } := rfl
@[simp] theorem updLkf_mdie (c) (f) : (updLkf c f s).mdie = s.mdie := rfl
@[simp] theorem updLkf_mch (c) (f) : (updLkf c f s).mch = s.mch := rfl
@[simp] theorem updLkf_mot (c) (f) : (updLkf c f s).mot = s.mot := rfl
@[simp] theorem updLkf_cnp (c) (f) : (updLkf c f s).cnp = s.cnp := rfl
@[simp] theorem updLkf_cus (c) (f) : (updLkf c f s).cus = s.cus := rfl
@[simp] theorem updLkf_gcl (c) (f) : (updLkf c f s).gcl = s.gcl := rfl
@[simp] theorem updLkf_mem (c) (f) : (updLkf c f s).mem = s.mem := rfl
@[simp] theorem updLkf_dram (c) (f) : (updLkf c f s).dram = s.dram := rfl
@[simp] theorem updLkf_twpCfg (c) (f) : (updLkf c f s).twpCfg = s.twpCfg := rfl
@[simp] theorem updLkf_twp (c) (f) : (updLkf c f s).twp = s.twp := rfl
@[simp] theorem updLkf_arb (c) (f) : (updLkf c f s).arb = s.arb := rfl
@[simp] theorem updLkf_pmd (c) (f) : (updLkf c f s).pmd = s.pmd := rfl
@[simp] theorem updLkf_cas (c) (f) : (updLkf c f s).cas = s.cas := rfl
@[simp] theorem updLkf_tap (c) (f) : (updLkf c f s).tap = s.tap := rfl

/-! ### `updDie` -/

@[simp] theorem updDie_pending (d) (f) : (updDie d f s).pending = s.pending := rfl
@[simp] theorem updDie_fresh (d) (f) : (updDie d f s).fresh = s.fresh := rfl
@[simp] theorem updDie_notes (d) (f) : (updDie d f s).notes = s.notes := rfl
@[simp] theorem updDie_tbs (d) (f) : (updDie d f s).tbs = s.tbs := rfl
@[simp] theorem updDie_und (d) (f) : (updDie d f s).und = s.und := rfl
@[simp] theorem updDie_fuses (d) (f) : (updDie d f s).fuses = s.fuses := rfl
@[simp] theorem updDie_pace (d) (f) : (updDie d f s).pace = s.pace := rfl
@[simp] theorem updDie_regs (d) (f) : (updDie d f s).regs = s.regs := rfl
@[simp] theorem updDie_fw (d) (f) : (updDie d f s).fw = s.fw := rfl
@[simp] theorem updDie_err (d) (f) : (updDie d f s).err = s.err := rfl
@[simp] theorem updDie_procs (d) (f) : (updDie d f s).procs = s.procs := rfl
@[simp] theorem updDie_mbx (d) (f) : (updDie d f s).mbx = s.mbx := rfl
@[simp] theorem updDie_sec (d) (f) : (updDie d f s).sec = s.sec := rfl
@[simp] theorem updDie_upd (d) (f) : (updDie d f s).upd = s.upd := rfl
@[simp] theorem updDie_nvs (d) (f) : (updDie d f s).nvs = s.nvs := rfl
@[simp] theorem updDie_mram (d) (f) : (updDie d f s).mram = s.mram := rfl
@[simp] theorem updDie_cfg (d) (f) : (updDie d f s).cfg = s.cfg := rfl
@[simp] theorem updDie_gld (d) (f) : (updDie d f s).gld = s.gld := rfl
@[simp] theorem updDie_seq (d) (f) : (updDie d f s).seq = s.seq := rfl
@[simp] theorem updDie_shp (d) (f) : (updDie d f s).shp = s.shp := rfl
@[simp] theorem updDie_afe (d) (f) : (updDie d f s).afe = s.afe := rfl
@[simp] theorem updDie_thm (d) (f) : (updDie d f s).thm = s.thm := rfl
@[simp] theorem updDie_thrForced (d) (f) : (updDie d f s).thrForced = s.thrForced := rfl
@[simp] theorem updDie_lkf (d) (f) : (updDie d f s).lkf = s.lkf := rfl
@[simp] theorem updDie_mdie (d) (f) : (updDie d f s).mdie = tupd {} s.mdie d f := rfl
@[simp] theorem updDie_mch (d) (f) : (updDie d f s).mch = s.mch := rfl
@[simp] theorem updDie_mot (d) (f) : (updDie d f s).mot = s.mot := rfl
@[simp] theorem updDie_cnp (d) (f) : (updDie d f s).cnp = s.cnp := rfl
@[simp] theorem updDie_cus (d) (f) : (updDie d f s).cus = s.cus := rfl
@[simp] theorem updDie_gcl (d) (f) : (updDie d f s).gcl = s.gcl := rfl
@[simp] theorem updDie_mem (d) (f) : (updDie d f s).mem = s.mem := rfl
@[simp] theorem updDie_dram (d) (f) : (updDie d f s).dram = s.dram := rfl
@[simp] theorem updDie_twpCfg (d) (f) : (updDie d f s).twpCfg = s.twpCfg := rfl
@[simp] theorem updDie_twp (d) (f) : (updDie d f s).twp = s.twp := rfl
@[simp] theorem updDie_arb (d) (f) : (updDie d f s).arb = s.arb := rfl
@[simp] theorem updDie_pmd (d) (f) : (updDie d f s).pmd = s.pmd := rfl
@[simp] theorem updDie_cas (d) (f) : (updDie d f s).cas = s.cas := rfl
@[simp] theorem updDie_tap (d) (f) : (updDie d f s).tap = s.tap := rfl

/-! ### `updMot` -/

@[simp] theorem updMot_pending (c) (f) : (updMot c f s).pending = s.pending := rfl
@[simp] theorem updMot_fresh (c) (f) : (updMot c f s).fresh = s.fresh := rfl
@[simp] theorem updMot_notes (c) (f) : (updMot c f s).notes = s.notes := rfl
@[simp] theorem updMot_tbs (c) (f) : (updMot c f s).tbs = s.tbs := rfl
@[simp] theorem updMot_und (c) (f) : (updMot c f s).und = s.und := rfl
@[simp] theorem updMot_fuses (c) (f) : (updMot c f s).fuses = s.fuses := rfl
@[simp] theorem updMot_pace (c) (f) : (updMot c f s).pace = s.pace := rfl
@[simp] theorem updMot_regs (c) (f) : (updMot c f s).regs = s.regs := rfl
@[simp] theorem updMot_fw (c) (f) : (updMot c f s).fw = s.fw := rfl
@[simp] theorem updMot_err (c) (f) : (updMot c f s).err = s.err := rfl
@[simp] theorem updMot_procs (c) (f) : (updMot c f s).procs = s.procs := rfl
@[simp] theorem updMot_mbx (c) (f) : (updMot c f s).mbx = s.mbx := rfl
@[simp] theorem updMot_sec (c) (f) : (updMot c f s).sec = s.sec := rfl
@[simp] theorem updMot_upd (c) (f) : (updMot c f s).upd = s.upd := rfl
@[simp] theorem updMot_nvs (c) (f) : (updMot c f s).nvs = s.nvs := rfl
@[simp] theorem updMot_mram (c) (f) : (updMot c f s).mram = s.mram := rfl
@[simp] theorem updMot_cfg (c) (f) : (updMot c f s).cfg = s.cfg := rfl
@[simp] theorem updMot_gld (c) (f) : (updMot c f s).gld = s.gld := rfl
@[simp] theorem updMot_seq (c) (f) : (updMot c f s).seq = s.seq := rfl
@[simp] theorem updMot_shp (c) (f) : (updMot c f s).shp = s.shp := rfl
@[simp] theorem updMot_afe (c) (f) : (updMot c f s).afe = s.afe := rfl
@[simp] theorem updMot_thm (c) (f) : (updMot c f s).thm = s.thm := rfl
@[simp] theorem updMot_thrForced (c) (f) : (updMot c f s).thrForced = s.thrForced := rfl
@[simp] theorem updMot_lkf (c) (f) : (updMot c f s).lkf = s.lkf := rfl
@[simp] theorem updMot_mdie (c) (f) : (updMot c f s).mdie = s.mdie := rfl
@[simp] theorem updMot_mch (c) (f) : (updMot c f s).mch = tupd {} s.mch c f := rfl
@[simp] theorem updMot_mot (c) (f) : (updMot c f s).mot = s.mot := rfl
@[simp] theorem updMot_cnp (c) (f) : (updMot c f s).cnp = s.cnp := rfl
@[simp] theorem updMot_cus (c) (f) : (updMot c f s).cus = s.cus := rfl
@[simp] theorem updMot_gcl (c) (f) : (updMot c f s).gcl = s.gcl := rfl
@[simp] theorem updMot_mem (c) (f) : (updMot c f s).mem = s.mem := rfl
@[simp] theorem updMot_dram (c) (f) : (updMot c f s).dram = s.dram := rfl
@[simp] theorem updMot_twpCfg (c) (f) : (updMot c f s).twpCfg = s.twpCfg := rfl
@[simp] theorem updMot_twp (c) (f) : (updMot c f s).twp = s.twp := rfl
@[simp] theorem updMot_arb (c) (f) : (updMot c f s).arb = s.arb := rfl
@[simp] theorem updMot_pmd (c) (f) : (updMot c f s).pmd = s.pmd := rfl
@[simp] theorem updMot_cas (c) (f) : (updMot c f s).cas = s.cas := rfl
@[simp] theorem updMot_tap (c) (f) : (updMot c f s).tap = s.tap := rfl

/-! ### `updCt` -/

@[simp] theorem updCt_pending (t) (f) : (updCt t f s).pending = s.pending := rfl
@[simp] theorem updCt_fresh (t) (f) : (updCt t f s).fresh = s.fresh := rfl
@[simp] theorem updCt_notes (t) (f) : (updCt t f s).notes = s.notes := rfl
@[simp] theorem updCt_tbs (t) (f) : (updCt t f s).tbs = s.tbs := rfl
@[simp] theorem updCt_und (t) (f) : (updCt t f s).und = s.und := rfl
@[simp] theorem updCt_fuses (t) (f) : (updCt t f s).fuses = s.fuses := rfl
@[simp] theorem updCt_pace (t) (f) : (updCt t f s).pace = s.pace := rfl
@[simp] theorem updCt_regs (t) (f) : (updCt t f s).regs = s.regs := rfl
@[simp] theorem updCt_fw (t) (f) : (updCt t f s).fw = s.fw := rfl
@[simp] theorem updCt_err (t) (f) : (updCt t f s).err = s.err := rfl
@[simp] theorem updCt_procs (t) (f) : (updCt t f s).procs = s.procs := rfl
@[simp] theorem updCt_mbx (t) (f) : (updCt t f s).mbx = s.mbx := rfl
@[simp] theorem updCt_sec (t) (f) : (updCt t f s).sec = s.sec := rfl
@[simp] theorem updCt_upd (t) (f) : (updCt t f s).upd = s.upd := rfl
@[simp] theorem updCt_nvs (t) (f) : (updCt t f s).nvs = s.nvs := rfl
@[simp] theorem updCt_mram (t) (f) : (updCt t f s).mram = s.mram := rfl
@[simp] theorem updCt_cfg (t) (f) : (updCt t f s).cfg = s.cfg := rfl
@[simp] theorem updCt_gld (t) (f) : (updCt t f s).gld = s.gld := rfl
@[simp] theorem updCt_seq (t) (f) : (updCt t f s).seq = s.seq := rfl
@[simp] theorem updCt_shp (t) (f) : (updCt t f s).shp = s.shp := rfl
@[simp] theorem updCt_afe (t) (f) : (updCt t f s).afe = s.afe := rfl
@[simp] theorem updCt_thm (t) (f) : (updCt t f s).thm = s.thm := rfl
@[simp] theorem updCt_thrForced (t) (f) : (updCt t f s).thrForced = s.thrForced := rfl
@[simp] theorem updCt_lkf (t) (f) : (updCt t f s).lkf = s.lkf := rfl
@[simp] theorem updCt_mdie (t) (f) : (updCt t f s).mdie = s.mdie := rfl
@[simp] theorem updCt_mch (t) (f) : (updCt t f s).mch = s.mch := rfl
@[simp] theorem updCt_mot (t) (f) : (updCt t f s).mot = s.mot := rfl
@[simp] theorem updCt_cnp (t) (f) : (updCt t f s).cnp = { s.cnp with tile := tupd {} s.cnp.tile t f } := rfl
@[simp] theorem updCt_cus (t) (f) : (updCt t f s).cus = s.cus := rfl
@[simp] theorem updCt_gcl (t) (f) : (updCt t f s).gcl = s.gcl := rfl
@[simp] theorem updCt_mem (t) (f) : (updCt t f s).mem = s.mem := rfl
@[simp] theorem updCt_dram (t) (f) : (updCt t f s).dram = s.dram := rfl
@[simp] theorem updCt_twpCfg (t) (f) : (updCt t f s).twpCfg = s.twpCfg := rfl
@[simp] theorem updCt_twp (t) (f) : (updCt t f s).twp = s.twp := rfl
@[simp] theorem updCt_arb (t) (f) : (updCt t f s).arb = s.arb := rfl
@[simp] theorem updCt_pmd (t) (f) : (updCt t f s).pmd = s.pmd := rfl
@[simp] theorem updCt_cas (t) (f) : (updCt t f s).cas = s.cas := rfl
@[simp] theorem updCt_tap (t) (f) : (updCt t f s).tap = s.tap := rfl

/-! ### `updModel` -/

@[simp] theorem updModel_pending (m) (f) : (updModel m f s).pending = s.pending := rfl
@[simp] theorem updModel_fresh (m) (f) : (updModel m f s).fresh = s.fresh := rfl
@[simp] theorem updModel_notes (m) (f) : (updModel m f s).notes = s.notes := rfl
@[simp] theorem updModel_tbs (m) (f) : (updModel m f s).tbs = s.tbs := rfl
@[simp] theorem updModel_und (m) (f) : (updModel m f s).und = s.und := rfl
@[simp] theorem updModel_fuses (m) (f) : (updModel m f s).fuses = s.fuses := rfl
@[simp] theorem updModel_pace (m) (f) : (updModel m f s).pace = s.pace := rfl
@[simp] theorem updModel_regs (m) (f) : (updModel m f s).regs = s.regs := rfl
@[simp] theorem updModel_fw (m) (f) : (updModel m f s).fw = s.fw := rfl
@[simp] theorem updModel_err (m) (f) : (updModel m f s).err = s.err := rfl
@[simp] theorem updModel_procs (m) (f) : (updModel m f s).procs = s.procs := rfl
@[simp] theorem updModel_mbx (m) (f) : (updModel m f s).mbx = s.mbx := rfl
@[simp] theorem updModel_sec (m) (f) : (updModel m f s).sec = s.sec := rfl
@[simp] theorem updModel_upd (m) (f) : (updModel m f s).upd = s.upd := rfl
@[simp] theorem updModel_nvs (m) (f) : (updModel m f s).nvs = s.nvs := rfl
@[simp] theorem updModel_mram (m) (f) : (updModel m f s).mram = s.mram := rfl
@[simp] theorem updModel_cfg (m) (f) : (updModel m f s).cfg = s.cfg := rfl
@[simp] theorem updModel_gld (m) (f) : (updModel m f s).gld = s.gld := rfl
@[simp] theorem updModel_seq (m) (f) : (updModel m f s).seq = s.seq := rfl
@[simp] theorem updModel_shp (m) (f) : (updModel m f s).shp = s.shp := rfl
@[simp] theorem updModel_afe (m) (f) : (updModel m f s).afe = s.afe := rfl
@[simp] theorem updModel_thm (m) (f) : (updModel m f s).thm = s.thm := rfl
@[simp] theorem updModel_thrForced (m) (f) : (updModel m f s).thrForced = s.thrForced := rfl
@[simp] theorem updModel_lkf (m) (f) : (updModel m f s).lkf = s.lkf := rfl
@[simp] theorem updModel_mdie (m) (f) : (updModel m f s).mdie = s.mdie := rfl
@[simp] theorem updModel_mch (m) (f) : (updModel m f s).mch = s.mch := rfl
@[simp] theorem updModel_mot (m) (f) : (updModel m f s).mot = s.mot := rfl
@[simp] theorem updModel_cnp (m) (f) : (updModel m f s).cnp = { s.cnp with model := tupd {} s.cnp.model m f } := rfl
@[simp] theorem updModel_cus (m) (f) : (updModel m f s).cus = s.cus := rfl
@[simp] theorem updModel_gcl (m) (f) : (updModel m f s).gcl = s.gcl := rfl
@[simp] theorem updModel_mem (m) (f) : (updModel m f s).mem = s.mem := rfl
@[simp] theorem updModel_dram (m) (f) : (updModel m f s).dram = s.dram := rfl
@[simp] theorem updModel_twpCfg (m) (f) : (updModel m f s).twpCfg = s.twpCfg := rfl
@[simp] theorem updModel_twp (m) (f) : (updModel m f s).twp = s.twp := rfl
@[simp] theorem updModel_arb (m) (f) : (updModel m f s).arb = s.arb := rfl
@[simp] theorem updModel_pmd (m) (f) : (updModel m f s).pmd = s.pmd := rfl
@[simp] theorem updModel_cas (m) (f) : (updModel m f s).cas = s.cas := rfl
@[simp] theorem updModel_tap (m) (f) : (updModel m f s).tap = s.tap := rfl

/-! ### `updRail` -/

@[simp] theorem updRail_pending (r) (f) : (updRail r f s).pending = s.pending := rfl
@[simp] theorem updRail_fresh (r) (f) : (updRail r f s).fresh = s.fresh := rfl
@[simp] theorem updRail_notes (r) (f) : (updRail r f s).notes = s.notes := rfl
@[simp] theorem updRail_tbs (r) (f) : (updRail r f s).tbs = s.tbs := rfl
@[simp] theorem updRail_und (r) (f) : (updRail r f s).und = s.und := rfl
@[simp] theorem updRail_fuses (r) (f) : (updRail r f s).fuses = s.fuses := rfl
@[simp] theorem updRail_pace (r) (f) : (updRail r f s).pace = s.pace := rfl
@[simp] theorem updRail_regs (r) (f) : (updRail r f s).regs = s.regs := rfl
@[simp] theorem updRail_fw (r) (f) : (updRail r f s).fw = s.fw := rfl
@[simp] theorem updRail_err (r) (f) : (updRail r f s).err = s.err := rfl
@[simp] theorem updRail_procs (r) (f) : (updRail r f s).procs = s.procs := rfl
@[simp] theorem updRail_mbx (r) (f) : (updRail r f s).mbx = s.mbx := rfl
@[simp] theorem updRail_sec (r) (f) : (updRail r f s).sec = s.sec := rfl
@[simp] theorem updRail_upd (r) (f) : (updRail r f s).upd = s.upd := rfl
@[simp] theorem updRail_nvs (r) (f) : (updRail r f s).nvs = s.nvs := rfl
@[simp] theorem updRail_mram (r) (f) : (updRail r f s).mram = s.mram := rfl
@[simp] theorem updRail_cfg (r) (f) : (updRail r f s).cfg = s.cfg := rfl
@[simp] theorem updRail_gld (r) (f) : (updRail r f s).gld = s.gld := rfl
@[simp] theorem updRail_seq (r) (f) : (updRail r f s).seq = { s.seq with rail := tupd {} s.seq.rail r f } := rfl
@[simp] theorem updRail_shp (r) (f) : (updRail r f s).shp = s.shp := rfl
@[simp] theorem updRail_afe (r) (f) : (updRail r f s).afe = s.afe := rfl
@[simp] theorem updRail_thm (r) (f) : (updRail r f s).thm = s.thm := rfl
@[simp] theorem updRail_thrForced (r) (f) : (updRail r f s).thrForced = s.thrForced := rfl
@[simp] theorem updRail_lkf (r) (f) : (updRail r f s).lkf = s.lkf := rfl
@[simp] theorem updRail_mdie (r) (f) : (updRail r f s).mdie = s.mdie := rfl
@[simp] theorem updRail_mch (r) (f) : (updRail r f s).mch = s.mch := rfl
@[simp] theorem updRail_mot (r) (f) : (updRail r f s).mot = s.mot := rfl
@[simp] theorem updRail_cnp (r) (f) : (updRail r f s).cnp = s.cnp := rfl
@[simp] theorem updRail_cus (r) (f) : (updRail r f s).cus = s.cus := rfl
@[simp] theorem updRail_gcl (r) (f) : (updRail r f s).gcl = s.gcl := rfl
@[simp] theorem updRail_mem (r) (f) : (updRail r f s).mem = s.mem := rfl
@[simp] theorem updRail_dram (r) (f) : (updRail r f s).dram = s.dram := rfl
@[simp] theorem updRail_twpCfg (r) (f) : (updRail r f s).twpCfg = s.twpCfg := rfl
@[simp] theorem updRail_twp (r) (f) : (updRail r f s).twp = s.twp := rfl
@[simp] theorem updRail_arb (r) (f) : (updRail r f s).arb = s.arb := rfl
@[simp] theorem updRail_pmd (r) (f) : (updRail r f s).pmd = s.pmd := rfl
@[simp] theorem updRail_cas (r) (f) : (updRail r f s).cas = s.cas := rfl
@[simp] theorem updRail_tap (r) (f) : (updRail r f s).tap = s.tap := rfl

/-! ### `updGraph` -/

@[simp] theorem updGraph_pending (g) (f) : (updGraph g f s).pending = s.pending := rfl
@[simp] theorem updGraph_fresh (g) (f) : (updGraph g f s).fresh = s.fresh := rfl
@[simp] theorem updGraph_notes (g) (f) : (updGraph g f s).notes = s.notes := rfl
@[simp] theorem updGraph_tbs (g) (f) : (updGraph g f s).tbs = s.tbs := rfl
@[simp] theorem updGraph_und (g) (f) : (updGraph g f s).und = s.und := rfl
@[simp] theorem updGraph_fuses (g) (f) : (updGraph g f s).fuses = s.fuses := rfl
@[simp] theorem updGraph_pace (g) (f) : (updGraph g f s).pace = s.pace := rfl
@[simp] theorem updGraph_regs (g) (f) : (updGraph g f s).regs = s.regs := rfl
@[simp] theorem updGraph_fw (g) (f) : (updGraph g f s).fw = s.fw := rfl
@[simp] theorem updGraph_err (g) (f) : (updGraph g f s).err = s.err := rfl
@[simp] theorem updGraph_procs (g) (f) : (updGraph g f s).procs = s.procs := rfl
@[simp] theorem updGraph_mbx (g) (f) : (updGraph g f s).mbx = s.mbx := rfl
@[simp] theorem updGraph_sec (g) (f) : (updGraph g f s).sec = s.sec := rfl
@[simp] theorem updGraph_upd (g) (f) : (updGraph g f s).upd = s.upd := rfl
@[simp] theorem updGraph_nvs (g) (f) : (updGraph g f s).nvs = s.nvs := rfl
@[simp] theorem updGraph_mram (g) (f) : (updGraph g f s).mram = s.mram := rfl
@[simp] theorem updGraph_cfg (g) (f) : (updGraph g f s).cfg = s.cfg := rfl
@[simp] theorem updGraph_gld (g) (f) : (updGraph g f s).gld = s.gld := rfl
@[simp] theorem updGraph_seq (g) (f) : (updGraph g f s).seq = { s.seq with graph := tupd {} s.seq.graph g f } := rfl
@[simp] theorem updGraph_shp (g) (f) : (updGraph g f s).shp = s.shp := rfl
@[simp] theorem updGraph_afe (g) (f) : (updGraph g f s).afe = s.afe := rfl
@[simp] theorem updGraph_thm (g) (f) : (updGraph g f s).thm = s.thm := rfl
@[simp] theorem updGraph_thrForced (g) (f) : (updGraph g f s).thrForced = s.thrForced := rfl
@[simp] theorem updGraph_lkf (g) (f) : (updGraph g f s).lkf = s.lkf := rfl
@[simp] theorem updGraph_mdie (g) (f) : (updGraph g f s).mdie = s.mdie := rfl
@[simp] theorem updGraph_mch (g) (f) : (updGraph g f s).mch = s.mch := rfl
@[simp] theorem updGraph_mot (g) (f) : (updGraph g f s).mot = s.mot := rfl
@[simp] theorem updGraph_cnp (g) (f) : (updGraph g f s).cnp = s.cnp := rfl
@[simp] theorem updGraph_cus (g) (f) : (updGraph g f s).cus = s.cus := rfl
@[simp] theorem updGraph_gcl (g) (f) : (updGraph g f s).gcl = s.gcl := rfl
@[simp] theorem updGraph_mem (g) (f) : (updGraph g f s).mem = s.mem := rfl
@[simp] theorem updGraph_dram (g) (f) : (updGraph g f s).dram = s.dram := rfl
@[simp] theorem updGraph_twpCfg (g) (f) : (updGraph g f s).twpCfg = s.twpCfg := rfl
@[simp] theorem updGraph_twp (g) (f) : (updGraph g f s).twp = s.twp := rfl
@[simp] theorem updGraph_arb (g) (f) : (updGraph g f s).arb = s.arb := rfl
@[simp] theorem updGraph_pmd (g) (f) : (updGraph g f s).pmd = s.pmd := rfl
@[simp] theorem updGraph_cas (g) (f) : (updGraph g f s).cas = s.cas := rfl
@[simp] theorem updGraph_tap (g) (f) : (updGraph g f s).tap = s.tap := rfl

/-! ### `updShp` -/

@[simp] theorem updShp_pending (k) (f) : (updShp k f s).pending = s.pending := rfl
@[simp] theorem updShp_fresh (k) (f) : (updShp k f s).fresh = s.fresh := rfl
@[simp] theorem updShp_notes (k) (f) : (updShp k f s).notes = s.notes := rfl
@[simp] theorem updShp_tbs (k) (f) : (updShp k f s).tbs = s.tbs := rfl
@[simp] theorem updShp_und (k) (f) : (updShp k f s).und = s.und := rfl
@[simp] theorem updShp_fuses (k) (f) : (updShp k f s).fuses = s.fuses := rfl
@[simp] theorem updShp_pace (k) (f) : (updShp k f s).pace = s.pace := rfl
@[simp] theorem updShp_regs (k) (f) : (updShp k f s).regs = s.regs := rfl
@[simp] theorem updShp_fw (k) (f) : (updShp k f s).fw = s.fw := rfl
@[simp] theorem updShp_err (k) (f) : (updShp k f s).err = s.err := rfl
@[simp] theorem updShp_procs (k) (f) : (updShp k f s).procs = s.procs := rfl
@[simp] theorem updShp_mbx (k) (f) : (updShp k f s).mbx = s.mbx := rfl
@[simp] theorem updShp_sec (k) (f) : (updShp k f s).sec = s.sec := rfl
@[simp] theorem updShp_upd (k) (f) : (updShp k f s).upd = s.upd := rfl
@[simp] theorem updShp_nvs (k) (f) : (updShp k f s).nvs = s.nvs := rfl
@[simp] theorem updShp_mram (k) (f) : (updShp k f s).mram = s.mram := rfl
@[simp] theorem updShp_cfg (k) (f) : (updShp k f s).cfg = s.cfg := rfl
@[simp] theorem updShp_gld (k) (f) : (updShp k f s).gld = s.gld := rfl
@[simp] theorem updShp_seq (k) (f) : (updShp k f s).seq = s.seq := rfl
@[simp] theorem updShp_shp (k) (f) : (updShp k f s).shp = { s.shp with slot := tupd {} s.shp.slot k f } := rfl
@[simp] theorem updShp_afe (k) (f) : (updShp k f s).afe = s.afe := rfl
@[simp] theorem updShp_thm (k) (f) : (updShp k f s).thm = s.thm := rfl
@[simp] theorem updShp_thrForced (k) (f) : (updShp k f s).thrForced = s.thrForced := rfl
@[simp] theorem updShp_lkf (k) (f) : (updShp k f s).lkf = s.lkf := rfl
@[simp] theorem updShp_mdie (k) (f) : (updShp k f s).mdie = s.mdie := rfl
@[simp] theorem updShp_mch (k) (f) : (updShp k f s).mch = s.mch := rfl
@[simp] theorem updShp_mot (k) (f) : (updShp k f s).mot = s.mot := rfl
@[simp] theorem updShp_cnp (k) (f) : (updShp k f s).cnp = s.cnp := rfl
@[simp] theorem updShp_cus (k) (f) : (updShp k f s).cus = s.cus := rfl
@[simp] theorem updShp_gcl (k) (f) : (updShp k f s).gcl = s.gcl := rfl
@[simp] theorem updShp_mem (k) (f) : (updShp k f s).mem = s.mem := rfl
@[simp] theorem updShp_dram (k) (f) : (updShp k f s).dram = s.dram := rfl
@[simp] theorem updShp_twpCfg (k) (f) : (updShp k f s).twpCfg = s.twpCfg := rfl
@[simp] theorem updShp_twp (k) (f) : (updShp k f s).twp = s.twp := rfl
@[simp] theorem updShp_arb (k) (f) : (updShp k f s).arb = s.arb := rfl
@[simp] theorem updShp_pmd (k) (f) : (updShp k f s).pmd = s.pmd := rfl
@[simp] theorem updShp_cas (k) (f) : (updShp k f s).cas = s.cas := rfl
@[simp] theorem updShp_tap (k) (f) : (updShp k f s).tap = s.tap := rfl

/-! ### `updCursor` -/

@[simp] theorem updCursor_pending (c) (f) : (updCursor c f s).pending = s.pending := rfl
@[simp] theorem updCursor_fresh (c) (f) : (updCursor c f s).fresh = s.fresh := rfl
@[simp] theorem updCursor_notes (c) (f) : (updCursor c f s).notes = s.notes := rfl
@[simp] theorem updCursor_tbs (c) (f) : (updCursor c f s).tbs = s.tbs := rfl
@[simp] theorem updCursor_und (c) (f) : (updCursor c f s).und = s.und := rfl
@[simp] theorem updCursor_fuses (c) (f) : (updCursor c f s).fuses = s.fuses := rfl
@[simp] theorem updCursor_pace (c) (f) : (updCursor c f s).pace = s.pace := rfl
@[simp] theorem updCursor_regs (c) (f) : (updCursor c f s).regs = s.regs := rfl
@[simp] theorem updCursor_fw (c) (f) : (updCursor c f s).fw = s.fw := rfl
@[simp] theorem updCursor_err (c) (f) : (updCursor c f s).err = s.err := rfl
@[simp] theorem updCursor_procs (c) (f) : (updCursor c f s).procs = s.procs := rfl
@[simp] theorem updCursor_mbx (c) (f) : (updCursor c f s).mbx = s.mbx := rfl
@[simp] theorem updCursor_sec (c) (f) : (updCursor c f s).sec = s.sec := rfl
@[simp] theorem updCursor_upd (c) (f) : (updCursor c f s).upd = s.upd := rfl
@[simp] theorem updCursor_nvs (c) (f) : (updCursor c f s).nvs = s.nvs := rfl
@[simp] theorem updCursor_mram (c) (f) : (updCursor c f s).mram = s.mram := rfl
@[simp] theorem updCursor_cfg (c) (f) : (updCursor c f s).cfg = s.cfg := rfl
@[simp] theorem updCursor_gld (c) (f) : (updCursor c f s).gld = s.gld := rfl
@[simp] theorem updCursor_seq (c) (f) : (updCursor c f s).seq = s.seq := rfl
@[simp] theorem updCursor_shp (c) (f) : (updCursor c f s).shp = s.shp := rfl
@[simp] theorem updCursor_afe (c) (f) : (updCursor c f s).afe = s.afe := rfl
@[simp] theorem updCursor_thm (c) (f) : (updCursor c f s).thm = s.thm := rfl
@[simp] theorem updCursor_thrForced (c) (f) : (updCursor c f s).thrForced = s.thrForced := rfl
@[simp] theorem updCursor_lkf (c) (f) : (updCursor c f s).lkf = s.lkf := rfl
@[simp] theorem updCursor_mdie (c) (f) : (updCursor c f s).mdie = s.mdie := rfl
@[simp] theorem updCursor_mch (c) (f) : (updCursor c f s).mch = s.mch := rfl
@[simp] theorem updCursor_mot (c) (f) : (updCursor c f s).mot = s.mot := rfl
@[simp] theorem updCursor_cnp (c) (f) : (updCursor c f s).cnp = s.cnp := rfl
@[simp] theorem updCursor_cus (c) (f) : (updCursor c f s).cus = { s.cus with cursors := tupd {} s.cus.cursors c f } := rfl
@[simp] theorem updCursor_gcl (c) (f) : (updCursor c f s).gcl = s.gcl := rfl
@[simp] theorem updCursor_mem (c) (f) : (updCursor c f s).mem = s.mem := rfl
@[simp] theorem updCursor_dram (c) (f) : (updCursor c f s).dram = s.dram := rfl
@[simp] theorem updCursor_twpCfg (c) (f) : (updCursor c f s).twpCfg = s.twpCfg := rfl
@[simp] theorem updCursor_twp (c) (f) : (updCursor c f s).twp = s.twp := rfl
@[simp] theorem updCursor_arb (c) (f) : (updCursor c f s).arb = s.arb := rfl
@[simp] theorem updCursor_pmd (c) (f) : (updCursor c f s).pmd = s.pmd := rfl
@[simp] theorem updCursor_cas (c) (f) : (updCursor c f s).cas = s.cas := rfl
@[simp] theorem updCursor_tap (c) (f) : (updCursor c f s).tap = s.tap := rfl

/-! ### `setTbs` -/

@[simp] theorem setTbs_pending (f) : (setTbs f s).pending = s.pending := rfl
@[simp] theorem setTbs_fresh (f) : (setTbs f s).fresh = s.fresh := rfl
@[simp] theorem setTbs_notes (f) : (setTbs f s).notes = s.notes := rfl
@[simp] theorem setTbs_tbs (f) : (setTbs f s).tbs = { f s.tbs with undisc := undiscFlag (f s.tbs) } := rfl
@[simp] theorem setTbs_und (f) : (setTbs f s).und = s.und := rfl
@[simp] theorem setTbs_fuses (f) : (setTbs f s).fuses = s.fuses := rfl
@[simp] theorem setTbs_pace (f) : (setTbs f s).pace = s.pace := rfl
@[simp] theorem setTbs_regs (f) : (setTbs f s).regs = s.regs := rfl
@[simp] theorem setTbs_fw (f) : (setTbs f s).fw = s.fw := rfl
@[simp] theorem setTbs_err (f) : (setTbs f s).err = s.err := rfl
@[simp] theorem setTbs_procs (f) : (setTbs f s).procs = s.procs := rfl
@[simp] theorem setTbs_mbx (f) : (setTbs f s).mbx = s.mbx := rfl
@[simp] theorem setTbs_sec (f) : (setTbs f s).sec = s.sec := rfl
@[simp] theorem setTbs_upd (f) : (setTbs f s).upd = s.upd := rfl
@[simp] theorem setTbs_nvs (f) : (setTbs f s).nvs = s.nvs := rfl
@[simp] theorem setTbs_mram (f) : (setTbs f s).mram = s.mram := rfl
@[simp] theorem setTbs_cfg (f) : (setTbs f s).cfg = s.cfg := rfl
@[simp] theorem setTbs_gld (f) : (setTbs f s).gld = s.gld := rfl
@[simp] theorem setTbs_seq (f) : (setTbs f s).seq = s.seq := rfl
@[simp] theorem setTbs_shp (f) : (setTbs f s).shp = s.shp := rfl
@[simp] theorem setTbs_afe (f) : (setTbs f s).afe = s.afe := rfl
@[simp] theorem setTbs_thm (f) : (setTbs f s).thm = s.thm := rfl
@[simp] theorem setTbs_thrForced (f) : (setTbs f s).thrForced = s.thrForced := rfl
@[simp] theorem setTbs_lkf (f) : (setTbs f s).lkf = s.lkf := rfl
@[simp] theorem setTbs_mdie (f) : (setTbs f s).mdie = s.mdie := rfl
@[simp] theorem setTbs_mch (f) : (setTbs f s).mch = s.mch := rfl
@[simp] theorem setTbs_mot (f) : (setTbs f s).mot = s.mot := rfl
@[simp] theorem setTbs_cnp (f) : (setTbs f s).cnp = s.cnp := rfl
@[simp] theorem setTbs_cus (f) : (setTbs f s).cus = s.cus := rfl
@[simp] theorem setTbs_gcl (f) : (setTbs f s).gcl = s.gcl := rfl
@[simp] theorem setTbs_mem (f) : (setTbs f s).mem = s.mem := rfl
@[simp] theorem setTbs_dram (f) : (setTbs f s).dram = s.dram := rfl
@[simp] theorem setTbs_twpCfg (f) : (setTbs f s).twpCfg = s.twpCfg := rfl
@[simp] theorem setTbs_twp (f) : (setTbs f s).twp = s.twp := rfl
@[simp] theorem setTbs_arb (f) : (setTbs f s).arb = s.arb := rfl
@[simp] theorem setTbs_pmd (f) : (setTbs f s).pmd = s.pmd := rfl
@[simp] theorem setTbs_cas (f) : (setTbs f s).cas = s.cas := rfl
@[simp] theorem setTbs_tap (f) : (setTbs f s).tap = s.tap := rfl

/-! ### `setWet` -/

@[simp] theorem setWet_pending (l) : (setWet l s).pending = s.pending := rfl
@[simp] theorem setWet_fresh (l) : (setWet l s).fresh = s.fresh := rfl
@[simp] theorem setWet_notes (l) : (setWet l s).notes = s.notes := rfl
@[simp] theorem setWet_tbs (l) : (setWet l s).tbs = s.tbs := rfl
@[simp] theorem setWet_und (l) : (setWet l s).und = { s.und with wet := l, wetMirror := mkPair (w32 (bitsMask l)) } := rfl
@[simp] theorem setWet_fuses (l) : (setWet l s).fuses = s.fuses := rfl
@[simp] theorem setWet_pace (l) : (setWet l s).pace = s.pace := rfl
@[simp] theorem setWet_regs (l) : (setWet l s).regs = s.regs := rfl
@[simp] theorem setWet_fw (l) : (setWet l s).fw = s.fw := rfl
@[simp] theorem setWet_err (l) : (setWet l s).err = s.err := rfl
@[simp] theorem setWet_procs (l) : (setWet l s).procs = s.procs := rfl
@[simp] theorem setWet_mbx (l) : (setWet l s).mbx = s.mbx := rfl
@[simp] theorem setWet_sec (l) : (setWet l s).sec = s.sec := rfl
@[simp] theorem setWet_upd (l) : (setWet l s).upd = s.upd := rfl
@[simp] theorem setWet_nvs (l) : (setWet l s).nvs = s.nvs := rfl
@[simp] theorem setWet_mram (l) : (setWet l s).mram = s.mram := rfl
@[simp] theorem setWet_cfg (l) : (setWet l s).cfg = s.cfg := rfl
@[simp] theorem setWet_gld (l) : (setWet l s).gld = s.gld := rfl
@[simp] theorem setWet_seq (l) : (setWet l s).seq = s.seq := rfl
@[simp] theorem setWet_shp (l) : (setWet l s).shp = s.shp := rfl
@[simp] theorem setWet_afe (l) : (setWet l s).afe = s.afe := rfl
@[simp] theorem setWet_thm (l) : (setWet l s).thm = s.thm := rfl
@[simp] theorem setWet_thrForced (l) : (setWet l s).thrForced = s.thrForced := rfl
@[simp] theorem setWet_lkf (l) : (setWet l s).lkf = s.lkf := rfl
@[simp] theorem setWet_mdie (l) : (setWet l s).mdie = s.mdie := rfl
@[simp] theorem setWet_mch (l) : (setWet l s).mch = s.mch := rfl
@[simp] theorem setWet_mot (l) : (setWet l s).mot = s.mot := rfl
@[simp] theorem setWet_cnp (l) : (setWet l s).cnp = s.cnp := rfl
@[simp] theorem setWet_cus (l) : (setWet l s).cus = s.cus := rfl
@[simp] theorem setWet_gcl (l) : (setWet l s).gcl = s.gcl := rfl
@[simp] theorem setWet_mem (l) : (setWet l s).mem = s.mem := rfl
@[simp] theorem setWet_dram (l) : (setWet l s).dram = s.dram := rfl
@[simp] theorem setWet_twpCfg (l) : (setWet l s).twpCfg = s.twpCfg := rfl
@[simp] theorem setWet_twp (l) : (setWet l s).twp = s.twp := rfl
@[simp] theorem setWet_arb (l) : (setWet l s).arb = s.arb := rfl
@[simp] theorem setWet_pmd (l) : (setWet l s).pmd = s.pmd := rfl
@[simp] theorem setWet_cas (l) : (setWet l s).cas = s.cas := rfl
@[simp] theorem setWet_tap (l) : (setWet l s).tap = s.tap := rfl

/-! ### `setLocate` -/

@[simp] theorem setLocate_pending (b) : (setLocate b s).pending = s.pending := rfl
@[simp] theorem setLocate_fresh (b) : (setLocate b s).fresh = s.fresh := rfl
@[simp] theorem setLocate_notes (b) : (setLocate b s).notes = s.notes := rfl
@[simp] theorem setLocate_tbs (b) : (setLocate b s).tbs = s.tbs := rfl
@[simp] theorem setLocate_und (b) : (setLocate b s).und = { s.und with ind := { s.und.ind with locate := b, since := s.now } } := rfl
@[simp] theorem setLocate_fuses (b) : (setLocate b s).fuses = s.fuses := rfl
@[simp] theorem setLocate_pace (b) : (setLocate b s).pace = s.pace := rfl
@[simp] theorem setLocate_regs (b) : (setLocate b s).regs = s.regs := rfl
@[simp] theorem setLocate_fw (b) : (setLocate b s).fw = s.fw := rfl
@[simp] theorem setLocate_err (b) : (setLocate b s).err = s.err := rfl
@[simp] theorem setLocate_procs (b) : (setLocate b s).procs = s.procs := rfl
@[simp] theorem setLocate_mbx (b) : (setLocate b s).mbx = s.mbx := rfl
@[simp] theorem setLocate_sec (b) : (setLocate b s).sec = s.sec := rfl
@[simp] theorem setLocate_upd (b) : (setLocate b s).upd = s.upd := rfl
@[simp] theorem setLocate_nvs (b) : (setLocate b s).nvs = s.nvs := rfl
@[simp] theorem setLocate_mram (b) : (setLocate b s).mram = s.mram := rfl
@[simp] theorem setLocate_cfg (b) : (setLocate b s).cfg = s.cfg := rfl
@[simp] theorem setLocate_gld (b) : (setLocate b s).gld = s.gld := rfl
@[simp] theorem setLocate_seq (b) : (setLocate b s).seq = s.seq := rfl
@[simp] theorem setLocate_shp (b) : (setLocate b s).shp = s.shp := rfl
@[simp] theorem setLocate_afe (b) : (setLocate b s).afe = s.afe := rfl
@[simp] theorem setLocate_thm (b) : (setLocate b s).thm = s.thm := rfl
@[simp] theorem setLocate_thrForced (b) : (setLocate b s).thrForced = s.thrForced := rfl
@[simp] theorem setLocate_lkf (b) : (setLocate b s).lkf = s.lkf := rfl
@[simp] theorem setLocate_mdie (b) : (setLocate b s).mdie = s.mdie := rfl
@[simp] theorem setLocate_mch (b) : (setLocate b s).mch = s.mch := rfl
@[simp] theorem setLocate_mot (b) : (setLocate b s).mot = s.mot := rfl
@[simp] theorem setLocate_cnp (b) : (setLocate b s).cnp = s.cnp := rfl
@[simp] theorem setLocate_cus (b) : (setLocate b s).cus = s.cus := rfl
@[simp] theorem setLocate_gcl (b) : (setLocate b s).gcl = s.gcl := rfl
@[simp] theorem setLocate_mem (b) : (setLocate b s).mem = s.mem := rfl
@[simp] theorem setLocate_dram (b) : (setLocate b s).dram = s.dram := rfl
@[simp] theorem setLocate_twpCfg (b) : (setLocate b s).twpCfg = s.twpCfg := rfl
@[simp] theorem setLocate_twp (b) : (setLocate b s).twp = s.twp := rfl
@[simp] theorem setLocate_arb (b) : (setLocate b s).arb = s.arb := rfl
@[simp] theorem setLocate_pmd (b) : (setLocate b s).pmd = s.pmd := rfl
@[simp] theorem setLocate_cas (b) : (setLocate b s).cas = s.cas := rfl
@[simp] theorem setLocate_tap (b) : (setLocate b s).tap = s.tap := rfl

/-! ### `addResidency` -/

@[simp] theorem addResidency_pending (st) (n) : (addResidency st n s).pending = s.pending := rfl
@[simp] theorem addResidency_fresh (st) (n) : (addResidency st n s).fresh = s.fresh := rfl
@[simp] theorem addResidency_notes (st) (n) : (addResidency st n s).notes = s.notes := rfl
@[simp] theorem addResidency_tbs (st) (n) : (addResidency st n s).tbs = s.tbs := rfl
@[simp] theorem addResidency_und (st) (n) : (addResidency st n s).und = s.und := rfl
@[simp] theorem addResidency_fuses (st) (n) : (addResidency st n s).fuses = s.fuses := rfl
@[simp] theorem addResidency_pace (st) (n) : (addResidency st n s).pace = s.pace := rfl
@[simp] theorem addResidency_regs (st) (n) : (addResidency st n s).regs = s.regs := rfl
@[simp] theorem addResidency_fw (st) (n) : (addResidency st n s).fw = s.fw := rfl
@[simp] theorem addResidency_err (st) (n) : (addResidency st n s).err = s.err := rfl
@[simp] theorem addResidency_procs (st) (n) : (addResidency st n s).procs = s.procs := rfl
@[simp] theorem addResidency_mbx (st) (n) : (addResidency st n s).mbx = s.mbx := rfl
@[simp] theorem addResidency_sec (st) (n) : (addResidency st n s).sec = s.sec := rfl
@[simp] theorem addResidency_upd (st) (n) : (addResidency st n s).upd = s.upd := rfl
@[simp] theorem addResidency_nvs (st) (n) : (addResidency st n s).nvs = s.nvs := rfl
@[simp] theorem addResidency_mram (st) (n) : (addResidency st n s).mram = s.mram := rfl
@[simp] theorem addResidency_cfg (st) (n) : (addResidency st n s).cfg = s.cfg := rfl
@[simp] theorem addResidency_gld (st) (n) : (addResidency st n s).gld = s.gld := rfl
@[simp] theorem addResidency_seq (st) (n) : (addResidency st n s).seq = s.seq := rfl
@[simp] theorem addResidency_shp (st) (n) : (addResidency st n s).shp = s.shp := rfl
@[simp] theorem addResidency_afe (st) (n) : (addResidency st n s).afe = s.afe := rfl
@[simp] theorem addResidency_thm (st) (n) : (addResidency st n s).thm = s.thm := rfl
@[simp] theorem addResidency_thrForced (st) (n) : (addResidency st n s).thrForced = s.thrForced := rfl
@[simp] theorem addResidency_lkf (st) (n) : (addResidency st n s).lkf = s.lkf := rfl
@[simp] theorem addResidency_mdie (st) (n) : (addResidency st n s).mdie = s.mdie := rfl
@[simp] theorem addResidency_mch (st) (n) : (addResidency st n s).mch = s.mch := rfl
@[simp] theorem addResidency_mot (st) (n) : (addResidency st n s).mot = s.mot := rfl
@[simp] theorem addResidency_cnp (st) (n) : (addResidency st n s).cnp = s.cnp := rfl
@[simp] theorem addResidency_cus (st) (n) : (addResidency st n s).cus = s.cus := rfl
@[simp] theorem addResidency_gcl (st) (n) : (addResidency st n s).gcl = s.gcl := rfl
@[simp] theorem addResidency_mem (st) (n) : (addResidency st n s).mem = s.mem := rfl
@[simp] theorem addResidency_dram (st) (n) : (addResidency st n s).dram = s.dram := rfl
@[simp] theorem addResidency_twpCfg (st) (n) : (addResidency st n s).twpCfg = s.twpCfg := rfl
@[simp] theorem addResidency_twp (st) (n) : (addResidency st n s).twp = s.twp := rfl
@[simp] theorem addResidency_arb (st) (n) : (addResidency st n s).arb = s.arb := rfl
@[simp] theorem addResidency_pmd (st) (n) : (addResidency st n s).pmd = { s.pmd with residency := tupd 0 s.pmd.residency st (· + n) } := rfl
@[simp] theorem addResidency_cas (st) (n) : (addResidency st n s).cas = s.cas := rfl
@[simp] theorem addResidency_tap (st) (n) : (addResidency st n s).tap = s.tap := rfl

/-! ### `cusResult` -/

@[simp] theorem cusResult_pending (res) (slot) : (cusResult res slot s).pending = s.pending := rfl
@[simp] theorem cusResult_fresh (res) (slot) : (cusResult res slot s).fresh = s.fresh := rfl
@[simp] theorem cusResult_notes (res) (slot) : (cusResult res slot s).notes = s.notes := rfl
@[simp] theorem cusResult_tbs (res) (slot) : (cusResult res slot s).tbs = s.tbs := rfl
@[simp] theorem cusResult_und (res) (slot) : (cusResult res slot s).und = s.und := rfl
@[simp] theorem cusResult_fuses (res) (slot) : (cusResult res slot s).fuses = s.fuses := rfl
@[simp] theorem cusResult_pace (res) (slot) : (cusResult res slot s).pace = s.pace := rfl
@[simp] theorem cusResult_regs (res) (slot) : (cusResult res slot s).regs = s.regs := rfl
@[simp] theorem cusResult_fw (res) (slot) : (cusResult res slot s).fw = s.fw := rfl
@[simp] theorem cusResult_err (res) (slot) : (cusResult res slot s).err = s.err := rfl
@[simp] theorem cusResult_procs (res) (slot) : (cusResult res slot s).procs = s.procs := rfl
@[simp] theorem cusResult_mbx (res) (slot) : (cusResult res slot s).mbx = s.mbx := rfl
@[simp] theorem cusResult_sec (res) (slot) : (cusResult res slot s).sec = s.sec := rfl
@[simp] theorem cusResult_upd (res) (slot) : (cusResult res slot s).upd = s.upd := rfl
@[simp] theorem cusResult_nvs (res) (slot) : (cusResult res slot s).nvs = s.nvs := rfl
@[simp] theorem cusResult_mram (res) (slot) : (cusResult res slot s).mram = s.mram := rfl
@[simp] theorem cusResult_cfg (res) (slot) : (cusResult res slot s).cfg = s.cfg := rfl
@[simp] theorem cusResult_gld (res) (slot) : (cusResult res slot s).gld = s.gld := rfl
@[simp] theorem cusResult_seq (res) (slot) : (cusResult res slot s).seq = s.seq := rfl
@[simp] theorem cusResult_shp (res) (slot) : (cusResult res slot s).shp = s.shp := rfl
@[simp] theorem cusResult_afe (res) (slot) : (cusResult res slot s).afe = s.afe := rfl
@[simp] theorem cusResult_thm (res) (slot) : (cusResult res slot s).thm = s.thm := rfl
@[simp] theorem cusResult_thrForced (res) (slot) : (cusResult res slot s).thrForced = s.thrForced := rfl
@[simp] theorem cusResult_lkf (res) (slot) : (cusResult res slot s).lkf = s.lkf := rfl
@[simp] theorem cusResult_mdie (res) (slot) : (cusResult res slot s).mdie = s.mdie := rfl
@[simp] theorem cusResult_mch (res) (slot) : (cusResult res slot s).mch = s.mch := rfl
@[simp] theorem cusResult_mot (res) (slot) : (cusResult res slot s).mot = s.mot := rfl
@[simp] theorem cusResult_cnp (res) (slot) : (cusResult res slot s).cnp = s.cnp := rfl
@[simp] theorem cusResult_cus (res) (slot) : (cusResult res slot s).cus = { s.cus with result := res, resSlot := slot } := rfl
@[simp] theorem cusResult_gcl (res) (slot) : (cusResult res slot s).gcl = s.gcl := rfl
@[simp] theorem cusResult_mem (res) (slot) : (cusResult res slot s).mem = s.mem := rfl
@[simp] theorem cusResult_dram (res) (slot) : (cusResult res slot s).dram = s.dram := rfl
@[simp] theorem cusResult_twpCfg (res) (slot) : (cusResult res slot s).twpCfg = s.twpCfg := rfl
@[simp] theorem cusResult_twp (res) (slot) : (cusResult res slot s).twp = s.twp := rfl
@[simp] theorem cusResult_arb (res) (slot) : (cusResult res slot s).arb = s.arb := rfl
@[simp] theorem cusResult_pmd (res) (slot) : (cusResult res slot s).pmd = s.pmd := rfl
@[simp] theorem cusResult_cas (res) (slot) : (cusResult res slot s).cas = s.cas := rfl
@[simp] theorem cusResult_tap (res) (slot) : (cusResult res slot s).tap = s.tap := rfl

/-! ### `nvsResult` -/

@[simp] theorem nvsResult_pending (tag) (area) (res) : (nvsResult tag area res s).pending = s.pending := rfl
@[simp] theorem nvsResult_fresh (tag) (area) (res) : (nvsResult tag area res s).fresh = s.fresh := rfl
@[simp] theorem nvsResult_notes (tag) (area) (res) : (nvsResult tag area res s).notes = s.notes := rfl
@[simp] theorem nvsResult_tbs (tag) (area) (res) : (nvsResult tag area res s).tbs = s.tbs := rfl
@[simp] theorem nvsResult_und (tag) (area) (res) : (nvsResult tag area res s).und = s.und := rfl
@[simp] theorem nvsResult_fuses (tag) (area) (res) : (nvsResult tag area res s).fuses = s.fuses := rfl
@[simp] theorem nvsResult_pace (tag) (area) (res) : (nvsResult tag area res s).pace = s.pace := rfl
@[simp] theorem nvsResult_regs (tag) (area) (res) : (nvsResult tag area res s).regs = s.regs := rfl
@[simp] theorem nvsResult_fw (tag) (area) (res) : (nvsResult tag area res s).fw = s.fw := rfl
@[simp] theorem nvsResult_err (tag) (area) (res) : (nvsResult tag area res s).err = s.err := rfl
@[simp] theorem nvsResult_procs (tag) (area) (res) : (nvsResult tag area res s).procs = s.procs := rfl
@[simp] theorem nvsResult_mbx (tag) (area) (res) : (nvsResult tag area res s).mbx = s.mbx := rfl
@[simp] theorem nvsResult_sec (tag) (area) (res) : (nvsResult tag area res s).sec = s.sec := rfl
@[simp] theorem nvsResult_upd (tag) (area) (res) : (nvsResult tag area res s).upd = s.upd := rfl
@[simp] theorem nvsResult_nvs (tag) (area) (res) : (nvsResult tag area res s).nvs = { s.nvs with resTag := tag, resArea := area, result := res } := rfl
@[simp] theorem nvsResult_mram (tag) (area) (res) : (nvsResult tag area res s).mram = s.mram := rfl
@[simp] theorem nvsResult_cfg (tag) (area) (res) : (nvsResult tag area res s).cfg = s.cfg := rfl
@[simp] theorem nvsResult_gld (tag) (area) (res) : (nvsResult tag area res s).gld = s.gld := rfl
@[simp] theorem nvsResult_seq (tag) (area) (res) : (nvsResult tag area res s).seq = s.seq := rfl
@[simp] theorem nvsResult_shp (tag) (area) (res) : (nvsResult tag area res s).shp = s.shp := rfl
@[simp] theorem nvsResult_afe (tag) (area) (res) : (nvsResult tag area res s).afe = s.afe := rfl
@[simp] theorem nvsResult_thm (tag) (area) (res) : (nvsResult tag area res s).thm = s.thm := rfl
@[simp] theorem nvsResult_thrForced (tag) (area) (res) : (nvsResult tag area res s).thrForced = s.thrForced := rfl
@[simp] theorem nvsResult_lkf (tag) (area) (res) : (nvsResult tag area res s).lkf = s.lkf := rfl
@[simp] theorem nvsResult_mdie (tag) (area) (res) : (nvsResult tag area res s).mdie = s.mdie := rfl
@[simp] theorem nvsResult_mch (tag) (area) (res) : (nvsResult tag area res s).mch = s.mch := rfl
@[simp] theorem nvsResult_mot (tag) (area) (res) : (nvsResult tag area res s).mot = s.mot := rfl
@[simp] theorem nvsResult_cnp (tag) (area) (res) : (nvsResult tag area res s).cnp = s.cnp := rfl
@[simp] theorem nvsResult_cus (tag) (area) (res) : (nvsResult tag area res s).cus = s.cus := rfl
@[simp] theorem nvsResult_gcl (tag) (area) (res) : (nvsResult tag area res s).gcl = s.gcl := rfl
@[simp] theorem nvsResult_mem (tag) (area) (res) : (nvsResult tag area res s).mem = s.mem := rfl
@[simp] theorem nvsResult_dram (tag) (area) (res) : (nvsResult tag area res s).dram = s.dram := rfl
@[simp] theorem nvsResult_twpCfg (tag) (area) (res) : (nvsResult tag area res s).twpCfg = s.twpCfg := rfl
@[simp] theorem nvsResult_twp (tag) (area) (res) : (nvsResult tag area res s).twp = s.twp := rfl
@[simp] theorem nvsResult_arb (tag) (area) (res) : (nvsResult tag area res s).arb = s.arb := rfl
@[simp] theorem nvsResult_pmd (tag) (area) (res) : (nvsResult tag area res s).pmd = s.pmd := rfl
@[simp] theorem nvsResult_cas (tag) (area) (res) : (nvsResult tag area res s).cas = s.cas := rfl
@[simp] theorem nvsResult_tap (tag) (area) (res) : (nvsResult tag area res s).tap = s.tap := rfl

/-! ### `updResult` -/

@[simp] theorem updResult_pending (res) (detail) : (updResult res detail s).pending = s.pending := rfl
@[simp] theorem updResult_fresh (res) (detail) : (updResult res detail s).fresh = s.fresh := rfl
@[simp] theorem updResult_notes (res) (detail) : (updResult res detail s).notes = s.notes := rfl
@[simp] theorem updResult_tbs (res) (detail) : (updResult res detail s).tbs = s.tbs := rfl
@[simp] theorem updResult_und (res) (detail) : (updResult res detail s).und = s.und := rfl
@[simp] theorem updResult_fuses (res) (detail) : (updResult res detail s).fuses = s.fuses := rfl
@[simp] theorem updResult_pace (res) (detail) : (updResult res detail s).pace = s.pace := rfl
@[simp] theorem updResult_regs (res) (detail) : (updResult res detail s).regs = s.regs := rfl
@[simp] theorem updResult_fw (res) (detail) : (updResult res detail s).fw = s.fw := rfl
@[simp] theorem updResult_err (res) (detail) : (updResult res detail s).err = s.err := rfl
@[simp] theorem updResult_procs (res) (detail) : (updResult res detail s).procs = s.procs := rfl
@[simp] theorem updResult_mbx (res) (detail) : (updResult res detail s).mbx = s.mbx := rfl
@[simp] theorem updResult_sec (res) (detail) : (updResult res detail s).sec = s.sec := rfl
@[simp] theorem updResult_upd (res) (detail) : (updResult res detail s).upd = { s.upd with result := res, detail := detail } := rfl
@[simp] theorem updResult_nvs (res) (detail) : (updResult res detail s).nvs = s.nvs := rfl
@[simp] theorem updResult_mram (res) (detail) : (updResult res detail s).mram = s.mram := rfl
@[simp] theorem updResult_cfg (res) (detail) : (updResult res detail s).cfg = s.cfg := rfl
@[simp] theorem updResult_gld (res) (detail) : (updResult res detail s).gld = s.gld := rfl
@[simp] theorem updResult_seq (res) (detail) : (updResult res detail s).seq = s.seq := rfl
@[simp] theorem updResult_shp (res) (detail) : (updResult res detail s).shp = s.shp := rfl
@[simp] theorem updResult_afe (res) (detail) : (updResult res detail s).afe = s.afe := rfl
@[simp] theorem updResult_thm (res) (detail) : (updResult res detail s).thm = s.thm := rfl
@[simp] theorem updResult_thrForced (res) (detail) : (updResult res detail s).thrForced = s.thrForced := rfl
@[simp] theorem updResult_lkf (res) (detail) : (updResult res detail s).lkf = s.lkf := rfl
@[simp] theorem updResult_mdie (res) (detail) : (updResult res detail s).mdie = s.mdie := rfl
@[simp] theorem updResult_mch (res) (detail) : (updResult res detail s).mch = s.mch := rfl
@[simp] theorem updResult_mot (res) (detail) : (updResult res detail s).mot = s.mot := rfl
@[simp] theorem updResult_cnp (res) (detail) : (updResult res detail s).cnp = s.cnp := rfl
@[simp] theorem updResult_cus (res) (detail) : (updResult res detail s).cus = s.cus := rfl
@[simp] theorem updResult_gcl (res) (detail) : (updResult res detail s).gcl = s.gcl := rfl
@[simp] theorem updResult_mem (res) (detail) : (updResult res detail s).mem = s.mem := rfl
@[simp] theorem updResult_dram (res) (detail) : (updResult res detail s).dram = s.dram := rfl
@[simp] theorem updResult_twpCfg (res) (detail) : (updResult res detail s).twpCfg = s.twpCfg := rfl
@[simp] theorem updResult_twp (res) (detail) : (updResult res detail s).twp = s.twp := rfl
@[simp] theorem updResult_arb (res) (detail) : (updResult res detail s).arb = s.arb := rfl
@[simp] theorem updResult_pmd (res) (detail) : (updResult res detail s).pmd = s.pmd := rfl
@[simp] theorem updResult_cas (res) (detail) : (updResult res detail s).cas = s.cas := rfl
@[simp] theorem updResult_tap (res) (detail) : (updResult res detail s).tap = s.tap := rfl

/-! ### `rcvResult` -/

@[simp] theorem rcvResult_pending (tag) (res) : (rcvResult tag res s).pending = s.pending := rfl
@[simp] theorem rcvResult_fresh (tag) (res) : (rcvResult tag res s).fresh = s.fresh := rfl
@[simp] theorem rcvResult_notes (tag) (res) : (rcvResult tag res s).notes = s.notes := rfl
@[simp] theorem rcvResult_tbs (tag) (res) : (rcvResult tag res s).tbs = s.tbs := rfl
@[simp] theorem rcvResult_und (tag) (res) : (rcvResult tag res s).und = s.und := rfl
@[simp] theorem rcvResult_fuses (tag) (res) : (rcvResult tag res s).fuses = s.fuses := rfl
@[simp] theorem rcvResult_pace (tag) (res) : (rcvResult tag res s).pace = s.pace := rfl
@[simp] theorem rcvResult_regs (tag) (res) : (rcvResult tag res s).regs = s.regs := rfl
@[simp] theorem rcvResult_fw (tag) (res) : (rcvResult tag res s).fw = s.fw := rfl
@[simp] theorem rcvResult_err (tag) (res) : (rcvResult tag res s).err = s.err := rfl
@[simp] theorem rcvResult_procs (tag) (res) : (rcvResult tag res s).procs = s.procs := rfl
@[simp] theorem rcvResult_mbx (tag) (res) : (rcvResult tag res s).mbx = s.mbx := rfl
@[simp] theorem rcvResult_sec (tag) (res) : (rcvResult tag res s).sec = { s.sec with rcvTag := tag, rcvRes := res } := rfl
@[simp] theorem rcvResult_upd (tag) (res) : (rcvResult tag res s).upd = s.upd := rfl
@[simp] theorem rcvResult_nvs (tag) (res) : (rcvResult tag res s).nvs = s.nvs := rfl
@[simp] theorem rcvResult_mram (tag) (res) : (rcvResult tag res s).mram = s.mram := rfl
@[simp] theorem rcvResult_cfg (tag) (res) : (rcvResult tag res s).cfg = s.cfg := rfl
@[simp] theorem rcvResult_gld (tag) (res) : (rcvResult tag res s).gld = s.gld := rfl
@[simp] theorem rcvResult_seq (tag) (res) : (rcvResult tag res s).seq = s.seq := rfl
@[simp] theorem rcvResult_shp (tag) (res) : (rcvResult tag res s).shp = s.shp := rfl
@[simp] theorem rcvResult_afe (tag) (res) : (rcvResult tag res s).afe = s.afe := rfl
@[simp] theorem rcvResult_thm (tag) (res) : (rcvResult tag res s).thm = s.thm := rfl
@[simp] theorem rcvResult_thrForced (tag) (res) : (rcvResult tag res s).thrForced = s.thrForced := rfl
@[simp] theorem rcvResult_lkf (tag) (res) : (rcvResult tag res s).lkf = s.lkf := rfl
@[simp] theorem rcvResult_mdie (tag) (res) : (rcvResult tag res s).mdie = s.mdie := rfl
@[simp] theorem rcvResult_mch (tag) (res) : (rcvResult tag res s).mch = s.mch := rfl
@[simp] theorem rcvResult_mot (tag) (res) : (rcvResult tag res s).mot = s.mot := rfl
@[simp] theorem rcvResult_cnp (tag) (res) : (rcvResult tag res s).cnp = s.cnp := rfl
@[simp] theorem rcvResult_cus (tag) (res) : (rcvResult tag res s).cus = s.cus := rfl
@[simp] theorem rcvResult_gcl (tag) (res) : (rcvResult tag res s).gcl = s.gcl := rfl
@[simp] theorem rcvResult_mem (tag) (res) : (rcvResult tag res s).mem = s.mem := rfl
@[simp] theorem rcvResult_dram (tag) (res) : (rcvResult tag res s).dram = s.dram := rfl
@[simp] theorem rcvResult_twpCfg (tag) (res) : (rcvResult tag res s).twpCfg = s.twpCfg := rfl
@[simp] theorem rcvResult_twp (tag) (res) : (rcvResult tag res s).twp = s.twp := rfl
@[simp] theorem rcvResult_arb (tag) (res) : (rcvResult tag res s).arb = s.arb := rfl
@[simp] theorem rcvResult_pmd (tag) (res) : (rcvResult tag res s).pmd = s.pmd := rfl
@[simp] theorem rcvResult_cas (tag) (res) : (rcvResult tag res s).cas = s.cas := rfl
@[simp] theorem rcvResult_tap (tag) (res) : (rcvResult tag res s).tap = s.tap := rfl

/-! ### `fillKeyBuf` -/

@[simp] theorem fillKeyBuf_pending (l) : (fillKeyBuf l s).pending = s.pending := rfl
@[simp] theorem fillKeyBuf_fresh (l) : (fillKeyBuf l s).fresh = s.fresh := rfl
@[simp] theorem fillKeyBuf_notes (l) : (fillKeyBuf l s).notes = s.notes := rfl
@[simp] theorem fillKeyBuf_tbs (l) : (fillKeyBuf l s).tbs = s.tbs := rfl
@[simp] theorem fillKeyBuf_und (l) : (fillKeyBuf l s).und = s.und := rfl
@[simp] theorem fillKeyBuf_fuses (l) : (fillKeyBuf l s).fuses = s.fuses := rfl
@[simp] theorem fillKeyBuf_pace (l) : (fillKeyBuf l s).pace = s.pace := rfl
@[simp] theorem fillKeyBuf_regs (l) : (fillKeyBuf l s).regs = s.regs := rfl
@[simp] theorem fillKeyBuf_fw (l) : (fillKeyBuf l s).fw = s.fw := rfl
@[simp] theorem fillKeyBuf_err (l) : (fillKeyBuf l s).err = s.err := rfl
@[simp] theorem fillKeyBuf_procs (l) : (fillKeyBuf l s).procs = s.procs := rfl
@[simp] theorem fillKeyBuf_mbx (l) : (fillKeyBuf l s).mbx = s.mbx := rfl
@[simp] theorem fillKeyBuf_sec (l) : (fillKeyBuf l s).sec = { s.sec with keyBuf := l ++ s.sec.keyBuf.drop l.length } := rfl
@[simp] theorem fillKeyBuf_upd (l) : (fillKeyBuf l s).upd = s.upd := rfl
@[simp] theorem fillKeyBuf_nvs (l) : (fillKeyBuf l s).nvs = s.nvs := rfl
@[simp] theorem fillKeyBuf_mram (l) : (fillKeyBuf l s).mram = s.mram := rfl
@[simp] theorem fillKeyBuf_cfg (l) : (fillKeyBuf l s).cfg = s.cfg := rfl
@[simp] theorem fillKeyBuf_gld (l) : (fillKeyBuf l s).gld = s.gld := rfl
@[simp] theorem fillKeyBuf_seq (l) : (fillKeyBuf l s).seq = s.seq := rfl
@[simp] theorem fillKeyBuf_shp (l) : (fillKeyBuf l s).shp = s.shp := rfl
@[simp] theorem fillKeyBuf_afe (l) : (fillKeyBuf l s).afe = s.afe := rfl
@[simp] theorem fillKeyBuf_thm (l) : (fillKeyBuf l s).thm = s.thm := rfl
@[simp] theorem fillKeyBuf_thrForced (l) : (fillKeyBuf l s).thrForced = s.thrForced := rfl
@[simp] theorem fillKeyBuf_lkf (l) : (fillKeyBuf l s).lkf = s.lkf := rfl
@[simp] theorem fillKeyBuf_mdie (l) : (fillKeyBuf l s).mdie = s.mdie := rfl
@[simp] theorem fillKeyBuf_mch (l) : (fillKeyBuf l s).mch = s.mch := rfl
@[simp] theorem fillKeyBuf_mot (l) : (fillKeyBuf l s).mot = s.mot := rfl
@[simp] theorem fillKeyBuf_cnp (l) : (fillKeyBuf l s).cnp = s.cnp := rfl
@[simp] theorem fillKeyBuf_cus (l) : (fillKeyBuf l s).cus = s.cus := rfl
@[simp] theorem fillKeyBuf_gcl (l) : (fillKeyBuf l s).gcl = s.gcl := rfl
@[simp] theorem fillKeyBuf_mem (l) : (fillKeyBuf l s).mem = s.mem := rfl
@[simp] theorem fillKeyBuf_dram (l) : (fillKeyBuf l s).dram = s.dram := rfl
@[simp] theorem fillKeyBuf_twpCfg (l) : (fillKeyBuf l s).twpCfg = s.twpCfg := rfl
@[simp] theorem fillKeyBuf_twp (l) : (fillKeyBuf l s).twp = s.twp := rfl
@[simp] theorem fillKeyBuf_arb (l) : (fillKeyBuf l s).arb = s.arb := rfl
@[simp] theorem fillKeyBuf_pmd (l) : (fillKeyBuf l s).pmd = s.pmd := rfl
@[simp] theorem fillKeyBuf_cas (l) : (fillKeyBuf l s).cas = s.cas := rfl
@[simp] theorem fillKeyBuf_tap (l) : (fillKeyBuf l s).tap = s.tap := rfl

end Sys2Proof.Machine
end

