-- ==== Sys2Proof/Laws/Steps.lean ====
section
/-! SUPPORT. The forms that every meaning has, with what each answers: a command to the core die, to the island, and to the supplies. -/

namespace Sys2Proof.Machine

theorem dormant_awake {s : State} (h : awake s) : dormant s = false := by
  simp [dormant, h.1, h.2]

/-- A command to the core die, awake: its effect, settled. -/
theorem coreStep_awake {f : State → State} {s : State} (h : awake s) : coreStep f s = .next (settle s (f s)) := by
  simp [coreStep, finish, dormant_awake h]

/-- A command to the core die that power-on reset or D3 holds: no effect (log 90). -/
theorem coreStep_dormant {f : State → State} {s : State} (h : dormant s = true) : coreStep f s = .next (settle s s) := by
  simp [coreStep, finish, h]

theorem islandStep_out {f : State → State} {s : State} (h : s.und.supply.porAsserted = false) : islandStep f s = .next (settle s (f s)) := by
  simp [islandStep, finish, inReset, h]

theorem islandStep_held {f : State → State} {s : State} (h : s.und.supply.porAsserted = true) : islandStep f s = .next (settle s s) := by
  simp [islandStep, finish, inReset, h]

theorem supplyStep_eq (f : State → State) (s : State) : supplyStep f s = .next (settle s (f s)) := rfl

/-- No change is quiet, once no action is left. -/
theorem quiet_self {s : State} (h : s.notes = []) : quiet s s = true := by
  simp [quiet, h]

end Sys2Proof.Machine
end

