-- ==== Sys2Proof/Laws/Tables.lean ====
section
/-! SUPPORT. Reading a table after a write, and membership in a set of numbers after one is added or removed. -/

namespace Sys2Proof.Machine

theorem tfind_tput {α : Type} (t : Tab α) (i j : Nat) (x : α) : tfind (tput t j x) i = if i = j then some x else tfind t i := by
  induction t with
  | nil => by_cases h : i = j <;> simp [tput, tfind, h, eq_comm]
  | cons p r ih =>
    obtain ⟨k, v⟩ := p
    by_cases h1 : j < k
    · by_cases h2 : i = j <;> simp [tput, tfind, h1, h2, eq_comm]
    · by_cases h3 : k = j
      · subst h3
        by_cases h2 : i = k <;> simp [tput, tfind, h2, eq_comm]
      · by_cases h4 : k = i
        · have h5 : ¬ i = j := fun e => h3 (h4.trans e)
          rw [if_neg h5]
          simp only [tput, if_neg h1, if_neg h3, tfind, if_pos h4]
        · simp only [tput, if_neg h1, if_neg h3, tfind, if_neg h4, ih]

theorem tfind_terase {α : Type} (t : Tab α) (i j : Nat) : tfind (terase t j) i = if i = j then none else tfind t i := by
  induction t with
  | nil => simp [terase, tfind]
  | cons p r ih =>
    obtain ⟨k, v⟩ := p
    by_cases h3 : k = j
    · subst h3
      by_cases h2 : i = k
      · simp only [terase, if_true, if_pos h2] at ih ⊢; exact ih
      · have h4 : ¬ k = i := fun e => h2 e.symm
        simp [terase, tfind, ih, h2, h4]
    · by_cases h4 : k = i
      · have h5 : ¬ i = j := fun e => h3 (h4.trans e)
        simp [terase, tfind, h4, h5]
      · simp [terase, tfind, h3, h4, ih]

/-- A written key reads what was written, and every other key as before. -/
theorem tget_tput {α : Type} (d : α) (t : Tab α) (i j : Nat) (x : α) : tget d (tput t j x) i = if i = j then x else tget d t i := by
  unfold tget; rw [tfind_tput]; split <;> rfl

theorem tget_terase {α : Type} (d : α) (t : Tab α) (i j : Nat) : tget d (terase t j) i = if i = j then d else tget d t i := by
  unfold tget; rw [tfind_terase]; split <;> rfl

theorem tget_tset {α : Type} [DecidableEq α] (d : α) (t : Tab α) (i j : Nat) (x : α) : tget d (tset d t j x) i = if i = j then x else tget d t i := by
  unfold tset; split
  · rename_i h; rw [tget_terase, h]
  · rw [tget_tput]

theorem tget_tupd {α : Type} [DecidableEq α] (d : α) (t : Tab α) (i j : Nat) (f : α → α) :
    tget d (tupd d t j f) i = if i = j then f (tget d t j) else tget d t i := by
  unfold tupd; rw [tget_tset]

@[simp] theorem tget_tupd_same {α : Type} [DecidableEq α] (d : α) (t : Tab α) (j : Nat) (f : α → α) : tget d (tupd d t j f) j = f (tget d t j) := by
  rw [tget_tupd, if_pos rfl]

theorem tget_tupd_other {α : Type} [DecidableEq α] (d : α) (t : Tab α) {i j : Nat} (h : i ≠ j) (f : α → α) : tget d (tupd d t j f) i = tget d t i := by
  rw [tget_tupd, if_neg h]

theorem mem_sadd {l : NSet} {x y : Nat} : y ∈ sadd l x ↔ y = x ∨ y ∈ l := by
  induction l with
  | nil => simp [sadd]
  | cons a r ih =>
    simp only [sadd]
    split
    · simp
    · split
      · rename_i h; subst h; simp
      · simp only [List.mem_cons, ih]; constructor <;> intro h <;> rcases h with h | h | h <;> simp [h]

theorem mem_sdel {l : NSet} {x y : Nat} : y ∈ sdel l x ↔ y ∈ l ∧ y ≠ x := by
  simp [sdel]

@[simp] theorem forEach_nil {α β : Type} (f : α → β → β) (b : β) : forEach [] f b = b := rfl
@[simp] theorem forEach_cons {α β : Type} (a : α) (r : List α) (f : α → β → β) (b : β) : forEach (a :: r) f b = forEach r f (f a b) := rfl
@[simp] theorem whenDo_true {α : Type} (f : α → α) (a : α) : whenDo true f a = f a := rfl
@[simp] theorem whenDo_false {α : Type} (f : α → α) (a : α) : whenDo false f a = a := rfl

end Sys2Proof.Machine
end

