-- ==== Sys2Proof/Tests/Slice0.lean ====
section
/-! SUPPORT. The model's own tests: an ill-formed command for each check of WellFormed.lean; small facts taken from the specification; and, for each statement, a state and operands that
meet the hypotheses of every clause of it. -/

namespace Sys2Proof.Tests

open Sys2Proof Sys2Proof.Machine

-- Each witness is checked in turn: checked side by side they ask for more threads than the memory limit admits.
set_option Elab.async false

/-! ### States and records that the tests start from -/

/-- A powered device, one million seconds after its reset: the supplies are up and no reset is held. -/
def up : State := { State.reset with und.supply.porAsserted := false, tbs.count := 1000000000000000 }
def sig0 : SigSec := ⟨1, 1, 0, 0, 0, 0⟩
def sig8 : SigSec := ⟨8, 1, 1280, 1793, 0, 0⟩
def bits0 : Bitstream := { magic := 0, fmtMajor := 1, fmtMinor := 0, hwtype := 0, bind := 0, unit := 0, total := 0, svn := 0, sigOffset := 0, dir := [], padZero := true, transportOk := true, sig := sig0 }
def slot0 : SlotRec := { prim := 1, trigger := 7, paramBase := 0, paramCount := 4 }
def tile0 : TileRec := { owner := 0, slots := [slot0] }
def layer0 : ImgLayer := ⟨5, 0, 0, 1, 1, 1, 1, 0, 0, 0, 0xFFFF, 0, 0, 0, 1⟩
def img0 : ImageRec :=
  { magic := 0x4D4E584B, fmtMajor := 1, fmtMinor := 0, hwtype := 0x4238584B, model := 0, svn := 0, warmup := 0, boundNs := 0, weightBytes := 0, sramKib := 0, stateKib := 0, streamMbps := 0
    tablesLength := 48, sigOffset := 192, total := 3280, weightDigest := 7, reservedZero := true, inputs := [⟨0, 0, 0, 0, 1⟩], outputs := [⟨0, 0⟩], layers := [layer0], weights := [], sig := sig8 }
/-- A dense layer of one BF16 weight, checked by its twin, and an image of it. -/
def dense0 : ImgLayer := ⟨1, 4, 4, 1, 1, 1, 0, 0, 0, 0, 0xFFFF, 0, 0, 0, 1⟩
def img1 : ImageRec := { img0 with layers := [dense0] }
def desc0 : DescRec := ⟨0, 1, 0, 0, 0, 1, 0, 0, 0, 1, 0, 0, 0, 0, 0, 0⟩
def desc4 : DescRec := { desc0 with flags := 5 }
def job0 : CnpJob := { release := 0, deadline := 0, snap := [], layer := 0, left := [(0, 2)] }
def man0 : ManifestRec :=
  { magic := 0x464D584B, fmtMajor := 1, fmtMinor := 0, hwtype := 0x4238584B, bind := 0, unit := 0, modelTag := 0, leafCount := 1, leafLog2 := 20, imageBytes := 1048576, root := 5, sigOffset := 160
    total := 3248, reservedZero := true, shards := [⟨0, 0, 0, 0, 1, 0, 0⟩], sig := sig0 }
def res0 : ResumeRec := ⟨0, 5, 0, 0, 0, 0, 0, 1, false, {}, [], 4⟩
def block0 : ClosedBlock := { block := {}, closed := 0 }
def del0 : Delivered := ⟨0, 0, 0, 0, []⟩
def flit0 : Flit := ⟨0, 0, false, 2, 0, 0, false, false, 7, 0, [], 0, 0, 0⟩
def port5 : Tab GclPort := [(0, { state := 5 })]
def rep0 : DieReply := ⟨false, [], [], 0⟩
def hb0 : Heartbeat := ⟨0, [], 0, false, false, false, false, 0, none, 0⟩
def seg0 : SegEnd := ⟨1, 1, false, none, []⟩
def msg0 : MbxMsg := ⟨6, 2, 0, 0, true, false, 255, 0, []⟩
def fw0 : FwImage :=
  { magic := 0x5746584B, fmtMajor := 1, fmtMinor := 0, hwtype := 0x4238584B, proc := 0, svn := 0, vector := 0, sigOffset := 128, total := 3216, buildTime := 0, reservedZero := true, code := [], data := []
    sig := sig0 }
def pkg0 : Package := { sourceOk := false, parts := [] }
def item0 : FlashItem := { kind := 1, index := 0, body := .fw fw0 }
def set0 : FlashSet := { seq := 1, items := [item0] }
def boot0 : BootEnv := ⟨[], true, true⟩
def two0 : TwOp := { owner := .other 12, kind := .railStatus, addr := 0, page := 0, value := 0 }
def open0 : OpenReq := { chan := 0, major := 2, seq := 0, typ := 1, handler := .sec, payload := [], at_ := 0, started := true }
/-- Every processor is READY, and a message that its mailbox takes. -/
def ready : State := { up with procs := (List.range 6).map (fun p => (p, { state := .ready })) }
def msg1 : MbxMsg := { msg0 with major := 3, crcOk := true }
/-- An ENROL record for slot 9 without a signature. -/
def key0 : List Byte := leBytes 4 0x524B584B ++ leBytes 4 0x4238584B ++ zeroBytes 12 ++ [1#8, 9#8]

/-! ### Ill-formed commands -/

theorem test_wf_temp_channel : Instr.wf (.thermalSample 162 0 false) = false ∧ Instr.wf (.thermalSample 161 0 false) = true := by decide
theorem test_wf_channel_plausible : Instr.wf (.channelPlausible 213) = false ∧ Instr.wf (.channelPlausible 197) = true := by decide
theorem test_wf_sample_rate : Instr.wf (.sampleRateFall 127) = false ∧ Instr.wf (.sampleRateFall 128) = true := by decide
theorem test_wf_tick_tile : Instr.wf (.tick { late := [(64, 0)] }) = false ∧ Instr.wf (.tick { late := [(63, 7)] }) = false := by decide
theorem test_wf_tick_interface : Instr.wf (.tick { hot := [8] }) = false ∧ Instr.wf (.tick { hot := [7], pace := [(23, 0)] }) = true := by decide
theorem test_wf_tick_region : Instr.wf (.tick { pace := [(24, 0)] }) = false := by decide
theorem test_wf_heartbeat_reply : Instr.wf (.heartbeatReply 0 rep0) = false := by decide
theorem test_wf_leaf_bytes : Instr.wf (.leafHashDone 0 []) = false := by decide
theorem test_wf_certificate : Instr.wf (.tapCertWrite []) = false := by decide
theorem test_wf_key_record : Instr.wf (.keySubmit .twp0 0 (List.replicate 8193 0)) = false ∧ Instr.wf (.tapKeyRecord 0 true (List.replicate 8193 0)) = false := by decide +kernel
theorem test_wf_remnant_scrub : Instr.wf (.remnantScrub [(0x1000000, 0, 1)]) = false ∧ Instr.wf (.remnantScrub [(0xFFFFFF, 0, 1)]) = true := by decide
theorem test_wf_target_read : Instr.wf (.twpTargetRead 0 0x40 ⟨[], 0⟩) = false := by decide
theorem test_wf_transfer_done : Instr.wf (.transferDone 1 0 ⟨0, List.replicate 257 0⟩) = false := by decide +kernel
theorem test_wf_arb_requester : Instr.wf (.arbRequest 33 3 1 1 false) = false ∧ Instr.wf (.arbRequest 33 2 1 1 false) = true := by decide
theorem test_wf_arb_beats : Instr.wf (.arbRequest 33 2 0 1 false) = false ∧ Instr.wf (.arbRequest 33 2 1 0 false) = false := by decide
theorem test_wf_beat_complete : Instr.wf (.beatComplete 8 3) = false ∧ Instr.wf (.beatComplete 8 2) = true := by decide
theorem test_wf_message : Instr.wf (.ping { msg0 with length := 65536 }) = false ∧ Instr.wf (.relay { msg0 with major := 256 }) = false := by decide
theorem test_wf_member_record : Instr.wf (.memberRecord 1 []) = false := by decide

/-! ### Facts of the specification -/

/-- R15, R410: a power-on reset starts the timebase from 0 and leaves the one-time fuses. -/
theorem test_power_on_reset : (doPowerOnReset { up with fuses.deployed := true }).tbs.count = 0 ∧ (doPowerOnReset { up with fuses.deployed := true }).fuses.deployed = true := by decide +kernel
/-- R301: UP falls back to lanes 0-7, a slot port to lanes 0-1 and to its lowest usable lane. -/
theorem test_lane_widths : chooseWidth 0 0x7FFF = (8, 0x00FF) ∧ chooseWidth 1 0xB = (2, 3) ∧ chooseWidth 1 4 = (1, 4) := by decide
/-- A LINEAR11 word (chapter 05's sideband) with mantissa 3 and exponent -1 is 1.5. -/
theorem test_linear11 : linear11 0xF803 = 0x18000 := by decide
/-- The polynomial of CRC-32C: the check value of the nine digits. -/
theorem test_crc32c : crc32c ([49, 50, 51, 52, 53, 54, 55, 56, 57] : List Byte) = 0xE3069283#32 := by decide +kernel
/-- R38: ID_RESET_CTRL is written by SEC and by the upstream manager over TWP0, and from no other path. -/
theorem test_reset_ctrl_paths : pathOk up (.proc .sec) 0x24 = true ∧ pathOk up (.proc .pwr) 0x24 = false ∧ pathOk up .twp0 0x24 = true ∧ pathOk up .up 0x24 = false := by decide +kernel
/-- R239: sums that do not cancel fail a twin check. -/
theorem test_twin : twinOk 1 (1, 1, 0) = false ∧ twinOk 0 (2, -1, -1) = true := by decide

/-! ### Witnesses -/

/-- The hypotheses of each clause of Obligations.StepRunsFront are met. -/
theorem test_witness_step_runs_front :
    (∃ (c : Instr) (rest : List Instr) (s : State), s.pending = c :: rest) :=
  ⟨Instr.powerOnReset, [], { up with pending := [.powerOnReset] }, (by decide +kernel)⟩

/-- The hypotheses of each clause of Obligations.StepIdles are met. -/
theorem test_witness_step_idles :
    (∃ (s : State), s.pending = []) :=
  ⟨up, (by decide +kernel)⟩

/-- The hypotheses of each clause of Obligations.StepKeepsInvariant are met. -/
theorem test_witness_step_keeps_invariant :
    (∃ (s : State) (t : State), Machine.Inv s ∧ step s = Host.Outcome.next t) :=
  ⟨{ up with pending := [.locateButton] }, _, (by unfold Machine.Inv RegsOk PlaneOk DiscOk KeysOk; decide +kernel), rfl⟩

/-- The hypotheses of each clause of Obligations.FusesOnlyBlow are met. -/
theorem test_witness_fuses_only_blow :
    (∃ (s : State) (t : State), step s = Host.Outcome.next t) :=
  ⟨{ up with pending := [.locateButton] }, _, rfl⟩

/-- The hypotheses of each clause of Obligations.ResetHoldsEverything are met. -/
theorem test_witness_reset_holds_everything :
    (∃ (c : Instr) (s : State), s.und.supply.porAsserted = true ∧ s.notes = [] ∧ (∀ (e : TickEnv), c ≠ Instr.tick e) ∧ (∀ (b r : Fin 4) (h : Fin 8), c ≠ Instr.porNRelease b r h) ∧ c ≠ Instr.powerOnReset ∧ c ≠ Instr.standbySupplyLoss ∧ c ≠ Instr.mainPgFall ∧ c ≠ Instr.standbySupplyGood ∧ c ≠ Instr.mainPgTimeout) :=
  ⟨Instr.locateButton, State.reset, (by decide +kernel), (by decide +kernel), (fun _ h => nomatch h), (fun _ _ _ h => nomatch h), (by decide +kernel), (by decide +kernel), (by decide +kernel), (by decide +kernel), (by decide +kernel)⟩

/-- The hypotheses of each clause of Obligations.QuietStepsSettleAtOnce are met. -/
theorem test_witness_quiet_steps_settle_at_once :
    (∃ (a : State) (t : State), quiet a t = true) :=
  ⟨up, up, (by decide +kernel)⟩

/-- The hypotheses of each clause of Obligations.ResetState are met. -/
theorem test_witness_reset_state :
    (∃ (c : Nat), c < 16) :=
  ⟨15, (by decide +kernel)⟩

/-- The hypotheses of each clause of Obligations.PowerOnResets are met. -/
theorem test_witness_power_on_resets :
    (∃ (s : State), s.und.supply.mainEn = true) ∧
    (∃ (s : State), s.und.supply.mainEn = false) :=
  ⟨⟨{ State.reset with und.supply.mainEn := true }, (by decide +kernel)⟩,
    ⟨State.reset, (by decide +kernel)⟩⟩

/-- The hypotheses of each clause of Obligations.SupplyEvents are met. -/
theorem test_witness_supply_events :
    (∃ (s : State), s.und.supply.standbyGood = false ∧ s.pmd.state ≠ 3) ∧
    (∃ (s : State) (t : Time), s.und.supply.enSince = some t ∧ s.und.supply.mainEn = true ∧ s.und.supply.mainPg = false ∧ t + 20000000 ≤ s.now) ∧
    (∃ (s : State), s.und.supply.porAsserted = true) ∧
    (∃ (s : State), awake s) :=
  ⟨⟨State.reset, (by decide +kernel), (by decide +kernel)⟩,
    ⟨{ up with und.supply.enSince := some 0, und.supply.mainEn := true }, 0, (by decide +kernel), (by decide +kernel), (by decide +kernel), (by decide +kernel)⟩,
    ⟨State.reset, (by decide +kernel)⟩,
    ⟨up, (by decide +kernel)⟩⟩

/-- The hypotheses of each clause of Obligations.RomRelease are met. -/
theorem test_witness_rom_release :
    (∃ (s : State), awake s ∧ s.sec.phase = 0 ∧ s.fuses.differ = true) ∧
    (∃ (s : State), awake s ∧ s.sec.phase = 0 ∧ s.fuses.differ = false ∧ s.und.straps.bootSrc = 3) ∧
    (∃ (s : State) (b : BootEnv), awake s ∧ s.sec.phase = 0 ∧ s.fuses.differ = false ∧ s.und.straps.bootSrc = 1 ∧ tfind b.slots 0 = none) :=
  ⟨⟨{ up with fuses.differ := true }, (by decide +kernel), (by decide +kernel), (by decide +kernel)⟩,
    ⟨{ up with und.straps.bootSrc := 3 }, (by decide +kernel), (by decide +kernel), (by decide +kernel), (by decide +kernel)⟩,
    ⟨{ up with und.straps.bootSrc := 1 }, boot0, (by decide +kernel), (by decide +kernel), (by decide +kernel), (by decide +kernel), (by decide +kernel)⟩⟩

/-- The hypotheses of each clause of Obligations.ResetRequests are met. -/
theorem test_witness_reset_requests :
    (∃ (s : State) (path : Path) (v : Word), awake s ∧ pathOk s path 36 = true ∧ fld v 15 0 = 49642) ∧
    (∃ (s : State) (path : Path) (v : Word), awake s ∧ pathOk s path 36 = true ∧ fld v 15 0 ≠ 49642) ∧
    (∃ (s : State) (path : Path), awake s ∧ pathOk s path 36 = false) ∧
    (∃ (s : State), awake s ∧ (s.sec.phase = 1 ∨ s.sec.phase = 2) ∧ s.sec.wdKick + superMs s * 1000000 ≤ s.now) :=
  ⟨⟨up, (Path.proc .sec), (0xC1EA#32), (by decide +kernel), (by decide +kernel), (by decide +kernel)⟩,
    ⟨up, (Path.proc .sec), (0#32), (by decide +kernel), (by decide +kernel), (by decide +kernel)⟩,
    ⟨up, Path.none, (by decide +kernel), (by decide +kernel)⟩,
    ⟨{ up with sec.phase := 2 }, (by decide +kernel), (by decide +kernel), (by decide +kernel)⟩⟩

/-- The hypotheses of each clause of Obligations.IslandEvents are met. -/
theorem test_witness_island_events :
    (∃ (s : State) (t : Time), awake s ∧ s.sec.upSince = some t ∧ (gclPort s 0).state = 1 ∧ t + 100000000 ≤ s.now) ∧
    (∃ (s : State) (pin : HeldPin) (t : Time), awake s ∧ (latchOf s pin).since = some t ∧ (latchOf s pin).held = true ∧ (latchOf s pin).reported = false ∧ t + 100000000 ≤ s.now) ∧
    (∃ (s : State) (k : Fin 8), s.und.supply.porAsserted = false ∧ (latchOf s (HeldPin.lease ↑k)).held = true ∧ (latchOf s (HeldPin.lease ↑k)).level ≠ 0 ∧ leaseLive s ↑k = false) ∧
    (∃ (s : State), s.und.supply.porAsserted = false ∧ s.tbs.xtalFail = false) :=
  ⟨⟨{ up with sec.upSince := some 0, gcl.port := [(0, { state := 1 })] }, 0, (by decide +kernel), (by decide +kernel), (by decide +kernel), (by decide +kernel)⟩,
    ⟨{ up with und.latches := [(0, { held := true, since := some 0 })] }, (HeldPin.en 0), 0, (by decide +kernel), (by decide +kernel), (by decide +kernel), (by decide +kernel), (by decide +kernel)⟩,
    ⟨{ up with und.latches := [(HeldPin.num (.lease 7), { held := true, level := 1 })] }, 7, (by decide +kernel), (by decide +kernel), (by decide +kernel), (by decide +kernel)⟩,
    ⟨up, (by decide +kernel), (by decide +kernel)⟩⟩

/-- The hypotheses of each clause of Obligations.PaceSteps are met. -/
theorem test_witness_pace_steps :
    (∃ (s : State) (r : Fin 24) (t : Time), awake s ∧ tfind s.pace.short ↑r = some t ∧ t + 8000 ≤ s.now ∧ s.pace.vdd < 850 ∧ (∀ (u : Time), s.pace.lastUp = some u → u + 100000 ≤ s.now)) ∧
    (∃ (s : State) (t : Time), awake s ∧ s.pace.easySince = some t ∧ t + 100000000 ≤ s.now ∧ (∀ (u : Time), s.pace.lastDown = some u → u + 100000000 ≤ s.now) ∧ restMv s < s.pace.vdd) ∧
    (∃ (s : State), awake s ∧ s.pace.easySince = none) ∧
    (∃ (s : State) (r : Fin 24) (t : Time), awake s ∧ s.pace.at850 = some t ∧ t + 1000000 ≤ s.now ∧ (tfind s.pace.short ↑r).isSome = true ∧ List.contains s.pace.overrun ↑r = false) :=
  ⟨⟨{ up with pace.short := [(0, 0)] }, 0, 0, (by decide +kernel), (by decide +kernel), (by decide +kernel), (by decide +kernel), (fun u h => by simp [up, State.reset] at h)⟩,
    ⟨{ up with pace.vdd := 760, pace.easySince := some 0 }, 0, (by decide +kernel), (by decide +kernel), (by decide +kernel), (fun u h => by simp [up, State.reset] at h), (by decide +kernel)⟩,
    ⟨up, (by decide +kernel), (by decide +kernel)⟩,
    ⟨{ up with pace.short := [(23, 0)], pace.at850 := some 0 }, 23, 0, (by decide +kernel), (by decide +kernel), (by decide +kernel), (by decide +kernel), (by decide +kernel)⟩⟩

/-- The hypotheses of each clause of Obligations.TickFires are met. -/
theorem test_witness_tick_fires :
    (∃ (c : Instr) (s : State) (t : State), exec c s = Host.Outcome.next t ∧ (∀ (e : TickEnv), c ≠ Instr.tick e) ∧ c ≠ Instr.powerOnReset ∧ c ≠ Instr.standbySupplyLoss ∧ c ≠ Instr.mainPgFall) ∧
    (∃ (s : State), s.tbs.step = none) ∧
    (∃ (s : State), coreRuns (addResidency s.pmd.state (nextCount s - s.now) (supplyRetry (advanceTime s))) = true ∧ s.pmd.state ≠ 3 ∧ s.tbs.step = none) ∧
    (∃ (s : State), s.sec.phase = 0 ∧ s.pmd.state ≠ 3 ∧ s.tbs.step = none) :=
  ⟨⟨Instr.locateButton, up, _, rfl, (fun _ h => nomatch h), (by decide +kernel), (by decide +kernel), (by decide +kernel)⟩,
    ⟨up, (by decide +kernel)⟩,
    ⟨{ up with sec.phase := 1 }, (by decide +kernel), (by decide +kernel), (by decide +kernel)⟩,
    ⟨up, (by decide +kernel), (by decide +kernel), (by decide +kernel)⟩⟩

/-- The hypotheses of each clause of Obligations.RegisterAccess are met. -/
theorem test_witness_register_access :
    (∃ (s : State) (o : BitVec 24), awake s ∧ o.toNat % 4 = 0 ∧ mapped o.toNat = true ∧ (accOf o.toNat = Acc.ro ∨ accOf o.toNat = Acc.rc)) ∧
    (∃ (s : State) (path : Path) (o : BitVec 24) (c : Bool), awake s ∧ o.toNat % 4 = 0 ∧ mapped o.toNat = true ∧ accOf o.toNat = Acc.stg c ∧ ¬(4 ≤ o.toNat / 65536 ∧ o.toNat / 65536 ≤ 7) ∧ pathOk s path o.toNat = true) ∧
    (∃ (s : State) (path : Path) (o : BitVec 24), awake s ∧ o.toNat % 4 = 0 ∧ mapped o.toNat = true ∧ accOf o.toNat = Acc.rw ∧ pathOk s path o.toNat = true) ∧
    (∃ (s : State) (path : Path) (o : BitVec 24), awake s ∧ o.toNat % 4 = 0 ∧ mapped o.toNat = true ∧ accOf o.toNat = Acc.w1c ∧ pathOk s path o.toNat = true) ∧
    (∃ (s : State) (path : Path) (o : BitVec 24) (c : Bool), awake s ∧ o.toNat % 4 = 0 ∧ mapped o.toNat = true ∧ accOf o.toNat = Acc.cmd c ∧ pathOk s path o.toNat = true) ∧
    (∃ (s : State) (path : Path) (o : BitVec 24), awake s ∧ o.toNat % 4 = 0 ∧ mapped o.toNat = true ∧ ((accOf o.toNat = Acc.rw ∨ accOf o.toNat = Acc.w1c ∨ ∃ c, accOf o.toNat = Acc.cmd c)) ∧ pathOk s path o.toNat = false ∧ windowOf o.toNat = none) ∧
    (∃ (s : State) (o : BitVec 24), awake s ∧ mapped o.toNat = true) ∧
    (∃ (s : State) (o : BitVec 24), awake s ∧ mapped o.toNat = false ∧ pagingWindow o.toNat = false) :=
  ⟨⟨up, (0#24), (by decide +kernel), (by decide +kernel), (by decide +kernel), (by decide +kernel)⟩,
    ⟨up, (Path.proc .pwr), (0x080040#24), false, (by decide +kernel), (by decide +kernel), (by decide +kernel), (by decide +kernel), (by decide +kernel), (by decide +kernel)⟩,
    ⟨up, (Path.proc .sec), (0x1B0010#24), (by decide +kernel), (by decide +kernel), (by decide +kernel), (by decide +kernel), (by decide +kernel)⟩,
    ⟨up, (Path.proc .sec), (0x080208#24), (by decide +kernel), (by decide +kernel), (by decide +kernel), (by decide +kernel), (by decide +kernel)⟩,
    ⟨up, (Path.proc .sec), (0x080010#24), false, (by decide +kernel), (by decide +kernel), (by decide +kernel), (by decide +kernel), (by decide +kernel)⟩,
    ⟨up, Path.none, (0x080010#24), (by decide +kernel), (by decide +kernel), (by decide +kernel), (by decide +kernel), (by decide +kernel), (by decide +kernel)⟩,
    ⟨up, (0#24), (by decide +kernel), (by decide +kernel)⟩,
    ⟨up, (0xFFFFFC#24), (by decide +kernel), (by decide +kernel), (by decide +kernel)⟩⟩

/-- The hypotheses of each clause of Obligations.CommandPairs are met. -/
theorem test_witness_command_pairs :
    (∃ (s : State) (base : Nat) (v : Word) (h : HalfPair), tfind s.regs.half base = some h ∧ keptBits (base + 4) true v = ~~~h.value) ∧
    (∃ (s : State) (base : Nat) (v : Word) (h : HalfPair), tfind s.regs.half base = some h ∧ keptBits (base + 4) true v ≠ ~~~h.value) ∧
    (∃ (s : State) (o : BitVec 24) (h : HalfPair), awake s ∧ tfind s.regs.half (pairBase o.toNat) = some h ∧ h.since + 1000000 ≤ s.now) :=
  ⟨⟨{ up with regs.half := [(0x080010, ⟨5, 5, 0⟩)] }, 0x080010, (0xFFFFFFFA#32), ⟨5, 5, 0⟩, (by decide +kernel), (by decide +kernel)⟩,
    ⟨{ up with regs.half := [(0x080010, ⟨5, 5, 0⟩)] }, 0x080010, (0xFFFFFFFB#32), ⟨5, 5, 0⟩, (by decide +kernel), (by decide +kernel)⟩,
    ⟨{ up with regs.half := [(pairBase 0, ⟨5, 5, 0⟩)] }, (0#24), ⟨5, 5, 0⟩, (by decide +kernel), (by decide +kernel), (by decide +kernel)⟩⟩

/-- The hypotheses of each clause of Obligations.BlockCommits are met. -/
theorem test_witness_block_commits :
    (∃ (s : State) (path : Path) (r : BitVec 24), awake s ∧ isCommitReg r.toNat = true ∧ pathOk s path r.toNat = true ∧ (commitSt s r.toNat).pending = none ∧ applyTouches s r.toNat = false ∧ r.toNat / 65536 ≠ 15 ∧ validateSet s [] (stagedWords s r.toNat) r.toNat = none) ∧
    (∃ (s : State) (path : Path) (r : BitVec 24) (f : Nat × Nat), awake s ∧ isCommitReg r.toNat = true ∧ pathOk s path r.toNat = true ∧ (commitSt s r.toNat).pending = none ∧ applyTouches s r.toNat = false ∧ validateSet s [] (stagedWords s r.toNat) r.toNat = some f) ∧
    (∃ (s : State) (path : Path) (r : BitVec 24), awake s ∧ isCommitReg r.toNat = true ∧ pathOk s path r.toNat = true ∧ (commitSt s r.toNat).pending.isSome = true) ∧
    (∃ (s : State) (path : Path) (r : BitVec 24), awake s ∧ isCommitReg r.toNat = true ∧ pathOk s path r.toNat = true) ∧
    (∃ (s : State) (r : BitVec 24) (j : CommitJob), awake s ∧ (commitSt s r.toNat).pending = some j ∧ commitDue s r.toNat j = true) :=
  ⟨⟨up, (Path.proc .pwr), (0x1A0010#24), (by decide +kernel), (by decide +kernel), (by decide +kernel), (by decide +kernel), (by decide +kernel), (by decide +kernel), (by decide +kernel)⟩,
    ⟨{ up with regs.words := [(0x1A0008, 1), (0x1A000C, 0)] }, (Path.proc .pwr), (0x1A0010#24), (0, 1), (by decide +kernel), (by decide +kernel), (by decide +kernel), (by decide +kernel), (by decide +kernel), (by decide +kernel)⟩,
    ⟨{ up with regs.commits := [(0x1A0010, { pending := some ⟨0, []⟩ })] }, (Path.proc .pwr), (0x1A0010#24), (by decide +kernel), (by decide +kernel), (by decide +kernel), (by decide +kernel)⟩,
    ⟨up, (Path.proc .pwr), (0x1A0010#24), (by decide +kernel), (by decide +kernel), (by decide +kernel)⟩,
    ⟨{ up with regs.commits := [(0x1A0010, { pending := some ⟨0, []⟩ })] }, (0x1A0010#24), ⟨0, []⟩, (by decide +kernel), (by decide +kernel), (by decide +kernel)⟩⟩

/-- The hypotheses of each clause of Obligations.TestAccessPort are met. -/
theorem test_witness_test_access_port :
    (∃ (s : State), awake s) ∧
    (∃ (s : State), awake s ∧ tapAllowed s = true) ∧
    (∃ (s : State) (i : Instr), awake s ∧ tapAllowed s = false ∧ (i = Instr.tapExtest ∨ i = Instr.tapClamp ∨ i = Instr.tapHighz)) ∧
    (∃ (s : State), awake s) ∧
    (∃ (s : State), awake s ∧ s.fuses.deployed = false) ∧
    (∃ (s : State), awake s ∧ s.fuses.deployed = true) ∧
    (∃ (s : State), awake s) :=
  ⟨⟨up, (by decide +kernel)⟩,
    ⟨up, (by decide +kernel), (by decide +kernel)⟩,
    ⟨{ up with fuses.deployed := true, seq.trayState := 3 }, Instr.tapHighz, (by decide +kernel), (by decide +kernel), (by decide +kernel)⟩,
    ⟨up, (by decide +kernel)⟩,
    ⟨up, (by decide +kernel), (by decide +kernel)⟩,
    ⟨{ up with fuses.deployed := true }, (by decide +kernel), (by decide +kernel)⟩,
    ⟨up, (by decide +kernel)⟩⟩

/-- The hypotheses of each clause of Obligations.ChangeEvaluates are met. -/
theorem test_witness_change_evaluates :
    (∃ (s : State) (n : Fin 512), awake s ∧ List.contains s.gld.due ↑n = true ∧ slotExists s ↑n = true ∧ (slotRec s ↑n).trigger = 7 ∧ fabRuns s (↑n / 8) = true ∧ (∀ (t : Time), (slotSt s ↑n).lastEval = some t → t / us ≠ s.now / us)) :=
  ⟨{ up with gld.due := [0], gld.tiles := [tile0], gld.state := .running }, 0, (by decide +kernel), (by decide +kernel), (by decide +kernel), (by decide +kernel), (by decide +kernel), (fun t h => by simp [slotSt, tget, tfind, up, State.reset] at h)⟩

/-- The hypotheses of each clause of Obligations.StructureLoads are met. -/
theorem test_witness_structure_loads :
    (∃ (s : State) (b : Bitstream), awake s ∧ s.cfg.running = some b ∧ (s.gld.state = FabState.noStructure ∨ s.gld.state = FabState.standbyApply)) ∧
    (∃ (s : State) (b : Bitstream), awake s ∧ s.cfg.running = some b ∧ s.gld.state = FabState.running) ∧
    (∃ (s : State), awake s ∧ s.gld.state = FabState.loading) ∧
    (∃ (s : State) (q : Fin 4), awake s ∧ tget FabState.running s.gld.quarter ↑q = FabState.loading) ∧
    (∃ (s : State) (b : Bitstream), awake s ∧ s.cfg.candidate = some b ∧ s.cfg.state = 3 ∧ s.gld.state = FabState.running ∧ trayStandbyOff s = true) :=
  ⟨⟨{ up with cfg.running := some bits0, gld.state := .standbyApply }, bits0, (by decide +kernel), (by decide +kernel), (by decide +kernel)⟩,
    ⟨{ up with cfg.running := some bits0, gld.state := .running }, bits0, (by decide +kernel), (by decide +kernel), (by decide +kernel)⟩,
    ⟨{ up with gld.state := .loading }, (by decide +kernel), (by decide +kernel)⟩,
    ⟨{ up with gld.quarter := [(3, .loading)] }, 3, (by decide +kernel), (by decide +kernel)⟩,
    ⟨{ up with cfg.candidate := some bits0, cfg.state := 3, gld.state := .running, seq.trayState := 1 }, bits0, (by decide +kernel), (by decide +kernel), (by decide +kernel), (by decide +kernel), (by decide +kernel)⟩⟩

/-- The hypotheses of each clause of Obligations.FabricStoreErrors are met. -/
theorem test_witness_fabric_store_errors :
    (∃ (s : State), awake s) ∧
    (∃ (s : State), awake s) ∧
    (∃ (s : State) (t : Fin 64) (p : Fin 128) (n : Nat), awake s ∧ slotOfPair s ↑t ↑p = some n) :=
  ⟨⟨up, (by decide +kernel)⟩,
    ⟨up, (by decide +kernel)⟩,
    ⟨{ up with gld.tiles := [tile0] }, 0, 3, 0, (by decide +kernel), (by decide +kernel)⟩⟩

/-- The hypotheses of each clause of Obligations.TileParameters are met. -/
theorem test_witness_tile_parameters :
    (∃ (s : State) (x : Proc) (t : Fin 64), awake s ∧ x.num = (tileRec s ↑t).owner) ∧
    (∃ (s : State) (path : Path), awake s ∧ (∀ (x : Proc), path ≠ Path.proc x)) ∧
    (∃ (s : State) (path : Path) (t : Fin 64), awake s ∧ mayCommitTile s path ↑t = true ∧ tileCommitRefusal s ↑t = none ∧ validateTile s [(↑t, (tileSt s ↑t).staged)] ↑t = none) ∧
    (∃ (s : State) (path : Path) (t : Fin 64) (r : Nat × Nat), awake s ∧ mayCommitTile s path ↑t = true ∧ tileCommitRefusal s ↑t = none ∧ validateTile s [(↑t, (tileSt s ↑t).staged)] ↑t = some r) ∧
    (∃ (s : State) (path : Path) (t : Fin 64), awake s ∧ mayCommitTile s path ↑t = true) ∧
    (∃ (s : State) (t : Fin 64) (t0 : Time) (l : Tab Pair), awake s ∧ (tileSt s ↑t).pending = some (t0, l) ∧ t0 / us < s.now / us ∧ s.gld.groupPend = none) :=
  ⟨⟨{ up with gld.tiles := [tile0] }, Proc.sec, 0, (by decide +kernel), (by decide +kernel)⟩,
    ⟨up, Path.up, (by decide +kernel), nofun⟩,
    ⟨{ up with gld.tiles := [tile0], gld.state := .running }, (Path.proc .sec), 1, (by decide +kernel), (by decide +kernel), (by decide +kernel), (by decide +kernel)⟩,
    ⟨{ up with gld.tiles := [tile0], gld.state := .running, gld.tile := [(1, { staged := [(0, ⟨1, 1⟩)] })] }, (Path.proc .sec), 1, (0, 1), (by decide +kernel), (by decide +kernel), (by decide +kernel), (by decide +kernel)⟩,
    ⟨{ up with gld.tiles := [tile0] }, (Path.proc .sec), 0, (by decide +kernel), (by decide +kernel)⟩,
    ⟨{ up with gld.tile := [(0, { pending := some (0, []) })] }, 0, 0, [], (by decide +kernel), (by decide +kernel), (by decide +kernel), (by decide +kernel)⟩⟩

/-- The hypotheses of each clause of Obligations.GroupCommits are met. -/
theorem test_witness_group_commits :
    (∃ (s : State), awake s ∧ s.gld.groupPend = none ∧ ((groupTiles s).all fun t => (tileCommitRefusal s t).isNone && (validateTile s (List.map (fun t => (t, (tileSt s t).staged)) (groupTiles s)) t).isNone) = true) ∧
    (∃ (s : State), awake s ∧ s.gld.groupPend.isSome = true) ∧
    (∃ (s : State) (t0 : Time) (ts : List Nat), awake s ∧ s.gld.groupPend = some (t0, ts) ∧ t0 / us < s.now / us) ∧
    (∃ (s : State) (j : ApplyJob), awake s ∧ s.cfg.apply = some j ∧ j.validated = true ∧ j.requested / ms < s.now / ms) ∧
    (∃ (s : State) (j : ApplyJob), awake s ∧ s.cfg.apply = some j ∧ j.interrupted = true ∧ j.awaiting = none ∧ procRunning s Proc.sec = true) :=
  ⟨⟨up, (by decide +kernel), (by decide +kernel), (by decide +kernel)⟩,
    ⟨{ up with gld.groupPend := some (0, []) }, (by decide +kernel), (by decide +kernel)⟩,
    ⟨{ up with gld.groupPend := some (0, []) }, 0, [], (by decide +kernel), (by decide +kernel), (by decide +kernel)⟩,
    ⟨{ up with cfg.apply := some { cand := bits0, parts := [], requested := 0, validated := true } }, { cand := bits0, parts := [], requested := 0, validated := true }, (by decide +kernel), (by decide +kernel), (by decide +kernel), (by decide +kernel)⟩,
    ⟨{ up with cfg.apply := some { cand := bits0, parts := [], requested := 0, interrupted := true }, procs := [(0, { state := .ready })] }, { cand := bits0, parts := [], requested := 0, interrupted := true }, (by decide +kernel), (by decide +kernel), (by decide +kernel), (by decide +kernel), (by decide +kernel)⟩⟩

/-- The hypotheses of each clause of Obligations.SeqCommandsRun are met. -/
theorem test_witness_seq_commands_run :
    (∃ (s : State) (path : Path) (tag : Byte) (mask : Byte), awake s ∧ seqRuns path (seqWord 1 (BitVec.toNat tag) (BitVec.toNat mask) false) s) ∧
    (∃ (s : State) (path : Path) (tag : Byte) (mask : Byte), awake s ∧ seqRuns path (seqWord 2 (BitVec.toNat tag) (BitVec.toNat mask) false) s) ∧
    (∃ (s : State) (path : Path) (tag : Byte) (mask : Byte), awake s ∧ seqRuns path (seqWord 3 (BitVec.toNat tag) (BitVec.toNat mask) false) s) ∧
    (∃ (s : State) (path : Path) (tag : Byte), awake s ∧ seqRuns path (seqWord 4 (BitVec.toNat tag) 0 false) s) ∧
    (∃ (s : State) (path : Path) (tag : Byte) (mask : Byte), awake s ∧ seqRuns path (seqWord 5 (BitVec.toNat tag) (BitVec.toNat mask) false) s) ∧
    (∃ (s : State) (path : Path) (tag : Byte) (mask : Byte), awake s ∧ seqRuns path (seqWord 5 (BitVec.toNat tag) (BitVec.toNat mask) true) s) ∧
    (∃ (s : State) (path : Path) (tag : Byte), awake s ∧ (path = Path.proc Proc.pwr ∨ path = Path.proc Proc.sec) ∧ BitVec.toNat tag ≠ lastTag s 524304) :=
  ⟨⟨{ up with seq.trayState := 3, seq.slotState := [(0, 1)], seq.rails := [(0, { slot := 0, method := 1 })] }, (Path.proc .sec), (1#8), (1#8), (by decide +kernel), (by decide +kernel)⟩,
    ⟨{ up with seq.trayState := 3, seq.slotState := [(0, 4)], seq.rails := [(0, { slot := 0, method := 1 })] }, (Path.proc .sec), (1#8), (1#8), (by decide +kernel), (by decide +kernel)⟩,
    ⟨{ up with seq.trayState := 1, seq.slotState := [(0, 1)], seq.rails := [(0, { slot := 0, method := 1 })] }, (Path.proc .sec), (1#8), (1#8), (by decide +kernel), (by decide +kernel)⟩,
    ⟨{ up with seq.trayState := 3 }, (Path.proc .sec), (1#8), (by decide +kernel), (by decide +kernel)⟩,
    ⟨{ up with seq.trayState := 3, seq.slotState := [(0, 6)], seq.rails := [(0, { slot := 0, method := 1 })] }, (Path.proc .sec), (1#8), (1#8), (by decide +kernel), (by decide +kernel)⟩,
    ⟨{ up with seq.trayState := 5, seq.slotState := [(0, 6)], seq.rails := [(0, { slot := 0, method := 1 })] }, (Path.proc .sec), (1#8), (1#8), (by decide +kernel), (by decide +kernel)⟩,
    ⟨up, (Path.proc .sec), (1#8), (by decide +kernel), (by decide +kernel), (by decide +kernel)⟩⟩

/-- The hypotheses of each clause of Obligations.SeqCommandsRefused are met. -/
theorem test_witness_seq_commands_refused :
    (∃ (s : State) (path : Path) (tag : Byte) (mask : Byte), awake s ∧ (path = Path.proc Proc.pwr ∨ path = Path.proc Proc.sec) ∧ BitVec.toNat tag ≠ lastTag s 524304 ∧ s.seq.held = none ∧ (judgeSeq (seqWord 1 (BitVec.toNat tag) (BitVec.toNat mask) false) s).fst ≠ 0) ∧
    (∃ (s : State) (path : Path), awake s ∧ (∀ (p : Proc), path = Path.proc p → p ≠ Proc.pwr ∧ p ≠ Proc.sec)) ∧
    (∃ (s : State) (w : Word), awake s ∧ s.seq.held = some w ∧ seqHolds w s = true) ∧
    (∃ (s : State) (w : Word), awake s ∧ s.seq.held = some w ∧ seqHolds w s = false ∧ judgeSeq w s = (0, 0)) :=
  ⟨⟨up, (Path.proc .pwr), (1#8), (1#8), (by decide +kernel), (by decide +kernel), (by decide +kernel), (by decide +kernel), (by decide +kernel)⟩,
    ⟨up, Path.none, (by decide +kernel), nofun⟩,
    ⟨{ up with seq.held := some 0, seq.adopting := true }, (0#32), (by decide +kernel), (by decide +kernel), (by decide +kernel)⟩,
    ⟨{ up with seq.held := some 0x01000004, seq.trayState := 3 }, (0x01000004#32), (by decide +kernel), (by decide +kernel), (by decide +kernel), (by decide +kernel)⟩⟩

/-- The hypotheses of each clause of Obligations.GraphSteps are met. -/
theorem test_witness_graph_steps :
    (∃ (s : State) (g : Fin 18) (i : Fin 64), awake s ∧ stepTick s = true ∧ (stepRun s ↑g ↑i).state = StepState.delay ∧ (stepRun s ↑g ↑i).delayAt + (stepRun s ↑g ↑i).delayUs * us ≤ s.now ∧ ((stepRec s ↑g ↑i).action = 0 ∨ railHanded s (stepRec s ↑g ↑i).rail = true)) ∧
    (∃ (s : State), awake s ∧ stepTick s = false) ∧
    (∃ (s : State) (g : Fin 18) (i : Fin 64), awake s ∧ stepTick s = true ∧ queueHead (releaseCharges s) = some (↑g, ↑i) ∧ budgetA (releaseCharges s) + railInrush (releaseCharges s) (stepRec (releaseCharges s) ↑g ↑i).rail ≤ shelfA (releaseCharges s) ∧ budgetSlew (releaseCharges s) + railSlew (releaseCharges s) (stepRec (releaseCharges s) ↑g ↑i).rail ≤ shelfSlew (releaseCharges s)) ∧
    (∃ (s : State) (g : Fin 18) (i : Fin 64), awake s ∧ stepTick s = true ∧ stepQualifies s ↑g ↑i = true) ∧
    (∃ (s : State) (g : Fin 18) (i : Fin 64), awake s ∧ stepTick s = true ∧ (stepRun s ↑g ↑i).state = StepState.active ∧ (stepRun s ↑g ↑i).fail = 0 ∧ (stepRun s ↑g ↑i).cmdAt + (stepRun s ↑g ↑i).timeoutUs * us ≤ s.now ∧ stepQualifies s ↑g ↑i = false) ∧
    (∃ (s : State) (g : Fin 18) (i : Fin 64), awake s ∧ (stepRun s ↑g ↑i).state = StepState.queued ∧ (stepRun s ↑g ↑i).queuedAt + sec < s.now ∧ (stepRun s ↑g ↑i).longSaid = false) :=
  ⟨⟨{ up with tbs.tick10 := 1000000000000000, gld.state := .running, seq.graph := [(17, { state := .running, steps := [(63, { state := .delay })] })] }, 17, 63, (by decide +kernel), (by decide +kernel), (by decide +kernel), (by decide +kernel), (by decide +kernel)⟩,
    ⟨up, (by decide +kernel), (by decide +kernel)⟩,
    ⟨{ up with tbs.tick10 := 1000000000000000, gld.state := .running, seq.graph := [(0, { state := .running, steps := [(0, { state := .queued })] })], seq.graphs := [(0, [⟨1, 0, [], 0⟩])] }, 0, 0, (by decide +kernel), (by decide +kernel), (by decide +kernel), (by decide +kernel), (by decide +kernel)⟩,
    ⟨{ up with tbs.tick10 := 1000000000000000, gld.state := .running, seq.graph := [(0, { state := .running, steps := [(0, { state := .active })] })], seq.graphs := [(0, [⟨1, 0, [], 0⟩])], seq.rail := [(0, { pg := true })], seq.rails := [(0, { method := 1, pg := 0 })] }, 0, 0, (by decide +kernel), (by decide +kernel), (by decide +kernel)⟩,
    ⟨{ up with tbs.tick10 := 1000000000000000, gld.state := .running, seq.graph := [(0, { state := .running, steps := [(0, { state := .active })] })], seq.graphs := [(0, [⟨1, 0, [], 0⟩])] }, 0, 0, (by decide +kernel), (by decide +kernel), (by decide +kernel), (by decide +kernel), (by decide +kernel), (by decide +kernel)⟩,
    ⟨{ up with seq.graph := [(0, { state := .running, steps := [(0, { state := .queued })] })] }, 0, 0, (by decide +kernel), (by decide +kernel), (by decide +kernel), (by decide +kernel)⟩⟩

/-- The hypotheses of each clause of Obligations.RailSupervision are met. -/
theorem test_witness_rail_supervision :
    (∃ (s : State), awake s) ∧
    (∃ (s : State) (r : Fin 256) (t : Time), awake s ∧ (railSt s ↑r).vsOut = some t ∧ (railSt s ↑r).state = RailState.on ∧ (railSt s ↑r).supervised = true ∧ t + railQualUs s ↑r * us < s.now) ∧
    (∃ (s : State) (k : Nat) (h : HoldS), awake s ∧ s.seq.adopting = false ∧ k < 8 ∧ s.seq.holds = [(k, h)] ∧ h.start + h.holdUs * us ≤ s.now ∧ (slotState s k = 3 ∨ slotState s k = 4)) ∧
    (∃ (s : State) (h : HoldS), awake s ∧ s.seq.adopting = false ∧ s.seq.holds = [(8, h)] ∧ h.start + h.holdUs * us ≤ s.now ∧ (s.seq.trayState = 2 ∨ s.seq.trayState = 3)) ∧
    (∃ (s : State) (path : Path), awake s ∧ pathOk s path 524808 = true) :=
  ⟨⟨up, (by decide +kernel)⟩,
    ⟨{ up with seq.rail := [(255, { state := .on, supervised := true, vsOut := some 0 })] }, 255, 0, (by decide +kernel), (by decide +kernel), (by decide +kernel), (by decide +kernel), (by decide +kernel)⟩,
    ⟨{ up with seq.holds := [(7, ⟨0, 0, false⟩)], seq.slotState := [(7, 4)] }, 7, ⟨0, 0, false⟩, (by decide +kernel), (by decide +kernel), (by decide +kernel), (by decide +kernel), (by decide +kernel), (by decide +kernel)⟩,
    ⟨{ up with seq.holds := [(8, ⟨0, 0, false⟩)], seq.trayState := 3 }, ⟨0, 0, false⟩, (by decide +kernel), (by decide +kernel), (by decide +kernel), (by decide +kernel), (by decide +kernel)⟩,
    ⟨up, Path.none, (by decide +kernel), (by decide +kernel)⟩⟩

/-- The hypotheses of each clause of Obligations.Adoption are met. -/
theorem test_witness_adoption :
    (∃ (s : State) (u : State), awake s ∧ s.seq.mustAdopt = true ∧ s.seq.loaded = true ∧ s.seq.adopting = false ∧ u = forEach (List.range 8) (fun k s => if slotHasRails s k = true then setSlotState k 7 s else s) { s with seq := { s.seq with trayState := 6, adopting := true } }) ∧
    (∃ (s : State) (r : Fin 256), awake s ∧ s.seq.adopting = true ∧ ((railRec s ↑r).method = 2 ∨ (railRec s ↑r).method = 3) ∧ (railRec s ↑r).pg = 65535 ∧ (railSt s ↑r).cls = 0) :=
  ⟨⟨{ up with seq.mustAdopt := true, seq.loaded := true }, _, (by decide +kernel), (by decide +kernel), (by decide +kernel), (by decide +kernel), rfl⟩,
    ⟨{ up with seq.adopting := true, seq.rails := [(255, { method := 2, pg := 0xFFFF })] }, 255, (by decide +kernel), (by decide +kernel), (by decide +kernel), (by decide +kernel), (by decide +kernel)⟩⟩

/-- The hypotheses of each clause of Obligations.TrayInput are met. -/
theorem test_witness_tray_input :
    (∃ (s : State) (v : Word) (i : Word) (w : Word) (j : Word), awake s ∧ w = trayConverted s 162 v ∧ j = trayConverted s 163 i ∧ s.afe.samples < 9 ∧ BitVec.toInt j ≤ 26214400 ∧ samplesTrip w j (afeSample w j s) = []) ∧
    (∃ (s : State) (v : Word) (i : Word) (w : Word) (j : Word), awake s ∧ w = trayConverted s 162 v ∧ j = trayConverted s 163 i ∧ s.afe.samples = 9 ∧ BitVec.toInt j ≤ 26214400 ∧ samplesTrip w j (afeSample w j s) = []) ∧
    (∃ (s : State) (i : Word) (ok : Bool), awake s ∧ (26214400 < BitVec.toInt (trayConverted s 163 i) ∨ ok = false)) ∧
    (∃ (s : State) (v : Word) (i : Word) (c : Nat), awake s ∧ c < 4 ∧ compEnabled s c = true ∧ compTrips s c (BitVec.toInt (trayConverted s 162 v)) (satAmps (trayConverted s 163 i)) = true) ∧
    (∃ (s : State) (v : Word) (i : Word) (w : Word) (j : Word), s.und.supply.porAsserted = false ∧ s.pmd.state = 3 ∧ w = trayConverted s 162 v ∧ j = trayConverted s 163 i) ∧
    (∃ (s : State) (c : Fin 128) (raw : Word) (r : SenseRec) (w : Word), awake s ∧ senseRec s ↑c = some r ∧ w = convertSense s (↑c) r.kind raw) ∧
    (∃ (s : State) (c : Comparator), awake s ∧ compEnabled s (compNum c) = true ∧ s.afe.tripLevel < compLevel c ∧ compLevel c < 3 ∧ s.afe.tripLevel ≠ 0) ∧
    (∃ (s : State), awake s ∧ compEnabled s 2 = true ∧ s.afe.tripLevel < 3 ∧ s.afe.tripLevel ≠ 0) ∧
    (∃ (s : State) (c : Comparator), awake s ∧ compEnabled s (compNum c) = true ∧ s.afe.tripLevel = 0) ∧
    (∃ (s : State) (c : Comparator), awake s ∧ c ≠ Comparator.uv ∧ compEnabled s (compNum c) = true ∧ compLevel c ≤ s.afe.tripLevel ∧ s.afe.tripLevel ≠ 0) ∧
    (∃ (s : State) (t : Time), awake s ∧ s.afe.tripLevel = 1 ∧ compEnabled s 0 = true ∧ tfind s.afe.below 0 = some t ∧ t + tripHoldUs s * us ≤ s.now ∧ s.afe.fellAt + tripHoldUs s * us ≤ s.now) :=
  ⟨⟨up, (0#32), (0#32), (0#32), (0#32), (by decide +kernel), (by decide +kernel), (by decide +kernel), (by decide +kernel), (by decide +kernel), (by decide +kernel)⟩,
    ⟨{ up with afe.samples := 9 }, (0#32), (0#32), (0#32), (0#32), (by decide +kernel), (by decide +kernel), (by decide +kernel), (by decide +kernel), (by decide +kernel), (by decide +kernel)⟩,
    ⟨up, (26214401#32), true, (by decide +kernel), (by decide +kernel)⟩,
    ⟨{ up with regs.live := [(0x0AA8F0, 1)] }, (0#32), (26214400#32), 0, (by decide +kernel), (by decide +kernel), (by decide +kernel), (by decide +kernel)⟩,
    ⟨{ up with pmd.state := 3 }, (0#32), (0#32), (0#32), (0#32), (by decide +kernel), (by decide +kernel), (by decide +kernel), (by decide +kernel)⟩,
    ⟨{ up with und.senseRecs := [⟨127, 1, 0, 0, 0⟩] }, 127, (0#32), ⟨127, 1, 0, 0, 0⟩, (0#32), (by decide +kernel), (by decide +kernel), (by decide +kernel)⟩,
    ⟨{ up with regs.live := [(0x0AA8F0, 1)], afe.tripLevel := 1 }, Comparator.i2, (by decide +kernel), (by decide +kernel), (by decide +kernel), (by decide +kernel), (by decide +kernel)⟩,
    ⟨{ up with regs.live := [(0x0AA8F0, 1)], afe.tripLevel := 2 }, (by decide +kernel), (by decide +kernel), (by decide +kernel), (by decide +kernel)⟩,
    ⟨{ up with regs.live := [(0x0AA8F0, 1)] }, Comparator.i1, (by decide +kernel), (by decide +kernel), (by decide +kernel)⟩,
    ⟨{ up with regs.live := [(0x0AA8F0, 1)], afe.tripLevel := 3 }, Comparator.i3, (by decide +kernel), (by decide +kernel), (by decide +kernel), (by decide +kernel), (by decide +kernel)⟩,
    ⟨{ up with regs.live := [(0x0AA8F0, 1)], afe.tripLevel := 1, afe.below := [(0, 0)] }, 0, (by decide +kernel), (by decide +kernel), (by decide +kernel), (by decide +kernel), (by decide +kernel), (by decide +kernel)⟩⟩

/-- The hypotheses of each clause of Obligations.SlotTelemetryAndValleyFill are met. -/
theorem test_witness_slot_telemetry_and_valley_fill :
    (∃ (s : State) (k : Fin 8) (q : BitVec 16) (e : Nat × Nat), awake s ∧ List.find? (fun e => e.fst == q.toNat) (shpSlot s ↑k).sent = some e) ∧
    (∃ (s : State) (k : Fin 8), awake s ∧ viaGcl s ↑k = true) ∧
    (∃ (s : State) (k : Fin 8), awake s ∧ telStale s ↑k = true ∧ (shpSlot s ↑k).staleSaid = false ∧ slotState s ↑k = 4) ∧
    (∃ (s : State) (k : Fin 8), awake s ∧ vfEnabled s ↑k = true ∧ vfPin s ↑k = false ∧ viaGcl s ↑k = true ∧ slotState s ↑k = 4 ∧ (shpSlot s ↑k).vf = VfState.idle) ∧
    (∃ (s : State) (k : Fin 8), awake s ∧ (shpSlot s ↑k).vf = VfState.hinted ∧ (shpSlot s ↑k).hint.arrived + ((shpSlot s ↑k).hint.tailIn + 200) * us ≤ s.now) ∧
    (∃ (s : State) (k : Fin 8), awake s ∧ (shpSlot s ↑k).vf = VfState.hinted ∧ (shpSlot s ↑k).hint.arrived + (shpSlot s ↑k).hint.tailIn * us ≤ s.now) ∧
    (∃ (s : State) (k : Fin 8), awake s ∧ (shpSlot s ↑k).vf = VfState.tail ∧ vfPin s ↑k = false ∧ (shpSlot s ↑k).vfAt + (shpSlot s ↑k).hint.tailLen * us ≤ s.now) ∧
    (∃ (s : State) (k : Fin 8), awake s ∧ (shpSlot s ↑k).vf = VfState.wait ∧ (shpSlot s ↑k).headReq = none ∧ (shpSlot s ↑k).vfAt + vfTimeoutUs s * us ≤ s.now) ∧
    (∃ (s : State) (k : Fin 8), awake s ∧ vfPin s ↑k = true ∧ vfEnabled s ↑k = true ∧ slotState s ↑k = 4) ∧
    (∃ (s : State) (k : Fin 8) (rate : Int), awake s ∧ vfPin s ↑k = true ∧ vfEnabled s ↑k = true ∧ slotState s ↑k = 4 ∧ rate = qdiv (wq (fld (pinHint s ↑k) 15 0)) ↑(max (fld (pinHint s ↑k) 31 16) 1)) :=
  ⟨⟨{ up with shp.slot := [(7, { sent := [(65535, 2)] })] }, 7, (65535#16), (65535, 2), (by decide +kernel), (by decide +kernel)⟩,
    ⟨{ up with gcl.port := [(1, { state := 5 })] }, 0, (by decide +kernel), (by decide +kernel)⟩,
    ⟨{ up with seq.slotState := [(7, 4)] }, 7, (by decide +kernel), (by decide +kernel), (by decide +kernel), (by decide +kernel)⟩,
    ⟨{ up with seq.slotState := [(7, 4)], gcl.port := [(8, { state := 5 })], regs.live := [(0x090098, 0x00FF)] }, 7, (by decide +kernel), (by decide +kernel), (by decide +kernel), (by decide +kernel), (by decide +kernel), (by decide +kernel)⟩,
    ⟨{ up with shp.slot := [(7, { vf := .hinted })] }, 7, (by decide +kernel), (by decide +kernel), (by decide +kernel)⟩,
    ⟨{ up with shp.slot := [(7, { vf := .hinted })] }, 7, (by decide +kernel), (by decide +kernel), (by decide +kernel)⟩,
    ⟨{ up with shp.slot := [(7, { vf := .tail })] }, 7, (by decide +kernel), (by decide +kernel), (by decide +kernel), (by decide +kernel)⟩,
    ⟨{ up with shp.slot := [(7, { vf := .wait })] }, 7, (by decide +kernel), (by decide +kernel), (by decide +kernel), (by decide +kernel)⟩,
    ⟨{ up with seq.slotState := [(7, 4)], regs.live := [(0x090098, 0xFFFF)] }, 7, (by decide +kernel), (by decide +kernel), (by decide +kernel), (by decide +kernel)⟩,
    ⟨{ up with seq.slotState := [(7, 4)], regs.live := [(0x090098, 0xFFFF)] }, 7, _, (by decide +kernel), (by decide +kernel), (by decide +kernel), (by decide +kernel), rfl⟩⟩

/-- The hypotheses of each clause of Obligations.Schedules are met. -/
theorem test_witness_schedules :
    (∃ (s : State) (path : Path) (tag : Byte), awake s ∧ pathOk s path 590128 = true ∧ BitVec.toNat tag ≠ lastTag s 590128 ∧ s.shp.checking = none) ∧
    (∃ (s : State) (path : Path) (tag : Byte), awake s ∧ pathOk s path 590128 = true ∧ BitVec.toNat tag ≠ lastTag s 590128) ∧
    (∃ (s : State) (d : Delivered), awake s ∧ s.shp.checking = some d ∧ (BitVec.toNat (regWord s 590120) < 1 ∨ 1440 < BitVec.toNat (regWord s 590120))) ∧
    (∃ (s : State) (d : Delivered), awake s ∧ s.shp.checking = some d ∧ 1 ≤ BitVec.toNat (regWord s 590120) ∧ BitVec.toNat (regWord s 590120) ≤ 1440 ∧ crc32c (bankBytes s.shp.bankWords (BitVec.toNat (regWord s 590120))) ≠ regWord s 590124) ∧
    (∃ (s : State) (d : Delivered) (z : State), awake s ∧ s.shp.checking = some d ∧ 1 ≤ BitVec.toNat (regWord s 590120) ∧ BitVec.toNat (regWord s 590120) ≤ 1440 ∧ crc32c (bankBytes s.shp.bankWords (BitVec.toNat (regWord s 590120))) = regWord s 590124 ∧ badEntry d.entries = none ∧ d.from_ < d.until_ ∧ minuteCount s < d.until_ ∧ s.shp.armed = none ∧ z = { s with shp := { s.shp with resTag := d.tag, checking := none, resEntry := 0 } } ∧ scheduleLate d z = false) ∧
    (∃ (s : State) (d : Delivered), awake s ∧ s.shp.armed = some d ∧ d.from_ ≤ minuteCount s) ∧
    (∃ (s : State) (t : Time), awake s ∧ s.shp.trimSince = some t ∧ t + 100 * ms ≤ s.now ∧ s.shp.trimOn = false) :=
  ⟨⟨up, Path.hw, (1#8), (by decide +kernel), (by decide +kernel), (by decide +kernel), (by decide +kernel)⟩,
    ⟨up, Path.hw, (1#8), (by decide +kernel), (by decide +kernel), (by decide +kernel)⟩,
    ⟨{ up with shp.checking := some del0, regs.words := [(590120, 1441)] }, del0, (by decide +kernel), (by decide +kernel), (by decide +kernel)⟩,
    ⟨{ up with shp.checking := some del0, regs.words := [(590120, 1)] }, del0, (by decide +kernel), (by decide +kernel), (by decide +kernel), (by decide +kernel), (by decide +kernel)⟩,
    ⟨{ up with shp.checking := some { del0 with until_ := 4294967295 }, regs.words := [(0x090128, 1), (0x09012C, crc32c (bankBytes [] 1))] }, { del0 with until_ := 4294967295 }, _, (by decide +kernel), (by decide +kernel), (by decide +kernel), (by decide +kernel), (by decide +kernel), (by decide +kernel), (by decide +kernel), (by decide +kernel), (by decide +kernel), rfl, (by decide +kernel)⟩,
    ⟨{ up with shp.armed := some del0 }, del0, (by decide +kernel), (by decide +kernel), (by decide +kernel)⟩,
    ⟨{ up with shp.trimSince := some 0 }, 0, (by decide +kernel), (by decide +kernel), (by decide +kernel), (by decide +kernel)⟩⟩

/-- The hypotheses of each clause of Obligations.ContractLedger are met. -/
theorem test_witness_contract_ledger :
    (∃ (s : State), awake s ∧ s.shp.lastMinute < minuteCount s ∧ leadsBoard s = false ∧ isLead s = true ∧ s.shp.cur.noCap = false) ∧
    (∃ (s : State) (b : ClosedBlock), awake s ∧ firstUnsigned s.shp.closed = some b ∧ s.sec.identityKey = true) ∧
    (∃ (s : State) (b : ClosedBlock), awake s ∧ firstUnsigned s.shp.closed = some b ∧ b.closed + 60 * sec ≤ s.now ∧ b.late = false) ∧
    (∃ (s : State), awake s) ∧
    (∃ (s : State), awake s ∧ s.dram.ledgerLost = true ∧ (List.range 8).all (List.contains s.mem.trained) = true) ∧
    (∃ (s : State) (c : Checkpoint) (b : ClosedBlock), awake s ∧ nvsNewest s 10 = some (NvsPayload.ledger c) ∧ c.awaiting = some b.block ∧ firstUnsigned s.shp.closed = some b ∧ s.sec.identityKey = true) :=
  ⟨⟨up, (by decide +kernel), (by decide +kernel), (by decide +kernel), (by decide +kernel), (by decide +kernel)⟩,
    ⟨{ up with shp.closed := [block0], sec.identityKey := true }, block0, (by decide +kernel), (by decide +kernel), (by decide +kernel)⟩,
    ⟨{ up with shp.closed := [block0] }, block0, (by decide +kernel), (by decide +kernel), (by decide +kernel), (by decide +kernel)⟩,
    ⟨up, (by decide +kernel)⟩,
    ⟨{ up with dram.ledgerLost := true, mem.trained := [0, 1, 2, 3, 4, 5, 6, 7] }, (by decide +kernel), (by decide +kernel), (by decide +kernel)⟩,
    ⟨{ up with shp.closed := [block0], sec.identityKey := true, mram.bankA := [(10, { valid := true, seq := 1, payload := some (.ledger { awaiting := some {} }) })] }, { awaiting := some {} }, block0, (by decide +kernel), (by decide +kernel), (by decide +kernel), (by decide +kernel), (by decide +kernel)⟩⟩

/-- The hypotheses of each clause of Obligations.ThermalChannels are met. -/
theorem test_witness_thermal_channels :
    (∃ (s : State) (c : Nat) (raw : Word) (w : Word) (r : SenseRec), awake s ∧ senseRec s c = some r ∧ isTempKind r.kind = true ∧ w = convertSense s c r.kind raw ∧ (∀ (i : Nat), 2 ≤ i → i ≤ 5 → senseParOf s c i = 0) ∧ (thermCh s c).implaus = false ∧ BitVec.toInt w < grpPar s r.group 0 - 655360 ∧ (thermCh s c).srate = 0) ∧
    (∃ (s : State) (c : Nat) (raw : Word) (w : Word) (r : SenseRec), awake s ∧ senseRec s c = some r ∧ isTempKind r.kind = true ∧ w = convertSense s c r.kind raw ∧ (thermCh s c).implaus = false) ∧
    (∃ (s : State) (c : Nat) (t : Time), awake s ∧ (thermCh s c).passSince = some t ∧ (thermCh s c).implaus = true ∧ t + 1000000000 ≤ s.now) ∧
    (∃ (s : State) (c : Nat) (t : Time), awake s ∧ (thermCh s c).lowSince = some t ∧ 0 < (thermCh s c).srate ∧ t + 5000000000 ≤ s.now) :=
  ⟨⟨{ up with und.senseRecs := [⟨0, 3, 0, 0, 0⟩], regs.live := [(0x0A2000, 0x00500000)] }, 0, (0#32), (0#32), ⟨0, 3, 0, 0, 0⟩, (by decide +kernel), (by decide +kernel), (by decide +kernel), (by decide +kernel), (fun i h2 h5 => (by decide +kernel : ∀ j ∈ [2, 3, 4, 5], senseParOf { up with und.senseRecs := [⟨0, 3, 0, 0, 0⟩], regs.live := [(0x0A2000, 0x00500000)] } 0 j = 0) i (by simp; omega)), (by decide +kernel), (by decide +kernel), (by decide +kernel)⟩,
    ⟨{ up with und.senseRecs := [⟨0, 3, 0, 0, 0⟩] }, 0, (0#32), (0#32), ⟨0, 3, 0, 0, 0⟩, (by decide +kernel), (by decide +kernel), (by decide +kernel), (by decide +kernel), (by decide +kernel)⟩,
    ⟨{ up with thm.ch := [(5, { passSince := some 0, implaus := true })] }, 5, 0, (by decide +kernel), (by decide +kernel), (by decide +kernel), (by decide +kernel)⟩,
    ⟨{ up with thm.ch := [(5, { lowSince := some 0, srate := 1 })] }, 5, 0, (by decide +kernel), (by decide +kernel), (by decide +kernel), (by decide +kernel)⟩⟩

/-- The hypotheses of each clause of Obligations.ThermalGroups are met. -/
theorem test_witness_thermal_groups :
    (∃ (s : State) (g : Fin 32) (t : Time), awake s ∧ (groupS s ↑g).sched = some t ∧ (groupS s ↑g).state = 2 ∧ t + ((groupS s ↑g).schedN + 1) * stepMs s ↑g * 1000000 ≤ s.now ∧ (groupS s ↑g).value < grpPar s (↑g) 1) ∧
    (∃ (s : State) (g : Fin 32) (t : Time), awake s ∧ (groupS s ↑g).sched = some t ∧ (groupS s ↑g).state = 2 ∧ t + ((groupS s ↑g).schedN + 1) * stepMs s ↑g * 1000000 ≤ s.now ∧ grpPar s (↑g) 1 ≤ (groupS s ↑g).value ∧ (groupS s ↑g).k + 1 < stepLimit s ↑g) ∧
    (∃ (s : State) (g : Fin 32) (t : Time), awake s ∧ (groupS s ↑g).release = some t ∧ (groupS s ↑g).state = 2 ∧ 0 < (groupS s ↑g).k ∧ t + stepMs s ↑g * 1000000 ≤ s.now) ∧
    (∃ (s : State) (path : Path), awake s ∧ path ≠ Path.proc Proc.thm ∧ path ≠ Path.proc Proc.sec) ∧
    (∃ (s : State) (path : Path) (tag : Byte), awake s ∧ (path = Path.proc Proc.thm ∨ path = Path.proc Proc.sec) ∧ BitVec.toNat tag ≠ lastTag s 655392 ∧ s.und.shutLatch = []) ∧
    (∃ (s : State) (path : Path) (tag : Byte) (mask : Byte) (tray : Bool), awake s ∧ (path = Path.proc Proc.thm ∨ path = Path.proc Proc.sec) ∧ BitVec.toNat tag ≠ lastTag s 655392 ∧ judgeShdnClr s (namedLatches (BitVec.toNat mask) tray) = (0, 0)) :=
  ⟨⟨{ up with thm.group := [(31, { sched := some 0, state := 2 })], regs.live := [(0x0A27C8, 1)] }, 31, 0, (by decide +kernel), (by decide +kernel), (by decide +kernel), (by decide +kernel), (by decide +kernel)⟩,
    ⟨{ up with thm.group := [(31, { sched := some 0, state := 2 })], regs.live := [(0x0A27F0, 0x10000)] }, 31, 0, (by decide +kernel), (by decide +kernel), (by decide +kernel), (by decide +kernel), (by decide +kernel), (by decide +kernel)⟩,
    ⟨{ up with thm.group := [(31, { release := some 0, state := 2, k := 1 })] }, 31, 0, (by decide +kernel), (by decide +kernel), (by decide +kernel), (by decide +kernel), (by decide +kernel)⟩,
    ⟨up, (Path.proc .hst), (by decide +kernel), (by decide +kernel), (by decide +kernel)⟩,
    ⟨up, (Path.proc .thm), (1#8), (by decide +kernel), (by decide +kernel), (by decide +kernel), (by decide +kernel)⟩,
    ⟨{ up with und.shutLatch := [8] }, (Path.proc .thm), (1#8), (0#8), true, (by decide +kernel), (by decide +kernel), (by decide +kernel), (by decide +kernel)⟩⟩

/-- The hypotheses of each clause of Obligations.CriticalShutdown are met. -/
theorem test_witness_critical_shutdown :
    (∃ (s : State) (d : Fin 2) (w : Word) (v : Word) (t : State), awake s ∧ (v = if (senseRec s (160 + ↑d)).isSome = true then gainOffset s (160 + ↑d) w else w) ∧ BitVec.toInt w < critTemp s ∧ t = writeSignal (160 + ↑d) v false (critKeep (↑d) w false s)) ∧
    (∃ (s : State) (d : Fin 2) (w : Word) (v : Word) (t : State), awake s ∧ (v = if (senseRec s (160 + ↑d)).isSome = true then gainOffset s (160 + ↑d) w else w) ∧ critTemp s ≤ BitVec.toInt w ∧ tget 0 s.afe.critRun ↑d < 2 ∧ t = writeSignal (160 + ↑d) v false (critKeep (↑d) w false s)) ∧
    (∃ (s : State) (d : Fin 2) (w : Word), awake s ∧ senseRec s (160 + ↑d) = none ∧ critTemp s ≤ BitVec.toInt w ∧ tget 0 s.afe.critRun ↑d = 2 ∧ s.und.sysShdn = false) ∧
    (∃ (s : State) (d : Fin 2) (w : Word) (v : Word), awake s ∧ (v = if (senseRec s (160 + ↑d)).isSome = true then gainOffset s (160 + ↑d) w else w) ∧ s.afe.critFault = []) ∧
    (∃ (s : State) (d : Fin 2) (w : Word), s.und.supply.porAsserted = false ∧ s.pmd.state = 3 ∧ critTemp s ≤ BitVec.toInt w ∧ tget 0 s.afe.critRun ↑d = 2 ∧ s.und.sysShdn = false) :=
  ⟨⟨up, 1, (0#32), (0#32), _, (by decide +kernel), (by decide +kernel), (by decide +kernel), rfl⟩,
    ⟨up, 1, (0x5F0000#32), (0x5F0000#32), _, (by decide +kernel), (by decide +kernel), (by decide +kernel), (by decide +kernel), rfl⟩,
    ⟨{ up with afe.critRun := [(1, 2)] }, 1, (0x5F0000#32), (by decide +kernel), (by decide +kernel), (by decide +kernel), (by decide +kernel), (by decide +kernel)⟩,
    ⟨up, 1, (0#32), (0#32), (by decide +kernel), (by decide +kernel), (by decide +kernel)⟩,
    ⟨{ up with pmd.state := 3, afe.critRun := [(1, 2)] }, 1, (0x5F0000#32), (by decide +kernel), (by decide +kernel), (by decide +kernel), (by decide +kernel), (by decide +kernel)⟩⟩

/-- The hypotheses of each clause of Obligations.LeakAndFlow are met. -/
theorem test_witness_leak_and_flow :
    (∃ (s : State) (c : Fin 16) (ip : Word) (qd : Word) (r : Int) (q : Int), awake s ∧ (lkfCh s ↑c).state ≠ 7 ∧ r = leakRatio s (↑c) ip ∧ q = leakRatio s (↑c) qd ∧ leakBand s (↑c) r q = (lkfCh s ↑c).band ∧ (lkfCh s ↑c).run < 4) ∧
    (∃ (s : State) (c : Fin 16) (ip : Word) (qd : Word) (r : Int) (q : Int), awake s ∧ (lkfCh s ↑c).state ≠ 7 ∧ r = leakRatio s (↑c) ip ∧ q = leakRatio s (↑c) qd ∧ leakBand s (↑c) r q ≠ (lkfCh s ↑c).band) ∧
    (∃ (s : State) (c : Fin 16) (ip : Word) (qd : Word) (r : Int) (q : Int), awake s ∧ (lkfCh s ↑c).state ≠ 7 ∧ r = leakRatio s (↑c) ip ∧ q = leakRatio s (↑c) qd ∧ leakBand s (↑c) r q = 1 ∧ (lkfCh s ↑c).band = 1 ∧ 4 ≤ (lkfCh s ↑c).run ∧ List.contains s.und.wet ↑c = false) ∧
    (∃ (s : State) (c : Fin 16) (ip : Word) (qd : Word) (r : Int) (q : Int) (b : Nat), awake s ∧ (lkfCh s ↑c).state ≠ 7 ∧ r = leakRatio s (↑c) ip ∧ q = leakRatio s (↑c) qd ∧ b = leakBand s (↑c) r q ∧ b ≠ 1 ∧ b ≠ 255 ∧ (lkfCh s ↑c).band = b ∧ 4 ≤ (lkfCh s ↑c).run) ∧
    (∃ (s : State) (c : Fin 16), awake s ∧ (lkfCh s ↑c).state ≠ 7 ∧ (lkfCh s ↑c).qualAt + 500000000 ≤ s.now) ∧
    (∃ (s : State) (path : Path), awake s ∧ path ≠ Path.proc Proc.thm ∧ path ≠ Path.proc Proc.sec) ∧
    (∃ (s : State) (path : Path) (tag : Byte) (mask : BitVec 16) (c : Nat), awake s ∧ (path = Path.proc Proc.thm ∨ path = Path.proc Proc.sec) ∧ BitVec.toNat tag ≠ lastTag s 786448 ∧ List.find? (fun c => (lkfCh s c).taken != 0) (maskBits 16 mask.toNat) = some c) ∧
    (∃ (s : State) (path : Path) (tag : Byte) (mask : BitVec 16), awake s ∧ (path = Path.proc Proc.thm ∨ path = Path.proc Proc.sec) ∧ BitVec.toNat tag ≠ lastTag s 786448 ∧ List.find? (fun c => (lkfCh s c).taken != 0) (maskBits 16 mask.toNat) = none) ∧
    (∃ (s : State) (c : Fin 16) (x : Word) (q : LkfCh) (f : Int), awake s ∧ (tget { } s.lkf.recs (16 + ↑c)).mode = 1 ∧ (lkfCh s (16 + ↑c)).state < 3 ∧ q = flowPulse (lkfCh s (16 + ↑c)) s.now (BitVec.toInt x) ∧ f = flowMean q.freqs ∧ f ≤ 5000 * 65536 ∧ s.lkf.judging = false) ∧
    (∃ (s : State) (c : Fin 16) (x : Word), awake s ∧ ((tget { } s.lkf.recs (16 + ↑c)).mode = 2 ∧ 66 * 65536 ≤ BitVec.toInt x * 1000 ∧ BitVec.toInt x * 1000 ≤ 3234 * 65536 ∨ (tget { } s.lkf.recs (16 + ↑c)).mode = 3 ∧ 5 * 65536 ≤ BitVec.toInt x * 100 ∧ BitVec.toInt x * 100 ≤ 95 * 65536) ∧ (lkfCh s (16 + ↑c)).state < 3 ∧ s.lkf.judging = false) ∧
    (∃ (s : State) (c : Fin 16) (t : Time), awake s ∧ (lkfCh s (16 + ↑c)).beyond = some t ∧ s.lkf.judging = true ∧ (lkfCh s (16 + ↑c)).state = 0 ∧ t + 2000000000 ≤ s.now) ∧
    (∃ (s : State) (c : Fin 16) (t : Time), awake s ∧ (lkfCh s (16 + ↑c)).inside = some t ∧ s.lkf.judging = true ∧ ((lkfCh s (16 + ↑c)).state = 1 ∨ (lkfCh s (16 + ↑c)).state = 2) ∧ t + 2000000000 ≤ s.now) ∧
    (∃ (s : State) (t : Time), awake s ∧ s.lkf.runSince = some t ∧ s.seq.trayState = 3 ∧ t + 10000000000 ≤ s.now) :=
  ⟨⟨{ up with lkf.ch := [(0, { state := 0, band := 1, run := 3 })], regs.live := [(0x0C1000, 0x10000)] }, 0, (0#32), (0#32), 0, 0, (by decide +kernel), (by decide +kernel), (by decide +kernel), (by decide +kernel), (by decide +kernel), (by decide +kernel)⟩,
    ⟨{ up with lkf.ch := [(0, { state := 0 })] }, 0, (0#32), (0#32), 0, 0, (by decide +kernel), (by decide +kernel), (by decide +kernel), (by decide +kernel), (by decide +kernel)⟩,
    ⟨{ up with lkf.ch := [(15, { state := 0, band := 1, run := 4 })], regs.live := [(0x0C11E0, 0x10000)] }, 15, (0#32), (0#32), 0, 0, (by decide +kernel), (by decide +kernel), (by decide +kernel), (by decide +kernel), (by decide +kernel), (by decide +kernel), (by decide +kernel), (by decide +kernel)⟩,
    ⟨{ up with lkf.ch := [(0, { state := 0, band := 0, run := 4 })] }, 0, (0#32), (0#32), 0, 0, 0, (by decide +kernel), (by decide +kernel), (by decide +kernel), (by decide +kernel), (by decide +kernel), (by decide +kernel), (by decide +kernel), (by decide +kernel), (by decide +kernel)⟩,
    ⟨{ up with lkf.ch := [(15, { state := 0 })] }, 15, (by decide +kernel), (by decide +kernel), (by decide +kernel)⟩,
    ⟨up, (Path.proc .hst), (by decide +kernel), (by decide +kernel), (by decide +kernel)⟩,
    ⟨{ up with lkf.ch := [(3, { taken := 1 })] }, (Path.proc .thm), (1#8), (8#16), 3, (by decide +kernel), (by decide +kernel), (by decide +kernel), (by decide +kernel)⟩,
    ⟨{ up with lkf.ch := [(3, { taken := 0 })] }, (Path.proc .thm), (1#8), (8#16), (by decide +kernel), (by decide +kernel), (by decide +kernel), (by decide +kernel)⟩,
    ⟨{ up with lkf.recs := [(16, { mode := 1 })], lkf.ch := [(16, { state := 2 })] }, 0, (0x13880000#32), _, _, (by decide +kernel), (by decide +kernel), (by decide +kernel), rfl, rfl, (by decide +kernel), (by decide +kernel)⟩,
    ⟨{ up with lkf.recs := [(31, { mode := 3 })], lkf.ch := [(31, { state := 2 })] }, 15, (3277#32), (by decide +kernel), (by decide +kernel), (by decide +kernel), (by decide +kernel)⟩,
    ⟨{ up with lkf.ch := [(31, { state := 0, beyond := some 0 })], lkf.judging := true }, 15, 0, (by decide +kernel), (by decide +kernel), (by decide +kernel), (by decide +kernel), (by decide +kernel)⟩,
    ⟨{ up with lkf.ch := [(31, { state := 2, inside := some 0 })], lkf.judging := true }, 15, 0, (by decide +kernel), (by decide +kernel), (by decide +kernel), (by decide +kernel), (by decide +kernel)⟩,
    ⟨{ up with lkf.runSince := some 0, seq.trayState := 3 }, 0, (by decide +kernel), (by decide +kernel), (by decide +kernel), (by decide +kernel)⟩⟩

/-- The hypotheses of each clause of Obligations.Heartbeats are met. -/
theorem test_witness_heartbeats :
    (∃ (s : State) (d : Fin 2) (h : Heartbeat), awake s ∧ tfind s.mot.hb ↑d = some h) ∧
    (∃ (s : State) (d : Fin 2) (h : Heartbeat), awake s ∧ tfind s.mot.hb ↑d = some h ∧ (motDie s ↑d).lastSeq = some h.seq) ∧
    (∃ (s : State) (d : Fin 2) (h : Heartbeat), awake s ∧ noInjection uMOT s ∧ tfind s.mot.hb ↑d = some h ∧ (motDie s ↑d).lastSeq ≠ some h.seq) ∧
    (∃ (s : State) (r : DieReply), awake s ∧ noInjection uMOT s ∧ r.crcOk = false) ∧
    (∃ (s : State) (r : DieReply), awake s ∧ noInjection uMOT s ∧ r.crcOk = true) :=
  ⟨⟨{ up with mot.hb := [(1, hb0)] }, 1, hb0, (by decide +kernel), (by decide +kernel)⟩,
    ⟨{ up with mot.hb := [(1, hb0)], mdie := [(1, { lastSeq := some 0 })] }, 1, hb0, (by decide +kernel), (by decide +kernel), (by decide +kernel)⟩,
    ⟨{ up with mot.hb := [(1, hb0)] }, 1, hb0, (by decide +kernel), (by decide +kernel), (by decide +kernel), (by decide +kernel)⟩,
    ⟨up, rep0, (by decide +kernel), (by decide +kernel), (by decide +kernel)⟩,
    ⟨up, { rep0 with crcOk := true }, (by decide +kernel), (by decide +kernel), (by decide +kernel)⟩⟩

/-- The hypotheses of each clause of Obligations.DieSupervision are met. -/
theorem test_witness_die_supervision :
    (∃ (s : State) (d : Fin 2), awake s ∧ (motDie s ↑d).state = DieState.run ∧ (motDie s ↑d).lastValid + 19600000 ≤ s.now) ∧
    (∃ (s : State) (c : Fin 16), awake s ∧ (motCh s ↑c).state ≠ 0 ∧ (motDie s (↑c / 8)).state = DieState.run ∧ (motCh s ↑c).pairAt + 19600000 ≤ s.now) ∧
    (∃ (s : State) (d : Fin 2), awake s ∧ (motDie s ↑d).silent = false ∧ (motDie s ↑d).state ≠ DieState.boot ∧ (motDie s ↑d).standby = false ∧ (motDie s ↑d).silenceS * 1000000000 ≤ (motDie s ↑d).silNs + (s.now - (motDie s ↑d).lastValid)) ∧
    (∃ (s : State) (mv : BitVec 16), awake s ∧ (62000 < mv.toNat ∨ mv.toNat < 9500)) ∧
    (∃ (s : State) (d : Fin 2) (mv : BitVec 16), awake s ∧ (motDie s ↑d).busFault = true ∧ (motDie s ↑d).busAt + 100000000 ≤ s.now ∧ 10800 ≤ mv.toNat ∧ mv.toNat ≤ 60000) :=
  ⟨⟨{ up with mdie := [(1, { state := .run })] }, 1, (by decide +kernel), (by decide +kernel), (by decide +kernel)⟩,
    ⟨{ up with mdie := [(1, { state := .run })], mch := [(15, { state := 4 })] }, 15, (by decide +kernel), (by decide +kernel), (by decide +kernel), (by decide +kernel)⟩,
    ⟨{ up with mdie := [(1, { state := .run, standby := false })] }, 1, (by decide +kernel), (by decide +kernel), (by decide +kernel), (by decide +kernel), (by decide +kernel)⟩,
    ⟨up, (9499#16), (by decide +kernel), (by decide +kernel)⟩,
    ⟨{ up with mdie := [(1, { busFault := true })] }, 1, (10800#16), (by decide +kernel), (by decide +kernel), (by decide +kernel), (by decide +kernel), (by decide +kernel)⟩⟩

/-- The hypotheses of each clause of Obligations.MotorStarts are met. -/
theorem test_witness_motor_starts :
    (∃ (s : State) (c : Fin 16) (w : Word) (t : Time), awake s ∧ (motCh s ↑c).watch = some t ∧ t + 50000000 ≤ s.now ∧ chTarget s ↑c ≠ 0 ∧ handoffQ s ↑c ≤ BitVec.toInt w) ∧
    (∃ (s : State) (c : Fin 16) (t : Time), awake s ∧ (motCh s ↑c).watch = some t ∧ t + 50000000 ≤ s.now ∧ chTarget s ↑c = 0) ∧
    (∃ (s : State) (c : Fin 16) (w : Word) (t : Time), awake s ∧ (motCh s ↑c).watch = some t ∧ t + 50000000 ≤ s.now ∧ chTarget s ↑c ≠ 0 ∧ BitVec.toInt w < handoffQ s ↑c ∧ BitVec.toInt w < -handoffQ s ↑c) ∧
    (∃ (s : State) (c : Fin 16) (w : Word) (hok : Bool) (t : Time), awake s ∧ (motCh s ↑c).watch = some t ∧ t + 50000000 ≤ s.now ∧ chTarget s ↑c ≠ 0 ∧ BitVec.toInt w < handoffQ s ↑c ∧ -handoffQ s ↑c ≤ BitVec.toInt w ∧ (hasHall s ↑c = false ∨ hok = false)) ∧
    (∃ (s : State) (c : Fin 16) (w : Word) (t : Time), awake s ∧ (motCh s ↑c).watch = some t ∧ t + 50000000 ≤ s.now ∧ chTarget s ↑c ≠ 0 ∧ BitVec.toInt w < handoffQ s ↑c ∧ -handoffQ s ↑c ≤ BitVec.toInt w ∧ hasHall s ↑c = true) ∧
    (∃ (s : State) (c : Fin 16), awake s ∧ (motCh s ↑c).coast.isSome = true ∧ chTarget s ↑c ≠ 0) ∧
    (∃ (s : State) (c : Fin 16), awake s ∧ (motCh s ↑c).state = 2 ∧ (motCh s ↑c).at_ + 250000000 ≤ s.now) ∧
    (∃ (s : State) (c : Fin 16), awake s ∧ (motCh s ↑c).state = 3 ∧ (motCh s ↑c).at_ + 1000000000 ≤ s.now) ∧
    (∃ (s : State) (c : Fin 16), awake s ∧ (motCh s ↑c).state = 3 ∧ (motCh s ↑c).at_ + 1200000000 ≤ s.now) ∧
    (∃ (s : State) (c : Fin 16) (cur : Word), awake s ∧ (motCh s ↑c).state = 4 ∧ (motCh s ↑c).at_ + 500000000 ≤ s.now ∧ chPar s (↑c) 2 ≤ BitVec.toNat cur) ∧
    (∃ (s : State) (c : Fin 16), awake s ∧ (motCh s ↑c).state = 6 ∧ (motCh s ↑c).watch = none ∧ (motCh s ↑c).coast = none ∧ (motCh s ↑c).at_ + restNs s ↑c ≤ s.now ∧ (motDie s (↑c / 8)).busFault = false) ∧
    (∃ (s : State) (c : Fin 16), awake s ∧ (motCh s ↑c).state = 4 ∧ (motCh s ↑c).at_ + 10000000000 ≤ s.now) ∧
    (∃ (s : State) (c : Fin 16), awake s ∧ (motCh s ↑c).state = 4) ∧
    (∃ (s : State) (c : Fin 16), awake s ∧ (motCh s ↑c).state = 5) ∧
    (∃ (s : State) (c : Fin 16), awake s ∧ hasHall s ↑c = true ∧ (motCh s ↑c).hallBad = false ∧ 2 ≤ (motCh s ↑c).state ∧ (motCh s ↑c).state ≤ 5) ∧
    (∃ (s : State) (c : Nat), ((motCh s c).state = 0 ∨ (motCh s c).state = 1 ∨ (motCh s c).state = 6 ∨ (motCh s c).state = 7)) ∧
    (∃ (s : State) (c : Nat), (motCh s c).ref < (motCh s c).goal) ∧
    (∃ (s : State) (c : Nat), (motCh s c).goal ≤ (motCh s c).ref) :=
  ⟨⟨{ up with mch := [(15, { watch := some 0 })] }, 15, (0x0BB80000#32), 0, (by decide +kernel), (by decide +kernel), (by decide +kernel), (by decide +kernel), (by decide +kernel)⟩,
    ⟨{ up with mch := [(15, { watch := some 0 })], mdie := [(1, { state := .run })] }, 15, 0, (by decide +kernel), (by decide +kernel), (by decide +kernel), (by decide +kernel)⟩,
    ⟨{ up with mch := [(15, { watch := some 0 })] }, 15, (0xF447FFFF#32), 0, (by decide +kernel), (by decide +kernel), (by decide +kernel), (by decide +kernel), (by decide +kernel), (by decide +kernel)⟩,
    ⟨{ up with mch := [(15, { watch := some 0 })] }, 15, (0x0BB7FFFF#32), false, 0, (by decide +kernel), (by decide +kernel), (by decide +kernel), (by decide +kernel), (by decide +kernel), (by decide +kernel), (by decide +kernel)⟩,
    ⟨{ up with mch := [(15, { watch := some 0, setpoint := 1, cfg := { sense := 1 }, par := [100, 100, 100, 100, 100, 100] })], mdie := [(1, { state := .run })] }, 15, (0#32), 0, (by decide +kernel), (by decide +kernel), (by decide +kernel), (by decide +kernel), (by decide +kernel), (by decide +kernel), (by decide +kernel)⟩,
    ⟨{ up with mch := [(15, { coast := some 0 })] }, 15, (by decide +kernel), (by decide +kernel), (by decide +kernel)⟩,
    ⟨{ up with mch := [(15, { state := 2 })] }, 15, (by decide +kernel), (by decide +kernel), (by decide +kernel)⟩,
    ⟨{ up with mch := [(15, { state := 3 })] }, 15, (by decide +kernel), (by decide +kernel), (by decide +kernel)⟩,
    ⟨{ up with mch := [(15, { state := 3 })] }, 15, (by decide +kernel), (by decide +kernel), (by decide +kernel)⟩,
    ⟨{ up with mch := [(15, { state := 4 })] }, 15, (0xFFFFFFFF#32), (by decide +kernel), (by decide +kernel), (by decide +kernel), (by decide +kernel)⟩,
    ⟨{ up with mch := [(15, { state := 6 })] }, 15, (by decide +kernel), (by decide +kernel), (by decide +kernel), (by decide +kernel), (by decide +kernel), (by decide +kernel)⟩,
    ⟨{ up with mch := [(15, { state := 4 })] }, 15, (by decide +kernel), (by decide +kernel), (by decide +kernel)⟩,
    ⟨{ up with mch := [(15, { state := 4 })] }, 15, (by decide +kernel), (by decide +kernel)⟩,
    ⟨{ up with mch := [(15, { state := 5 })] }, 15, (by decide +kernel), (by decide +kernel)⟩,
    ⟨{ up with mch := [(15, { state := 4, cfg := { sense := 1 } })], mdie := [(1, { state := .run })] }, 15, (by decide +kernel), (by decide +kernel), (by decide +kernel), (by decide +kernel), (by decide +kernel)⟩,
    ⟨up, 15, (by decide +kernel)⟩,
    ⟨{ up with mch := [(3, { goal := 1 })] }, 3, (by decide +kernel)⟩,
    ⟨up, 3, (by decide +kernel)⟩⟩

/-- The hypotheses of each clause of Obligations.MotorFaults are met. -/
theorem test_witness_motor_faults :
    (∃ (s : State) (c : Fin 16) (fund : Word) (mag : Word) (cur : Word), awake s ∧ (motCh s ↑c).state = 5 ∧ (motCh s ↑c).at_ + 500000000 ≤ s.now ∧ plausible s (↑c) (BitVec.toNat fund) (BitVec.toNat mag) (BitVec.toNat cur) = false ∧ (motCh s ↑c).faults < 65535) ∧
    (∃ (s : State) (c : Fin 16) (a : Word) (b : Word), awake s ∧ 2 ≤ (motCh s ↑c).state ∧ (motCh s ↑c).state ≤ 5 ∧ overLevel s (↑c) (BitVec.toInt a) (BitVec.toInt b) = true ∧ (motCh s ↑c).faults < 65535) ∧
    (∃ (s : State) (c : Fin 16) (cur : Word), awake s ∧ (motCh s ↑c).state = 2 ∧ (motCh s ↑c).at_ + 50000000 ≤ s.now ∧ 10 * BitVec.toNat cur < (motCh s ↑c).capI ∧ (motCh s ↑c).faults < 65535) ∧
    (∃ (s : State) (c : Fin 16) (tach : Word), awake s ∧ (motCh s ↑c).state = 4 ∧ (motCh s ↑c).slow = false ∧ (motDie s (↑c / 8)).state ≠ DieState.boot ∧ (motCh s ↑c).at_ + 2 * chPar s (↑c) 5 * 1000000 ≤ s.now ∧ BitVec.toInt tach < ↑(chPar s (↑c) 4) * 65536) ∧
    (∃ (s : State) (c : Fin 16) (tach : Word), awake s ∧ (motCh s ↑c).state = 4 ∧ (motCh s ↑c).slow = true ∧ (motCh s ↑c).slowAt + chPar s (↑c) 5 * 1000000 ≤ s.now ∧ 11 * ↑(chPar s (↑c) 4) * 65536 ≤ 10 * BitVec.toInt tach) ∧
    (∃ (s : State) (path : Path), awake s ∧ path ≠ Path.proc Proc.thm ∧ path ≠ Path.proc Proc.sec) ∧
    (∃ (s : State) (path : Path) (tag : Byte) (mask : BitVec 16) (c : Nat), awake s ∧ (path = Path.proc Proc.thm ∨ path = Path.proc Proc.sec) ∧ BitVec.toNat tag ≠ lastTag s 720960 ∧ List.find? (fun c => (motRep s c).state != 7 || List.contains s.mot.repBus (c / 8)) (maskBits 16 mask.toNat) = some c) ∧
    (∃ (s : State) (path : Path) (tag : Byte) (mask : BitVec 16), awake s ∧ (path = Path.proc Proc.thm ∨ path = Path.proc Proc.sec) ∧ BitVec.toNat tag ≠ lastTag s 720960 ∧ List.find? (fun c => (motRep s c).state != 7 || List.contains s.mot.repBus (c / 8)) (maskBits 16 mask.toNat) = none) :=
  ⟨⟨{ up with mch := [(15, { state := 5 })] }, 15, (60#32), (0#32), (0#32), (by decide +kernel), (by decide +kernel), (by decide +kernel), (by decide +kernel), (by decide +kernel)⟩,
    ⟨{ up with mch := [(15, { state := 5, faults := 65534 })] }, 15, (100000#32), (0#32), (by decide +kernel), (by decide +kernel), (by decide +kernel), (by decide +kernel), (by decide +kernel)⟩,
    ⟨{ up with mch := [(15, { state := 2, capI := 1 })] }, 15, (0#32), (by decide +kernel), (by decide +kernel), (by decide +kernel), (by decide +kernel), (by decide +kernel)⟩,
    ⟨{ up with mch := [(15, { state := 4, par := [1, 1, 1, 1, 1, 1] })], mdie := [(1, { state := .run })] }, 15, (65535#32), (by decide +kernel), (by decide +kernel), (by decide +kernel), (by decide +kernel), (by decide +kernel), (by decide +kernel)⟩,
    ⟨{ up with mch := [(15, { state := 4, slow := true, par := [1, 1, 1, 1, 1, 1] })], mdie := [(1, { state := .run })] }, 15, (72090#32), (by decide +kernel), (by decide +kernel), (by decide +kernel), (by decide +kernel), (by decide +kernel)⟩,
    ⟨up, Path.none, (by decide +kernel), (by decide +kernel), (by decide +kernel)⟩,
    ⟨{ up with mot.rep := [(2, { state := 7 })] }, (Path.proc .sec), (1#8), (8#16), 3, (by decide +kernel), (by decide +kernel), (by decide +kernel), (by decide +kernel)⟩,
    ⟨{ up with mot.rep := [(2, { state := 7 })] }, (Path.proc .sec), (1#8), (4#16), (by decide +kernel), (by decide +kernel), (by decide +kernel), (by decide +kernel)⟩⟩

/-- The hypotheses of each clause of Obligations.TwinCheck are met. -/
theorem test_witness_twin_check :
    (∃ (w : List Int) (x : List Int), w.length = x.length) ∧
    (∃ (fp : Bool) (afmt : Nat) (w : List Int) (a : List Int), w.length = a.length ∧ (afmt = 0 → fp = false)) :=
  ⟨⟨[1, 2], [3, 4], (by decide +kernel)⟩,
    ⟨false, 0, [3], [5], (by decide +kernel), (fun _ => rfl)⟩⟩

/-- The hypotheses of each clause of Obligations.CanopyCommands are met. -/
theorem test_witness_canopy_commands :
    (∃ (s : State) (path : Path), awake s ∧ path ≠ Path.proc Proc.recd ∧ path ≠ Path.proc Proc.sec) ∧
    (∃ (s : State) (path : Path) (tag : Byte) (m : Fin 32), awake s ∧ (path = Path.proc Proc.recd ∨ path = Path.proc Proc.sec) ∧ BitVec.toNat tag ≠ lastTag s 1048592 ∧ descOf s ↑m = none) ∧
    (∃ (s : State) (path : Path) (tag : Byte) (m : Fin 32) (d : DescRec) (i : ImageRec), awake s ∧ (path = Path.proc Proc.recd ∨ path = Path.proc Proc.sec) ∧ BitVec.toNat tag ≠ lastTag s 1048592 ∧ descOf s ↑m = some d ∧ loadRefusal s ↑m = none ∧ BitVec.toNat (regWord s 1048600) * 4096 + BitVec.toNat (regWord s 1048604) ≤ regionMib s 5 * 1048576 ∧ tfind s.mem.scratch (BitVec.toNat (regWord s 1048600)) = some i ∧ imgFormatOk i (BitVec.toNat (regWord s 1048604)) = true ∧ imgShapeOk d i = true ∧ layersOk i = true) ∧
    (∃ (s : State) (path : Path) (tag : Byte) (m : Fin 32) (d : DescRec), awake s ∧ (path = Path.proc Proc.recd ∨ path = Path.proc Proc.sec) ∧ BitVec.toNat tag ≠ lastTag s 1048592 ∧ descOf s ↑m = some d ∧ d.flags % 2 = 1 ∧ (cnpModel s ↑m).state = 5 ∧ (cnpModel s ↑m).job = none ∧ (cnpModel s ↑m).loadReq = false) ∧
    (∃ (s : State) (path : Path) (tag : Byte) (m : Fin 32) (d : DescRec), awake s ∧ (path = Path.proc Proc.recd ∨ path = Path.proc Proc.sec) ∧ BitVec.toNat tag ≠ lastTag s 1048592 ∧ descOf s ↑m = some d ∧ d.flags % 2 = 1 ∧ (cnpModel s ↑m).state ≠ 5) ∧
    (∃ (s : State) (path : Path) (tag : Byte) (m : Fin 32) (d : DescRec), awake s ∧ (path = Path.proc Proc.recd ∨ path = Path.proc Proc.sec) ∧ BitVec.toNat tag ≠ lastTag s 1048592 ∧ descOf s ↑m = some d ∧ d.flags % 2 = 1 ∧ (cnpModel s ↑m).state = 6 ∧ s.cnp.gated = false) ∧
    (∃ (s : State) (path : Path) (tag : Byte) (m : Fin 32) (d : DescRec), awake s ∧ (path = Path.proc Proc.recd ∨ path = Path.proc Proc.sec) ∧ BitVec.toNat tag ≠ lastTag s 1048592 ∧ descOf s ↑m = some d ∧ d.flags % 2 = 1 ∧ (cnpModel s ↑m).state = 5) :=
  ⟨⟨up, (Path.proc .pwr), (by decide +kernel), (by decide +kernel), (by decide +kernel)⟩,
    ⟨up, (Path.proc .recd), (1#8), 31, (by decide +kernel), (by decide +kernel), (by decide +kernel), (by decide +kernel)⟩,
    ⟨{ up with cnp.descs := [desc0], mem.scratch := [(0, img0)], regs.words := [(1048600, 0), (1048604, 3280)] }, (Path.proc .sec), (1#8), 0, desc0, img0, (by decide +kernel), (by decide +kernel), (by decide +kernel), (by decide +kernel), (by decide +kernel), (by decide +kernel), (by decide +kernel), (by decide +kernel), (by decide +kernel), (by decide +kernel)⟩,
    ⟨{ up with cnp.descs := [desc0], cnp.model := [(0, { state := 5 })] }, (Path.proc .sec), (1#8), 0, desc0, (by decide +kernel), (by decide +kernel), (by decide +kernel), (by decide +kernel), (by decide +kernel), (by decide +kernel), (by decide +kernel), (by decide +kernel)⟩,
    ⟨{ up with cnp.descs := [desc0], cnp.model := [(0, { state := 6 })] }, (Path.proc .sec), (1#8), 0, desc0, (by decide +kernel), (by decide +kernel), (by decide +kernel), (by decide +kernel), (by decide +kernel), (by decide +kernel)⟩,
    ⟨{ up with cnp.descs := [desc0], cnp.model := [(0, { state := 6 })] }, (Path.proc .sec), (1#8), 0, desc0, (by decide +kernel), (by decide +kernel), (by decide +kernel), (by decide +kernel), (by decide +kernel), (by decide +kernel), (by decide +kernel)⟩,
    ⟨{ up with cnp.descs := [desc0], cnp.model := [(0, { state := 5 })] }, (Path.proc .sec), (1#8), 0, desc0, (by decide +kernel), (by decide +kernel), (by decide +kernel), (by decide +kernel), (by decide +kernel), (by decide +kernel)⟩⟩

/-- The hypotheses of each clause of Obligations.CanopyLoadSteps are met. -/
theorem test_witness_canopy_load_steps :
    (∃ (s : State), awake s ∧ dramTrained s = true ∧ procRunning s Proc.recd = true ∧ s.cnp.load.isSome = true) :=
  ⟨{ up with cnp.load := some ⟨0, img0, 7, 1⟩, mem.trained := [0, 1, 2, 3, 4, 5, 6, 7], procs := [(5, { state := .ready })] }, (by decide +kernel), (by decide +kernel), (by decide +kernel), (by decide +kernel)⟩

/-- The hypotheses of each clause of Obligations.CanopyJobs are met. -/
theorem test_witness_canopy_jobs :
    (∃ (s : State) (t : Fin 16) (r : SegEnd) (m : Nat) (j : CnpJob) (d : DescRec) (i : ImageRec), awake s ∧ (cnpTile s ↑t).running = some m ∧ (cnpModel s m).job = some j ∧ descOf s m = some d ∧ (cnpModel s m).image = some i ∧ r.fault = none ∧ r.corrected = false ∧ isCritical d = false ∧ 1 < tget 0 j.left ↑t ∧ noInjection (cnpUnit (↑t / 4)) s ∧ noInjection uCNP s) ∧
    (∃ (s : State) (t : Fin 16) (r : SegEnd) (m : Nat) (j : CnpJob) (d : DescRec) (i : ImageRec), awake s ∧ (cnpTile s ↑t).running = some m ∧ (cnpModel s m).job = some j ∧ descOf s m = some d ∧ (cnpModel s m).image = some i ∧ r.fault = none ∧ r.corrected = false ∧ isCritical d = false ∧ (List.all (tput j.left (↑t) (tget 0 j.left ↑t - 1)) fun e => e.snd == 0) = true ∧ i.layers[j.layer + 1]? = none ∧ noInjection (cnpUnit (↑t / 4)) s ∧ noInjection uCNP s) ∧
    (∃ (s : State) (t : Fin 16) (r : SegEnd) (m : Nat), awake s ∧ (cnpTile s ↑t).running = some m ∧ r.corrected = false ∧ r.fault = some SegFault.resident ∧ noInjection (cnpUnit (↑t / 4)) s ∧ noInjection uCNP s) ∧
    (∃ (s : State) (t : Fin 16) (r : SegEnd) (m : Nat), awake s ∧ (cnpTile s ↑t).running = some m ∧ r.corrected = false ∧ r.fault = some SegFault.streamed ∧ noInjection (cnpUnit (↑t / 4)) s ∧ noInjection uCNP s) ∧
    (∃ (s : State) (t : Fin 16) (r : SegEnd) (m : Nat) (j : CnpJob) (d : DescRec) (i : ImageRec) (l : ImgLayer), awake s ∧ (cnpTile s ↑t).running = some m ∧ (cnpModel s m).job = some j ∧ descOf s m = some d ∧ (cnpModel s m).image = some i ∧ i.layers[j.layer]? = some l ∧ r.fault = none ∧ r.corrected = false ∧ isCritical d = true ∧ l.flags % 2 = 1 ∧ tget 0 j.left ↑t = 1 ∧ (twinSums (runOf d i (cnpModel s m)) (histVals s i (cnpModel s m).history) (snapVals s i j.snap) j.layer r.flips).all (twinOk l.afmt) = false ∧ noInjection (cnpUnit (↑t / 4)) s ∧ noInjection uCNP s) ∧
    (∃ (s : State) (m : Fin 32) (j : CnpJob), awake s ∧ (cnpModel s ↑m).job = some j ∧ j.deadline ≤ s.now) ∧
    (∃ (s : State) (m : Fin 32), awake s ∧ ((cnpModel s ↑m).state = 4 ∨ (cnpModel s ↑m).state = 5) ∧ (cnpModel s ↑m).loadReq = false ∧ (cnpModel s ↑m).suspendReq = false) :=
  ⟨⟨{ up with cnp.tile := [(0, { running := some 0 })], cnp.descs := [desc0], cnp.model := [(0, { job := some job0, image := some img0 })] }, 0, seg0, 0, job0, desc0, img0, (by decide +kernel), (by decide +kernel), (by decide +kernel), (by decide +kernel), (by decide +kernel), (by decide +kernel), (by decide +kernel), (by decide +kernel), (by decide +kernel), (by decide +kernel), (by decide +kernel)⟩,
    ⟨{ up with cnp.tile := [(0, { running := some 0 })], cnp.descs := [desc0], cnp.model := [(0, { job := some { job0 with left := [(0, 1)] }, image := some img0 })] }, 0, seg0, 0, { job0 with left := [(0, 1)] }, desc0, img0, (by decide +kernel), (by decide +kernel), (by decide +kernel), (by decide +kernel), (by decide +kernel), (by decide +kernel), (by decide +kernel), (by decide +kernel), (by decide +kernel), (by decide +kernel), (by decide +kernel), (by decide +kernel)⟩,
    ⟨{ up with cnp.tile := [(15, { running := some 0 })] }, 15, { seg0 with fault := some .resident }, 0, (by decide +kernel), (by decide +kernel), (by decide +kernel), (by decide +kernel), (by decide +kernel), (by decide +kernel)⟩,
    ⟨{ up with cnp.tile := [(15, { running := some 0 })] }, 15, { seg0 with fault := some .streamed }, 0, (by decide +kernel), (by decide +kernel), (by decide +kernel), (by decide +kernel), (by decide +kernel), (by decide +kernel)⟩,
    ⟨{ up with cnp.tile := [(0, { running := some 0 })], cnp.descs := [desc4], cnp.model := [(0, { job := some { job0 with left := [(0, 1)] }, image := some img1 })] }, 0, { seg0 with flips := [(0, 1, 0)] }, 0, { job0 with left := [(0, 1)] }, desc4, img1, dense0, (by decide +kernel), (by decide +kernel), (by decide +kernel), (by decide +kernel), (by decide +kernel), (by decide +kernel), (by decide +kernel), (by decide +kernel), (by decide +kernel), (by decide +kernel), (by decide +kernel), (by decide +kernel), (by decide +kernel), (by decide +kernel)⟩,
    ⟨{ up with cnp.model := [(31, { job := some job0 })] }, 31, job0, (by decide +kernel), (by decide +kernel), (by decide +kernel)⟩,
    ⟨{ up with cnp.model := [(31, { state := 5 })] }, 31, (by decide +kernel), (by decide +kernel), (by decide +kernel), (by decide +kernel)⟩⟩

/-- The hypotheses of each clause of Obligations.CustodyCommands are met. -/
theorem test_witness_custody_commands :
    (∃ (s : State) (path : Path), awake s ∧ path ≠ Path.proc Proc.cus ∧ path ≠ Path.proc Proc.sec) ∧
    (∃ (s : State) (path : Path) (tag : Byte), awake s ∧ (path = Path.proc Proc.cus ∨ path = Path.proc Proc.sec) ∧ BitVec.toNat tag ≠ lastTag s 1310736 ∧ 1 ≤ s.cus.state ∧ s.cus.state ≤ 5) ∧
    (∃ (s : State) (path : Path) (tag : Byte) (mask : Byte), awake s ∧ (path = Path.proc Proc.cus ∨ path = Path.proc Proc.sec) ∧ BitVec.toNat tag ≠ lastTag s 1310736 ∧ s.cus.state = 0 ∧ s.cus.restart = 0 ∧ mask ≠ 0 ∧ (∀ (k : Nat), k < 8 → (BitVec.toNat mask).testBit k = true → portTrained s (dnPort k) = true) ∧ BitVec.toNat (regWord s 1310752) ≠ 0 ∧ 1 ≤ BitVec.toNat (regWord s 1310772) ∧ BitVec.toNat (regWord s 1310772) ≤ 65536) ∧
    (∃ (s : State) (path : Path) (tag : Byte) (mask : Byte), awake s ∧ (path = Path.proc Proc.cus ∨ path = Path.proc Proc.sec) ∧ BitVec.toNat tag ≠ lastTag s 1310736 ∧ s.cus.state = 0 ∧ s.cus.restart = 0 ∧ mask ≠ 0 ∧ (∀ (k : Nat), k < 8 → (BitVec.toNat mask).testBit k = true → portTrained s (dnPort k) = true) ∧ BitVec.toNat (regWord s 1310752) ≠ 0 ∧ 1 ≤ BitVec.toNat (regWord s 1310772) ∧ BitVec.toNat (regWord s 1310772) ≤ 65536 ∧ s.cus.job = false) ∧
    (∃ (s : State) (path : Path) (tag : Byte), awake s ∧ (path = Path.proc Proc.cus ∨ path = Path.proc Proc.sec) ∧ BitVec.toNat tag ≠ lastTag s 1310736 ∧ 1 ≤ s.cus.state ∧ s.cus.state ≤ 5) ∧
    (∃ (s : State) (path : Path) (tag : Byte), awake s ∧ (path = Path.proc Proc.cus ∨ path = Path.proc Proc.sec) ∧ BitVec.toNat tag ≠ lastTag s 1310736 ∧ s.cus.state = 5 ∧ allCleared s = false) :=
  ⟨⟨up, (Path.proc .pwr), (by decide +kernel), (by decide +kernel), (by decide +kernel)⟩,
    ⟨{ up with cus.state := 5 }, (Path.proc .cus), (1#8), (by decide +kernel), (by decide +kernel), (by decide +kernel), (by decide +kernel), (by decide +kernel)⟩,
    ⟨{ up with regs.words := [(1310752, 1), (1310772, 65536)], gcl.port := [(1, { state := 5 })] }, (Path.proc .cus), (1#8), (1#8), (by decide +kernel), (by decide +kernel), (by decide +kernel), (by decide +kernel), (by decide +kernel), (by decide +kernel), (by decide +kernel), (by decide +kernel), (by decide +kernel), (by decide +kernel)⟩,
    ⟨{ up with regs.words := [(1310752, 1), (1310772, 65536)], gcl.port := [(1, { state := 5 })] }, (Path.proc .cus), (1#8), (1#8), (by decide +kernel), (by decide +kernel), (by decide +kernel), (by decide +kernel), (by decide +kernel), (by decide +kernel), (by decide +kernel), (by decide +kernel), (by decide +kernel), (by decide +kernel), (by decide +kernel)⟩,
    ⟨{ up with cus.state := 1 }, (Path.proc .sec), (1#8), (by decide +kernel), (by decide +kernel), (by decide +kernel), (by decide +kernel), (by decide +kernel)⟩,
    ⟨{ up with cus.state := 5, cus.cursors := [(0, { cleared := 1 })] }, (Path.proc .sec), (1#8), (by decide +kernel), (by decide +kernel), (by decide +kernel), (by decide +kernel), (by decide +kernel)⟩⟩

/-- The hypotheses of each clause of Obligations.CustodyPhases are met. -/
theorem test_witness_custody_phases :
    (∃ (s : State), awake s ∧ s.cus.state = 1) ∧
    (∃ (s : State) (m : ManifestRec) (r : Nat), awake s ∧ s.cus.state = 1 ∧ manifestCheck s m = some r ∧ s.cus.resuming = none) ∧
    (∃ (s : State) (m : ManifestRec) (l : Digest) (ls : List Digest), awake s ∧ s.cus.state = 2 ∧ s.cus.man = some m ∧ (l :: ls).length = m.leafCount ∧ merkleRoot (l :: ls) = m.root) ∧
    (∃ (s : State) (m : ManifestRec) (l : Digest) (ls : List Digest), awake s ∧ s.cus.state = 2 ∧ s.cus.man = some m ∧ (merkleRoot (l :: ls) ≠ m.root ∨ (l :: ls).length ≠ m.leafCount) ∧ s.cus.resuming = none) ∧
    (∃ (s : State) (k : Fin 8) (n : Nat), awake s ∧ s.cus.state = 3 ∧ (tfind s.cus.queried ↑k).isSome = true ∧ n < 8 ∧ s.cus.mask.testBit n = true ∧ n ≠ ↑k ∧ tfind s.cus.caps n = none) ∧
    (∃ (s : State) (k : Fin 8), awake s ∧ s.cus.state = 3 ∧ (tfind s.cus.queried ↑k).isSome = true ∧ (∀ (n : Nat), n < 8 → s.cus.mask.testBit n = true → n ≠ ↑k → (tfind s.cus.caps n).isSome = true)) ∧
    (∃ (s : State) (k : Fin 8) (t : Time), awake s ∧ tfind s.cus.queried ↑k = some t ∧ s.cus.state = 3 ∧ tfind s.cus.caps ↑k = none ∧ t + 10000000 ≤ s.now) :=
  ⟨⟨{ up with cus.state := 1 }, (by decide +kernel), (by decide +kernel)⟩,
    ⟨{ up with cus.state := 1 }, { man0 with magic := 0 }, 2, (by decide +kernel), (by decide +kernel), (by decide +kernel), (by decide +kernel)⟩,
    ⟨{ up with cus.state := 2, cus.man := some man0 }, man0, 5, [], (by decide +kernel), (by decide +kernel), (by decide +kernel), (by decide +kernel), (by decide +kernel)⟩,
    ⟨{ up with cus.state := 2, cus.man := some man0 }, man0, 6, [], (by decide +kernel), (by decide +kernel), (by decide +kernel), (by decide +kernel), (by decide +kernel)⟩,
    ⟨{ up with cus.state := 3, cus.queried := [(7, 0)], cus.mask := 0x81 }, 7, 0, (by decide +kernel), (by decide +kernel), (by decide +kernel), (by decide +kernel), (by decide +kernel), (by decide +kernel), (by decide +kernel)⟩,
    ⟨{ up with cus.state := 3, cus.queried := [(7, 0)], cus.mask := 0x80 }, 7, (by decide +kernel), (by decide +kernel), (by decide +kernel), (by decide +kernel)⟩,
    ⟨{ up with cus.state := 3, cus.queried := [(7, 0)] }, 7, 0, (by decide +kernel), (by decide +kernel), (by decide +kernel), (by decide +kernel), (by decide +kernel)⟩⟩

/-- The hypotheses of each clause of Obligations.CustodyStreaming are met. -/
theorem test_witness_custody_streaming :
    (∃ (s : State), awake s ∧ 128 ≤ inflight s) ∧
    (∃ (s : State) (l : Nat), awake s ∧ inflight s < 128 ∧ s.cus.state ≠ 4 ∧ s.cus.job = true ∧ s.cus.restart = 0 ∧ (cursor s 8).head ≠ [] ∧ List.length (cursor s 8).infl < 24 ∧ cursorPick s 8 = some l) ∧
    (∃ (s : State) (c : Nat) (l : Nat) (leaf : BitVec 24) (bytes : List Byte) (t : Tree), awake s ∧ leaf.toNat = l ∧ c < 9 ∧ tfind (cursor s c).infl l = some true ∧ (c = 8 ∨ writesAcked s (dnPort c) l = true) ∧ (∀ (b : Nat), b < c → tfind (cursor s b).infl l ≠ some true) ∧ s.cus.tree = some t ∧ t.leaves[l]? ≠ some (merkleLeaf l bytes)) ∧
    (∃ (s : State) (c : Nat) (l : Nat) (leaf : BitVec 24) (bytes : List Byte) (t : Tree), awake s ∧ leaf.toNat = l ∧ c < 8 ∧ tfind (cursor s c).infl l = some true ∧ writesAcked s (dnPort c) l = true ∧ (∀ (b : Nat), b < c → tfind (cursor s b).infl l ≠ some true) ∧ s.cus.tree = some t ∧ t.leaves[l]? = some (merkleLeaf l bytes)) ∧
    (∃ (s : State) (l : Nat) (leaf : BitVec 24) (bytes : List Byte) (t : Tree), awake s ∧ leaf.toNat = l ∧ tfind (cursor s 8).infl l = some true ∧ (∀ (b : Nat), b < 8 → tfind (cursor s b).infl l ≠ some true) ∧ s.cus.tree = some t ∧ t.leaves[l]? = some (merkleLeaf l bytes)) ∧
    (∃ (s : State) (k : Fin 8) (leaf : BitVec 24), awake s ∧ (tfind (cursor s ↑k).waits leaf.toNat).isSome = true ∧ portActive s (dnPort ↑k) = true) ∧
    (∃ (s : State) (k : Fin 8) (leaf : BitVec 24) (t : Time) (n : Nat), awake s ∧ tfind (cursor s ↑k).waits leaf.toNat = some (t, n) ∧ t + 10000000 ≤ s.now ∧ s.cus.state = 4 ∧ n < 2) ∧
    (∃ (s : State) (k : Fin 8) (leaf : BitVec 24) (t : Time) (n : Nat), awake s ∧ tfind (cursor s ↑k).waits leaf.toNat = some (t, n) ∧ t + 10000000 ≤ s.now ∧ s.cus.state = 4 ∧ 2 ≤ n) ∧
    (∃ (s : State) (r : ResumeRec), awake s ∧ s.und.resume = some r ∧ s.und.resumeC = some r ∧ s.cus.state = 0 ∧ procRunning s Proc.cus = true ∧ (r.state = 4 ∨ r.state = 5) ∧ noInjection uCUS s) ∧
    (∃ (s : State) (r : ResumeRec), awake s ∧ s.und.resume = some r ∧ s.und.resumeC ≠ some r ∧ s.cus.state = 0 ∧ procRunning s Proc.cus = true ∧ noInjection uCUS s) ∧
    (∃ (s : State) (flips : List (Nat × Nat × Byte)) (u : State), awake s ∧ s.cus.job = true ∧ s.cus.scrubAt + fld (liveWord s 1310848) 7 0 * 3600 * 1000000000 ≤ s.now ∧ u = decayRemnant flips s) :=
  ⟨⟨{ up with cus.cursors := [(0, { infl := (List.range 128).map (fun i => (i, true)) })] }, (by decide +kernel), (by decide +kernel)⟩,
    ⟨{ up with cus.job := true, cus.cursors := [(8, { head := [3] })] }, 3, (by decide +kernel), (by decide +kernel), (by decide +kernel), (by decide +kernel), (by decide +kernel), (by decide +kernel), (by decide +kernel), (by decide +kernel)⟩,
    ⟨{ up with cus.cursors := [(8, { infl := [(0xFFFFFF, true)] })], cus.tree := some ⟨0, []⟩ }, 8, 0xFFFFFF, (0xFFFFFF#24), [], ⟨0, []⟩, (by decide +kernel), (by decide +kernel), (by decide +kernel), (by decide +kernel), (by decide +kernel), (by decide +kernel), (by decide +kernel), (fun h => nomatch h)⟩,
    ⟨{ up with cus.cursors := [(7, { infl := [(0, true)] })], cus.tree := some ⟨0, [merkleLeaf 0 []]⟩ }, 7, 0, (0#24), [], ⟨0, [merkleLeaf 0 []]⟩, (by decide +kernel), (by decide +kernel), (by decide +kernel), (by decide +kernel), (by decide +kernel), (by decide +kernel), rfl, rfl⟩,
    ⟨{ up with cus.cursors := [(8, { infl := [(0, true)] })], cus.tree := some ⟨0, [merkleLeaf 0 []]⟩ }, 0, (0#24), [], ⟨0, [merkleLeaf 0 []]⟩, (by decide +kernel), (by decide +kernel), (by decide +kernel), (by decide +kernel), rfl, rfl⟩,
    ⟨{ up with cus.cursors := [(7, { waits := [(0xFFFFFF, (0, 0))] })], gcl.port := [(8, { state := 5 })] }, 7, (0xFFFFFF#24), (by decide +kernel), (by decide +kernel), (by decide +kernel)⟩,
    ⟨{ up with cus.state := 4, cus.cursors := [(7, { waits := [(0xFFFFFF, (0, 1))] })] }, 7, (0xFFFFFF#24), 0, 1, (by decide +kernel), (by decide +kernel), (by decide +kernel), (by decide +kernel), (by decide +kernel)⟩,
    ⟨{ up with cus.state := 4, cus.cursors := [(7, { waits := [(0xFFFFFF, (0, 2))] })] }, 7, (0xFFFFFF#24), 0, 2, (by decide +kernel), (by decide +kernel), (by decide +kernel), (by decide +kernel), (by decide +kernel)⟩,
    ⟨{ up with und.resume := some res0, und.resumeC := some res0, procs := [(3, { state := .ready })] }, res0, (by decide +kernel), (by decide +kernel), (by decide +kernel), (by decide +kernel), (by decide +kernel), (by decide +kernel), (by decide +kernel)⟩,
    ⟨{ up with und.resume := some res0, procs := [(3, { state := .ready })] }, res0, (by decide +kernel), (by decide +kernel), (by decide +kernel), (by decide +kernel), (by decide +kernel), (by decide +kernel)⟩,
    ⟨{ up with cus.job := true }, [], _, (by decide +kernel), (by decide +kernel), (by decide +kernel), rfl⟩⟩

/-- The hypotheses of each clause of Obligations.JobRestart are met. -/
theorem test_witness_job_restart :
    (∃ (s : State) (k : Fin 8), awake s ∧ portActive s (dnPort ↑k) = true ∧ (jobMask s).contains ↑k = true) ∧
    (∃ (s : State) (path : Path), awake s ∧ path ≠ Path.proc Proc.cus ∧ path ≠ Path.proc Proc.sec) ∧
    (∃ (s : State) (path : Path) (tag : Byte), awake s ∧ (path = Path.proc Proc.cus ∨ path = Path.proc Proc.sec) ∧ BitVec.toNat tag ≠ lastTag s 1310864 ∧ s.cus.job = true ∧ s.cus.restart = 0) ∧
    (∃ (s : State) (path : Path) (tag : Byte), awake s ∧ (path = Path.proc Proc.cus ∨ path = Path.proc Proc.sec) ∧ BitVec.toNat tag ≠ lastTag s 1310864 ∧ s.cus.job = true) ∧
    (∃ (s : State) (path : Path) (tag : Byte), awake s ∧ (path = Path.proc Proc.cus ∨ path = Path.proc Proc.sec) ∧ BitVec.toNat tag ≠ lastTag s 1310864 ∧ s.cus.restart = 7) ∧
    (∃ (s : State), awake s ∧ procRunning s Proc.cus = true ∧ s.cus.restart = 1 ∧ s.cus.since + abortHoldNs s ≤ s.now) ∧
    (∃ (s : State), awake s ∧ procRunning s Proc.cus = true ∧ s.cus.restart = 2 ∧ cusPolicy s = 0) ∧
    (∃ (s : State), awake s ∧ procRunning s Proc.cus = true ∧ s.cus.restart = 2 ∧ cusPolicy s ≠ 0 ∧ s.cus.pwrRetry = none ∧ (∀ (k : Nat), k < 8 → slotState s k = 1)) ∧
    (∃ (s : State), awake s ∧ procRunning s Proc.cus = true ∧ s.cus.restart = 5 ∧ jobReady s = true) ∧
    (∃ (s : State), awake s ∧ procRunning s Proc.cus = true ∧ s.cus.restart = 5 ∧ s.cus.since + readyMin s * 60000000000 ≤ s.now) ∧
    (∃ (s : State) (t : Time), awake s ∧ procRunning s Proc.cus = true ∧ s.cus.pwrRetry = some t ∧ t + 10000000 ≤ s.now ∧ s.cus.restart ≠ 3) ∧
    (∃ (s : State) (t : Time), awake s ∧ procRunning s Proc.cus = true ∧ s.cus.pwrRetry = some t ∧ t + 10000000 ≤ s.now ∧ s.cus.restart = 3 ∧ s.cus.cycled = []) :=
  ⟨⟨{ up with gcl.port := [(8, { state := 5 })], cus.mask := 0x80 }, 7, (by decide +kernel), (by decide +kernel), (by decide +kernel)⟩,
    ⟨up, Path.none, (by decide +kernel), (by decide +kernel), (by decide +kernel)⟩,
    ⟨{ up with cus.job := true }, (Path.proc .cus), (1#8), (by decide +kernel), (by decide +kernel), (by decide +kernel), (by decide +kernel), (by decide +kernel)⟩,
    ⟨{ up with cus.job := true }, (Path.proc .cus), (1#8), (by decide +kernel), (by decide +kernel), (by decide +kernel), (by decide +kernel)⟩,
    ⟨{ up with cus.restart := 7 }, (Path.proc .sec), (1#8), (by decide +kernel), (by decide +kernel), (by decide +kernel), (by decide +kernel)⟩,
    ⟨{ up with procs := [(3, { state := .ready })], cus.restart := 1 }, (by decide +kernel), (by decide +kernel), (by decide +kernel), (by decide +kernel)⟩,
    ⟨{ up with procs := [(3, { state := .ready })], cus.restart := 2, regs.live := [(0x140078, 0)] }, (by decide +kernel), (by decide +kernel), (by decide +kernel), (by decide +kernel)⟩,
    ⟨{ up with procs := [(3, { state := .ready })], cus.restart := 2, regs.live := [(0x140078, 1)], seq.slotState := (List.range 8).map (fun k => (k, 1)) }, (by decide +kernel), (by decide +kernel), (by decide +kernel), (by decide +kernel), (by decide +kernel), (by decide +kernel)⟩,
    ⟨{ up with procs := [(3, { state := .ready })], cus.restart := 5 }, (by decide +kernel), (by decide +kernel), (by decide +kernel), (by decide +kernel)⟩,
    ⟨{ up with procs := [(3, { state := .ready })], cus.restart := 5 }, (by decide +kernel), (by decide +kernel), (by decide +kernel), (by decide +kernel)⟩,
    ⟨{ up with procs := [(3, { state := .ready })], cus.pwrRetry := some 0 }, 0, (by decide +kernel), (by decide +kernel), (by decide +kernel), (by decide +kernel), (by decide +kernel)⟩,
    ⟨{ up with procs := [(3, { state := .ready })], cus.pwrRetry := some 0, cus.restart := 3 }, 0, (by decide +kernel), (by decide +kernel), (by decide +kernel), (by decide +kernel), (by decide +kernel), (by decide +kernel)⟩⟩

/-- The hypotheses of each clause of Obligations.LinkWidthsAndReplay are met. -/
theorem test_witness_link_widths_and_replay :
    (∃ (p : Nat) (u : Nat) (i : Nat), (chooseWidth p u).snd.testBit i = true) ∧
    (∃ (p : Nat), p ≤ 10) ∧
    (∃ (p : Nat), p ≠ 0) ∧
    (∃ (d : Nat) (q : GclPort), q.buf.length ≤ d) :=
  ⟨⟨0, 0xFFFF, 15, (by decide +kernel)⟩,
    ⟨10, (by decide +kernel)⟩,
    ⟨10, (by decide +kernel)⟩,
    ⟨0, {}, (by decide +kernel)⟩⟩

/-- The hypotheses of each clause of Obligations.PortTraining are met. -/
theorem test_witness_port_training :
    (∃ (s : State) (path : Path) (p : Fin 11) (tag : Byte), awake s ∧ (path = Path.proc Proc.hst ∨ path = Path.proc Proc.sec) ∧ BitVec.toNat tag ≠ lastTag s (1445892 + 256 * ↑p)) ∧
    (∃ (s : State) (path : Path) (p : Fin 11) (tag : Byte), awake s ∧ (path = Path.proc Proc.hst ∨ path = Path.proc Proc.sec) ∧ BitVec.toNat tag ≠ lastTag s (1445892 + 256 * ↑p) ∧ (gclPort s ↑p).state ≠ 0 ∧ (gclPort s ↑p).state ≠ 8) ∧
    (∃ (s : State) (path : Path) (p : Fin 11) (tag : Byte), awake s ∧ (path = Path.proc Proc.hst ∨ path = Path.proc Proc.sec) ∧ BitVec.toNat tag ≠ lastTag s (1445892 + 256 * ↑p) ∧ (gclPort s ↑p).state = 0) ∧
    (∃ (s : State) (path : Path), awake s ∧ path ≠ Path.proc Proc.hst ∧ path ≠ Path.proc Proc.sec) ∧
    (∃ (s : State) (p : Fin 11), awake s ∧ (gclPort s ↑p).state = 1) ∧
    (∃ (s : State) (p : Fin 11) (own : BitVec 16) (peer : BitVec 16) (w : Nat) (m : Nat), awake s ∧ (gclPort s ↑p).state = 2 ∧ (gclPort s ↑p).at_ + 1000000 ≤ s.now ∧ (gclPort s ↑p).testAll = true ∧ chooseWidth (↑p) (own.toNat &&& peer.toNat &&& 2 ^ fullLanes ↑p - 1) = (w, m) ∧ w ≠ 0) ∧
    (∃ (s : State) (p : Fin 11), awake s ∧ (gclPort s ↑p).state = 3 ∧ (gclPort s ↑p).at_ + 100000 ≤ s.now) ∧
    (∃ (s : State) (p : Fin 11) (r : ConfigRec), awake s ∧ (gclPort s ↑p).state = 4 ∧ r.version / 256 = 1 ∧ r.role = wantRole ↑p ∧ r.width = (gclPort s ↑p).width) ∧
    (∃ (s : State) (p : Fin 11) (r : ConfigRec), awake s ∧ (gclPort s ↑p).state = 4 ∧ (r.version / 256 ≠ 1 ∨ r.role ≠ wantRole ↑p)) ∧
    (∃ (s : State) (p : Fin 11), awake s ∧ (gclPort s ↑p).state ∈ [1, 2, 3, 4, 6] ∧ (gclPort s ↑p).trainAt + 50000000 ≤ s.now) ∧
    (∃ (s : State) (p : Fin 11), awake s ∧ (gclPort s ↑p).state = 8 ∧ (gclPort s ↑p).at_ + 1000000000 ≤ s.now) ∧
    (∃ (s : State) (p : Fin 11), awake s ∧ (gclPort s ↑p).state = 5) ∧
    (∃ (s : State) (p : Fin 11), awake s ∧ (gclPort s ↑p).state = 5 ∧ (gclPort s ↑p).queue = []) ∧
    (∃ (s : State) (p : Fin 11), awake s ∧ (gclPort s ↑p).state = 7) ∧
    (∃ (s : State) (p : Fin 11), awake s ∧ (gclPort s ↑p).state = 6) :=
  ⟨⟨up, (Path.proc .hst), 10, (1#8), (by decide +kernel), (by decide +kernel), (by decide +kernel)⟩,
    ⟨{ up with gcl.port := [(10, { state := 7 })] }, (Path.proc .hst), 10, (1#8), (by decide +kernel), (by decide +kernel), (by decide +kernel), (by decide +kernel), (by decide +kernel)⟩,
    ⟨up, (Path.proc .sec), 10, (1#8), (by decide +kernel), (by decide +kernel), (by decide +kernel), (by decide +kernel)⟩,
    ⟨up, Path.up, (by decide +kernel), (by decide +kernel), (by decide +kernel)⟩,
    ⟨{ up with gcl.port := [(10, { state := 1 })] }, 10, (by decide +kernel), (by decide +kernel)⟩,
    ⟨{ up with gcl.port := [(10, { state := 2, testAll := true })] }, 10, (15#16), (15#16), 4, 15, (by decide +kernel), (by decide +kernel), (by decide +kernel), (by decide +kernel), (by decide +kernel), (by decide +kernel)⟩,
    ⟨{ up with gcl.port := [(10, { state := 3 })] }, 10, (by decide +kernel), (by decide +kernel), (by decide +kernel)⟩,
    ⟨{ up with gcl.port := [(10, { state := 4, width := 4 })] }, 10, ⟨256, 2, 0, 4, 0, [], 0⟩, (by decide +kernel), (by decide +kernel), (by decide +kernel), (by decide +kernel), (by decide +kernel)⟩,
    ⟨{ up with gcl.port := [(10, { state := 4 })] }, 10, ⟨0, 0, 0, 0, 0, [], 0⟩, (by decide +kernel), (by decide +kernel), (by decide +kernel)⟩,
    ⟨{ up with gcl.port := [(10, { state := 6 })] }, 10, (by decide +kernel), (by decide +kernel), (by decide +kernel)⟩,
    ⟨{ up with gcl.port := [(10, { state := 8 })] }, 10, (by decide +kernel), (by decide +kernel), (by decide +kernel)⟩,
    ⟨{ up with gcl.port := [(10, { state := 5 })] }, 10, (by decide +kernel), (by decide +kernel)⟩,
    ⟨{ up with gcl.port := [(10, { state := 5 })] }, 10, (by decide +kernel), (by decide +kernel), (by decide +kernel)⟩,
    ⟨{ up with gcl.port := [(10, { state := 7 })] }, 10, (by decide +kernel), (by decide +kernel)⟩,
    ⟨{ up with gcl.port := [(10, { state := 6 })] }, 10, (by decide +kernel), (by decide +kernel)⟩⟩

/-- The hypotheses of each clause of Obligations.LinkTraffic are met. -/
theorem test_witness_link_traffic :
    (∃ (s : State) (p : Fin 11) (f : Flit), awake s ∧ (gclPort s ↑p).state = 5 ∧ f.corr = 0 ∧ f.uncorr = 0 ∧ (gclPort s ↑p).badTimes.length ≤ 16 ∧ noInjection uGCL s ∧ f.crcOk = false) ∧
    (∃ (s : State) (p : Fin 11) (f : Flit), awake s ∧ (gclPort s ↑p).state = 5 ∧ f.corr = 0 ∧ f.uncorr = 0 ∧ (gclPort s ↑p).badTimes.length ≤ 16 ∧ noInjection uGCL s ∧ f.crcOk = true ∧ f.nak = false ∧ f.ackValid = false ∧ (∀ (x : TxFlit), x ∈ (gclPort s ↑p).buf → x.replays < 4) ∧ f.crClass = 7 ∧ 2 ≤ f.typ) ∧
    (∃ (s : State) (p : Fin 11) (f : Flit), awake s ∧ (gclPort s ↑p).state = 5 ∧ f.corr = 0 ∧ f.uncorr = 0 ∧ (gclPort s ↑p).badTimes.length ≤ 16 ∧ noInjection uGCL s ∧ f.crcOk = true ∧ f.nak = false ∧ f.ackValid = false ∧ (∀ (x : TxFlit), x ∈ (gclPort s ↑p).buf → x.replays < 4) ∧ f.crClass = 7 ∧ f.typ ≤ 1 ∧ f.fseq ≠ (gclPort s ↑p).rxNext) ∧
    (∃ (s : State) (p : Fin 11) (f : Flit), awake s ∧ (gclPort s ↑p).state = 5 ∧ f.corr = 0 ∧ f.uncorr = 0 ∧ (gclPort s ↑p).badTimes.length ≤ 16 ∧ noInjection uGCL s ∧ f.crcOk = true ∧ f.nak = false ∧ f.ackValid = false ∧ f.crClass = 7 ∧ f.typ = 0 ∧ f.fseq = (gclPort s ↑p).rxNext) ∧
    (∃ (s : State) (p : Fin 11), awake s ∧ (gclPort s ↑p).state = 5) ∧
    (∃ (s : State) (p : Fin 11), awake s ∧ (gclPort s ↑p).state = 5) ∧
    (∃ (s : State) (p : Fin 11) (a : BitVec 48) (path : Path), awake s ∧ (gclPort s ↑p).state = 5 ∧ csrPath s ↑p = some path ∧ a.toNat < 16777216 ∧ csrStatus a.toNat = 0) ∧
    (∃ (s : State) (p : Fin 11) (a : BitVec 48) (path : Path), awake s ∧ (gclPort s ↑p).state = 5 ∧ csrPath s ↑p = some path ∧ a.toNat < 16777216) ∧
    (∃ (s : State) (p : Fin 11) (a : BitVec 48), awake s ∧ (gclPort s ↑p).state = 5 ∧ (a.toNat < 140737488355328 ∨ regionOf s (a.toNat - 140737488355328) ≠ 0)) ∧
    (∃ (s : State) (p : Fin 11) (tag : BitVec 13) (r : OutReq) (c : Nat) (l : Nat) (i : Nat), awake s ∧ (gclPort s ↑p).state = 5 ∧ List.find? (fun r => r.tag == tag.toNat) (gclPort s ↑p).reqs = some r ∧ r.owner = ReqOwner.leaf c l i) ∧
    (∃ (s : State) (p : Fin 11) (tag : BitVec 13) (r : OutReq) (c : Nat) (l : Nat) (i : Nat), awake s ∧ List.find? (fun r => r.tag == tag.toNat) (gclPort s ↑p).reqs = some r ∧ r.sent + 100000000 ≤ s.now ∧ r.owner = ReqOwner.leaf c l i) ∧
    (∃ (s : State), awake s ∧ (gclPort s 0).state = 5) ∧
    (∃ (s : State) (pg : BitVec 36) (n : Snoop), awake s ∧ (gclPort s 0).state = 5 ∧ List.find? (fun n => n.page == pg.toNat) s.gcl.snoops = some n) ∧
    (∃ (s : State) (pg : BitVec 36) (n : Snoop), awake s ∧ List.find? (fun n => n.page == pg.toNat) s.gcl.snoops = some n ∧ n.sent + 10000000 ≤ s.now ∧ n.sends < 5) ∧
    (∃ (s : State) (p : Fin 11), awake s ∧ (gclPort s ↑p).state = 5 ∧ followsTime s ↑p = true) ∧
    (∃ (s : State) (p : Fin 11), awake s ∧ (gclPort s ↑p).state = 5 ∧ followsTime s ↑p = false) ∧
    (∃ (s : State) (p : Fin 11), awake s ∧ (gclPort s ↑p).state = 5 ∧ followsTime s ↑p = true ∧ gclTimeEn s = false) :=
  ⟨⟨{ up with gcl.port := port5 }, 0, flit0, (by decide +kernel), (by decide +kernel), (by decide +kernel), (by decide +kernel), (by decide +kernel), (by decide +kernel), (by decide +kernel)⟩,
    ⟨{ up with gcl.port := port5 }, 0, { flit0 with crcOk := true }, (by decide +kernel), (by decide +kernel), (by decide +kernel), (by decide +kernel), (by decide +kernel), (by decide +kernel), (by decide +kernel), (by decide +kernel), (by decide +kernel), (by decide +kernel), (by decide +kernel), (by decide +kernel)⟩,
    ⟨{ up with gcl.port := port5 }, 0, { flit0 with crcOk := true, typ := 1, fseq := 1 }, (by decide +kernel), (by decide +kernel), (by decide +kernel), (by decide +kernel), (by decide +kernel), (by decide +kernel), (by decide +kernel), (by decide +kernel), (by decide +kernel), (by decide +kernel), (by decide +kernel), (by decide +kernel), (by decide +kernel)⟩,
    ⟨{ up with gcl.port := port5 }, 0, { flit0 with crcOk := true, typ := 0, fseq := 0 }, (by decide +kernel), (by decide +kernel), (by decide +kernel), (by decide +kernel), (by decide +kernel), (by decide +kernel), (by decide +kernel), (by decide +kernel), (by decide +kernel), (by decide +kernel), (by decide +kernel), (by decide +kernel)⟩,
    ⟨{ up with gcl.port := port5 }, 0, (by decide +kernel), (by decide +kernel)⟩,
    ⟨{ up with gcl.port := port5 }, 0, (by decide +kernel), (by decide +kernel)⟩,
    ⟨{ up with gcl.port := port5 }, 0, (0#48), Path.up, (by decide +kernel), (by decide +kernel), (by decide +kernel), (by decide +kernel), (by decide +kernel)⟩,
    ⟨{ up with gcl.port := port5 }, 0, (0xFFFFFF#48), Path.up, (by decide +kernel), (by decide +kernel), (by decide +kernel), (by decide +kernel)⟩,
    ⟨{ up with gcl.port := port5 }, 0, (0x7FFFFFFFFFFF#48), (by decide +kernel), (by decide +kernel), (by decide +kernel)⟩,
    ⟨{ up with gcl.port := [(0, { state := 5, reqs := [⟨0, .leaf 0 0 0, 0⟩] })] }, 0, (0#13), ⟨0, .leaf 0 0 0, 0⟩, 0, 0, 0, (by decide +kernel), (by decide +kernel), (by decide +kernel), (by decide +kernel)⟩,
    ⟨{ up with gcl.port := [(0, { state := 5, reqs := [⟨0, .leaf 0 0 0, 0⟩] })] }, 0, (0#13), ⟨0, .leaf 0 0 0, 0⟩, 0, 0, 0, (by decide +kernel), (by decide +kernel), (by decide +kernel), (by decide +kernel)⟩,
    ⟨{ up with gcl.port := port5 }, (by decide +kernel), (by decide +kernel)⟩,
    ⟨{ up with gcl.port := port5, gcl.snoops := [⟨0, 0, 0, false, []⟩] }, (0#36), ⟨0, 0, 0, false, []⟩, (by decide +kernel), (by decide +kernel), (by decide +kernel)⟩,
    ⟨{ up with gcl.snoops := [⟨0, 0, 4, false, []⟩] }, (0#36), ⟨0, 0, 4, false, []⟩, (by decide +kernel), (by decide +kernel), (by decide +kernel), (by decide +kernel)⟩,
    ⟨{ up with gcl.port := [(0, { state := 5 })] }, 0, (by decide +kernel), (by decide +kernel), (by decide +kernel)⟩,
    ⟨{ up with gcl.port := [(10, { state := 5 })] }, 10, (by decide +kernel), (by decide +kernel), (by decide +kernel)⟩,
    ⟨{ up with gcl.port := port5, regs.live := [(0x170010, 0)] }, 0, (by decide +kernel), (by decide +kernel), (by decide +kernel), (by decide +kernel)⟩⟩

/-- The hypotheses of each clause of Obligations.RecorderAuthority are met. -/
theorem test_witness_recorder_authority :
    (∃ (s : State) (path : Path) (o : BitVec 24), awake s ∧ path ≠ Path.proc Proc.recd ∧ path ≠ Path.proc Proc.sec ∧ o ∈ [1377024#24, 1377028#24, 1377040#24, 1377044#24]) ∧
    (∃ (s : State) (path : Path), awake s ∧ path ≠ Path.proc Proc.recd ∧ path ≠ Path.proc Proc.sec) ∧
    (∃ (s : State) (path : Path), awake s ∧ (path = Path.proc Proc.recd ∨ path = Path.proc Proc.sec)) :=
  ⟨⟨up, (Path.proc .pwr), (1377044#24), (by decide +kernel), (by decide +kernel), (by decide +kernel), (by decide +kernel)⟩,
    ⟨up, Path.up, (by decide +kernel), (by decide +kernel), (by decide +kernel)⟩,
    ⟨up, (Path.proc .recd), (by decide +kernel), (by decide +kernel)⟩⟩

/-- The hypotheses of each clause of Obligations.MemoryAndArbiter are met. -/
theorem test_witness_memory_and_arbiter :
    (∃ (s : State) (i : Fin 8), awake s ∧ s.sec.phase ≠ 0 ∧ List.contains s.mem.trained ↑i = false ∧ List.contains s.mem.failed ↑i = false) ∧
    (∃ (s : State) (i : Fin 8), awake s ∧ s.sec.phase ≠ 0 ∧ List.contains s.mem.trained ↑i = false ∧ List.contains s.mem.failed ↑i = false ∧ tget 0 s.mem.tries ↑i = 2) ∧
    (∃ (s : State) (a : BitVec 37), awake s ∧ regionOf s a.toNat = 5) ∧
    (∃ (s : State) (a : BitVec 37) (l : Nat), awake s ∧ regionOf s a.toNat = 0 ∧ remLeafAt s (a.toNat / 1048576) = some l) ∧
    (∃ (s : State) (a : BitVec 37), awake s ∧ regionOf s a.toNat = 2) ∧
    (∃ (s : State) (path : Path) (tag : Byte), awake s ∧ (path = Path.proc Proc.recd ∨ path = Path.proc Proc.sec) ∧ BitVec.toNat tag ≠ lastTag s 1377040) ∧
    (∃ (s : State) (path : Path) (tag : Byte), awake s ∧ (path = Path.proc Proc.recd ∨ path = Path.proc Proc.sec) ∧ BitVec.toNat tag ≠ lastTag s 1377040 ∧ s.mem.rcd.state = 3) ∧
    (∃ (s : State), awake s ∧ s.mem.rcd.state = 2 ∧ s.mem.rcd.since + fld (liveWord s 1377024) 5 0 * 1000000000 ≤ s.now) ∧
    (∃ (s : State), awake s ∧ s.mem.rcd.state = 3 ∧ s.mem.rcd.since + fld (liveWord s 1377024) 23 16 * 60000000000 ≤ s.now) ∧
    (∃ (s : State), awake s ∧ (s.mem.rcd.state = 1 ∨ s.mem.rcd.state = 2)) ∧
    (∃ (s : State) (i : Fin 34) (r : Fin 16), awake s ∧ arbCount ↑i ≤ ↑r) ∧
    (∃ (s : State) (i : Fin 34) (r : Fin 16), awake s ∧ ↑r < arbCount ↑i ∧ (arbReq s ↑i ↑r).queue.length < 8 ∧ 16 ≤ ↑i ∧ ↑i < 32) ∧
    (∃ (s : State) (i : Fin 34) (r : Fin 16), awake s ∧ ↑r < arbCount ↑i ∧ (arbReq s ↑i ↑r).queue.length < 8 ∧ (↑i < 16 ∨ 32 ≤ ↑i)) ∧
    (∃ (s : State) (i : Fin 34) (r : Fin 16), awake s ∧ ↑r < arbCount ↑i ∧ 8 ≤ (arbReq s ↑i ↑r).queue.length ∧ (↑i < 16 ∨ 32 ≤ ↑i)) ∧
    (∃ (s : State) (i : Fin 34) (r : Fin 16) (e : ArbEntry) (q : List ArbEntry) (t : Time), awake s ∧ (↑i < 16 ∨ 32 ≤ ↑i) ∧ (arbInst s ↑i).beats = [{ req := ↑r, start := t }] ∧ (arbInst s ↑i).lock = none ∧ (arbReq s ↑i ↑r).queue = e :: q ∧ e.left = 1) ∧
    (∃ (s : State) (i : Fin 34) (r : Fin 16) (o : TwOp), awake s ∧ 16 ≤ ↑i ∧ ↑i < 32 ∧ (twpPort s (↑i - 16)).cur = some o ∧ o.kind = TwKind.other ∧ twReq o.owner = ↑r) ∧
    (∃ (s : State) (i : Fin 34), awake s ∧ arbWindow s ↑i ≠ 0 ∧ (arbInst s ↑i).refilled / arbWindow s ↑i < s.now / arbWindow s ↑i ∧ (arbInst s ↑i).swap = none) ∧
    (∃ (s : State) (i : Fin 34) (l : ArbLock), awake s ∧ (↑i < 16 ∨ 32 ≤ ↑i) ∧ (arbInst s ↑i).lock = some l ∧ l.start + arbLockWd s ↑i * 1000 ≤ s.now) ∧
    (∃ (s : State) (i : Fin 34) (l : ArbLock), awake s ∧ 16 ≤ ↑i ∧ ↑i < 32 ∧ (arbInst s ↑i).lock = some l ∧ l.start + arbLockWd s ↑i * 1000 ≤ s.now) :=
  ⟨⟨{ up with sec.phase := 1 }, 7, (by decide +kernel), (by decide +kernel), (by decide +kernel), (by decide +kernel)⟩,
    ⟨{ up with sec.phase := 1, mem.tries := [(7, 2)] }, 7, (by decide +kernel), (by decide +kernel), (by decide +kernel), (by decide +kernel), (by decide +kernel)⟩,
    ⟨{ up with mem.regions := [0, 0, 0, 0, 0, 1] }, (0xFFFFF#37), (by decide +kernel), (by decide +kernel)⟩,
    ⟨{ up with mem.regions := [1], cus.man := some man0, cus.plan := { rem := [(0, 0)] } }, (0#37), 0, (by decide +kernel), (by decide +kernel), (by decide +kernel)⟩,
    ⟨{ up with mem.regions := [0, 0, 1] }, (0xFFFFF#37), (by decide +kernel), (by decide +kernel)⟩,
    ⟨up, (Path.proc .recd), (1#8), (by decide +kernel), (by decide +kernel), (by decide +kernel)⟩,
    ⟨{ up with mem.rcd.state := 3 }, (Path.proc .sec), (1#8), (by decide +kernel), (by decide +kernel), (by decide +kernel), (by decide +kernel)⟩,
    ⟨{ up with mem.rcd.state := 2 }, (by decide +kernel), (by decide +kernel), (by decide +kernel)⟩,
    ⟨{ up with mem.rcd.state := 3 }, (by decide +kernel), (by decide +kernel), (by decide +kernel)⟩,
    ⟨{ up with mem.rcd.state := 2 }, (by decide +kernel), (by decide +kernel)⟩,
    ⟨up, 33, 3, (by decide +kernel), (by decide +kernel)⟩,
    ⟨up, 16, 8, (by decide +kernel), (by decide +kernel), (by decide +kernel), (by decide +kernel), (by decide +kernel)⟩,
    ⟨up, 33, 2, (by decide +kernel), (by decide +kernel), (by decide +kernel), (by decide +kernel)⟩,
    ⟨{ up with arb.inst := [(15, { reqs := [(2, { queue := List.replicate 8 { stamp := 0, left := 1, cost := 1, lock := false } })] })] }, 15, 2, (by decide +kernel), (by decide +kernel), (by decide +kernel), (by decide +kernel)⟩,
    ⟨{ up with arb.inst := [(15, { beats := [⟨2, 0⟩], reqs := [(2, { queue := [{ stamp := 0, left := 1, cost := 1, lock := false }] })] })] }, 15, 2, { stamp := 0, left := 1, cost := 1, lock := false }, [], 0, (by decide +kernel), (by decide +kernel), (by decide +kernel), (by decide +kernel), (by decide +kernel), (by decide +kernel)⟩,
    ⟨{ up with twp.port := [(15, { cur := some { two0 with kind := .other } })] }, 31, 12, { two0 with kind := .other }, (by decide +kernel), (by decide +kernel), (by decide +kernel), (by decide +kernel), (by decide +kernel), (by decide +kernel)⟩,
    ⟨{ up with regs.live := [(arbBase 33 + 0x380, 1)] }, 33, (by decide +kernel), (by decide +kernel), (by decide +kernel), (by decide +kernel)⟩,
    ⟨{ up with arb.inst := [(32, { lock := some ⟨0, 0⟩ })] }, 32, ⟨0, 0⟩, (by decide +kernel), (by decide +kernel), (by decide +kernel), (by decide +kernel)⟩,
    ⟨{ up with arb.inst := [(31, { lock := some ⟨0, 0⟩ })] }, 31, ⟨0, 0⟩, (by decide +kernel), (by decide +kernel), (by decide +kernel), (by decide +kernel), (by decide +kernel)⟩⟩

/-- The hypotheses of each clause of Obligations.TwoWire are met. -/
theorem test_witness_two_wire :
    (∃ (s : State) (p : Fin 16) (a : BitVec 7), awake s ∧ targetAcks s (↑p) a.toNat = false) ∧
    (∃ (s : State) (p : Fin 16) (a : BitVec 7) (hi : Byte) (lo : Byte) (ptr : Nat) (u : State), awake s ∧ targetAcks s (↑p) a.toNat = true ∧ targetPointer (↑p) hi lo (updTwp (↑p) (fun x => { x with sclLow := false, deaf := false }) s) = (some ptr, u)) ∧
    (∃ (s : State) (p : Fin 16) (a : BitVec 7) (n : Nat) (r : List Word × State), awake s ∧ targetAcks s (↑p) a.toNat = true ∧ hasPec s ↑p = false ∧ 0 < n ∧ r = readWords (↑p) (twpPort s ↑p).page (((twpPort s ↑p).pointer % 4 + n + 3) / 4) ((twpPort s ↑p).pointer / 4 * 4) (updTwp (↑p) (fun x => { x with sclLow := false, deaf := false }) s)) ∧
    (∃ (s : State) (p : Fin 16) (a : BitVec 7) (n : Nat) (r : List Word × State), awake s ∧ targetAcks s (↑p) a.toNat = true ∧ hasPec s ↑p = true ∧ 0 < n ∧ r = readWords (↑p) (twpPort s ↑p).page ((n + 4) / 5) ((twpPort s ↑p).pointer / 4 * 4) (updTwp (↑p) (fun x => { x with sclLow := false, deaf := false }) s)) ∧
    (∃ (s : State) (p : Fin 16), awake s ∧ isTarget s ↑p = true) ∧
    (∃ (s : State) (k : Nat) (l : List Nat), awake s ∧ (twpPort s 0).alertPend = k :: l) ∧
    (∃ (s : State) (p : Fin 16), awake s ∧ isController s ↑p = true ∧ (twpRec s ↑p).smbus.testBit 2 = true ∧ (twpPort s ↑p).ignoreAt = none) ∧
    (∃ (s : State) (p : Fin 16) (t : Time), awake s ∧ (twpPort s ↑p).ignoreAt = some t ∧ t ≤ s.now) ∧
    (∃ (s : State) (p : Fin 16), awake s ∧ isTarget s ↑p = true ∧ (twpPort s ↑p).cur = none ∧ hasTimeout s ↑p = true) ∧
    (∃ (s : State) (p : Fin 16) (o : TwOp), awake s ∧ isController s ↑p = true ∧ (twpPort s ↑p).cur = some o ∧ hasTimeout s ↑p = true) ∧
    (∃ (s : State), awake s ∧ (twpPort s 0).cur = none ∧ (twpRec s 0).role ≠ 0) ∧
    (∃ (s : State) (p : Fin 16), awake s ∧ p ≠ 0 ∧ (twpPort s ↑p).cur = none ∧ isController s ↑p = true) ∧
    (∃ (s : State) (path : Path) (p : Fin 16) (tag : Byte), awake s ∧ path = Path.proc Proc.sec ∧ BitVec.toNat tag ≠ lastTag s (917796 + 4096 * ↑p) ∧ ↑p ≠ 0 ∧ isController s ↑p = true ∧ (twpPort s ↑p).stuck = false ∧ (twpPort s ↑p).sdaLow = false ∧ (twpPort s ↑p).pulseAt = none) ∧
    (∃ (s : State) (path : Path) (p : Fin 16) (tag : Byte), awake s ∧ path = Path.proc Proc.sec ∧ BitVec.toNat tag ≠ lastTag s (917796 + 4096 * ↑p) ∧ ↑p ≠ 0 ∧ isController s ↑p = true ∧ (twpRec s ↑p).resetPin ≤ 127 ∧ (twpPort s ↑p).lastPulse = none ∧ (latchOf s (HeldPin.en (twpRec s ↑p).resetPin)).held = false) ∧
    (∃ (s : State) (p : Fin 16) (t : Time), awake s ∧ (twpPort s ↑p).pulseAt = some t ∧ t + 1000000 ≤ s.now) ∧
    (∃ (s : State) (p : Fin 16) (t : Time), awake s ∧ (twpPort s ↑p).settleAt = some t ∧ t + 10000000 ≤ s.now) ∧
    (∃ (s : State) (p : Fin 16) (t : Time), awake s ∧ (twpPort s ↑p).retryAt = some t ∧ (twpPort s ↑p).stuck = true ∧ t ≤ s.now) ∧
    (∃ (s : State) (path : Path) (p : Fin 16) (k : Fin 5), awake s ∧ pathOk s path (fxBase ↑p ↑k) = true) ∧
    (∃ (s : State) (p : Fin 16) (r : Fin 13) (data : List Byte) (o : TwOp) (c : Nat × List Byte) (z : State), awake s ∧ (twpPort s ↑p).cur = some o ∧ ↑r ≠ 12 ∧ o.kind ≠ TwKind.other ∧ (twpPort s ↑p).curAbort = false ∧ ((c = if ↑r = 0 ∨ ↑r = 5 then twChecked s (↑p) o data else (↑r, data))) ∧ z = updTwp (↑p) (fun x => { x with cur := none, curAbort := false, clkEnd := none, sclLow := false }) s) ∧
    (∃ (s : State) (p : Fin 16) (a : BitVec 7), s.und.supply.porAsserted = false ∧ s.pmd.state = 3 ∧ (addrMatch s (↑p) a.toNat).isSome = true) :=
  ⟨⟨up, 15, (0x40#7), (by decide +kernel), (by decide +kernel)⟩,
    ⟨up, 0, (0x40#7), (0x1C#8), (0xFF#8), 0x1CFF, _, (by decide +kernel), (by decide +kernel), rfl⟩,
    ⟨up, 0, (0x40#7), 1, _, (by decide +kernel), (by decide +kernel), (by decide +kernel), (by decide +kernel), rfl⟩,
    ⟨{ up with twpCfg := [(0, { role := 2, smbus := 2, addrs := [0x40] })] }, 0, (0x40#7), 1, _, (by decide +kernel), (by decide +kernel), (by decide +kernel), (by decide +kernel), rfl⟩,
    ⟨up, 0, (by decide +kernel), (by decide +kernel)⟩,
    ⟨{ up with twp.port := [(0, { alertPend := [127] })] }, 127, [], (by decide +kernel), (by decide +kernel)⟩,
    ⟨{ up with twpCfg := [(15, { role := 1, smbus := 4 })] }, 15, (by decide +kernel), (by decide +kernel), (by decide +kernel), (by decide +kernel)⟩,
    ⟨{ up with twp.port := [(15, { ignoreAt := some 0 })] }, 15, 0, (by decide +kernel), (by decide +kernel), (by decide +kernel)⟩,
    ⟨{ up with twpCfg := [(15, { role := 2, smbus := 1 })] }, 15, (by decide +kernel), (by decide +kernel), (by decide +kernel), (by decide +kernel)⟩,
    ⟨{ up with twpCfg := [(15, { role := 1, smbus := 1 })], twp.port := [(15, { cur := some two0 })] }, 15, two0, (by decide +kernel), (by decide +kernel), (by decide +kernel), (by decide +kernel)⟩,
    ⟨up, (by decide +kernel), (by decide +kernel), (by decide +kernel)⟩,
    ⟨{ up with twpCfg := [(15, { role := 1 })] }, 15, (by decide +kernel), (by decide +kernel), (by decide +kernel), (by decide +kernel)⟩,
    ⟨{ up with twpCfg := [(15, { role := 3 })] }, (Path.proc .sec), 15, (1#8), (by decide +kernel), (by decide +kernel), (by decide +kernel), (by decide +kernel), (by decide +kernel), (by decide +kernel), (by decide +kernel), (by decide +kernel)⟩,
    ⟨{ up with twpCfg := [(15, { role := 1, resetPin := 127 })] }, (Path.proc .sec), 15, (1#8), (by decide +kernel), (by decide +kernel), (by decide +kernel), (by decide +kernel), (by decide +kernel), (by decide +kernel), (by decide +kernel), (by decide +kernel)⟩,
    ⟨{ up with twp.port := [(15, { pulseAt := some 0 })] }, 15, 0, (by decide +kernel), (by decide +kernel), (by decide +kernel)⟩,
    ⟨{ up with twp.port := [(15, { settleAt := some 0 })] }, 15, 0, (by decide +kernel), (by decide +kernel), (by decide +kernel)⟩,
    ⟨{ up with twp.port := [(15, { retryAt := some 0, stuck := true })] }, 15, 0, (by decide +kernel), (by decide +kernel), (by decide +kernel), (by decide +kernel)⟩,
    ⟨up, (Path.proc .recd), 15, 4, (by decide +kernel), (by decide +kernel)⟩,
    ⟨{ up with twp.port := [(15, { cur := some two0 })] }, 15, 0, [], two0, _, _, (by decide +kernel), (by decide +kernel), (by decide +kernel), (by decide +kernel), (by decide +kernel), rfl, rfl⟩,
    ⟨{ up with pmd.state := 3 }, 0, (0x40#7), (by decide +kernel), (by decide +kernel), (by decide +kernel)⟩⟩

/-- The hypotheses of each clause of Obligations.ProcessorsAndMailboxes are met. -/
theorem test_witness_processors_and_mailboxes :
    (∃ (s : State) (p : Proc) (tag : Byte), awake s ∧ BitVec.toNat tag ≠ lastTag s (65796 + 64 * p.num) ∧ (procSt s p).state = ProcState.held) ∧
    (∃ (s : State) (p : Proc) (tag : Byte), awake s ∧ BitVec.toNat tag ≠ lastTag s (65796 + 64 * p.num) ∧ (procSt s p).state ≠ ProcState.halted) ∧
    (∃ (s : State) (p : Proc) (w : Word), awake s ∧ fld w 15 0 = 165 ∧ (procSt s p).state = ProcState.starting) ∧
    (∃ (s : State) (w : Word), awake s ∧ fld w 15 0 = 165) ∧
    (∃ (s : State) (p : Proc), awake s ∧ (procSt s p).kick + procWdMs s p * 1000000 ≤ s.now) ∧
    (∃ (s : State), awake s) ∧
    (∃ (s : State) (p : Proc) (flips : List (Nat × Byte)), awake s ∧ (procSt s p).state = ProcState.restarting ∧ copyIntact s p flips = false ∧ p ≠ Proc.sec) ∧
    (∃ (s : State) (p : Proc), awake s ∧ (procSt s p).state = ProcState.reloading) ∧
    (∃ (s : State) (p : Proc) (r : OpenReq), awake s ∧ (procSt s p).state = ProcState.ready ∧ List.find? (fun r => r.handler == p && r.started) s.mbx.open_ = some r) ∧
    (∃ (s : State) (c : Fin 8) (r : OpenReq), awake s ∧ List.find? (fun r => r.chan == ↑c && decide (r.at_ + 2000000000 ≤ s.now)) s.mbx.open_ = some r) ∧
    (∃ (s : State) (w : Word), awake s ∧ fld w 15 0 = 165) ∧
    (∃ (s : State) (m : MbxMsg) (img : Option ImageRec) (e : Nat × Instr), awake s ∧ e ∈ [(1, Instr.ping m), (2, Instr.getInfo m), (3, Instr.csrRead m), (16, Instr.contractLoad m), (17, Instr.contractArm m), (18, Instr.contractCancel m), (19, Instr.ledgerRead m), (32, Instr.slotPower m), (33, Instr.trayPower m), (34, Instr.shutdownClear m), (35, Instr.motorClear m), (36, Instr.leakClear m), (40, Instr.locate m), (41, Instr.indicator m), (48, Instr.modelLoad m), (49, Instr.jobRestart m), (56, Instr.canopyLoad m img), (57, Instr.canopyCtrl m), (64, Instr.updateStage m), (65, Instr.updateActivate m), (66, Instr.updateStatus m), (72, Instr.attest m), (80, Instr.procRestart m), (81, Instr.chipReset m), (88, Instr.recorder m), (96, Instr.relay m)] ∧ noInjection uMBX s ∧ mbxReaches s ↑m.chan = true ∧ (↑m.chan = 4 → tget [] s.mbx.out 4 = []) ∧ mbxWireCheck m m.crcOk ≠ 0) ∧
    (∃ (s : State) (m : MbxMsg), awake s ∧ noInjection uMBX s ∧ mbxFits 1 m s) ∧
    (∃ (s : State) (m : MbxMsg), awake s ∧ noInjection uMBX s ∧ mbxFits 2 m s) ∧
    (∃ (s : State) (m : MbxMsg), awake s ∧ noInjection uMBX s ∧ mbxFits 3 m s) ∧
    (∃ (s : State) (m : MbxMsg), awake s ∧ noInjection uMBX s ∧ mbxFits 16 m s) ∧
    (∃ (s : State) (m : MbxMsg), awake s ∧ noInjection uMBX s ∧ mbxFits 17 m s) ∧
    (∃ (s : State) (m : MbxMsg), awake s ∧ noInjection uMBX s ∧ mbxFits 18 m s) ∧
    (∃ (s : State) (m : MbxMsg), awake s ∧ noInjection uMBX s ∧ mbxFits 19 m s) ∧
    (∃ (s : State) (m : MbxMsg), awake s ∧ noInjection uMBX s ∧ mbxFits 32 m s) ∧
    (∃ (s : State) (m : MbxMsg), awake s ∧ noInjection uMBX s ∧ mbxFits 33 m s) ∧
    (∃ (s : State) (m : MbxMsg), awake s ∧ noInjection uMBX s ∧ mbxFits 34 m s) ∧
    (∃ (s : State) (m : MbxMsg), awake s ∧ noInjection uMBX s ∧ mbxFits 35 m s) ∧
    (∃ (s : State) (m : MbxMsg), awake s ∧ noInjection uMBX s ∧ mbxFits 36 m s) ∧
    (∃ (s : State) (m : MbxMsg), awake s ∧ noInjection uMBX s ∧ mbxFits 40 m s) ∧
    (∃ (s : State) (m : MbxMsg), awake s ∧ noInjection uMBX s ∧ mbxFits 41 m s) ∧
    (∃ (s : State) (m : MbxMsg), awake s ∧ noInjection uMBX s ∧ mbxFits 48 m s) ∧
    (∃ (s : State) (m : MbxMsg), awake s ∧ noInjection uMBX s ∧ mbxFits 49 m s) ∧
    (∃ (s : State) (m : MbxMsg), awake s ∧ noInjection uMBX s ∧ mbxFits 56 m s) ∧
    (∃ (s : State) (m : MbxMsg), awake s ∧ noInjection uMBX s ∧ mbxFits 57 m s) ∧
    (∃ (s : State) (m : MbxMsg), awake s ∧ noInjection uMBX s ∧ mbxFits 64 m s) ∧
    (∃ (s : State) (m : MbxMsg), awake s ∧ noInjection uMBX s ∧ mbxFits 65 m s) ∧
    (∃ (s : State) (m : MbxMsg), awake s ∧ noInjection uMBX s ∧ mbxFits 66 m s) ∧
    (∃ (s : State) (m : MbxMsg), awake s ∧ noInjection uMBX s ∧ mbxFits 72 m s) ∧
    (∃ (s : State) (m : MbxMsg), awake s ∧ noInjection uMBX s ∧ mbxFits 80 m s) ∧
    (∃ (s : State) (m : MbxMsg), awake s ∧ noInjection uMBX s ∧ mbxFits 81 m s) ∧
    (∃ (s : State) (m : MbxMsg), awake s ∧ noInjection uMBX s ∧ mbxFits 88 m s) ∧
    (∃ (s : State) (m : MbxMsg), awake s ∧ noInjection uMBX s ∧ mbxFits 96 m s) :=
  ⟨⟨up, Proc.recd, (1#8), (by decide +kernel), (by decide +kernel), (by decide +kernel)⟩,
    ⟨up, Proc.recd, (1#8), (by decide +kernel), (by decide +kernel), (by decide +kernel)⟩,
    ⟨{ up with procs := [(0, { state := .starting })] }, Proc.sec, (0xA5#32), (by decide +kernel), (by decide +kernel), (by decide +kernel)⟩,
    ⟨up, (0xA5#32), (by decide +kernel), (by decide +kernel)⟩,
    ⟨up, Proc.recd, (by decide +kernel), (by decide +kernel)⟩,
    ⟨up, (by decide +kernel)⟩,
    ⟨{ up with procs := [(5, { state := .restarting })] }, Proc.recd, [], (by decide +kernel), (by decide +kernel), (by decide +kernel), (by decide +kernel)⟩,
    ⟨{ up with procs := [(5, { state := .reloading })] }, Proc.recd, (by decide +kernel), (by decide +kernel)⟩,
    ⟨{ up with procs := [(0, { state := .ready })], mbx.open_ := [open0] }, Proc.sec, open0, (by decide +kernel), (by decide +kernel), (by decide +kernel)⟩,
    ⟨{ up with mbx.open_ := [{ open0 with chan := 7 }] }, 7, { open0 with chan := 7 }, (by decide +kernel), (by decide +kernel)⟩,
    ⟨up, (0xA5#32), (by decide +kernel), (by decide +kernel)⟩,
    ⟨up, msg0, none, (1, .ping msg0), (by decide +kernel), (by decide +kernel), (by decide +kernel), (by decide +kernel), (by decide +kernel), (by decide +kernel)⟩,
    ⟨ready, msg1, (by decide +kernel), (by decide +kernel), (by decide +kernel)⟩,
    ⟨ready, msg1, (by decide +kernel), (by decide +kernel), (by decide +kernel)⟩,
    ⟨ready, msg1, (by decide +kernel), (by decide +kernel), (by decide +kernel)⟩,
    ⟨ready, msg1, (by decide +kernel), (by decide +kernel), (by decide +kernel)⟩,
    ⟨ready, msg1, (by decide +kernel), (by decide +kernel), (by decide +kernel)⟩,
    ⟨ready, msg1, (by decide +kernel), (by decide +kernel), (by decide +kernel)⟩,
    ⟨ready, msg1, (by decide +kernel), (by decide +kernel), (by decide +kernel)⟩,
    ⟨ready, msg1, (by decide +kernel), (by decide +kernel), (by decide +kernel)⟩,
    ⟨ready, msg1, (by decide +kernel), (by decide +kernel), (by decide +kernel)⟩,
    ⟨ready, msg1, (by decide +kernel), (by decide +kernel), (by decide +kernel)⟩,
    ⟨ready, msg1, (by decide +kernel), (by decide +kernel), (by decide +kernel)⟩,
    ⟨ready, msg1, (by decide +kernel), (by decide +kernel), (by decide +kernel)⟩,
    ⟨ready, msg1, (by decide +kernel), (by decide +kernel), (by decide +kernel)⟩,
    ⟨ready, msg1, (by decide +kernel), (by decide +kernel), (by decide +kernel)⟩,
    ⟨ready, msg1, (by decide +kernel), (by decide +kernel), (by decide +kernel)⟩,
    ⟨ready, msg1, (by decide +kernel), (by decide +kernel), (by decide +kernel)⟩,
    ⟨ready, msg1, (by decide +kernel), (by decide +kernel), (by decide +kernel)⟩,
    ⟨ready, msg1, (by decide +kernel), (by decide +kernel), (by decide +kernel)⟩,
    ⟨ready, msg1, (by decide +kernel), (by decide +kernel), (by decide +kernel)⟩,
    ⟨ready, msg1, (by decide +kernel), (by decide +kernel), (by decide +kernel)⟩,
    ⟨ready, msg1, (by decide +kernel), (by decide +kernel), (by decide +kernel)⟩,
    ⟨ready, msg1, (by decide +kernel), (by decide +kernel), (by decide +kernel)⟩,
    ⟨ready, msg1, (by decide +kernel), (by decide +kernel), (by decide +kernel)⟩,
    ⟨ready, msg1, (by decide +kernel), (by decide +kernel), (by decide +kernel)⟩,
    ⟨ready, msg1, (by decide +kernel), (by decide +kernel), (by decide +kernel)⟩,
    ⟨ready, msg1, (by decide +kernel), (by decide +kernel), (by decide +kernel)⟩⟩

/-- The hypotheses of each clause of Obligations.RecoveryKeysAndUpdate are met. -/
theorem test_witness_recovery_keys_and_update :
    (∃ (s : State) (path : Path) (tag : Byte), awake s ∧ (path = Path.up ∨ path = Path.twp0) ∧ s.sec.phase = 3 ∧ BitVec.toNat tag ≠ lastTag s 196640 ∧ BitVec.toNat (regWord s 196656) ≤ 16777216 ∧ (gclPort s 0).state = 5) ∧
    (∃ (s : State) (path : Path) (tag : Byte), awake s ∧ (path = Path.up ∨ path = Path.twp0) ∧ s.sec.phase = 3 ∧ BitVec.toNat tag ≠ lastTag s 196640) ∧
    (∃ (s : State) (path : Path) (tag : Byte), awake s ∧ (path = Path.up ∨ path = Path.twp0) ∧ s.sec.phase = 3 ∧ BitVec.toNat tag ≠ lastTag s 196640 ∧ BitVec.toNat (regWord s 196656) ≤ 4096 ∧ s.sec.candLen + BitVec.toNat (regWord s 196656) ≤ 16777216) ∧
    (∃ (s : State) (path : Path) (tag : Byte), awake s ∧ (path = Path.up ∨ path = Path.twp0) ∧ s.sec.phase = 3 ∧ BitVec.toNat tag ≠ lastTag s 196640 ∧ s.sec.cand = none) ∧
    (∃ (s : State) (path : Path) (tag : Byte), awake s ∧ (path = Path.up ∨ path = Path.twp0) ∧ s.sec.phase = 3 ∧ BitVec.toNat tag ≠ lastTag s 196640) ∧
    (∃ (s : State) (t : Nat), awake s ∧ s.sec.pulling = some t) ∧
    (∃ (s : State) (path : Path) (tag : Byte) (r : List Byte), awake s ∧ (path = Path.twp0 ∨ path = Path.tap) ∧ BitVec.toNat tag ≠ lastTag s 197120 ∧ keyJudge s path (fillKeyBuf r s).sec.keyBuf = 0) ∧
    (∃ (s : State) (j : FuseJob), awake s ∧ s.sec.fuseJob = some j) ∧
    (∃ (s : State) (p : Package), awake s ∧ s.upd.record.state = 1 ∧ procRunning s Proc.hst = true ∧ packageCheck s (1 - s.upd.record.inForce) p ≠ 0) ∧
    (∃ (s : State) (path : Path) (tag : Byte), awake s ∧ (path = Path.proc Proc.hst ∨ path = Path.proc Proc.sec) ∧ BitVec.toNat tag ≠ lastTag s 1835024 ∧ s.upd.record.state = 2 ∧ s.upd.staged.isSome = true) ∧
    (∃ (s : State) (path : Path) (tag : Byte), awake s ∧ (path = Path.proc Proc.hst ∨ path = Path.proc Proc.sec) ∧ BitVec.toNat tag ≠ lastTag s 1835024 ∧ (s.upd.record.state = 3 ∨ s.upd.record.state = 4)) ∧
    (∃ (s : State) (path : Path) (tag : Byte), awake s ∧ (path = Path.proc Proc.hst ∨ path = Path.proc Proc.sec) ∧ BitVec.toNat tag ≠ lastTag s 1835024 ∧ s.upd.record.state = 6 ∧ s.upd.event = none) ∧
    (∃ (s : State), awake s ∧ s.upd.record.state = 3 ∧ s.upd.record.mode = 1 ∧ s.upd.record.armTime ≤ s.now) ∧
    (∃ (s : State), awake s ∧ s.upd.record.state = 4 ∧ deferBlocked s = false ∧ s.now ≤ s.upd.record.windowEnd) ∧
    (∃ (s : State), awake s ∧ s.upd.record.state = 4 ∧ s.upd.record.windowEnd ≤ s.now) ∧
    (∃ (s : State), awake s ∧ s.upd.record.state = 5 ∧ s.upd.proving = true ∧ emergency s = false ∧ s.upd.staged = none) ∧
    (∃ (s : State) (t : FlashSet), awake s ∧ s.upd.record.state = 5 ∧ s.upd.proving = true ∧ emergency s = false ∧ s.upd.staged = some t ∧ (proveSet s t).fst = 0) ∧
    (∃ (s : State) (t : Time), awake s ∧ s.und.emergEnd = some t ∧ s.und.updHold = true ∧ emergency s = false ∧ t + holdoffMin s * 60000000000 ≤ s.now) ∧
    (∃ (s : State), awake s ∧ s.upd.record.state = 6 ∧ s.upd.trialMin * 60000000000 ≤ trialNs s) ∧
    (∃ (s : State), awake s ∧ s.upd.record.state = 7 ∧ emergency s = false ∧ s.upd.record.cls ≠ 2 ∧ s.upd.prev = none) ∧
    (∃ (s : State) (t : FlashSet), awake s ∧ s.upd.record.state = 7 ∧ emergency s = false ∧ s.upd.record.cls = 0 ∧ s.upd.prev = some t ∧ (proveSet s t).fst = 0) :=
  ⟨⟨{ up with sec.phase := 3, gcl.port := port5 }, Path.up, (1#8), (by decide +kernel), (by decide +kernel), (by decide +kernel), (by decide +kernel), (by decide +kernel), (by decide +kernel)⟩,
    ⟨{ up with sec.phase := 3 }, Path.twp0, (1#8), (by decide +kernel), (by decide +kernel), (by decide +kernel), (by decide +kernel)⟩,
    ⟨{ up with sec.phase := 3, regs.words := [(196656, 4096)], sec.candLen := 16773120 }, Path.up, (1#8), (by decide +kernel), (by decide +kernel), (by decide +kernel), (by decide +kernel), (by decide +kernel), (by decide +kernel)⟩,
    ⟨{ up with sec.phase := 3 }, Path.up, (1#8), (by decide +kernel), (by decide +kernel), (by decide +kernel), (by decide +kernel), (by decide +kernel)⟩,
    ⟨{ up with sec.phase := 3 }, Path.up, (1#8), (by decide +kernel), (by decide +kernel), (by decide +kernel), (by decide +kernel)⟩,
    ⟨{ up with sec.pulling := some 5 }, 5, (by decide +kernel), (by decide +kernel)⟩,
    ⟨{ up with sec.phase := 2 }, Path.tap, (1#8), key0, (by decide +kernel), (by decide +kernel), (by decide +kernel), (by decide +kernel)⟩,
    ⟨{ up with sec.fuseJob := some ⟨1, 1, 9, 0⟩ }, ⟨1, 1, 9, 0⟩, (by decide +kernel), (by decide +kernel)⟩,
    ⟨{ up with upd.record.state := 1, procs := [(4, { state := .ready })] }, pkg0, (by decide +kernel), (by decide +kernel), (by decide +kernel), (by decide +kernel)⟩,
    ⟨{ up with upd.record.state := 2, upd.staged := some set0 }, (Path.proc .hst), (1#8), (by decide +kernel), (by decide +kernel), (by decide +kernel), (by decide +kernel), (by decide +kernel)⟩,
    ⟨{ up with upd.record.state := 4 }, (Path.proc .hst), (1#8), (by decide +kernel), (by decide +kernel), (by decide +kernel), (by decide +kernel)⟩,
    ⟨{ up with upd.record.state := 6 }, (Path.proc .sec), (1#8), (by decide +kernel), (by decide +kernel), (by decide +kernel), (by decide +kernel), (by decide +kernel)⟩,
    ⟨{ up with upd.record.state := 3, upd.record.mode := 1 }, (by decide +kernel), (by decide +kernel), (by decide +kernel), (by decide +kernel)⟩,
    ⟨{ up with upd.record.state := 4, upd.record.windowEnd := 1000000000000000 }, (by decide +kernel), (by decide +kernel), (by decide +kernel), (by decide +kernel)⟩,
    ⟨{ up with upd.record.state := 4 }, (by decide +kernel), (by decide +kernel), (by decide +kernel)⟩,
    ⟨{ up with upd.record.state := 5, upd.proving := true }, (by decide +kernel), (by decide +kernel), (by decide +kernel), (by decide +kernel), (by decide +kernel)⟩,
    ⟨{ up with upd.record.state := 5, upd.proving := true, upd.staged := some set0, sec.set := some set0 }, set0, (by decide +kernel), (by decide +kernel), (by decide +kernel), (by decide +kernel), (by decide +kernel), (by decide +kernel)⟩,
    ⟨{ up with und.emergEnd := some 0, und.updHold := true }, 0, (by decide +kernel), (by decide +kernel), (by decide +kernel), (by decide +kernel), (by decide +kernel)⟩,
    ⟨{ up with upd.record.state := 6 }, (by decide +kernel), (by decide +kernel), (by decide +kernel)⟩,
    ⟨{ up with upd.record.state := 7 }, (by decide +kernel), (by decide +kernel), (by decide +kernel), (by decide +kernel), (by decide +kernel)⟩,
    ⟨{ up with upd.record.state := 7, upd.prev := some set0, sec.set := some set0 }, set0, (by decide +kernel), (by decide +kernel), (by decide +kernel), (by decide +kernel), (by decide +kernel), (by decide +kernel)⟩⟩

/-- The hypotheses of each clause of Obligations.FaultsAndStore are met. -/
theorem test_witness_faults_and_store :
    (∃ (s : State) (path : Path) (u : FUnit) (tag : Byte), awake s ∧ pathOk s path (winBase u + 48) = true ∧ BitVec.toNat tag ≠ lastTag s (winBase u + 48) ∧ (winOf s u).state = WinState.latched) ∧
    (∃ (s : State) (path : Path) (u : FUnit) (tag : Byte), awake s ∧ pathOk s path (winBase u + 48) = true ∧ BitVec.toNat tag ≠ lastTag s (winBase u + 48) ∧ (winOf s u).state = WinState.handling) ∧
    (∃ (s : State) (path : Path) (u : FUnit), awake s ∧ pathOk s path (winBase u + 48) = false) ∧
    (∃ (s : State) (path : Path) (u : FUnit) (j : Fin 8), awake s ∧ pathOk s path (winBase u + 96 + 4 * ↑j) = true) ∧
    (∃ (s : State) (path : Path) (u : FUnit) (tag : Byte) (src : Byte), awake s ∧ pathOk s path (winBase u + 56) = true ∧ BitVec.toNat tag ≠ lastTag s (winBase u + 56) ∧ isChecker u (BitVec.toNat src) = true) ∧
    (∃ (s : State) (path : Path) (u : FUnit) (tag : Byte) (src : Byte), awake s ∧ pathOk s path (winBase u + 56) = true ∧ BitVec.toNat tag ≠ lastTag s (winBase u + 56) ∧ isChecker u (BitVec.toNat src) = false) ∧
    (∃ (s : State) (u : FUnit) (t : Time), awake s ∧ (winOf s u).trapSince = some t ∧ t + 10000000 ≤ s.now) ∧
    (∃ (s : State) (t : Time), awake s ∧ s.err.pulseEnd = some t ∧ t ≤ s.now) ∧
    (∃ (s : State) (path : Path) (tag : Byte), awake s ∧ (path = Path.proc Proc.sec ∨ path = Path.proc Proc.hst) ∧ BitVec.toNat tag ≠ lastTag s 272) ∧
    (∃ (s : State) (path : Path) (tag : Byte), awake s ∧ (path = Path.proc Proc.sec ∨ path = Path.proc Proc.hst) ∧ BitVec.toNat tag ≠ lastTag s 272 ∧ s.err.pulseEnd = none) ∧
    (∃ (s : State) (t : Time), awake s ∧ s.nvs.logSince = some t ∧ t + 9000000 ≤ s.now) ∧
    (∃ (s : State) (path : Path), awake s ∧ (∀ (p : Proc), path ≠ Path.proc p)) ∧
    (∃ (s : State) (p : Proc) (tag : Byte) (area : Byte) (q : NvsPayload), awake s ∧ BitVec.toNat tag ≠ lastTag s 1572880 ∧ areaWriter p (BitVec.toNat area) = true ∧ nvsBusy s = false ∧ payloadFits (BitVec.toNat area) q = true ∧ payloadLen (BitVec.toNat area) q ≤ areaLen (BitVec.toNat area)) ∧
    (∃ (s : State) (p : Proc) (tag : Byte) (area : Byte), awake s ∧ BitVec.toNat tag ≠ lastTag s 1572880 ∧ areaWriter p (BitVec.toNat area) = true ∧ nvsBusy s = false) ∧
    (∃ (s : State) (tag : Byte) (area : Byte), awake s ∧ BitVec.toNat tag ≠ lastTag s 1572880 ∧ (bankA s (BitVec.toNat area)).valid = false ∧ (bankB s (BitVec.toNat area)).valid = false) ∧
    (∃ (s : State) (p : Proc) (tag : Byte) (c : Byte), awake s ∧ BitVec.toNat tag ≠ lastTag s 1572880 ∧ monoWriter p (BitVec.toNat c) = true ∧ nvsBusy s = false) ∧
    (∃ (s : State) (tag : Byte) (area : Byte) (q : NvsPayload), awake s ∧ BitVec.toNat tag ≠ lastTag s 1572880 ∧ nvsFetch (BitVec.toNat area) (setTag 1572880 (BitVec.toNat tag) (setPair 1572880 (nvsWord (BitVec.toNat tag) 2 (BitVec.toNat area)) s)) = (some q, setTag 1572880 (BitVec.toNat tag) (setPair 1572880 (nvsWord (BitVec.toNat tag) 2 (BitVec.toNat area)) s))) ∧
    (∃ (s : State) (j : NvsJob) (flips : List (Nat × Byte)), awake s ∧ readBackOk s j (keptFlips flips) = true ∧ fixedFlips flips = [] ∧ s.nvs.queue = [j] ∧ j.tag = none ∧ j.again = false ∧ j.area = 6 ∧ j.erase = false ∧ (bankA s 6).valid = false ∧ (bankB s 6).valid = false) :=
  ⟨⟨{ up with fw := [(15, { state := .latched })] }, (Path.proc .sec), (FUnit.block 0), (1#8), (by decide +kernel), (by decide +kernel), (by decide +kernel), (by decide +kernel)⟩,
    ⟨{ up with fw := [(15, { state := .handling })] }, (Path.proc .sec), (FUnit.block 0), (1#8), (by decide +kernel), (by decide +kernel), (by decide +kernel), (by decide +kernel)⟩,
    ⟨up, Path.none, (FUnit.block 0), (by decide +kernel), (by decide +kernel)⟩,
    ⟨up, (Path.proc .sec), (FUnit.twp 15), 7, (by decide +kernel), (by decide +kernel)⟩,
    ⟨up, Path.tap, (FUnit.block 0), (1#8), (4#8), (by decide +kernel), (by decide +kernel), (by decide +kernel), (by decide +kernel)⟩,
    ⟨up, Path.tap, (FUnit.block 0), (1#8), (3#8), (by decide +kernel), (by decide +kernel), (by decide +kernel), (by decide +kernel)⟩,
    ⟨{ up with fw := [(15, { trapSince := some 0 })] }, (FUnit.block 0), 0, (by decide +kernel), (by decide +kernel), (by decide +kernel)⟩,
    ⟨{ up with err.pulseEnd := some 0 }, 0, (by decide +kernel), (by decide +kernel), (by decide +kernel)⟩,
    ⟨up, (Path.proc .hst), (1#8), (by decide +kernel), (by decide +kernel), (by decide +kernel)⟩,
    ⟨up, (Path.proc .hst), (1#8), (by decide +kernel), (by decide +kernel), (by decide +kernel), (by decide +kernel)⟩,
    ⟨{ up with nvs.logSince := some 0 }, 0, (by decide +kernel), (by decide +kernel), (by decide +kernel)⟩,
    ⟨up, Path.up, (by decide +kernel), nofun⟩,
    ⟨up, Proc.hst, (1#8), (3#8), (.update {}), (by decide +kernel), (by decide +kernel), (by decide +kernel), (by decide +kernel), (by decide +kernel), (by decide +kernel)⟩,
    ⟨up, Proc.hst, (1#8), (3#8), (by decide +kernel), (by decide +kernel), (by decide +kernel), (by decide +kernel)⟩,
    ⟨up, (1#8), (3#8), (by decide +kernel), (by decide +kernel), (by decide +kernel), (by decide +kernel)⟩,
    ⟨up, Proc.recd, (1#8), (13#8), (by decide +kernel), (by decide +kernel), (by decide +kernel), (by decide +kernel)⟩,
    ⟨{ up with mram.bankA := [(6, { valid := true, seq := 1, payload := some (.lifetime []) })] }, (1#8), (6#8), (NvsPayload.lifetime []), (by decide +kernel), (by decide +kernel), rfl⟩,
    ⟨{ up with nvs.queue := [{ rank := 0, area := 6, payload := none, length := 0 }] }, { rank := 0, area := 6, payload := none, length := 0 }, [], (by decide +kernel), (by decide +kernel), (by decide +kernel), (by decide +kernel), (by decide +kernel), (by decide +kernel), (by decide +kernel), (by decide +kernel), (by decide +kernel), (by decide +kernel)⟩⟩

/-- The hypotheses of each clause of Obligations.PowerTimeAndCascade are met. -/
theorem test_witness_power_time_and_cascade :
    (∃ (s : State) (d : Fin 136) (t : Time), awake s ∧ tfind s.pmd.waking ↑d = some t) ∧
    (∃ (s : State) (d : Fin 136) (t : Time), awake s ∧ tfind s.pmd.waking ↑d = some t ∧ t + 50000 ≤ s.now) ∧
    (∃ (s : State), awake s) ∧
    (∃ (s : State), s.und.supply.porAsserted = false ∧ s.pmd.state = 3) ∧
    (∃ (s : State), awake s ∧ s.und.ind.locate = true ∧ s.und.ind.locateS ≠ 0 ∧ s.und.ind.since + s.und.ind.locateS * 1000000000 ≤ s.now) ∧
    (∃ (s : State) (k : Fin 8), awake s ∧ almOn s ↑k = true ∧ almTime s ↑k ≤ s.now) ∧
    (∃ (s : State), awake s ∧ ppsEn s = true ∧ (secondOffset s.now).natAbs ≤ 1000000 ∧ s.tbs.ppsSec ≠ some (nearSecond s.now)) ∧
    (∃ (s : State), awake s ∧ s.tbs.state = TbsState.locked ∧ s.tbs.lastUpd + 2000000000 ≤ s.now) ∧
    (∃ (s : State), awake s ∧ s.tbs.state = TbsState.holdover ∧ s.tbs.holdSaid = false ∧ s.tbs.holdAt + holdoverS s * 1000000000 ≤ s.now) ∧
    (∃ (s : State) (p : Fin 11) (m : Fin 4), awake s ∧ isLead s = false ∧ ↑m = s.und.straps.casRole ∧ 9 ≤ ↑p ∧ (gclPort s ↑p).state = 5) ∧
    (∃ (s : State) (m : Fin 4), awake s ∧ isLead s = false ∧ ↑m ≠ s.und.straps.casRole ∧ (gclPort s 10).state = 5) ∧
    (∃ (s : State), awake s ∧ isLead s = false ∧ (gclPort s 9).state = 5) ∧
    (∃ (s : State) (m : Fin 4), awake s ∧ isLead s = true ∧ ↑m ≠ 0 ∧ (gclPort s 9).state = 5 ∧ (member s ↑m).mismatch = false) ∧
    (∃ (s : State) (m : Fin 4), awake s ∧ isLead s = true ∧ ↑m ≠ 0 ∧ (member s ↑m).present = true) ∧
    (∃ (s : State) (w : List Word) (t : Time), awake s ∧ s.cas.boardDue = some t ∧ s.cas.ownRec = some w ∧ w.length = 16 ∧ t ≤ s.now ∧ s.cas.member = [] ∧ (recWord w 3).testBit 4 = false) ∧
    (∃ (s : State) (m : Fin 4), awake s ∧ isLead s = true ∧ (member s ↑m).present = true ∧ (member s ↑m).linked = true ∧ (member s ↑m).lastRep = none) ∧
    (∃ (s : State) (t : Time), awake s ∧ s.cas.leaseEnd = some t ∧ isLead s = false ∧ t ≤ s.now ∧ s.cas.lapsed = false) :=
  ⟨⟨{ up with pmd.waking := [(135, 0)] }, 135, 0, (by decide +kernel), (by decide +kernel)⟩,
    ⟨{ up with pmd.waking := [(135, 0)] }, 135, 0, (by decide +kernel), (by decide +kernel), (by decide +kernel)⟩,
    ⟨up, (by decide +kernel)⟩,
    ⟨{ up with pmd.state := 3 }, (by decide +kernel), (by decide +kernel)⟩,
    ⟨{ up with und.ind.locate := true }, (by decide +kernel), (by decide +kernel), (by decide +kernel), (by decide +kernel)⟩,
    ⟨{ up with regs.words := [(almBase 7 + 8, 1)] }, 7, (by decide +kernel), (by decide +kernel), (by decide +kernel)⟩,
    ⟨{ up with tbs.count := 1000000001000000, regs.live := [(0x170010, 1)] }, (by decide +kernel), (by decide +kernel), (by decide +kernel), (by decide +kernel)⟩,
    ⟨{ up with tbs.state := .locked }, (by decide +kernel), (by decide +kernel), (by decide +kernel)⟩,
    ⟨{ up with tbs.state := .holdover }, (by decide +kernel), (by decide +kernel), (by decide +kernel), (by decide +kernel)⟩,
    ⟨{ up with und.straps.casRole := 1, gcl.port := [(9, { state := 5 })] }, 9, 1, (by decide +kernel), (by decide +kernel), (by decide +kernel), (by decide +kernel), (by decide +kernel)⟩,
    ⟨{ up with und.straps.casRole := 1, gcl.port := [(10, { state := 5 })] }, 2, (by decide +kernel), (by decide +kernel), (by decide +kernel), (by decide +kernel)⟩,
    ⟨{ up with und.straps.casRole := 1, gcl.port := [(9, { state := 5 })] }, (by decide +kernel), (by decide +kernel), (by decide +kernel)⟩,
    ⟨{ up with gcl.port := [(9, { state := 5 })] }, 3, (by decide +kernel), (by decide +kernel), (by decide +kernel), (by decide +kernel), (by decide +kernel)⟩,
    ⟨{ up with cas.member := [(3, { present := true })] }, 3, (by decide +kernel), (by decide +kernel), (by decide +kernel), (by decide +kernel)⟩,
    ⟨{ up with cas.boardDue := some 0, cas.ownRec := some (List.replicate 16 0) }, (List.replicate 16 0), 0, (by decide +kernel), (by decide +kernel), (by decide +kernel), (by decide +kernel), (by decide +kernel), (by decide +kernel), (by decide +kernel)⟩,
    ⟨{ up with cas.member := [(3, { present := true, linked := true })] }, 3, (by decide +kernel), (by decide +kernel), (by decide +kernel), (by decide +kernel), (by decide +kernel)⟩,
    ⟨{ up with cas.leaseEnd := some 0, und.straps.casRole := 1 }, 0, (by decide +kernel), (by decide +kernel), (by decide +kernel), (by decide +kernel), (by decide +kernel)⟩⟩


/-! ### Witnesses with digests and signatures

Whether Falcon-1024 accepts a signature, which key a slot was fused with and how large the flash is are free values of Config with no body: no proof evaluates them, and nothing rules a value of
them out. A theorem of this part names such a value as its hypothesis where a clause needs it; everything else of the clause is met by the state and operands shown. -/

/-- An image whose WEIGHT_DIGEST is that of its weights. -/
def img2 : ImageRec := { img0 with weightDigest := shake256 [] }

/-- A copy of an image that was written as it is carries the digests that were accepted. -/
theorem copyOk_good (m k : Nat) (i : ImageRec) (h : i.weightDigest = shake256 i.weights) : copyOk ⟨m, i, imageDigest i, k⟩ [] = true := by
  have cut : ∀ a b : List Byte, (a ++ b).take a.length = a ∧ (a ++ b).drop a.length = b := fun a b => ⟨List.take_left .., List.drop_left ..⟩
  simp [-List.append_assoc, -List.length_append, copyOk, copyBytes, flipBytes, imageDigest, h, cut]
  rw [List.append_assoc]

theorem test_witness_canopy_staged_digest :
    (∃ (s : State) (l : CnpLoad), awake s ∧ s.cnp.load = some l ∧ l.step = 2 ∧ imageDigest l.image = l.digest ∧ (cnpModel s l.model).job = none) ∧
    (∃ (s : State) (l : CnpLoad), awake s ∧ s.cnp.load = some l ∧ l.step = 2 ∧ imageDigest l.image ≠ l.digest ∧ s.cnp.boot = []) :=
  ⟨⟨{ up with cnp.load := some ⟨0, img0, imageDigest img0, 2⟩ }, ⟨0, img0, imageDigest img0, 2⟩, (by decide +kernel), rfl, rfl, (by dsimp only), (by decide +kernel)⟩,
   ⟨{ up with cnp.load := some ⟨0, img0, 0, 2⟩ }, ⟨0, img0, 0, 2⟩, (by decide +kernel), rfl, rfl, (by decide +kernel), (by decide +kernel)⟩⟩

theorem test_witness_canopy_copied :
    (∃ (s : State) (l : CnpLoad) (flips : List (Nat × Byte)), awake s ∧ s.cnp.load = some l ∧ l.step = 4 ∧ (cnpModel s l.model).state = 3 ∧ s.cnp.boot = [] ∧ copyOk l flips = true) ∧
    (∃ (s : State) (l : CnpLoad) (flips : List (Nat × Byte)), awake s ∧ s.cnp.load = some l ∧ l.step = 4 ∧ (cnpModel s l.model).state = 3 ∧ s.cnp.boot = [] ∧ copyOk l flips = false) :=
  ⟨⟨{ up with cnp.load := some ⟨0, img2, imageDigest img2, 4⟩, cnp.model := [(0, { state := 3 })] }, ⟨0, img2, imageDigest img2, 4⟩, [], (by decide +kernel), rfl, rfl,
      (by decide +kernel), rfl, copyOk_good 0 4 img2 (by simp [img2, img0])⟩,
   ⟨{ up with cnp.load := some ⟨0, img2, 0, 4⟩, cnp.model := [(0, { state := 3 })] }, ⟨0, img2, 0, 4⟩, [(0, 1)], (by decide +kernel), rfl, rfl,
      (by decide +kernel), rfl, (by decide +kernel)⟩⟩

theorem test_witness_custody_cursor :
    ∃ (s : State) (c : Nat) (l : Nat), awake s ∧ inflight s < 128 ∧ s.cus.state = 4 ∧ c < 9 ∧ List.length (cursor s c).infl < 24 ∧ cursorPick s c = some l ∧
      (∀ (b x : Nat), b < 9 → List.length (cursor s b).infl < 24 → cursorPick s b = some x → cursorBytes s b < cursorBytes s c ∨ cursorBytes s b = cursorBytes s c ∧ c ≤ b) := by
  refine ⟨{ up with cus.state := 4, cus.cursors := [(8, { head := [0] })] }, 8, 0, by decide +kernel, by decide +kernel, rfl, by decide, by decide +kernel, by decide +kernel, ?_⟩
  have h : ∀ b < 9, (cursorPick { up with cus.state := 4, cus.cursors := [(8, { head := [0] })] } b = none) ∨ b = 8 := by decide +kernel
  intro b x hb _ hx
  rcases h b hb with h | rfl
  · rw [h] at hx; cases hx
  · exact .inr ⟨rfl, Nat.le_refl 8⟩

/-- A retained copy that memory has not changed has the digest kept of it. -/
theorem copyIntact_good (s : State) (p : Proc) (f : FwImage) (copy : (procSt s p).copy = some f) (kept : retainedDigest s 1 p.num = some (fwDigest f)) : copyIntact s p [] = true := by
  simp [copyIntact, copy, kept, flipBytes, fwDigest]

theorem test_witness_processor_copy :
    ∃ (s : State) (p : Proc) (flips : List (Nat × Byte)), awake s ∧ (procSt s p).state = ProcState.restarting ∧ copyIntact s p flips = true := by
  refine ⟨{ up with procs := [(1, { state := .restarting, copy := some fw0 })], und.bootRec := some ⟨0, 0, 0, 0, 0, [(1, 1, fwDigest fw0)]⟩, und.bootRecC := some ⟨0, 0, 0, 0, 0, [(1, 1, fwDigest fw0)]⟩ }, .pwr, [], by decide +kernel, by decide +kernel, copyIntact_good _ .pwr fw0 rfl ?_⟩
  simp [retainedDigest, Proc.num]

/-- Falcon-1024 accepts every signature: a value that `Config.falcon` may have. -/
def FalconAccepts : Prop := ∀ p d g, Config.falcon p d g = true

/-- A signature by a good key of the class asked for is accepted. -/
theorem keyCheck_accepts (falcon : FalconAccepts) (s : State) (dv : Bool) (g : SigSec) (h : Digest) (cls : decide (8 ≤ g.keySlot) = !dv) (key : slotDigest s g.keySlot = some (sigKeyDigest g))
    (live : s.fuses.revoked.testBit g.keySlot = false) (alg : g.alg = 1) (pub : g.pubLen = 1793) (len : g.sigLen ≤ 1280) : keyCheck s dv g h = 0 := by
  have v : sigVerifies g h = true := falcon ..
  simp [keyCheck, cls, key, live, alg, pub, len, v]

/-- An item whose entry has the CRC of its bytes reads without an error. -/
theorem badReads_good (k i o n : Nat) (b : ItemBody) : badReads { kind := k, index := i, offset := o, length := n, crc := crc32c (itemBytes b), body := b } = 0 := by
  simp [badReads, flipBytes, List.range, List.range.loop]

/-- Items that read without an error leave the state as it is. -/
theorem rereads_good (l : List FlashItem) (h : ∀ i ∈ l, badReads i = 0) (s : State) : rereads l s = s := by
  induction l generalizing s with
  | nil => rfl
  | cons i r ih =>
    have hi := h i (List.mem_cons_self ..)
    have hr := ih (fun j hj => h j (List.mem_cons_of_mem _ hj)) s
    simp only [rereads, forEach, List.foldl_cons] at hr ⊢
    rw [hi]; exact hr

/-! The owner's manifest: the signature is a free value. -/

def man1 : ManifestRec := { man0 with sig := { sig0 with pubLen := 1793 } }
def own1 : State := { up with cus.state := 1, cus.owners := [⟨1, true, 0, 0⟩], cus.mask := 1, cus.sgCount := 1 }

theorem test_witness_custody_manifest (falcon : FalconAccepts) :
    (∃ (s : State) (m : ManifestRec) (sg : List SgEntry), awake s ∧ s.cus.state = 1 ∧ manifestCheck s m = none ∧ s.cus.resuming = none ∧ sgOk s m sg = true ∧ s.cus.tree = none) ∧
    (∃ (s : State) (m : ManifestRec) (sg : List SgEntry) (t : Tree), awake s ∧ s.cus.state = 1 ∧ manifestCheck s m = none ∧ s.cus.resuming = none ∧ sgOk s m sg = true ∧
      s.cus.tree = some t ∧ t.root = m.root) := by
  have sig : ∀ d, sigVerifies man1.sig d = true := fun d => falcon ..
  have ok : ∀ t, manifestCheck { own1 with cus.tree := t } man1 = none := fun t => by
    have owners : (fun o : OwnerKey => o.owner == man1.sig.keySlot) = fun o => o.owner == 1 := rfl
    simp only [manifestCheck, sig, owners]
    simp [man1, man0, own1, sig0, shardRunsOk, shardLeaves, shardsDisjoint, Nat.testBit]
  exact ⟨⟨own1, man1, [⟨0, 1⟩], by decide +kernel, rfl, ok none, rfl, by decide +kernel, rfl⟩,
    ⟨{ own1 with cus.tree := some ⟨5, []⟩ }, man1, [⟨0, 1⟩], ⟨5, []⟩, by decide +kernel, rfl, ok _, rfl, by decide +kernel, rfl, rfl⟩⟩


/-! A set that boots: six images under Dvorum's key in slot 1, an empty bitstream under the integrator's key in slot 8, and a trim. -/

def sig1 : SigSec := { sig0 with pubLen := 1793 }
def fw1 (p : Nat) : FwImage := { fw0 with proc := p, sigOffset := 129, total := 3217, code := [0], sig := sig1 }
def trim1 : FwImage := { fw0 with proc := 0x10, total := 3216, sig := sig1 }

/-- A bitstream with no rail, sensor, motor or model, without its directory. -/
def body1 : Bitstream :=
  { bits0 with magic := 0x5342584B, hwtype := 0x4238584B, sig := sig8, tiles := List.replicate 64 { owner := 0 }, pairs := List.replicate 64 (List.replicate 128 ⟨0, ~~~0⟩), trayPar := ⟨1, 1, 1000⟩
               contract := { rated := List.replicate 8 1, fallback := List.replicate 8 0, entries := [⟨0, 1, 1, 1, 0, 65536⟩] }, regions := [0, 1024, 2048, 0, 1024, 0] }
def entry1 (code part offset length : Nat) : DirEntry := ⟨code, part, offset, length, partDigest body1 code part⟩
def dir1 : List DirEntry :=
  [entry1 1 0 1024 25608, entry1 1 1 26688 65536, entry1 2 0 92224 4240, entry1 2 1 96512 8208, entry1 3 0 104768 1452, entry1 3 1 106240 6816, entry1 4 0 113088 256, entry1 4 1 113344 528,
   entry1 8 0 113920 4, entry1 9 1 113984 108, entry1 12 0 114112 96]
def bits1 : Bitstream := { body1 with dir := dir1, total := 203088, sigOffset := 200000 }
def item1 (k i o n : Nat) (b : ItemBody) : FlashItem := { kind := k, index := i, offset := o, length := n, crc := crc32c (itemBytes b), body := b }
def items1 : List FlashItem :=
  [item1 1 0 4096 3217 (.fw (fw1 0)), item1 1 1 8192 3217 (.fw (fw1 1)), item1 1 2 12288 3217 (.fw (fw1 2)), item1 1 3 16384 3217 (.fw (fw1 3)), item1 1 4 20480 3217 (.fw (fw1 4)),
   item1 1 5 24576 3217 (.fw (fw1 5)), item1 2 0 28672 203088 (.bits bits1), item1 4 0 233472 3216 (.trim trim1)]
/-- What the device must hold to accept them. -/
structure Accepts (s : State) : Prop where
  fused    : slotDigest s 1 = some (sigKeyDigest sig1)
  enrolled : slotDigest s 8 = some (sigKeyDigest sig8)
  live     : s.fuses.revoked = 0
  svn      : floorSvn s = 0
  sections : semCheck s bits1 (thmSections ++ restSections) = (0, 0)

/-- A part's bytes do not depend on the directory. -/
theorem partDigest_dir (b : Bitstream) (dir : List DirEntry) (total off code part : Nat) : partDigest { b with dir := dir, total := total, sigOffset := off } code part = partDigest b code part := by
  unfold partDigest; congr 1

theorem fw_boots (falcon : FalconAccepts) (s : State) (h : Accepts s) (p : Nat) (hp : p < 6) : fwCheck s p (fw1 p) = 0 := by
  have k := keyCheck_accepts falcon s true sig1 (fwDigest (fw1 p)) rfl h.fused (by rw [h.live]; rfl) rfl rfl (by decide)
  have l : fwLengthsOk p (fw1 p) = true := by
    have q : p ≠ 0x10 := by omega
    simp [fwLengthsOk, fw1, fw0, q]
  unfold fwCheck
  rw [l]; simp only [show (fw1 p).sig = sig1 from rfl, k]; simp [fw1, fw0]
theorem trim_boots (falcon : FalconAccepts) (s : State) (h : Accepts s) : fwCheck s 0x10 trim1 = 0 := by
  have k := keyCheck_accepts falcon s true sig1 (fwDigest trim1) rfl h.fused (by rw [h.live]; rfl) rfl rfl (by decide)
  have l : fwLengthsOk 0x10 trim1 = true := by decide +kernel
  unfold fwCheck
  rw [l]; simp only [show trim1.sig = sig1 from rfl, k]; simp [trim1, fw0]
theorem bits_boot (falcon : FalconAccepts) (s : State) (h : Accepts s) : (cfgValidate s bits1).1 = 0 := by
  have k := keyCheck_accepts falcon s false sig8 (topDigest bits1) rfl h.enrolled (by rw [h.live]; rfl) rfl rfl (by decide)
  have q : headerCheck bits1 = 0 ∧ dirCheck bits1 = 0 ∧ otherRange bits1 = true ∧ bits1.transportOk = true := by decide +kernel
  have own : ∀ c p, partDigest bits1 c p = partDigest body1 c p := by
    intro c p; unfold bits1; exact partDigest_dir body1 dir1 203088 200000 c p
  have d : bits1.dir.find? (fun d => d.digest != partDigest bits1 d.code d.part) = none := by
    rw [List.find?_eq_none]
    intro d hd
    have e : d.digest = partDigest body1 d.code d.part := by
      simp only [bits1, dir1, List.mem_cons, List.not_mem_nil, or_false] at hd
      rcases hd with rfl | rfl | rfl | rfl | rfl | rfl | rfl | rfl | rfl | rfl | rfl <;> simp only [entry1]
    rw [own, e]; simp
  have p : cfgProve s bits1 = (0, 0) := by
    simp only [cfgProve, q.1, q.2.1, q.2.2.2, show bits1.sig = sig8 from rfl, k, d, h.svn]
    simp
  simp [cfgValidate, p, q.2.2.1, h.sections]

theorem set_boots (falcon : FalconAccepts) (s : State) (h : Accepts s) (t : FlashSet) (ht : t.items = items1) : bootFails s t none = [] := by
  have item : ∀ i k b o n, (k = 1 ∧ i < 6 ∧ b = .fw (fw1 i)) ∨ (k = 2 ∧ b = .bits bits1) ∨ (k = 4 ∧ b = .trim trim1) → setItem t k i = some (item1 k i o n b) → bootItem s t none (k, i) = 0 := by
    intro i k b o n hb it
    simp only [bootItem, it, item1, badReads_good, proveItem, fastItem]
    rcases hb with ⟨rfl, hi, rfl⟩ | ⟨rfl, rfl⟩ | ⟨rfl, rfl⟩
    · simp [proveBody, fw_boots falcon s h i hi]
    · simp [proveBody, bits_boot falcon s h]
    · simp [proveBody, trim_boots falcon s h]
  have f : ∀ p, p < 6 → bootItem s t none (1, p) = 0 := by
    intro p hp
    refine item p 1 (.fw (fw1 p)) (4096 * (p + 1)) 3217 (.inl ⟨rfl, hp, rfl⟩) ?_
    simp only [setItem, ht, items1]
    match p, hp with
    | 0, _ => rfl | 1, _ => rfl | 2, _ => rfl | 3, _ => rfl | 4, _ => rfl | 5, _ => rfl
  have b : bootItem s t none (2, 0) = 0 := item 0 2 _ 28672 203088 (.inr (.inl ⟨rfl, rfl⟩)) (by simp only [setItem, ht, items1]; rfl)
  have c : bootItem s t none (4, 0) = 0 := item 0 4 _ 233472 3216 (.inr (.inr ⟨rfl, rfl⟩)) (by simp only [setItem, ht, items1]; rfl)
  have one : oneSvn t = true := by
    have e : oneSvn ⟨0, 0, 0, 0, 0, items1⟩ = true := by decide +kernel
    simpa only [oneSvn, setFw, ht] using e
  simp [bootFails, stageOrder, f 0, f 1, f 2, f 3, f 4, f 5, b, c, one]

def set1 : FlashSet := { seq := 1, items := items1, crc := crc32c (dirBytes { seq := 1, items := items1 }) }
def boot1 : BootEnv := ⟨[(0, set1)], true, true⟩
/-- A device whose slot 8 an integrator has enrolled, strapped to boot from `src`, with the areas of its store that hold certificates and SVNs written. -/
def keyed (src : Nat) : State :=
  { up with fuses.programmed := 0x1FF, fuses.enrolled := [(8, sigKeyDigest sig8)], und.straps.bootSrc := src
            mram.bankA := [(1, { valid := true, seq := 1, payload := some (.cert []) }), (2, { valid := true, seq := 1, payload := some (.cert []) }),
              (4, { valid := true, seq := 1, payload := some (.floors 0) })] }

theorem dirOk_set1 : dirOk set1 = true := by
  have e : setValid (items1.map (fun i => (i.kind, i.index))) = true ∧ itemsApart items1 = true := by decide +kernel
  simp [dirOk, set1, e, dirBytes]

theorem items1_good : ∀ i ∈ items1, badReads i = 0 := by
  intro i hi
  simp only [items1, List.mem_cons, List.not_mem_nil, or_false] at hi
  rcases hi with rfl | rfl | rfl | rfl | rfl | rfl | rfl | rfl <;> exact badReads_good ..

theorem slot8_of_fuses (s : State) (src : Nat) (h : s.fuses = (keyed src).fuses) : slotDigest s 8 = some (sigKeyDigest sig8) ∧ s.fuses.revoked = 0 := by
  simp [slotDigest, h, keyed, up, State.reset, Nat.testBit, tfind]

theorem slot1_of_fuses (fused : Config.fusedDigest 1 = sigKeyDigest sig1) (s : State) (src : Nat) (h : s.fuses = (keyed src).fuses) : slotDigest s 1 = some (sigKeyDigest sig1) := by
  simp [slotDigest, h, keyed, up, State.reset, fused, Nat.testBit]

theorem img0_signed (falcon : FalconAccepts) (s : State) (src : Nat) (h : s.fuses = (keyed src).fuses) : keyCheck s false img0.sig (imageDigest img0) = 0 :=
  keyCheck_accepts falcon s false img0.sig _ rfl (slot8_of_fuses s src h).1 (by rw [(slot8_of_fuses s src h).2]; rfl) rfl rfl (by decide)

theorem nvsQueue_fuses (j : NvsJob) (y : State) : (nvsQueue j y).fuses = y.fuses := by
  unfold nvsQueue
  split
  · dsimp only; split <;> rfl
  · rfl

/-- With a good crystal and nothing amiss in the store, the start leaves the fuses as they are. -/
theorem romStart_fuses (b : BootEnv) (s z : State) (good : b.crystal = true) (start : s.sec.exitD3 = false)
    (hz : z = setTbs (fun t => { t with xtalFail := false }) { s with und.supply.mainEn := true, und.supply.mainPg := true, und.supply.retryAt := none, sec.inputOk := b.inputOk })
    (lost : (List.range 14).filter (fun a => bankLost z a) = []) (empty : [0x01, 0x02, 0x04].filter (fun a => areaEmpty z a) = []) (staged : s.und.nvsStaged = []) :
    (romStart b s).fuses = s.fuses := by
  have mono : ∀ c (y : State), (monoInc c none y).fuses = y.fuses := fun c y => nvsQueue_fuses ..
  have ledger : ∀ y : State, (ledgerResume y).fuses = y.fuses := by intro y; unfold ledgerResume; split <;> rfl
  have count : ∀ y : State, (countResume y).fuses = y.fuses := fun _ => rfl
  have scan : (nvsScan z).fuses = s.fuses := by
    have zs : z.und.nvsStaged = [] := by rw [hz]; exact staged
    simp only [nvsScan, lost, forEach, List.foldl_nil, empty, zs]
    rw [hz]; rfl
  have xtal : crystalAtStart b.crystal { s with und.supply.mainEn := true, und.supply.mainPg := true, und.supply.retryAt := none, sec.inputOk := b.inputOk } = z := by
    simp [crystalAtStart, good, start, hz]
  unfold romStart
  rw [xtal]
  simp only
  split <;> simp only [mono, ledger, count, scan]

theorem test_witness_rom_boots (falcon : FalconAccepts) (fused : Config.fusedDigest 1 = sigKeyDigest sig1) :
    (∃ (s : State) (b : BootEnv) (t : FlashSet) (k : Nat) (u : State), awake s ∧ s.sec.phase = 0 ∧ (romStart b s).fuses.differ = false ∧ (romStart b s).und.straps.bootSrc ≠ 3 ∧ k =
      bootSlot (romStart b s) ∧ tfind b.slots k = some t ∧ dirOk t = true ∧ fastRec ({ (romStart b s) with sec := { (romStart b s).sec with slot := k } }) t k = none ∧ u = rereads
      t.items ({ (romStart b s) with sec := { (romStart b s).sec with slot := k } }) ∧ bootFails u t none = []) := by
  refine ⟨keyed 1, boot1, set1, 0, _, by decide +kernel, by decide +kernel, by decide +kernel, by decide +kernel, by decide +kernel, rfl, dirOk_set1, by decide +kernel, rfl, ?_⟩
  rw [show set1.items = items1 from rfl, rereads_good _ items1_good]
  have f : (romStart boot1 (keyed 1)).fuses = (keyed 1).fuses := romStart_fuses boot1 (keyed 1) _ rfl rfl rfl (by decide +kernel) (by decide +kernel) rfl
  have k := slot8_of_fuses { (romStart boot1 (keyed 1)) with sec.slot := 0 } 1 f
  exact set_boots falcon _ ⟨slot1_of_fuses fused { (romStart boot1 (keyed 1)) with sec.slot := 0 } 1 f, k.1, k.2, by decide +kernel, by decide +kernel⟩ set1 rfl

theorem test_witness_recovery_release (falcon : FalconAccepts) (fused : Config.fusedDigest 1 = sigKeyDigest sig1) :
    (∃ (s : State) (path : Path) (tag : Byte) (u : State) (t : FlashSet), awake s ∧ (path = Path.up ∨ path = Path.twp0) ∧ s.sec.phase = 3 ∧ BitVec.toNat tag ≠ lastTag s 196640 ∧ u =
      setTag 196640 (BitVec.toNat tag) (setPair 196640 (rcvWord (BitVec.toNat tag) 5 0 0) s) ∧ s.und.straps.bootSrc = 3 ∧ s.sec.need = 0 ∧ t = withPushed none s.sec.pushed ∧ bootFails u
      t none = []) := by
  refine ⟨{ keyed 3 with sec.phase := 3, sec.pushed := items1 }, .up, 1, _, _, by decide +kernel, .inl rfl, rfl, by decide +kernel, rfl, rfl, rfl, rfl, ?_⟩
  let s : State := setTag 196640 (BitVec.toNat (1 : Byte)) (setPair 196640 (rcvWord (BitVec.toNat (1 : Byte)) 5 0 0) { keyed 3 with sec.phase := 3, sec.pushed := items1 })
  have k := slot8_of_fuses s 3 rfl
  exact set_boots falcon s ⟨slot1_of_fuses fused s 3 rfl, k.1, k.2, by decide +kernel, by decide +kernel⟩ _ rfl

theorem test_witness_recovery_verify (falcon : FalconAccepts) :
    (∃ (s : State) (path : Path) (tag : Byte) (k : Byte) (i : Byte) (body : ItemBody), awake s ∧ (path = Path.up ∨ path = Path.twp0) ∧ s.sec.phase = 3 ∧ BitVec.toNat tag ≠ lastTag s
      196640 ∧ s.sec.cand = some body ∧ s.sec.candKind = BitVec.toNat k ∧ s.sec.candIdx = BitVec.toNat i ∧ candCode s (BitVec.toNat k) (BitVec.toNat i) (some body) = 0 ∧ k = 3) := by
  refine ⟨{ keyed 3 with sec.phase := 3, sec.cand := some (.model img0), sec.candKind := 3 }, .up, 1, 3, 0, .model img0, by decide +kernel, .inl rfl, rfl, by decide +kernel, rfl, rfl, rfl, ?_, rfl⟩
  have f : imgFormatOk img0 img0.total = true := by decide +kernel
  have k := img0_signed falcon { keyed 3 with sec.phase := 3, sec.cand := some (.model img0), sec.candKind := 3 } 3 rfl
  have e : proveBody { keyed 3 with sec.phase := 3, sec.cand := some (.model img0), sec.candKind := 3 } 3 0 (.model img0) = 0 := by
    simp only [proveBody, f, k, show img0.model = 0 from rfl]; simp
  have c : ∀ (s : State) (m : ImageRec), candCode s (BitVec.toNat (3 : Byte)) (BitVec.toNat (0 : Byte)) (some (.model m)) = proveBody s 3 0 (.model m) := fun _ _ => rfl
  rw [c]; exact e

theorem test_witness_canopy_boot_next (falcon : FalconAccepts) :
    (∃ (s : State) (i : ImageRec) (r : List ImageRec) (d : DescRec), awake s ∧ dramTrained s = true ∧ procRunning s Proc.recd = true ∧ s.cnp.load = none ∧ List.filter (fun i =>
      imageSigned s i && match descOf s i.model with | some d => d.flags % 2 == 1 && (cnpModel s i.model).state == 2 | none => false) (imagesInForce s) = i :: r ∧ loadRefusal s i.model
      = none ∧ descOf s i.model = some d ∧ imgFormatOk i i.total = true ∧ imgShapeOk d i = true ∧ layersOk i = true) := by
  let s : State := { keyed 1 with mem.trained := [0, 1, 2, 3, 4, 5, 6, 7], procs := [(5, { state := .ready })], cnp.descs := [desc0], cnp.model := [(0, { state := 2 })],
                                  sec.set := some { seq := 1, items := [{ kind := 3, index := 0, body := .model img0 }] } }
  refine ⟨s, img0, [], desc0, by decide +kernel, by decide +kernel, by decide +kernel, rfl, ?_, by decide +kernel, by decide +kernel, by decide +kernel, by decide +kernel, by decide +kernel⟩
  have k : imageSigned s img0 = true := by simp [imageSigned, img0_signed falcon s 1 rfl]
  have f : imagesInForce s = [img0] := rfl
  have g : (match descOf s img0.model with | some d => d.flags % 2 == 1 && (cnpModel s img0.model).state == 2 | none => false) = true := by decide +kernel
  rw [f, List.filter_cons, k, g]; rfl

/-- An update package of the eight required items, each in full and empty. -/
def part1 (k i : Nat) : PkgPart := { kind := k, index := i, mode := 1, crc := crc32c [] }
def pkg1 : Package :=
  let p : Package := { parts := [part1 1 0, part1 1 1, part1 1 2, part1 1 3, part1 1 4, part1 1 5, part1 2 0, part1 4 0] }
  let p := { p with entriesCrc := crc32c (p.parts.flatMap partEntryBytes) }
  { p with hdrCrc := crc32c (pkgHeadBytes p) }

theorem test_witness_package_accepted (flash : ¬ Config.flashSize 1 < packageSpan pkg1) :
    (∃ (s : State) (p : Package) (t : FlashSet), awake s ∧ s.upd.record.state = 1 ∧ procRunning s Proc.hst = true ∧ packageCheck s (1 - s.upd.record.inForce) p = 0 ∧ (∀ (q : PkgPart), q
      ∈ p.parts → partCheck s.sec.set q = 0) ∧ p.flashOk = true ∧ t = stagedSet s.sec.set (s.upd.record.seqInForce + 1) p ∧ (∀ (i : FlashItem), i ∈ t.items → badReads i ≠ 3)) := by
  have form : packageForm pkg1 = true := by simp [packageForm, pkg1, pkgHeadBytes, part1]
  have set : setValid (pkg1.parts.map (fun x => (x.kind, x.index))) = true ∧ ¬ 4294967296 < packageSpan pkg1 := by decide +kernel
  have parts : ∀ q ∈ pkg1.parts, partCheck none q = 0 := by decide +kernel
  have good : ∀ i ∈ placeParts none 4096 pkg1.parts, badReads i ≠ 3 := by decide +kernel
  refine ⟨{ up with upd.record.state := 1, procs := [(4, { state := .ready })] }, pkg1, _, by decide +kernel, rfl, by decide +kernel, ?_, parts, rfl, rfl, good⟩
  have check : ∀ s : State, packageCheck s 1 pkg1 = 0 := by
    intro s
    simp only [packageCheck, form, set, flash]
    rw [show pkg1.hwtype = 0x4238584B from rfl, show pkg1.bind = 0 from rfl, show pkg1.unit = 0 from rfl, show pkg1.sourceOk = true from rfl, show pkg1.arrived = 0 from rfl]
    simp
  exact check _
end Sys2Proof.Tests
end

section
/-! SUPPORT. A write and a read of one register (00_scope.md R9, R12, R36), a rule for each access code, and the obligation about them. -/

namespace Sys2Proof.Machine

/-! ### Authority of a path -/

section
variable {path : Path} {off : Nat} {w : Word} {f : State → State} {s : State}

theorem withAuthority_ok (ok : pathOk s path off = true) : withAuthority path off w f s = f s := by
  simp only [withAuthority, ok, if_true]

/-- Outside the fault windows a path without authority is answered by the block's own write-path source. -/
theorem withAuthority_denied (ok : pathOk s path off = false) (win : windowOf off = none) : withAuthority path off w f s = denyWrite path off w s := by
  simp [withAuthority, ok, win]

end

/-! ### A mapped word by its access code -/

section
variable {path : Path} {off : Nat} {w : Word} {c : Bool} {s : State}

theorem wordWrite_ignored (acc : accOf off = .ro ∨ accOf off = .rc) : wordWrite path off w s = s := by
  rcases acc with acc | acc <;> simp only [wordWrite, acc]

theorem wordWrite_stg (acc : accOf off = .stg c) (fabric : ¬ (4 ≤ off / 0x10000 ∧ off / 0x10000 ≤ 7)) :
    wordWrite path off w s = withAuthority path off w (setWord off (keptBits off c w)) s := by
  simp only [wordWrite, acc, if_neg fabric]

theorem wordWrite_rw (acc : accOf off = .rw) : wordWrite path off w s = withAuthority path off w (rwWrite off w) s := by
  simp only [wordWrite, acc]

theorem wordWrite_w1c (acc : accOf off = .w1c) : wordWrite path off w s = withAuthority path off w (w1cWrite path off w) s := by
  simp only [wordWrite, acc]

theorem wordWrite_cmd (acc : accOf off = .cmd c) : wordWrite path off w s = withAuthority path off w (cmdPairWrite path off c w) s := by
  simp only [wordWrite, acc]

/-- Whatever a plain, a write-1-to-clear or a command word would do, a path without authority does none of it. -/
theorem wordWrite_denied (acc : accOf off = .rw ∨ accOf off = .w1c ∨ ∃ c, accOf off = .cmd c) (ok : pathOk s path off = false) (win : windowOf off = none) :
    wordWrite path off w s = denyWrite path off w s := by
  obtain acc | acc | ⟨c, acc⟩ := acc
  · rw [wordWrite_rw acc, withAuthority_denied ok win]
  · rw [wordWrite_w1c acc, withAuthority_denied ok win]
  · rw [wordWrite_cmd acc, withAuthority_denied ok win]

end

/-! ### The accesses as commands -/

section
variable {path : Path} {off : BitVec 24} {s : State}

theorem exec_registerWrite_mapped {w : Word} (h : awake s) (word : off.toNat % 4 = 0) (map : mapped off.toNat = true) :
    exec (.registerWrite path off w) s = .next (settle s (wordWrite path off.toNat w s)) := by
  have acts : doRegisterWrite path off w s = wordWrite path off.toNat w s := if_pos ⟨word, map⟩
  rw [← acts]
  exact coreStep_awake h

theorem readAccess_mapped {off : Nat} (map : mapped off = true) : readAccess path off s = (regRead s off, readEffect off s) := if_pos map

theorem exec_rcRead_mapped (h : awake s) (map : mapped off.toNat = true) : exec (.rcRead path off) s = .next (settle s (readEffect off.toNat s)) := by
  have reads : doRcRead path off s = readEffect off.toNat s := congrArg Prod.snd (readAccess_mapped map)
  rw [← reads]
  exact coreStep_awake h

theorem exec_unmappedAccess {w : Option Word} (h : awake s) (map : mapped off.toNat = false) (paging : pagingWindow off.toNat = false) :
    exec (.unmappedAccess path off w) s = .next (settle s (unmappedFault path off.toNat (w.getD 0) s)) := by
  have faults : doUnmappedAccess path off w s = unmappedFault path off.toNat (w.getD 0) s := by simp [doUnmappedAccess, map, paging]
  rw [← faults]
  exact coreStep_awake h

end

/-- Settles O17: the access code decides what a mapped word does, and the path's authority whether it does it. -/
theorem registerAccess : Obligations.RegisterAccess := by
  refine ⟨?readOnly, ?staged, ?plain, ?clear, ?command, ?denied, ?read, ?unmapped⟩
  case readOnly =>
    intro s path o w h word map acc
    rw [exec_registerWrite_mapped h word map, wordWrite_ignored acc]
  case staged =>
    intro s path o w c h word map acc fabric ok
    rw [exec_registerWrite_mapped h word map, wordWrite_stg acc fabric, withAuthority_ok ok]
  case plain =>
    intro s path o w h word map acc ok
    rw [exec_registerWrite_mapped h word map, wordWrite_rw acc, withAuthority_ok ok]
  case clear =>
    intro s path o w h word map acc ok
    rw [exec_registerWrite_mapped h word map, wordWrite_w1c acc, withAuthority_ok ok]
  case command =>
    intro s path o w c h word map acc ok
    rw [exec_registerWrite_mapped h word map, wordWrite_cmd acc, withAuthority_ok ok]
  case denied =>
    intro s path o w h word map acc ok win
    rw [exec_registerWrite_mapped h word map, wordWrite_denied acc ok win]
  case read =>
    intro s path o h map
    exact ⟨congrArg Prod.fst (readAccess_mapped map), exec_rcRead_mapped h map⟩
  case unmapped =>
    intro s path o w h map paging
    exact exec_unmappedAccess h map paging

end Sys2Proof.Machine
end

section
/-! SUPPORT. A block's staged set from the key to the boundary (00_scope.md R12; 02_glade_fabric.md R72, R74), a rule for each outcome, and the obligation about them. -/

namespace Sys2Proof.Machine

section
variable {path : Path} {reg : Nat} {s : State}

/-! ### The COMMIT register -/

/-- The key without DISCARD asks for a commit. -/
theorem commitWrite_key (ok : pathOk s path reg = true) : commitWrite path reg 0xC7#32 s = commitRequest reg s := by
  have key : fld 0xC7#32 15 0 = 0xC7 := by decide
  have discard : bit 0xC7#32 16 = false := by decide
  simp [commitWrite, withAuthority_ok ok, key, discard]

/-- The key with DISCARD discards the set of this register alone. -/
theorem commitWrite_discardKey (ok : pathOk s path reg = true) : commitWrite path reg 0x100C7#32 s = discardStaged (· == reg) s := by
  have key : fld 0x100C7#32 15 0 = 0xC7 := by decide
  have discard : bit 0x100C7#32 16 = true := by decide
  simp [commitWrite, withAuthority_ok ok, key, discard]

/-! ### A commit request -/

/-- BUSY (R12): one set waits already. -/
theorem commitRequest_pending (pending : (commitSt s reg).pending.isSome = true) :
    commitRequest reg s = updCommit reg (fun c => { c with result := 4, seq := inc8 c.seq }) s :=
  if_pos (.inl pending)

/-- No set waits and no live apply reaches the block: the request is judged by its staged set. -/
theorem not_busy_of_idle (pending : (commitSt s reg).pending = none) (apply : applyTouches s reg = false) :
    ¬ ((commitSt s reg).pending.isSome = true ∨ applyTouches s reg = true) := by
  simp [pending, apply]

theorem commitRequest_invalid {f : Nat × Nat} (pending : (commitSt s reg).pending = none) (apply : applyTouches s reg = false)
    (bad : validateSet s [] (stagedWords s reg) reg = some f) : commitRequest reg s = commitResult reg f.1 f.2 s := by
  simp only [commitRequest, if_neg (not_busy_of_idle pending apply), bad]

/-- Outside the arbiter, whose bank swaps at its own boundary, a valid set waits in the commit state. -/
theorem commitRequest_valid (pending : (commitSt s reg).pending = none) (apply : applyTouches s reg = false) (arb : reg / 0x10000 ≠ 0x0F)
    (good : validateSet s [] (stagedWords s reg) reg = none) :
    commitRequest reg s = updCommit reg (fun c => { c with pending := some { requested := s.now, setWords := valueWords (stagedWords s reg) } }) s := by
  simp only [commitRequest, if_neg (not_busy_of_idle pending apply), good, if_neg arb]

/-! ### The boundary -/

theorem commitApply_due {j : CommitJob} (pending : (commitSt s reg).pending = some j) (due : commitDue s reg j = true) :
    commitApply reg s = commitResult reg 0 0 (applyWords j.setWords s) := by
  simp only [commitApply, pending, due, if_true]

end

/-! ### The commits as commands -/

section
variable {path : Path} {reg : BitVec 24} {s : State}

theorem exec_blockCommit (h : awake s) (isReg : isCommitReg reg.toNat = true) (ok : pathOk s path reg.toNat = true) :
    exec (.blockCommit path reg) s = .next (settle s (commitRequest reg.toNat s)) := by
  have acts : doBlockCommit path reg s = commitRequest reg.toNat s := (if_pos isReg).trans (commitWrite_key ok)
  rw [← acts]
  exact coreStep_awake h

theorem exec_blockDiscard (h : awake s) (isReg : isCommitReg reg.toNat = true) (ok : pathOk s path reg.toNat = true) :
    exec (.blockDiscard path reg) s = .next (settle s (discardStaged (· == reg.toNat) s)) := by
  have acts : doBlockDiscard path reg s = discardStaged (· == reg.toNat) s := (if_pos isReg).trans (commitWrite_discardKey ok)
  rw [← acts]
  exact coreStep_awake h

theorem exec_blockCommitApply (h : awake s) : exec (.blockCommitApply reg) s = .next (settle s (commitApply reg.toNat s)) := coreStep_awake h

end

/-- Settles O19: the request is judged once, by its register's state and its staged set, and the boundary puts the set that was judged in force. -/
theorem blockCommits : Obligations.BlockCommits := by
  refine ⟨?valid, ?invalid, ?busy, ?discard, ?boundary⟩
  case valid =>
    intro s path r h isReg ok pending apply arb good
    rw [exec_blockCommit h isReg ok, commitRequest_valid pending apply arb good]
  case invalid =>
    intro s path r f h isReg ok pending apply bad
    rw [exec_blockCommit h isReg ok, commitRequest_invalid pending apply bad, commitResult]
  case busy =>
    intro s path r h isReg ok pending
    rw [exec_blockCommit h isReg ok, commitRequest_pending pending]
  case discard =>
    intro s path r h isReg ok
    rw [exec_blockDiscard h isReg ok, discardStaged]
  case boundary =>
    intro s r j h pending due
    rw [exec_blockCommitApply h, commitApply_due pending due, commitResult, applyWords]

end Sys2Proof.Machine
end

section
/-! SUPPORT. What a command finds while power-on reset is asserted (01_tray_steward_architecture.md R15; log 90): the state as it is, but for the pin states that the end of every step
writes (R41). The obligation asks for no change at all, which fails in a state whose signals are behind its pins. -/

namespace Sys2Proof.Machine

section
variable {f : State → State} {s : State}

/-- A step that changes nothing and owes nothing still writes the pin states. -/
theorem settle_self (owes : s.notes = []) : settle s s = pinSignals s := by
  rw [settle, if_pos (quiet_self owes)]

theorem coreStep_inReset (por : s.und.supply.porAsserted = true) (owes : s.notes = []) : coreStep f s = .next (pinSignals s) := by
  have held : dormant s = true := by simp only [dormant, por, Bool.true_or]
  rw [coreStep_dormant held, settle_self owes]

theorem islandStep_inReset (por : s.und.supply.porAsserted = true) (owes : s.notes = []) : islandStep f s = .next (pinSignals s) := by
  rw [islandStep_held por, settle_self owes]

end

/-- The commands that power-on reset leaves standing: the supplies, POR_N and the counter. -/
def isSupplyCommand : Instr → Bool
  | .tick _ | .porNRelease _ _ _ | .powerOnReset | .standbySupplyLoss | .mainPgFall | .standbySupplyGood | .mainPgTimeout => true
  | _ => false

/-- What does hold of every other command: it writes the pin states, and nothing else. -/
theorem exec_inReset {c : Instr} {s : State} (por : s.und.supply.porAsserted = true) (owes : s.notes = []) (supply : isSupplyCommand c = false) :
    exec c s = .next (pinSignals s) := by
  cases c with
  | tick | porNRelease | powerOnReset | standbySupplyLoss | mainPgFall | standbySupplyGood | mainPgTimeout => cases supply
  | leasePinExpiry | crystalFail | traySample | fastTrip | tripLevelFall | tcritConversion | wakeAddressMatch | wakeEvent | locateButton | locateTimeout | tbsAlarm =>
    exact islandStep_inReset por owes
  | _ => exact coreStep_inReset por owes

/-- The statement's claim where SEC stands in the ROM, as a power-on reset leaves it: no pin state is written there, so nothing changes. -/
theorem exec_inReset_rom {c : Instr} {s : State} (por : s.und.supply.porAsserted = true) (owes : s.notes = []) (supply : isSupplyCommand c = false) (rom : s.sec.phase = 0) :
    exec c s = .next s := by
  rw [exec_inReset por owes supply, pinSignals, if_pos rom]

/-- Power-on reset asserted over a SEC that has left the ROM, and a structure that reads PFW_N (source 0x120, log 110) into signal 640, never written: a state the statement does not
exclude. -/
def pinSignalBehind : State :=
  { State.reset with sec.phase := 1, gld.signals := [{ index := 640, type := 0, producer := 0, source := 0x120, refreshMs := 0 }] }

theorem pinSignals_pinSignalBehind : pinSignals pinSignalBehind ≠ pinSignalBehind := by
  intro same
  have planes : (pinSignals pinSignalBehind).gld.plane = pinSignalBehind.gld.plane := congrArg (·.gld.plane) same
  exact absurd planes (by decide)

/-- Refutes O7: a press of the locate button ends its step with the pin states, and the signal that PFW_N feeds changes from 0 to 1. -/
theorem not_resetHoldsEverything : ¬ Obligations.ResetHoldsEverything := by
  intro holds
  have unchanged : exec .locateButton pinSignalBehind = .next pinSignalBehind :=
    holds .locateButton pinSignalBehind rfl rfl nofun nofun nofun nofun nofun nofun nofun
  have written : exec .locateButton pinSignalBehind = .next (pinSignals pinSignalBehind) := exec_inReset rfl rfl rfl
  exact pinSignals_pinSignalBehind (Host.Outcome.next.inj (written.symm.trans unchanged))

end Sys2Proof.Machine
end

section
/-! SUPPORT. The lease pins in the state after reset (01_tray_steward_architecture.md R15, R16). The obligation speaks of a lease pin of every number, where the device has eight. -/

namespace Sys2Proof.Machine

/-- The eight LEASE pins are low after reset: no latch is recorded for them. -/
theorem leaseLevel_reset {k : Nat} (pin : k < 8) : (latchOf State.reset (.lease k)).level = 0 := by
  have all : ∀ k < 8, (latchOf State.reset (.lease k)).level = 0 := by decide
  exact all k pin

/-- The latches of a "ninth lease pin" and of PFW_N have one number, so they are one latch in every state. -/
theorem latchOf_lease_eight (s : State) : latchOf s (.lease 8) = latchOf s .pfw := rfl

/-- Refutes O9: its last clause takes the lease number 8, whose latch is that of PFW_N, and PFW_N is released (level 1) after reset. -/
theorem not_resetState : ¬ Obligations.ResetState := by
  rintro ⟨-, -, -, -, -, -, -, -, -, -, -, pfwHigh, -, -, -, leaseLow⟩
  have pfwLow : (latchOf State.reset .pfw).level = 0 := latchOf_lease_eight _ ▸ leaseLow 8
  exact absurd (pfwHigh.symm.trans pfwLow) (by decide)

end Sys2Proof.Machine
end

section
/-! SUPPORT. The requests for a chip reset (01_tray_steward_architecture.md R18, R38), a rule for each outcome, and the obligation about them. -/

namespace Sys2Proof.Machine

section
variable {path : Path} {v : Word} {s : State}

/-- ID_RESET_CTRL is written by the upstream manager over TWP0 or MBX4, and by SEC (R38). -/
theorem pathOk_resetCtrl : pathOk s path 0x24 = true ↔ path = .twp0 ∨ path = .mbx4 ∨ path = .proc .sec := by
  have outside : windowOf 0x24 = none := by decide
  simp only [pathOk, outside, if_true, isSec, Bool.or_eq_true, beq_iff_eq]
  exact (or_assoc.trans or_comm).trans or_assoc

theorem doResetCtrlKey_key (ok : pathOk s path 0x24 = true) (key : fld v 15 0 = 0xC1EA) : doResetCtrlKey path v s = note (.chipReset 4) s := by
  rw [doResetCtrlKey, if_pos ok, if_pos key]

theorem doResetCtrlKey_other (ok : pathOk s path 0x24 = true) (other : fld v 15 0 ≠ 0xC1EA) :
    doResetCtrlKey path v s = raise uID 1 .corrected { path := pathCode path, w1 := some 0x24#32, w2 := v } s := by
  rw [doResetCtrlKey, if_pos ok, if_neg other]

theorem doResetCtrlKey_denied (denied : pathOk s path 0x24 = false) :
    doResetCtrlKey path v s = raise uID 2 .contained { path := pathCode path, w1 := some 0x24#32, w2 := v } s := by
  rw [doResetCtrlKey, if_neg (Bool.eq_false_iff.mp denied)]

theorem doSupervisionWatchdogBite_due (phase : s.sec.phase = 1 ∨ s.sec.phase = 2) (due : s.sec.wdKick + superMs s * ms ≤ s.now) :
    doSupervisionWatchdogBite s = note (.chipReset 3) s :=
  if_pos ⟨phase, due⟩

theorem exec_resetCtrlKey (h : awake s) : exec (.resetCtrlKey path v) s = .next (settle s (doResetCtrlKey path v s)) := coreStep_awake h

theorem exec_supervisionWatchdogBite (h : awake s) : exec .supervisionWatchdogBite s = .next (settle s (doSupervisionWatchdogBite s)) := coreStep_awake h

end

/-- Settles O13: a write is judged by its path, then by its key; the watchdog by the time since SEC last serviced it. -/
theorem resetRequests : Obligations.ResetRequests := by
  refine ⟨?paths, ?key, ?other, ?denied, ?watchdog⟩
  case paths =>
    intro s path
    exact pathOk_resetCtrl
  case key =>
    intro s path v h ok key
    rw [exec_resetCtrlKey h, doResetCtrlKey_key ok key]
  case other =>
    intro s path v h ok other
    rw [exec_resetCtrlKey h, doResetCtrlKey_other ok other]
  case denied =>
    intro s path v h denied
    rw [exec_resetCtrlKey h, doResetCtrlKey_denied denied]
  case watchdog =>
    intro s h phase due
    rw [exec_supervisionWatchdogBite h, doSupervisionWatchdogBite_due phase due]

end Sys2Proof.Machine
end

section
/-! SUPPORT. Events of the start and of the Understory (01_tray_steward_architecture.md R16, R17, R27; 15_boot_keys_and_attestation.md R419), a rule for each, and the obligation about
them. -/

namespace Sys2Proof.Machine

section
variable {s : State} {t : Time}

/-! ### UP without a peer -/

theorem doUpNoPeer_due (since : s.sec.upSince = some t) (detecting : (gclPort s 0).state = 1) (due : t + 100 * ms ≤ s.now) :
    doUpNoPeer s = { s with sec.hstGo := true } := by
  simp only [doUpNoPeer, since]
  exact if_pos ⟨detecting, due⟩

/-! ### Held pins -/

theorem doHandoverTimeout_due {pin : HeldPin} (since : (latchOf s pin).since = some t) (held : (latchOf s pin).held = true) (first : (latchOf s pin).reported = false)
    (due : t + 100 * ms ≤ s.now) :
    doHandoverTimeout pin s = raise (handoverSource pin).1 (handoverSource pin).2 .contained { unit := pin.num } (updLatch pin.num (fun l => { l with reported := true }) s) := by
  simp only [doHandoverTimeout, since]
  exact if_pos ⟨held, Bool.eq_false_iff.mp first, due⟩

/-- A LEASE pin as its latch holds it after the lease has ended: low, and in step with a block that presents low. -/
def leaseEnded (l : Latch) : Latch := { l with level := 0, since := if l.want = some 0 then none else l.since }

theorem leaseFall_ended {k : Nat} (held : (latchOf s (.lease k)).held = true) (high : (latchOf s (.lease k)).level ≠ 0) (ended : leaseLive s k = false) :
    leaseFall k s = updLatch (HeldPin.lease k).num leaseEnded s :=
  if_pos ⟨held, high, Bool.eq_false_iff.mp ended⟩

/-! ### The crystal -/

/-- The timebase on the internal reference (R27). -/
def crystalLost (s : State) : State := setTbs (fun t => { t with xtalFail := true }) s

/-- Without the crystal, time is undisciplined whatever else holds (R490). -/
theorem crystalLost_undisc (s : State) : (crystalLost s).tbs.undisc = true := by
  simp only [crystalLost, setTbs, undiscFlag, Bool.true_or]

theorem doCrystalFail_first (running : s.tbs.xtalFail = false) : doCrystalFail s = raise uTBS 0 .contained {} (crystalLost s) :=
  if_neg (Bool.eq_false_iff.mp running)

/-! ### The events as commands -/

theorem exec_upNoPeer (h : awake s) : exec .upNoPeer s = .next (settle s (doUpNoPeer s)) := coreStep_awake h

theorem exec_handoverTimeout {pin : HeldPin} (h : awake s) : exec (.handoverTimeout pin) s = .next (settle s (doHandoverTimeout pin s)) := coreStep_awake h

theorem exec_leasePinExpiry {k : Fin 8} (out : s.und.supply.porAsserted = false) : exec (.leasePinExpiry k) s = .next (settle s (leaseFall k.val s)) := islandStep_out out

theorem exec_crystalFail (out : s.und.supply.porAsserted = false) : exec .crystalFail s = .next (settle s (doCrystalFail s)) := islandStep_out out

end

/-- Settles O14: each event finds its time come and has its one effect. -/
theorem islandEvents : Obligations.IslandEvents := by
  refine ⟨?noPeer, ?handover, ?lease, ?crystal⟩
  case noPeer =>
    intro s t h since detecting due
    rw [exec_upNoPeer h, doUpNoPeer_due since detecting due]
  case handover =>
    intro s pin t h since held first due
    rw [exec_handoverTimeout h, doHandoverTimeout_due since held first due]
  case lease =>
    intro s k out held high ended
    have low : (latchOf (updLatch (HeldPin.lease k.val).num leaseEnded s) (.lease k.val)).level = 0 := by
      simp only [latchOf, updLatch_und, tget_tupd_same, leaseEnded]
    exact ⟨_, by rw [exec_leasePinExpiry out, leaseFall_ended held high ended], low, rfl⟩
  case crystal =>
    intro s out running
    exact ⟨crystalLost s, rfl, crystalLost_undisc s, rfl, by rw [exec_crystalFail out, doCrystalFail_first running]⟩

end Sys2Proof.Machine
end

section
/-! SUPPORT. The core supply's steps after the pace monitors (01_tray_steward_architecture.md R19, R20), a rule for each, and the obligation about them. -/

namespace Sys2Proof.Machine

section
variable {s : State} {r : Fin 24} {t : Time}

/-- The step is the one that reaches 0.85 V when at most 10 mV are left. -/
theorem step_reaches_top {v : Nat} : min 850 (v + 10) = 850 ↔ 840 ≤ v := by omega

theorem doPaceStepUp_due (short : tfind s.pace.short r.val = some t) (due : t + 8 * us ≤ s.now) (below : s.pace.vdd < 850)
    (spaced : ∀ u, s.pace.lastUp = some u → u + 100 * us ≤ s.now) :
    doPaceStepUp r s =
      { s with pace.vdd := min 850 (s.pace.vdd + 10), pace.lastUp := some s.now, pace.at850 := if 840 ≤ s.pace.vdd then some s.now else s.pace.at850 } := by
  cases last : s.pace.lastUp with
  | none => simp only [doPaceStepUp, short, last, due, below, step_reaches_top, and_self, if_true]
  | some u => simp only [doPaceStepUp, short, last, due, below, spaced u last, step_reaches_top, decide_true, and_self, if_true]

theorem doPaceStepDown_due (easy : s.pace.easySince = some t) (due : t + 100 * ms ≤ s.now) (spaced : ∀ u, s.pace.lastDown = some u → u + 100 * ms ≤ s.now)
    (above : restMv s < s.pace.vdd) :
    doPaceStepDown s = { s with pace.vdd := max (restMv s) (s.pace.vdd - 10), pace.lastDown := some s.now, pace.at850 := none } := by
  cases last : s.pace.lastDown with
  | none => simp only [doPaceStepDown, easy, last, due, above, decide_true, and_self, if_true]
  | some u => simp only [doPaceStepDown, easy, last, due, above, spaced u last, decide_true, and_self, if_true]

/-- While a region is not easy, VDD_CORE does not fall. -/
theorem doPaceStepDown_notEasy (easy : s.pace.easySince = none) : doPaceStepDown s = s := by
  simp only [doPaceStepDown, easy]
  exact if_neg (fun run => Bool.false_ne_true run.1)

theorem doPaceOverrun_due (top : s.pace.at850 = some t) (due : t + ms ≤ s.now) (short : (tfind s.pace.short r.val).isSome = true) (first : s.pace.overrun.contains r.val = false) :
    doPaceOverrun r s = raise uPMD 0 .contained { unit := r.val } { s with pace.overrun := sadd s.pace.overrun r.val } := by
  simp only [doPaceOverrun, top]
  exact if_pos ⟨due, short, Bool.eq_false_iff.mp first⟩

theorem exec_paceStepUp (h : awake s) : exec (.paceStepUp r) s = .next (settle s (doPaceStepUp r s)) := coreStep_awake h

theorem exec_paceStepDown (h : awake s) : exec .paceStepDown s = .next (settle s (doPaceStepDown s)) := coreStep_awake h

theorem exec_paceOverrun (h : awake s) : exec (.paceOverrun r) s = .next (settle s (doPaceOverrun r s)) := coreStep_awake h

end

/-- Settles O15: the steps wait out their times, and the overrun is raised once for a region. -/
theorem paceSteps : Obligations.PaceSteps := by
  refine ⟨?up, ?down, ?notEasy, ?overrun⟩
  case up =>
    intro s r t h short due below spaced
    rw [exec_paceStepUp h, doPaceStepUp_due short due below spaced]
  case down =>
    intro s t h easy due spaced above
    rw [exec_paceStepDown h, doPaceStepDown_due easy due spaced above]
  case notEasy =>
    intro s h easy
    rw [exec_paceStepDown h, doPaceStepDown_notEasy easy]
  case overrun =>
    intro s r t h top due short first
    rw [exec_paceOverrun h, doPaceOverrun_due top due short first]

end Sys2Proof.Machine
end

section
/-! SUPPORT. SEQ_CMD from the written word to the effect of its OP (04_power_sequencing.md R115–R117), a rule for each step, and the obligation about the commands that run. -/

namespace Sys2Proof.Machine

/-! ### The fields of a command word -/

section
variable {op : Nat} {tag mask : Byte} {tray : Bool}

/-- The fields do not overlap, so the word is their sum. -/
theorem seqWord_toNat (fits : op < 16) : (seqWord op tag.toNat mask.toNat tray).toNat = tag.toNat * 2 ^ 24 + mask.toNat * 2 ^ 16 + tray.toNat * 2 ^ 15 + op := by
  have trayBit : (if tray then 32768 else 0) = tray.toNat * 2 ^ 15 := by cases tray <;> rfl
  have trayFits := Bool.toNat_le tray
  rw [seqWord, w32, BitVec.toNat_ofNat, trayBit, Nat.mod_eq_of_lt]
  omega

theorem seqWord_op (fits : op < 16) : fld (seqWord op tag.toNat mask.toNat tray) 3 0 = op := by
  rw [fld, seqWord_toNat fits, Nat.shiftRight_eq_div_pow]
  omega

theorem seqWord_mask (fits : op < 16) : fld (seqWord op tag.toNat mask.toNat tray) 23 16 = mask.toNat := by
  have trayFits := Bool.toNat_le tray
  rw [fld, seqWord_toNat fits, Nat.shiftRight_eq_div_pow]
  omega

theorem seqWord_tag (fits : op < 16) : fld (seqWord op tag.toNat mask.toNat tray) 31 24 = tag.toNat := by
  have trayFits := Bool.toNat_le tray
  rw [fld, seqWord_toNat fits, Nat.shiftRight_eq_div_pow]
  omega

theorem seqWord_tray (fits : op < 16) : bit (seqWord op tag.toNat mask.toNat tray) 15 = tray := by
  rw [bit, BitVec.getLsbD, Nat.testBit_eq_decide_div_mod_eq, seqWord_toNat fits]
  cases tray <;> simp only [Bool.toNat_false, Bool.toNat_true, decide_eq_true_eq, decide_eq_false_iff_not] <;> omega

end

/-! ### Accepting a command -/

section
variable {path : Path} {w : Word} {s : State}

theorem supersede_none (free : s.seq.held = none) : supersede s = s := by
  simp only [supersede, free]

/-- SEQ judges by its own state and the shutdown latches: keeping the word and its TAG changes no verdict. -/
theorem judgeSeq_setTag_setPair {off tag : Nat} {v : Word} : judgeSeq w (setTag off tag (setPair off v s)) = judgeSeq w s := rfl

theorem actSeq_runs (fits : judgeSeq w s = (0, 0)) (unheld : seqHolds w s = false) :
    actSeq w s = runSeq w { s with seq.cmdTag := fld w 31 24, seq.cmdSlot := 0, seq.cmdResult := 0, seq.cmdCount := inc8 s.seq.cmdCount } := by
  have unheldToo : ∀ tag slot, seqHolds w { s with seq.cmdTag := tag, seq.cmdSlot := slot } = false := fun _ _ => unheld
  simp [actSeq, fits, unheldToo]

theorem seqCommand_acts (fresh : fld w 31 24 ≠ lastTag s 0x080010) (acts : fld w 3 0 ≠ 0) (free : s.seq.held = none) :
    seqCommand w s = actSeq w (setTag 0x080010 (fld w 31 24) s) := by
  have freeToo : (setTag 0x080010 (fld w 31 24) s).seq.held = none := free
  simp only [seqCommand, if_neg fresh, acts, false_and, if_false, supersede_none freeToo]

/-- OP 0 without TRAY (log 99): its TAG counts as acted on. -/
theorem seqCommand_nop (fresh : fld w 31 24 ≠ lastTag s 0x080010) (op : fld w 3 0 = 0) (tray : bit w 15 = false) :
    seqCommand w s = { setTag 0x080010 (fld w 31 24) s with seq.cmdTag := fld w 31 24 } := by
  simp [seqCommand, fresh, op, tray]

theorem seqCmdWrite_ok (writer : path = .proc .pwr ∨ path = .proc .sec) : seqCmdWrite path w s = seqCommand w (setPair 0x080010 w s) := if_pos writer

/-- A command that nothing refuses or holds has the effect of its OP in the state that has accepted it. -/
theorem seqCmdWrite_runs (runs : seqRuns path w s) (acts : fld w 3 0 ≠ 0) : seqCmdWrite path w s = runSeq w (seqAccepted w s) := by
  obtain ⟨writer, fresh, free, fits, unheld⟩ := runs
  have fitsToo : judgeSeq w (setTag 0x080010 (fld w 31 24) (setPair 0x080010 w s)) = (0, 0) := judgeSeq_setTag_setPair.trans fits
  rw [seqCmdWrite_ok writer, seqCommand_acts (s := setPair 0x080010 w s) fresh acts free, actSeq_runs fitsToo unheld]
  rfl

/-! ### The effect of each OP (R116) -/

theorem runSeq_slotUp (op : fld w 3 0 = 1) :
    runSeq w s = forEach (maskBits 8 (fld w 23 16)) (fun k s => if s.seq.trayState = 3 then startGraph k (setSlotState k 3 s) else setSlotState k 2 s) s := by
  simp [runSeq, op]

theorem runSeq_slotDown (op : fld w 3 0 = 2) :
    runSeq w s = forEach (maskBits 8 (fld w 23 16)) (fun k s => if slotState s k = 2 then cancelHeldUp k (setSlotState k 1 s) else slotDown k false s) s := by
  simp [runSeq, op]

theorem runSeq_trayUp (op : fld w 3 0 = 3) :
    runSeq w s = graphCheck 16 (startGraph 16 (forEach (maskBits 8 (fld w 23 16)) (fun k s => setSlotState k 2 s) { s with seq.trayState := 2 })) := by
  simp [runSeq, op]

theorem runSeq_trayDown (op : fld w 3 0 = 4) : runSeq w s = trayDown false s := by
  simp [runSeq, op]

/-- The slots of a CLEAR and their FAILED rails are OFF (log 18). -/
theorem runSeq_clearSlots (op : fld w 3 0 = 5) (tray : bit w 15 = false) :
    runSeq w s =
      { (forEach (maskBits 8 (fld w 23 16)) (fun k s => setSlotState k 1 (runSeq.clearFailedRails k s)) s) with seq.ffr := {}, seq.ffrValid := false } := by
  simp [runSeq, op, tray]

theorem runSeq_clearTray (op : fld w 3 0 = 5) (tray : bit w 15 = true) :
    runSeq w s =
      { runSeq.clearFailedRails 0xFF (forEach (maskBits 8 (fld w 23 16)) (fun k s => setSlotState k 1 (runSeq.clearFailedRails k s)) s) with
        seq.trayState := 1, seq.ffr := {}, seq.ffrValid := false } := by
  simp [runSeq, op, tray]

end

/-! ### The commands -/

section
variable {path : Path} {tag mask : Byte} {tray : Bool} {s : State}

theorem exec_seqSlotUp (h : awake s) : exec (.seqSlotUp path tag mask) s = .next (settle s (seqCmdWrite path (seqWord 1 tag.toNat mask.toNat false) s)) := coreStep_awake h

theorem exec_seqSlotDown (h : awake s) : exec (.seqSlotDown path tag mask) s = .next (settle s (seqCmdWrite path (seqWord 2 tag.toNat mask.toNat false) s)) := coreStep_awake h

theorem exec_seqTrayUp (h : awake s) : exec (.seqTrayUp path tag mask) s = .next (settle s (seqCmdWrite path (seqWord 3 tag.toNat mask.toNat false) s)) := coreStep_awake h

theorem exec_seqTrayDown (h : awake s) : exec (.seqTrayDown path tag) s = .next (settle s (seqCmdWrite path (seqWord 4 tag.toNat 0 false) s)) := coreStep_awake h

theorem exec_seqClear (h : awake s) : exec (.seqClear path tag mask tray) s = .next (settle s (seqCmdWrite path (seqWord 5 tag.toNat mask.toNat tray) s)) := coreStep_awake h

theorem exec_seqNop (h : awake s) : exec (.seqNop path tag) s = .next (settle s (seqCmdWrite path (seqWord 0 tag.toNat 0 false) s)) := coreStep_awake h

end

/-- Settles O26: a command that nothing refuses or holds is accepted, and then its OP alone says what it does. -/
theorem seqCommandsRun : Obligations.SeqCommandsRun := by
  refine ⟨?slotUp, ?slotDown, ?trayUp, ?trayDown, ?clearSlots, ?clearTray, ?nop⟩
  case slotUp =>
    intro s path tag mask h runs
    have op : fld (seqWord 1 tag.toNat mask.toNat false) 3 0 = 1 := seqWord_op (by decide)
    rw [exec_seqSlotUp h, seqCmdWrite_runs runs (by rw [op]; decide), runSeq_slotUp op, seqWord_mask (by decide)]
  case slotDown =>
    intro s path tag mask h runs
    have op : fld (seqWord 2 tag.toNat mask.toNat false) 3 0 = 2 := seqWord_op (by decide)
    rw [exec_seqSlotDown h, seqCmdWrite_runs runs (by rw [op]; decide), runSeq_slotDown op, seqWord_mask (by decide)]
  case trayUp =>
    intro s path tag mask h runs
    have op : fld (seqWord 3 tag.toNat mask.toNat false) 3 0 = 3 := seqWord_op (by decide)
    rw [exec_seqTrayUp h, seqCmdWrite_runs runs (by rw [op]; decide), runSeq_trayUp op, seqWord_mask (by decide)]
  case trayDown =>
    intro s path tag h runs
    have op : fld (seqWord 4 tag.toNat 0 false) 3 0 = 4 := seqWord_op (mask := 0) (by decide)
    rw [exec_seqTrayDown h, seqCmdWrite_runs runs (by rw [op]; decide), runSeq_trayDown op]
  case clearSlots =>
    intro s path tag mask h runs
    have op : fld (seqWord 5 tag.toNat mask.toNat false) 3 0 = 5 := seqWord_op (by decide)
    rw [exec_seqClear h, seqCmdWrite_runs runs (by rw [op]; decide), runSeq_clearSlots op (seqWord_tray (by decide)), seqWord_mask (by decide)]
  case clearTray =>
    intro s path tag mask h runs
    have op : fld (seqWord 5 tag.toNat mask.toNat true) 3 0 = 5 := seqWord_op (by decide)
    rw [exec_seqClear h, seqCmdWrite_runs runs (by rw [op]; decide), runSeq_clearTray op (seqWord_tray (by decide)), seqWord_mask (by decide)]
  case nop =>
    intro s path tag h writer fresh
    have op : fld (seqWord 0 tag.toNat 0 false) 3 0 = 0 := seqWord_op (mask := 0) (by decide)
    have sent : fld (seqWord 0 tag.toNat 0 false) 31 24 = tag.toNat := seqWord_tag (mask := 0) (by decide)
    have slots : bit (seqWord 0 tag.toNat 0 false) 15 = false := seqWord_tray (mask := 0) (by decide)
    have freshToo : fld (seqWord 0 tag.toNat 0 false) 31 24 ≠ lastTag (setPair 0x080010 (seqWord 0 tag.toNat 0 false) s) 0x080010 := sent.symm ▸ fresh
    rw [exec_seqNop h, seqCmdWrite_ok writer, seqCommand_nop freshToo op slots, sent]

end Sys2Proof.Machine
end

section
/-! SUPPORT. A step of a graph from its delay to its end (04_power_sequencing.md R108, R110, R112, R130), a rule for each, and the obligation about them. -/

namespace Sys2Proof.Machine

section
variable {g : Fin 18} {i : Fin 64} {s : State}

/-! ### On a tick -/

/-- A WAIT step needs no pin; the handover of any other rail's pin comes first (R128). -/
theorem delayPassed_of {g i : Nat} (delay : (stepRun s g i).state = .delay) (due : (stepRun s g i).delayAt + (stepRun s g i).delayUs * us ≤ s.now)
    (handed : (stepRec s g i).action = 0 ∨ railHanded s (stepRec s g i).rail = true) : delayPassed s g i = true := by
  obtain wait | handed := handed
  · simp [delayPassed, delay, due, wait]
  · simp [delayPassed, delay, due, handed]

theorem doStepDelayDone_due (tick : stepTick s = true) (passed : delayPassed s g.val i.val = true) : doStepDelayDone g i s = stepAct g.val i.val s :=
  if_pos ⟨tick, passed⟩

/-- A queued step as admission leaves it: charged at the live parameters of its rail, and its wait counted (R112). -/
def chargeStep (g i : Nat) (s : State) : State :=
  queueWaited g i { s with seq.charges := s.seq.charges ++ [⟨stepKey g i, railInrush s (stepRec s g i).rail, railSlew s (stepRec s g i).rail⟩] }

/-- Charging a step writes the charges and the longest wait alone. -/
theorem chargeStep_frame {g i : Nat} : { chargeStep g i s with seq.charges := s.seq.charges, seq.waitMaxUs := s.seq.waitMaxUs } = s := rfl

theorem stepAdmit_fits {g i : Nat} (head : queueHead (releaseCharges s) = some (g, i))
    (current : budgetA (releaseCharges s) + railInrush (releaseCharges s) (stepRec (releaseCharges s) g i).rail ≤ shelfA (releaseCharges s))
    (slew : budgetSlew (releaseCharges s) + railSlew (releaseCharges s) (stepRec (releaseCharges s) g i).rail ≤ shelfSlew (releaseCharges s)) :
    stepAdmit g i s = activateEnable g i (chargeStep g i (releaseCharges s)) :=
  if_pos ⟨head, current, slew⟩

theorem doStepAdmit_tick (tick : stepTick s = true) : doStepAdmit g i s = stepAdmit g.val i.val s := if_pos tick

theorem doStepQualified_due (tick : stepTick s = true) (qualifies : stepQualifies s g.val i.val = true) : doStepQualified g i s = completeStep g.val i.val s :=
  if_pos ⟨tick, qualifies⟩

theorem doStepTimeout_due (tick : stepTick s = true) (active : (stepRun s g.val i.val).state = .active) (undecided : (stepRun s g.val i.val).fail = 0)
    (due : (stepRun s g.val i.val).cmdAt + (stepRun s g.val i.val).timeoutUs * us ≤ s.now) (short : stepQualifies s g.val i.val = false) :
    doStepTimeout g i s = if (stepRec s g.val i.val).action = 1 then enableFail g.val i.val 0x08 s else downFailure (stepRec s g.val i.val).rail 0x0A s :=
  if_pos ⟨tick, active, undecided, due, Bool.eq_false_iff.mp short⟩

theorem queueLong_due {g i : Nat} (queued : (stepRun s g i).state = .queued) (due : (stepRun s g i).queuedAt + sec < s.now) (first : (stepRun s g i).longSaid = false) :
    queueLong g i s = raise uSEQ 5 .corrected { unit := (stepRec s g i).rail } (updStep g i (fun y => { y with longSaid := true }) s) :=
  if_pos ⟨queued, due, Bool.eq_false_iff.mp first⟩

/-! ### Between ticks (R110) -/

theorem doStepDelayDone_offTick (off : stepTick s = false) : doStepDelayDone g i s = s := if_neg fun due => Bool.eq_false_iff.mp off due.1

theorem doStepAdmit_offTick (off : stepTick s = false) : doStepAdmit g i s = s := if_neg (Bool.eq_false_iff.mp off)

theorem doStepQualified_offTick (off : stepTick s = false) : doStepQualified g i s = s := if_neg fun due => Bool.eq_false_iff.mp off due.1

theorem doStepTimeout_offTick (off : stepTick s = false) : doStepTimeout g i s = s := if_neg fun due => Bool.eq_false_iff.mp off due.1

/-! ### The steps as commands -/

theorem exec_stepDelayDone (h : awake s) : exec (.stepDelayDone g i) s = .next (settle s (doStepDelayDone g i s)) := coreStep_awake h

theorem exec_stepAdmit (h : awake s) : exec (.stepAdmit g i) s = .next (settle s (doStepAdmit g i s)) := coreStep_awake h

theorem exec_stepQualified (h : awake s) : exec (.stepQualified g i) s = .next (settle s (doStepQualified g i s)) := coreStep_awake h

theorem exec_stepTimeout (h : awake s) : exec (.stepTimeout g i) s = .next (settle s (doStepTimeout g i s)) := coreStep_awake h

theorem exec_queueWaitLong (h : awake s) : exec (.queueWaitLong g i) s = .next (settle s (queueLong g.val i.val s)) := coreStep_awake h

end

/-- Settles O28: each event finds its guard met on a tick and has its one effect, and off the tick no guard is met. (`graphSteps` itself names a graph's list of steps.) -/
theorem graphStepsHold : Obligations.GraphSteps := by
  refine ⟨?delay, ?offTick, ?admission, ?qualified, ?timeout, ?longWait⟩
  case delay =>
    intro s g i h tick delay due handed
    rw [exec_stepDelayDone h, doStepDelayDone_due tick (delayPassed_of delay due handed)]
  case offTick =>
    intro s g i h off
    rw [exec_stepDelayDone h, exec_stepAdmit h, exec_stepQualified h, exec_stepTimeout h, doStepDelayDone_offTick off, doStepAdmit_offTick off, doStepQualified_offTick off,
      doStepTimeout_offTick off]
    exact ⟨rfl, rfl, rfl, rfl⟩
  case admission =>
    intro s g i h tick head current slew
    refine ⟨chargeStep g.val i.val (releaseCharges s), ?acts, rfl, chargeStep_frame⟩
    rw [exec_stepAdmit h, doStepAdmit_tick tick, stepAdmit_fits head current slew]
  case qualified =>
    intro s g i h tick qualifies
    rw [exec_stepQualified h, doStepQualified_due tick qualifies]
  case timeout =>
    intro s g i h tick active undecided due short
    rw [exec_stepTimeout h, doStepTimeout_due tick active undecided due short]
  case longWait =>
    intro s g i h queued due first
    rw [exec_queueWaitLong h, queueLong_due queued due first]

end Sys2Proof.Machine
end

section
/-! SUPPORT. Rails under supervision and the end of a power-fail hold (04_power_sequencing.md R109, R119–R121, R124), a rule for each, and the obligation about them. -/

namespace Sys2Proof.Machine

section
variable {s : State}

theorem doVsWindowFault_due {r : Fin 256} {t : Time} (out : (railSt s r.val).vsOut = some t) (on : (railSt s r.val).state = .on)
    (supervised : (railSt s r.val).supervised = true) (due : t + railQualUs s r.val * us < s.now) :
    doVsWindowFault r s = runningFault r.val (if (railSt s r.val).vsHigh then 0x03 else 0x02) (railSt s r.val).vsHigh s := by
  simp only [doVsWindowFault, out]
  exact if_pos ⟨on, supervised, due⟩

/-! ### The end of a hold -/

/-- What a hold that ends does, of slot `e.1` or of the tray (8), once it is off the list (R120 step 4). -/
def holdEnds (e : Nat × HoldS) (s : State) : State :=
  if e.1 = 8 then
    (if s.seq.trayState = 2 ∨ s.seq.trayState = 3 then trayDown (!e.2.commanded) s
     else if s.seq.trayState = 4 then s else episodeDown 8 (note (.powerDown 0xFF) { s with seq.pfwKeys := sdel s.seq.pfwKeys 8 }))
  else if slotState s e.1 = 3 ∨ slotState s e.1 = 4 then slotDown e.1 (!e.2.commanded) s
  else if slotState s e.1 = 5 then s
  else
    let s := if slotState s e.1 = 2 then setSlotState e.1 1 s else s
    episodeDown e.1 (note (.powerDown e.1) { s with seq.pfwKeys := sdel s.seq.pfwKeys e.1 })

/-- The hold that runs alone leaves the list empty when it ends. -/
theorem doPowerFailHoldExpiry_only {e : Nat × HoldS} (classed : s.seq.adopting = false) (only : s.seq.holds = [e]) (due : e.2.start + e.2.holdUs * us ≤ s.now) :
    doPowerFailHoldExpiry s = releasePfw (holdEnds e { s with seq.holds := [] }) := by
  simp [doPowerFailHoldExpiry, classed, only, due, holdEnds]

theorem holdEnds_slot {k : Nat} {hold : HoldS} (slot : k < 8) (up : slotState s k = 3 ∨ slotState s k = 4) : holdEnds (k, hold) s = slotDown k (!hold.commanded) s := by
  have notTray : k ≠ 8 := Nat.ne_of_lt slot
  simp only [holdEnds, if_neg notTray, if_pos up]

theorem holdEnds_tray {hold : HoldS} (up : s.seq.trayState = 2 ∨ s.seq.trayState = 3) : holdEnds (8, hold) s = trayDown (!hold.commanded) s := by
  simp only [holdEnds, if_true, if_pos up]

theorem doFfrValidClear_ok {path : Path} (ok : pathOk s path 0x080208 = true) : doFfrValidClear path s = { s with seq.ffr := {}, seq.ffrValid := false } :=
  withAuthority_ok ok

/-! ### The events as commands -/

theorem exec_pgChange {p : Fin 128} {level : Bool} (h : awake s) : exec (.pgChange p level) s = .next (settle s (doPgChange p level s)) := coreStep_awake h

theorem exec_vsWindowFault {r : Fin 256} (h : awake s) : exec (.vsWindowFault r) s = .next (settle s (doVsWindowFault r s)) := coreStep_awake h

theorem exec_powerFailHoldExpiry (h : awake s) : exec .powerFailHoldExpiry s = .next (settle s (doPowerFailHoldExpiry s)) := coreStep_awake h

theorem exec_ffrValidClear {path : Path} (h : awake s) : exec (.ffrValidClear path) s = .next (settle s (doFfrValidClear path s)) := coreStep_awake h

end

/-- Settles O29: a pin goes to its rails as its event says, a reading out of its window faults its rail, and the end of the only hold starts the power-down that it announced. -/
theorem railSupervision : Obligations.RailSupervision := by
  refine ⟨?pin, ?window, ?slotHold, ?trayHold, ?clear⟩
  case pin =>
    intro s p level h
    rw [exec_pgChange h, doPgChange]
  case window =>
    intro s r t h out on supervised due
    rw [exec_vsWindowFault h, doVsWindowFault_due out on supervised due]
  case slotHold =>
    intro s k hold h classed slot only due up
    rw [exec_powerFailHoldExpiry h, doPowerFailHoldExpiry_only classed only due, holdEnds_slot (s := { s with seq.holds := [] }) slot up]
  case trayHold =>
    intro s hold h classed only due up
    rw [exec_powerFailHoldExpiry h, doPowerFailHoldExpiry_only classed only due, holdEnds_tray (s := { s with seq.holds := [] }) up]
  case clear =>
    intro s path h ok
    rw [exec_ffrValidClear h, doFfrValidClear_ok ok]

end Sys2Proof.Machine
end

section
/-! SUPPORT. The start of adoption, and the class of a rail whose port was read (04_power_sequencing.md R125, R126), a rule for each, and the obligation about them. -/

namespace Sys2Proof.Machine

section
variable {s : State} {r : Nat} {on good : Bool}

/-- The tray and the slots with rails are ADOPTING (R125). -/
def adoptBegun (s : State) : State :=
  forEach (List.range 8) (fun k s => if slotHasRails s k then setSlotState k 7 s else s) { s with seq.adopting := true, seq.trayState := 6 }

/-- A rail takes the level of its power-good pin; one with a port is read over it (R126 step 1). -/
def adoptFirstRead (r : Nat) (s : State) : State :=
  if (railRec (takePgPin r s) r).method = 2 ∨ (railRec (takePgPin r s) r).method = 3 then
    twSubmit (railRec (takePgPin r s) r).port (adoptOp r (railRec (takePgPin r s) r)) (takePgPin r s)
  else takePgPin r s

theorem doSeqAdoptionStart_due (must : s.seq.mustAdopt = true) (loaded : s.seq.loaded = true) (first : s.seq.adopting = false) :
    doSeqAdoptionStart s = forEach (railsInUse (adoptBegun s)) adoptFirstRead (adoptBegun s) := by
  rw [doSeqAdoptionStart, if_pos ⟨must, loaded, Bool.eq_false_iff.mp first⟩]
  rfl

/-! ### What a port's reads say of a rail (R126 step 1) -/

theorem adoptOn_port (port : (railRec s r).method = 2 ∨ (railRec s r).method = 3) : adoptOn s r on = on := by
  obtain pmbus | sideband := port
  · simp [adoptOn, pmbus]
  · simp [adoptOn, sideband]

theorem adoptGood_ownStatus (own : (railRec s r).pg = 0xFFFF) : adoptGood s r good = good := by
  simp [adoptGood, own]

/-- The class of a rail (R126 step 2): 1 ON, 2 OFF, 3 MIXED. -/
def railClass (on good : Bool) : Nat := if on = true ∧ good = true then 1 else if on = false ∧ good = false then 2 else 3

theorem railClass_off : railClass on good = 2 ↔ on = false ∧ good = false := by
  revert on good
  decide

theorem adoptRail_port (port : (railRec s r).method = 2 ∨ (railRec s r).method = 3) (own : (railRec s r).pg = 0xFFFF) :
    adoptRail r on good s = updRail r (fun x =>
      { x with cls := railClass on good, cmdOn := on, pg := good, pgSince := s.now, state := if on = false ∧ good = false then .off else .on }) s := by
  have notFollower : (railRec s r).method ≠ 4 := by omega
  have cls : (if (on && good) = true then 1 else if (!on && !good) = true then 2 else 3) = railClass on good := by simp [railClass]
  simp only [adoptRail, notFollower, false_and, if_false, adoptOn_port port, adoptGood_ownStatus own, cls, railClass_off]

theorem doAdoptRailReadDone_due {r : Fin 256} (adopting : s.seq.adopting = true) (used : (railRec s r.val).method ≠ 0) (unread : (railSt s r.val).cls = 0) :
    doAdoptRailReadDone r on good s = adoptClassify (adoptRail r.val on good s) :=
  if_pos ⟨adopting, used, unread⟩

/-! ### The events as commands -/

theorem exec_seqAdoptionStart (h : awake s) : exec .seqAdoptionStart s = .next (settle s (doSeqAdoptionStart s)) := coreStep_awake h

theorem exec_adoptRailReadDone {r : Fin 256} (h : awake s) : exec (.adoptRailReadDone r on good) s = .next (settle s (doAdoptRailReadDone r on good s)) := coreStep_awake h

end

/-- Settles O30: adoption starts where it must and has not yet, and an unread rail takes the class of what its port and its own status show. -/
theorem adoption : Obligations.Adoption := by
  refine ⟨?start, ?read⟩
  case start =>
    intro s h must loaded first u adopting
    have begun : u = adoptBegun s := adopting
    rw [exec_seqAdoptionStart h, doSeqAdoptionStart_due must loaded first, begun]
    rfl
  case read =>
    intro s r on good h adopting port own unread
    have used : (railRec s r.val).method ≠ 0 := by omega
    rw [exec_adoptRailReadDone h, doAdoptRailReadDone_due adopting used unread, adoptRail_port port own]
    rfl

end Sys2Proof.Machine
end

section
/-! SUPPORT. The tray input (05_power_shaping_and_contract.md R131–R139): what a sample, a trip and the level's fall write, a rule for each outcome, and the obligation about them. -/

namespace Sys2Proof.Machine

/-! ### Going through a list -/

/-- What holds at the start and passes every round holds at the end. -/
theorem forEach_induct {α β : Type} {P : β → Prop} {f : α → β → β} {b : β} (l : List α) (start : P b) (round : ∀ a b, P b → P (f a b)) : P (forEach l f b) :=
  List.foldlRecOn (motive := P) l (fun b a => f a b) start fun b h a _ => round a b h

/-! ### What reports write -/

/-- The state without what a raise, a trigger of the recorder or a signal writes: the fault windows and what they ask for, the log, ERR_N, the recorder, and the signal plane. -/
def unreported (s : State) : State := { s with notes := [], und := {}, fw := [], err := {}, nvs := {}, mem := {}, gld := {} }

theorem unreported_ite {a x y : State} {c : Prop} [Decidable c] (hx : unreported x = unreported a) (hy : unreported y = unreported a) :
    unreported (if c then x else y) = unreported a := by
  split
  · exact hx
  · exact hy

section
variable {s : State}

theorem writeSignal_unreported (i : Nat) (w : Word) (stale : Bool) : unreported (writeSignal i w stale s) = unreported s := unreported_ite rfl rfl

theorem writeFixedSignal_unreported (producer src : Nat) (w : Word) (stale : Bool) : unreported (writeFixedSignal producer src w stale s) = unreported s :=
  forEach_induct (P := fun t => unreported t = unreported s) _ rfl fun _ _ h => (writeSignal_unreported _ _ _).trans h

theorem rcdTrigger_unreported (n : Nat) : unreported (rcdTrigger n s) = unreported s :=
  unreported_ite rfl (unreported_ite rfl (unreported_ite rfl rfl))

theorem throttlePins_unreported (block src : Nat) : unreported (throttlePins block src s) = unreported s := by
  unfold throttlePins
  split
  · exact unreported_ite rfl (forEach_induct (P := fun t => unreported t = unreported s) _ rfl fun _ _ h => h)
  · rfl

theorem askBlockReset_unreported (u : FUnit) (inst : Nat) : unreported (askBlockReset u inst s) = unreported s := unreported_ite rfl rfl

/-- A raise writes reports alone. -/
theorem raise_unreported (u : FUnit) (src : Nat) (cls : FClass) (i : FaultInfo) : unreported (raise u src cls i s) = unreported s := by
  unfold raise
  extract_lets r w w1 e w2 w3 s1 s2 nv s3 s4 s5 s6 s7
  have h1 : unreported s1 = unreported s := throttlePins_unreported _ _
  clear_value s1
  have h2 : unreported s2 = unreported s := unreported_ite h1 h1
  clear_value s2
  have h3 : unreported s3 = unreported s := unreported_ite h2 h2
  clear_value s3
  have h4 : unreported s4 = unreported s := unreported_ite h3 h3
  clear_value s4
  have h5 : unreported s5 = unreported s := unreported_ite h4 h4
  clear_value s5
  have h6 : unreported s6 = unreported s := unreported_ite ((rcdTrigger_unreported 5).trans h5) h5
  clear_value s6
  have h7 : unreported s7 = unreported s := unreported_ite h6 h6
  exact unreported_ite h7 (unreported_ite ((askBlockReset_unreported _ _).trans h7) h7)

end

/-- What two states share that differ in reports alone, of the parts that a sample reads or writes. -/
theorem afe_of_unreported {a b : State} (same : unreported a = unreported b) : a.afe = b.afe := congrArg (·.afe) same

theorem shp_of_unreported {a b : State} (same : unreported a = unreported b) : a.shp = b.shp := congrArg (·.shp) same

theorem regs_of_unreported {a b : State} (same : unreported a = unreported b) : a.regs = b.regs := congrArg (·.regs) same

/-! ### A comparator's trip (R135, R136) -/

section
variable {c : Comparator} {s : State}

theorem compNum_compOf {n : Nat} (comparator : n < 4) : compNum (compOf n) = n := by
  have all : ∀ n < 4, compNum (compOf n) = n := by decide
  exact all n comparator

/-- A trip is marked in AFE0, whose level may rise with it. -/
def tripMarked (level : Nat) (c : Comparator) (s : State) : State :=
  { s with afe.tripLevel := level, afe.below := terase s.afe.below (compNum c), afe.on := sadd s.afe.on (compNum c) }

theorem afeTrip_enabled (enabled : compEnabled s (compNum c) = true) : afeTrip c s = tripMarked (max s.afe.tripLevel (compLevel c)) c s := if_pos enabled

theorem afeTrip_rises (enabled : compEnabled s (compNum c) = true) (rises : s.afe.tripLevel ≤ compLevel c) : afeTrip c s = tripMarked (compLevel c) c s := by
  rw [afeTrip_enabled enabled, Nat.max_eq_right rises]

theorem afeTrip_stays (enabled : compEnabled s (compNum c) = true) (stays : compLevel c ≤ s.afe.tripLevel) : afeTrip c s = tripMarked s.afe.tripLevel c s := by
  rw [afeTrip_enabled enabled, Nat.max_eq_left stays]

/-- A crossing from level 0 counts in the minute's record (R165). -/
def tripCounted (was : Nat) (s : State) : State := if was = 0 then { s with shp.cur.trips := satInc 65535 s.shp.cur.trips } else s

theorem unreported_tripCounted (was : Nat) : unreported (tripCounted was s) = tripCounted was (unreported s) := by
  unfold tripCounted
  split
  · rfl
  · rfl

/-- Beside its reports, a trip is AFE0's, and its count. -/
theorem fastTrip_unreported (enabled : compEnabled s (compNum c) = true) : unreported (fastTrip c s) = unreported (tripCounted s.afe.tripLevel (afeTrip c s)) := by
  unfold fastTrip
  rw [if_pos enabled]
  extract_lets was anew t lvl s1 x y s2 s3
  have h1 : unreported s1 = unreported t := writeFixedSignal_unreported _ _ _ _
  have h2 : unreported s2 = unreported (tripCounted was t) := by
    rw [unreported_tripCounted, ← h1]
    exact unreported_tripCounted was
  have h3 : unreported s3 = unreported (tripCounted was t) := unreported_ite ((rcdTrigger_unreported 3).trans h2) h2
  clear_value s3
  exact unreported_ite (unreported_ite ((raise_unreported _ _ _ _).trans h3) h3)
    (unreported_ite h3 (unreported_ite ((raise_unreported _ _ _ _).trans h3) ((raise_unreported _ _ _ _).trans h3)))

theorem fastTrip_disabled (disabled : compEnabled s (compNum c) ≠ true) : fastTrip c s = s := if_neg disabled

theorem tripCounted_afe (was : Nat) : (tripCounted was s).afe = s.afe := by
  unfold tripCounted
  split
  · rfl
  · rfl

theorem tripCounted_regs (was : Nat) : (tripCounted was s).regs = s.regs := by
  unfold tripCounted
  split
  · rfl
  · rfl

theorem tripCounted_flags (was : Nat) : (tripCounted was s).shp.cur.flags = s.shp.cur.flags := by
  unfold tripCounted
  split
  · rfl
  · rfl

theorem fastTrip_afe (enabled : compEnabled s (compNum c) = true) : (fastTrip c s).afe = (afeTrip c s).afe :=
  (afe_of_unreported (fastTrip_unreported enabled)).trans (tripCounted_afe _)

theorem fastTrip_regs : (fastTrip c s).regs = s.regs := by
  by_cases enabled : compEnabled s (compNum c) = true
  · rw [regs_of_unreported (fastTrip_unreported enabled), tripCounted_regs, afeTrip_enabled enabled]
    rfl
  · rw [fastTrip_disabled enabled]

theorem fastTrip_flags : (fastTrip c s).shp.cur.flags = s.shp.cur.flags := by
  by_cases enabled : compEnabled s (compNum c) = true
  · rw [shp_of_unreported (fastTrip_unreported enabled), tripCounted_flags, afeTrip_enabled enabled]
    rfl
  · rw [fastTrip_disabled enabled]

/-- A trip raises the level at least to its comparator's. -/
theorem compLevel_le_fastTrip (enabled : compEnabled s (compNum c) = true) : compLevel c ≤ (fastTrip c s).afe.tripLevel := by
  rw [fastTrip_afe enabled, afeTrip_enabled enabled]
  exact Nat.le_max_right _ _

/-- No trip lowers the level. -/
theorem tripLevel_le_fastTrip : s.afe.tripLevel ≤ (fastTrip c s).afe.tripLevel := by
  by_cases enabled : compEnabled s (compNum c) = true
  · rw [fastTrip_afe enabled, afeTrip_enabled enabled]
    exact Nat.le_max_left _ _
  · exact Nat.le_of_eq (congrArg (·.afe.tripLevel) (fastTrip_disabled enabled).symm)

/-- A trip from level 0 counts. -/
theorem fastTrip_counts (enabled : compEnabled s (compNum c) = true) (zero : s.afe.tripLevel = 0) :
    (fastTrip c s).shp.cur.trips = satInc 65535 s.shp.cur.trips := by
  rw [shp_of_unreported (fastTrip_unreported enabled), afeTrip_enabled enabled, tripCounted, if_pos zero]
  rfl

/-! ### The reports of a trip (R139, R171) -/

/-- The throttle level's signal. -/
def levelWritten (level : Nat) (s : State) : State := writeFixedSignal 0x09 0x0030 (w32 level) false s

/-- A rise to level 1 or 2, from a level above 0. -/
theorem fastTrip_corrected (enabled : compEnabled s (compNum c) = true) (rises : s.afe.tripLevel < compLevel c) (low : compLevel c < 3) (up : s.afe.tripLevel ≠ 0) :
    fastTrip c s = raise uSHP 0 .corrected { item := compLevel c - 1 } (levelWritten (compLevel c) (tripMarked (compLevel c) c s)) := by
  have notUv : c ≠ .uv := by rintro rfl; exact absurd low (by decide)
  have level : (tripMarked (compLevel c) c s).afe.tripLevel = compLevel c := rfl
  have notTop : compLevel c ≠ 3 := Nat.ne_of_lt low
  simp only [fastTrip, if_pos enabled, afeTrip_rises enabled (Nat.le_of_lt rises), level, if_neg up, notTop, and_false, if_neg notUv, if_neg (Nat.not_le.mpr rises), if_false]
  rfl

/-- A rise to level 3 by its current comparator, from a level above 0. -/
theorem fastTrip_top (enabled : compEnabled s 2 = true) (rises : s.afe.tripLevel < 3) (up : s.afe.tripLevel ≠ 0) :
    fastTrip .i3 s = raise uSHP 1 .contained {} (rcdTrigger 3 (levelWritten 3 (tripMarked 3 .i3 s))) := by
  have marked : afeTrip .i3 s = tripMarked 3 .i3 s := afeTrip_rises enabled (Nat.le_of_lt rises)
  have level : (tripMarked 3 .i3 s).afe.tripLevel = 3 := rfl
  have on : compEnabled s (compNum .i3) = true := enabled
  simp only [fastTrip, if_pos on, marked, level, if_neg up, rises, and_self, if_true, if_neg (Nat.not_le.mpr rises), reduceCtorEq, if_false]
  rfl

/-- A current comparator whose level is reached already. -/
theorem fastTrip_reached (current : c ≠ .uv) (enabled : compEnabled s (compNum c) = true) (reached : compLevel c ≤ s.afe.tripLevel) (up : s.afe.tripLevel ≠ 0) :
    fastTrip c s = levelWritten s.afe.tripLevel (tripMarked s.afe.tripLevel c s) := by
  have level : (tripMarked s.afe.tripLevel c s).afe.tripLevel = s.afe.tripLevel := rfl
  have notNew : ¬ (s.afe.tripLevel < 3 ∧ s.afe.tripLevel = 3) := by omega
  simp only [fastTrip, if_pos enabled, afeTrip_stays enabled reached, level, if_neg up, if_neg notNew, if_neg current, if_pos (Nat.le_refl _)]
  rfl

theorem doFastTrip_awake (h : awake s) : doFastTrip c s = fastTrip c s := if_neg h.2

/-- Level 1 ends once its comparator has been released for the hold time (R137). -/
theorem doTripLevelFall_last {t : Time} (h : awake s) (level : s.afe.tripLevel = 1) (enabled : compEnabled s 0 = true) (released : tfind s.afe.below 0 = some t)
    (held : t + tripHoldUs s * us ≤ s.now) (heldFall : s.afe.fellAt + tripHoldUs s * us ≤ s.now) :
    doTripLevelFall s = levelWritten 0 { s with afe.tripLevel := 0, afe.fellAt := s.now } := by
  simp [doTripLevelFall, level, enabled, released, held, heldFall, h.2, levelWritten]

/-! ### All trips of a sample -/

theorem liveWord_congr {t : State} {off : Nat} (regs : t.regs = s.regs) : liveWord t off = liveWord s off := by
  rw [liveWord, regs, liveWord]

/-- Which comparators are enabled, and what trips them, is in the registers. -/
theorem compEnabled_congr {t : State} {n : Nat} (regs : t.regs = s.regs) : compEnabled t n = compEnabled s n := by
  simp only [compEnabled, tripLo162, tripHi163, senseParOf, liveWord_congr regs]

theorem compTrips_congr {t : State} {n : Nat} {v i : Int} (regs : t.regs = s.regs) : compTrips t n v i = compTrips s n v i := by
  have low : tripLo162 t = tripLo162 s := by simp only [tripLo162, senseParOf, liveWord_congr regs]
  have high : tripHi163 t = tripHi163 s := by simp only [tripHi163, senseParOf, liveWord_congr regs]
  have percent : compPct t n = compPct s n := by simp only [compPct, liveWord_congr regs]
  rw [compTrips, low, high, percent, compTrips]

/-- Trips one after another, lowest level first. -/
def tripsTaken (l : List Nat) (s : State) : State := forEach l (fun c s => fastTrip (compOf c) s) s

theorem tripsTaken_flags (l : List Nat) : (tripsTaken l s).shp.cur.flags = s.shp.cur.flags :=
  forEach_induct (P := fun t : State => t.shp.cur.flags = s.shp.cur.flags) l rfl fun _ _ h => fastTrip_flags.trans h

theorem tripLevel_le_tripsTaken (l : List Nat) : s.afe.tripLevel ≤ (tripsTaken l s).afe.tripLevel :=
  forEach_induct (P := fun t : State => s.afe.tripLevel ≤ t.afe.tripLevel) l (Nat.le_refl _) fun _ _ h => Nat.le_trans h tripLevel_le_fastTrip

/-- Each comparator of the list has raised the level to its own, whatever came before and after. -/
theorem compLevel_le_tripsTaken {l : List Nat} {n : Nat} (trips : n ∈ l) (comparator : n < 4) (enabled : compEnabled s n = true) :
    compLevel (compOf n) ≤ (tripsTaken l s).afe.tripLevel := by
  induction l generalizing s with
  | nil => cases trips
  | cons m l ih =>
    rw [tripsTaken, forEach_cons, ← tripsTaken]
    cases trips with
    | head =>
      have enabledToo : compEnabled s (compNum (compOf n)) = true := (compNum_compOf comparator).symm ▸ enabled
      exact Nat.le_trans (compLevel_le_fastTrip enabledToo) (tripLevel_le_tripsTaken l)
    | tail _ later => exact ih later ((compEnabled_congr fastTrip_regs).trans enabled)

end

/-! ### A sample in AFE0 (R132, R133, R135) -/

section
variable {v i : Word} {s : State}

/-- Energy, in 2^-32 W over 1 µs, added to the accumulator: whole millijoules, and the rest kept (log 26). -/
def energyAdded (e : Int) (a : AfeS) : AfeS :=
  { a with
    accum := a.accum + (a.accFrac + e) / (1000 * 4294967296)
    accFrac := a.accFrac + e - (a.accFrac + e) / (1000 * 4294967296) * (1000 * 4294967296) }

/-- Nothing is lost in the division. -/
theorem energyAdded_exact {e : Int} {a : AfeS} :
    (energyAdded e a).accum * 4294967296000 + (energyAdded e a).accFrac = a.accum * 4294967296000 + a.accFrac + e := by
  simp only [energyAdded]
  omega

/-- The window comparators' marks after a sample. -/
def marksJudged (below : Tab Time) (on : NSet) (a : AfeS) : AfeS := { a with below := below, on := on }

/-- All that a sample does in AFE0: its energy, and the comparators' marks. -/
theorem afeSample_eq (v i : Word) (s : State) : ∃ below on, afeSample v i s = { s with afe := marksJudged below on (energyAdded (v.toInt * satAmps i) s.afe) } := by
  refine forEach_induct (P := fun t => ∃ below on, t = { s with afe := marksJudged below on (energyAdded (v.toInt * satAmps i) s.afe) }) _ ⟨s.afe.below, s.afe.on, rfl⟩ ?_
  rintro c _ ⟨below, on, rfl⟩
  split
  · split
    · exact ⟨_, _, rfl⟩
    · exact ⟨_, _, rfl⟩
  · exact ⟨_, _, rfl⟩

theorem afeSample_pmd : (afeSample v i s).pmd = s.pmd := by
  obtain ⟨below, on, taken⟩ := afeSample_eq v i s
  rw [taken]

/-- Trips in D3 are AFE0's alone: its marks and its level. -/
theorem afeTrips_eq (l : List Nat) (s : State) :
    ∃ level below on, forEach l (fun c s => afeTrip (compOf c) s) s = { s with afe := { marksJudged below on s.afe with tripLevel := level } } := by
  refine forEach_induct (P := fun t => ∃ level below on, t = { s with afe := { marksJudged below on s.afe with tripLevel := level } }) l ⟨s.afe.tripLevel, s.afe.below, s.afe.on, rfl⟩ ?_
  rintro c _ ⟨level, below, on, rfl⟩
  unfold afeTrip
  split
  · exact ⟨_, _, _, rfl⟩
  · exact ⟨_, _, _, rfl⟩

/-! ### The means (R131, R134) -/

/-- The means of ten samples, whose sums start again. -/
def meansTaken (s : State) : State :=
  { s with
    afe.samples := 0, afe.sumV := 0, afe.sumI := 0, afe.sumP := 0, shp.inV := qdiv s.afe.sumV 10, shp.inI := qdiv s.afe.sumI 10, shp.inP := qdiv s.afe.sumP (10 * 65536) }

/-- A mean power joins the 100 ms window that has begun. -/
def windowFed (p : Int) (s : State) : State := if s.shp.winOpen then { s with shp.winSum := s.shp.winSum + p, shp.winCount := s.shp.winCount + 1 } else s

theorem windowFed_afe (p : Int) : (windowFed p s).afe = s.afe := by
  unfold windowFed
  split
  · rfl
  · rfl

/-- Of the shaper, the window's sum and count alone change. -/
theorem windowFed_shp (p : Int) : { (windowFed p s).shp with winSum := s.shp.winSum, winCount := s.shp.winCount } = s.shp := by
  unfold windowFed
  split
  · rfl
  · rfl

theorem windowFed_cur (p : Int) : (windowFed p s).shp.cur = s.shp.cur := by
  have frame := congrArg ShpS.cur (windowFed_shp (s := s) p)
  exact frame

theorem windowFed_winCount (p : Int) : (windowFed p s).shp.winCount = if s.shp.winOpen = true then s.shp.winCount + 1 else s.shp.winCount := by
  unfold windowFed
  split
  · rfl
  · rfl

theorem sampleMeans_few (few : s.afe.samples < 10) : sampleMeans s = s := if_pos few

/-- Beside the three signals, the tenth sample takes the means and feeds the window. -/
theorem sampleMeans_tenth (tenth : ¬ s.afe.samples < 10) : unreported (sampleMeans s) = unreported (windowFed (qdiv s.afe.sumP (10 * 65536)) (meansTaken s)) := by
  rw [sampleMeans, if_neg tenth]
  exact ((writeSignal_unreported _ _ _).trans (writeSignal_unreported _ _ _)).trans (writeSignal_unreported _ _ _)

/-- The tenth sample leaves its count at 0, the means of the sums, and the window one mean further. -/
theorem sampleMeans_values (tenth : ¬ s.afe.samples < 10) :
    (sampleMeans s).afe.samples = 0 ∧ (sampleMeans s).shp.inP = qdiv s.afe.sumP 655360 ∧ (sampleMeans s).shp.inV = qdiv s.afe.sumV 10 ∧
      (sampleMeans s).shp.inI = qdiv s.afe.sumI 10 ∧ (sampleMeans s).shp.winCount = (if s.shp.winOpen = true then s.shp.winCount + 1 else s.shp.winCount) := by
  have means := windowFed_shp (s := meansTaken s) (qdiv s.afe.sumP (10 * 65536))
  have inV : (windowFed (qdiv s.afe.sumP (10 * 65536)) (meansTaken s)).shp.inV = qdiv s.afe.sumV 10 := congrArg ShpS.inV means
  have inI : (windowFed (qdiv s.afe.sumP (10 * 65536)) (meansTaken s)).shp.inI = qdiv s.afe.sumI 10 := congrArg ShpS.inI means
  have inP : (windowFed (qdiv s.afe.sumP (10 * 65536)) (meansTaken s)).shp.inP = qdiv s.afe.sumP 655360 := congrArg ShpS.inP means
  rw [afe_of_unreported (sampleMeans_tenth tenth), shp_of_unreported (sampleMeans_tenth tenth), windowFed_afe, inV, inI, inP, windowFed_winCount]
  exact ⟨rfl, rfl, rfl, rfl, rfl⟩

theorem sampleMeans_cur : (sampleMeans s).shp.cur = s.shp.cur := by
  by_cases few : s.afe.samples < 10
  · rw [sampleMeans_few few]
  · rw [shp_of_unreported (sampleMeans_tenth few), windowFed_cur]
    rfl

theorem sampleMeans_tripLevel : (sampleMeans s).afe.tripLevel = s.afe.tripLevel := by
  by_cases few : s.afe.samples < 10
  · rw [sampleMeans_few few]
  · rw [afe_of_unreported (sampleMeans_tenth few), windowFed_afe]
    rfl

/-! ### A sample in the core die (R131, R132) -/

/-- A saturated current or faulted metering marks the open record METER_FAULT (R132). -/
def recordMarked (i : Word) (ok : Bool) (s : State) : State := if 26214400 < i.toInt ∨ ¬ ok then { s with shp.cur.flags := s.shp.cur.flags ||| 2 } else s

/-- Faulted metering is reported once, until a good sample. -/
def meteringJudged (ok : Bool) (s : State) : State :=
  if ¬ ok ∧ ¬ s.shp.meterFault then raise uSHP 8 .contained {} { s with shp.meterFault := true } else if ok then { s with shp.meterFault := false } else s

/-- The sample joins the sums of ten. -/
def sampleSummed (v i : Word) (s : State) : State :=
  { s with
    afe.samples := s.afe.samples + 1, afe.sumV := s.afe.sumV + v.toInt, afe.sumI := s.afe.sumI + satAmps i, afe.sumP := s.afe.sumP + v.toInt * satAmps i }

/-- AFE0 with a sample taken: its energy in the accumulator, and the sample in the sums. -/
structure SampleTaken (v i : Int) (a b : AfeS) : Prop where
  energy : b.accum * 4294967296000 + b.accFrac = a.accum * 4294967296000 + a.accFrac + v * i
  count  : b.samples = a.samples + 1
  volts  : b.sumV = a.sumV + v
  amps   : b.sumI = a.sumI + i
  power  : b.sumP = a.sumP + v * i

/-- The state in which a sample's trips are judged. -/
def sampleJudged (v i : Word) (ok : Bool) (s : State) : State := meteringJudged ok (recordMarked i ok (afeSample v i s))

/-- Awake, a sample is judged, trips what it trips, and joins the sums of which every tenth takes the means. -/
theorem doTraySample_awake {w j : Word} {ok : Bool} (h : awake s) (volts : w = trayConverted s 162 v) (amps : j = trayConverted s 163 i) :
    doTraySample v i ok s = sampleMeans (sampleSummed w j (tripsTaken (samplesTrip w j (sampleJudged w j ok s)) (sampleJudged w j ok s))) := by
  have notD3 : (afeSample w j s).pmd.state ≠ 3 := afeSample_pmd.symm ▸ h.2
  simp only [doTraySample, ← volts, ← amps, if_neg notD3]
  rfl

/-- In D3 a sample is AFE0's alone. -/
theorem doTraySample_d3 {w j : Word} {ok : Bool} (d3 : s.pmd.state = 3) (volts : w = trayConverted s 162 v) (amps : j = trayConverted s 163 i) :
    ∃ a, doTraySample v i ok s = { s with afe := a } ∧ a.accum * 4294967296000 + a.accFrac = s.afe.accum * 4294967296000 + s.afe.accFrac + w.toInt * satAmps j := by
  obtain ⟨below, on, taken⟩ := afeSample_eq w j s
  obtain ⟨level, below', on', trips⟩ := afeTrips_eq (samplesTrip w j (afeSample w j s)) (afeSample w j s)
  have still : (afeSample w j s).pmd.state = 3 := afeSample_pmd.symm ▸ d3
  have sampled : doTraySample v i ok s = { s with afe := { marksJudged below' on' (energyAdded (w.toInt * satAmps j) s.afe) with tripLevel := level } } := by
    simp only [doTraySample, ← volts, ← amps, if_pos still]
    rw [trips, taken]
    rfl
  exact ⟨_, sampled, energyAdded_exact⟩

theorem satAmps_inRange (range : i.toInt ≤ 26214400) : satAmps i = i.toInt := Int.min_eq_left range

/-- A good sample in range ends a fault of the metering, and marks nothing. -/
theorem sampleJudged_good (range : i.toInt ≤ 26214400) : sampleJudged v i true s = { afeSample v i s with shp.meterFault := false } := by
  have unmarked : recordMarked i true (afeSample v i s) = afeSample v i s := if_neg (by simp [range])
  rw [sampleJudged, unmarked]
  simp only [meteringJudged, not_true_eq_false, false_and, if_false, if_true]

/-- What a good sample without a trip leaves for the means. -/
theorem doTraySample_quiet {w j : Word} (h : awake s) (volts : w = trayConverted s 162 v) (amps : j = trayConverted s 163 i) (range : j.toInt ≤ 26214400)
    (quiet : samplesTrip w j (afeSample w j s) = []) :
    ∃ a, doTraySample v i true s = sampleMeans { s with afe := a, shp.meterFault := false } ∧ SampleTaken w.toInt j.toInt s.afe a := by
  obtain ⟨below, on, taken⟩ := afeSample_eq w j s
  have quietToo : samplesTrip w j { afeSample w j s with shp.meterFault := false } = [] := quiet
  rw [doTraySample_awake h volts amps]
  simp only [sampleJudged_good range, quietToo]
  rw [tripsTaken, forEach_nil, taken, sampleSummed, satAmps_inRange range]
  exact ⟨_, rfl, energyAdded_exact, rfl, rfl, rfl, rfl⟩

theorem meteringJudged_unmarked (ok : Bool) : (meteringJudged ok s).shp.cur = s.shp.cur ∧ (meteringJudged ok s).regs = s.regs := by
  unfold meteringJudged
  split
  · rw [shp_of_unreported (raise_unreported _ _ _ _), regs_of_unreported (raise_unreported _ _ _ _)]
    exact ⟨rfl, rfl⟩
  · split
    · exact ⟨rfl, rfl⟩
    · exact ⟨rfl, rfl⟩

/-- The open record after a saturated or bad sample. -/
theorem sampleJudged_marked {ok : Bool} (marks : 26214400 < i.toInt ∨ ok = false) : (sampleJudged v i ok s).shp.cur.flags = s.shp.cur.flags ||| 2 := by
  obtain ⟨below, on, taken⟩ := afeSample_eq v i s
  have marksToo : 26214400 < i.toInt ∨ ¬ ok = true := marks.imp_right Bool.eq_false_iff.mp
  rw [sampleJudged, (meteringJudged_unmarked ok).1, recordMarked, if_pos marksToo, taken]

/-- Judging a sample writes no register, so its comparators are judged as before it. -/
theorem sampleJudged_regs {ok : Bool} : (sampleJudged v i ok s).regs = s.regs := by
  obtain ⟨below, on, taken⟩ := afeSample_eq v i s
  rw [sampleJudged, (meteringJudged_unmarked ok).2, recordMarked, taken]
  split
  · rfl
  · rfl

theorem mem_samplesTrip {t : State} {n : Nat} (regs : t.regs = s.regs) (comparator : n < 4) (enabled : compEnabled s n = true)
    (trips : compTrips s n v.toInt (satAmps i) = true) : n ∈ samplesTrip v i t := by
  have listed : n ∈ [0, 1, 2, 3] := by
    simp only [List.mem_cons, List.not_mem_nil, or_false]
    omega
  exact List.mem_filter.mpr ⟨listed, by rw [compEnabled_congr regs, compTrips_congr regs, enabled, trips]; rfl⟩

end

/-! ### A sense sample (R172, R179) -/

section
variable {c : Fin 128} {raw : Word} {r : SenseRec} {s : State}

theorem doSenseSample_rec (found : senseRec s c.val = some r) :
    doSenseSample c raw s = senseTrip c.val (convertSense s c.val r.kind raw).toInt
      (if c.val < 64 then railVsReading c.val ((qdiv ((convertSense s c.val r.kind raw).toInt * 1000) 65536).toNat) (writeSignal c.val (convertSense s c.val r.kind raw) false s)
       else writeSignal c.val (convertSense s c.val r.kind raw) false s) := by
  simp only [doSenseSample, found]

/-! ### The events as commands -/

theorem exec_traySample {v i : Word} {ok : Bool} (out : s.und.supply.porAsserted = false) :
    exec (.traySample v i ok) s = .next (settle s (doTraySample v i ok s)) := islandStep_out out

theorem exec_senseSample (h : awake s) : exec (.senseSample c raw) s = .next (settle s (doSenseSample c raw s)) := coreStep_awake h

theorem exec_fastTrip {c : Comparator} (h : awake s) : exec (.fastTrip c) s = .next (settle s (fastTrip c s)) := by
  rw [← doFastTrip_awake h]
  exact islandStep_out h.1

theorem exec_tripLevelFall (h : awake s) : exec .tripLevelFall s = .next (settle s (doTripLevelFall s)) := islandStep_out h.1

end

/-- Settles O31: a sample's energy is exact and its trips and marks are its own, a trip reports the rise it makes, and the level falls when its comparator has been released long enough. -/
theorem trayInput : Obligations.TrayInput := by
  refine ⟨?sample, ?tenth, ?marks, ?trips, ?d3, ?sense, ?corrected, ?top, ?counted, ?reached, ?falls⟩
  case sample =>
    intro s v i w j h volts amps few range quiet
    obtain ⟨a, sampled, taken⟩ := doTraySample_quiet h volts amps range quiet
    have fewToo : a.samples < 10 := by rw [taken.count]; omega
    rw [sampleMeans_few fewToo] at sampled
    rw [exec_traySample h.1, sampled]
    exact ⟨_, rfl, taken.count, taken.energy, rfl, rfl⟩
  case tenth =>
    intro s v i w j h volts amps nine range quiet
    obtain ⟨a, sampled, taken⟩ := doTraySample_quiet h volts amps range quiet
    have tenth : ¬ a.samples < 10 := by rw [taken.count]; omega
    rw [exec_traySample h.1, sampled, ← taken.power, ← taken.volts, ← taken.amps]
    exact ⟨_, rfl, sampleMeans_values tenth⟩
  case marks =>
    intro s v i ok h marks
    refine ⟨_, exec_traySample h.1, ?_⟩
    rw [doTraySample_awake h rfl rfl, sampleMeans_cur]
    exact (tripsTaken_flags _).trans (sampleJudged_marked marks)
  case trips =>
    intro s v i ok c h comparator enabled trips
    refine ⟨_, exec_traySample h.1, ?_⟩
    rw [doTraySample_awake h rfl rfl, sampleMeans_tripLevel]
    exact compLevel_le_tripsTaken (mem_samplesTrip sampleJudged_regs comparator enabled trips) comparator ((compEnabled_congr sampleJudged_regs).trans enabled)
  case d3 =>
    intro s v i w j ok out d3 volts amps
    obtain ⟨a, sampled, energy⟩ := doTraySample_d3 (ok := ok) d3 volts amps
    rw [exec_traySample out, sampled]
    exact ⟨_, rfl, energy, rfl⟩
  case sense =>
    intro s c raw r w h found converted
    rw [exec_senseSample h, doSenseSample_rec found, converted]
  case corrected =>
    intro s c h enabled rises low up
    rw [exec_fastTrip h, fastTrip_corrected enabled rises low up, levelWritten, tripMarked]
  case top =>
    intro s h enabled rises up
    rw [exec_fastTrip h, fastTrip_top enabled rises up, levelWritten]
    rfl
  case counted =>
    intro s c h enabled zero
    refine ⟨_, exec_fastTrip h, ?_, fastTrip_counts enabled zero⟩
    rw [fastTrip_afe enabled, afeTrip_rises enabled (zero ▸ Nat.zero_le _)]
    rfl
  case reached =>
    intro s c h current enabled reached up
    rw [exec_fastTrip h, fastTrip_reached current enabled reached up, levelWritten]
    rfl
  case falls =>
    intro s t h level enabled released held heldFall
    rw [exec_tripLevelFall h, doTripLevelFall_last h level enabled released held heldFall, levelWritten]

end Sys2Proof.Machine
end

section
/-! SUPPORT. A slot's telemetry, the acknowledgement of a cap message and the valley-fill states (05_power_shaping_and_contract.md R142, R148, R151, R152, R155), a rule for each outcome, and
the obligation about them. -/

namespace Sys2Proof.Machine

section
variable {k : Fin 8} {s : State}

/-! ### Messages and telemetry (R142, R148) -/

theorem doMsgAck_sent {q : BitVec 16} {e : Nat × Nat} (sent : (shpSlot s k.val).sent.find? (fun e => e.1 == q.toNat) = some e) :
    doMsgAck k q s = writeAck k.val e.2 (updShp k.val (fun x => { x with sent := x.sent.filter (fun y => y.1 != q.toNat) }) s) := by
  simp only [doMsgAck, sent]

theorem doTelemetryRecord_gcl {power demand hotspot : Word} (gcl : viaGcl s k.val = true) :
    doTelemetryRecord k power demand hotspot s = gclMirror k.val power demand hotspot (telemetry k.val power.toInt demand.toInt s) := if_pos gcl

theorem doTelemetryStale_due (stale : telStale s k.val = true) (first : (shpSlot s k.val).staleSaid = false) (on : slotState s k.val = 4) :
    doTelemetryStale k s = raise uSHP 4 .corrected { unit := k.val } (updShp k.val (fun x => { x with staleSaid := true }) s) :=
  if_pos ⟨stale, on, Bool.eq_false_iff.mp first⟩

/-! ### Hints and the phases of valley fill (R151, R152) -/

/-- The first hint of an IDLE slot that fills valleys over GCL. -/
theorem doStepHint_idle {headReq : Bool} {tailIn tailLen headW headRamp : Word} (enabled : vfEnabled s k.val = true) (noPin : vfPin s k.val = false)
    (gcl : viaGcl s k.val = true) (on : slotState s k.val = 4) (idle : (shpSlot s k.val).vf = .idle) :
    doStepHint k headReq tailIn tailLen headW headRamp s = updShp k.val (fun _ => { shpSlot s k.val with
      vf := .hinted, vfAt := s.now, headReq := none,
      hint := { tailIn := tailIn.toNat, tailLen := tailLen.toNat, headW := headW.toInt, headRamp := headRamp.toNat, arrived := s.now, drawAt := (shpSlot s k.val).draw } }) s := by
  have taken : ¬ (¬ vfEnabled s k.val = true ∨ vfPin s k.val = true ∨ ¬ viaGcl s k.val = true ∨ slotState s k.val ≠ 4) := by simp [enabled, noPin, gcl, on]
  simp only [doStepHint, if_neg taken, idle]

theorem doHintTimeout_due (hinted : (shpSlot s k.val).vf = .hinted) (due : (shpSlot s k.val).hint.arrived + ((shpSlot s k.val).hint.tailIn + 200) * us ≤ s.now) :
    doHintTimeout k s = vfIdle k.val s := if_pos ⟨hinted, due⟩

/-- The tail that starts at its announced time. -/
theorem doTailStart_due (hinted : (shpSlot s k.val).vf = .hinted) (due : (shpSlot s k.val).hint.arrived + (shpSlot s k.val).hint.tailIn * us ≤ s.now) :
    doTailStart k s = updShp k.val (fun x =>
      { x with vf := .tail, vfAt := s.now, floor := max 0 (if telStale s k.val then (shpSlot s k.val).eff else (shpSlot s k.val).telDraw) }) s :=
  if_pos ⟨hinted, .inl due⟩

theorem doTailEnd_due (tail : (shpSlot s k.val).vf = .tail) (noPin : vfPin s k.val = false)
    (due : (shpSlot s k.val).vfAt + (shpSlot s k.val).hint.tailLen * us ≤ s.now) :
    doTailEnd k s = updShp k.val (fun x => { x with vf := .wait, vfAt := s.now }) s :=
  if_pos ⟨tail, Bool.eq_false_iff.mp noPin, due⟩

theorem doVfWaitTimeout_due (wait : (shpSlot s k.val).vf = .wait) (unasked : (shpSlot s k.val).headReq = none)
    (due : (shpSlot s k.val).vfAt + vfTimeoutUs s * us ≤ s.now) : doVfWaitTimeout k s = vfIdle k.val s := if_pos ⟨wait, unasked, due⟩

/-! ### The pin (R155) -/

theorem doStepPinFall_on (pin : vfPin s k.val = true) (enabled : vfEnabled s k.val = true) (on : slotState s k.val = 4) :
    doStepPinFall k s = updShp k.val (fun x => { x with vf := .tail, vfAt := s.now, floor := 0 }) s := if_pos ⟨pin, enabled, on⟩

/-- The rate of a slot's pin: HEAD_W over HEAD_RAMP_US, of which 0 counts as 1. -/
def pinRate (s : State) (k : Nat) : Int := qdiv (wq (fld (pinHint s k) 15 0)) ((max (fld (pinHint s k) 31 16) 1 : Nat) : Int)

theorem doStepPinRise_on (pin : vfPin s k.val = true) (enabled : vfEnabled s k.val = true) (on : slotState s k.val = 4) :
    doStepPinRise k s = { updShp k.val (fun x => { x with vf := .idle, vfAt := s.now, pinHead := some s.now, rate := pinRate s k.val }) s with
      shp.rising := (s.shp.rising.filter (fun e => e.1 != k.val)) ++ [(k.val, pinRate s k.val)] } := if_pos ⟨pin, enabled, on⟩

/-! ### The events as commands -/

theorem exec_msgAck {q : BitVec 16} (h : awake s) : exec (.msgAck k q) s = .next (settle s (doMsgAck k q s)) := coreStep_awake h

theorem exec_telemetryRecord {power : Word} {r : DemandHot} (h : awake s) :
    exec (.telemetryRecord k power r) s = .next (settle s (doTelemetryRecord k power r.demand r.hotspot s)) := coreStep_awake h

theorem exec_telemetryStale (h : awake s) : exec (.telemetryStale k) s = .next (settle s (doTelemetryStale k s)) := coreStep_awake h

theorem exec_stepHint {headReq : Bool} {tailIn tailLen headW headRamp : Word} (h : awake s) :
    exec (.stepHint k headReq tailIn tailLen headW headRamp) s = .next (settle s (doStepHint k headReq tailIn tailLen headW headRamp s)) := coreStep_awake h

theorem exec_hintTimeout (h : awake s) : exec (.hintTimeout k) s = .next (settle s (doHintTimeout k s)) := coreStep_awake h

theorem exec_tailStart (h : awake s) : exec (.tailStart k) s = .next (settle s (doTailStart k s)) := coreStep_awake h

theorem exec_tailEnd (h : awake s) : exec (.tailEnd k) s = .next (settle s (doTailEnd k s)) := coreStep_awake h

theorem exec_vfWaitTimeout (h : awake s) : exec (.vfWaitTimeout k) s = .next (settle s (doVfWaitTimeout k s)) := coreStep_awake h

theorem exec_stepPinFall (h : awake s) : exec (.stepPinFall k) s = .next (settle s (doStepPinFall k s)) := coreStep_awake h

theorem exec_stepPinRise (h : awake s) : exec (.stepPinRise k) s = .next (settle s (doStepPinRise k s)) := coreStep_awake h

end

/-- Settles O32: a message or an event that finds its slot in the phase it belongs to moves it to the next one. -/
theorem slotTelemetryAndValleyFill : Obligations.SlotTelemetryAndValleyFill := by
  refine ⟨?ack, ?record, ?stale, ?hint, ?hintTimeout, ?tailStart, ?tailEnd, ?waitTimeout, ?pinFall, ?pinRise⟩
  case ack =>
    intro s k q e h sent
    rw [exec_msgAck h, doMsgAck_sent sent, writeAck]
  case record =>
    intro s k p d hot h gcl
    rw [exec_telemetryRecord h, doTelemetryRecord_gcl gcl, telemetry]
  case stale =>
    intro s k h stale first on
    rw [exec_telemetryStale h, doTelemetryStale_due stale first on]
  case hint =>
    intro s k hr ti tl hw hp h enabled noPin gcl on idle
    rw [exec_stepHint h, doStepHint_idle enabled noPin gcl on idle]
  case hintTimeout =>
    intro s k h hinted due
    rw [exec_hintTimeout h, doHintTimeout_due hinted due]
  case tailStart =>
    intro s k h hinted due
    rw [exec_tailStart h, doTailStart_due hinted due]
  case tailEnd =>
    intro s k h tail noPin due
    rw [exec_tailEnd h, doTailEnd_due tail noPin due]
  case waitTimeout =>
    intro s k h wait unasked due
    rw [exec_vfWaitTimeout h, doVfWaitTimeout_due wait unasked due]
  case pinFall =>
    intro s k h pin enabled on
    rw [exec_stepPinFall h, doStepPinFall_on pin enabled on]
  case pinRise =>
    intro s k rate h pin enabled on isRate
    have same : rate = pinRate s k.val := isRate
    rw [exec_stepPinRise h, doStepPinRise_on pin enabled on, same]

end Sys2Proof.Machine
end

section
/-! SUPPORT. Contract schedules from their ARM to their take-over, and a saturated trim (05_power_shaping_and_contract.md R158–R160, R163), a rule for each outcome, and the obligation about
them. -/

namespace Sys2Proof.Machine

/-! ### The words of SHP_SCHED_ACT -/

section
variable {tag : Byte} {act : Nat}

theorem schedWord_toNat (fits : act < 4) : (w32 (tag.toNat * 16777216 + act)).toNat = tag.toNat * 16777216 + act := by
  rw [w32, BitVec.toNat_ofNat, Nat.mod_eq_of_lt]
  omega

theorem schedWord_act (fits : act < 4) : fld (w32 (tag.toNat * 16777216 + act)) 1 0 = act := by
  rw [fld, schedWord_toNat fits, Nat.shiftRight_eq_div_pow]
  omega

theorem schedWord_tag (fits : act < 4) : fld (w32 (tag.toNat * 16777216 + act)) 31 24 = tag.toNat := by
  rw [fld, schedWord_toNat fits, Nat.shiftRight_eq_div_pow]
  omega

end

/-! ### ARM and CANCEL (R159) -/

section
variable {path : Path} {tag : Byte} {w : Word} {s : State}

/-- A command pair holds its own word alone. -/
theorem regWord_setPair_other {off pair : Nat} (other : off ≠ pair) : regWord (setPair pair w s) off = regWord s off := by
  simp only [regWord, setPair, tfind_tput, if_neg other]

/-- SHP_SCHED_ACT as an accepted command leaves it: its word and its TAG kept. -/
def schedTaken (tag : Nat) (w : Word) (s : State) : State := setTag 0x090130 tag (setPair 0x090130 w s)

/-- Keeping the command's word leaves the staged registers of the bank as they are. -/
theorem regWord_schedTaken {off tag : Nat} (other : off ≠ 0x090130) : regWord (schedTaken tag w s) off = regWord s off := regWord_setPair_other other

/-- The staged bank as the check takes it (R159). -/
def stagedSchedule (tag : Nat) (s : State) : Delivered :=
  { tag := tag, from_ := (regWord s 0x090120).toNat, until_ := (regWord s 0x090124).toNat, bank := 1 - s.shp.bank,
    entries := (List.range (min (regWord s 0x090128).toNat 1440)).map (entryOfWords s.shp.bankWords) }

theorem stagedSchedule_schedTaken {a b : Nat} : stagedSchedule a (schedTaken b w s) = stagedSchedule a s := by
  simp only [stagedSchedule, regWord_schedTaken (show 0x090120 ≠ 0x090130 by decide), regWord_schedTaken (show 0x090124 ≠ 0x090130 by decide),
    regWord_schedTaken (show 0x090128 ≠ 0x090130 by decide)]
  rfl

/-- A word of a new TAG whose ACT is ARM, with no check under way. -/
theorem schedActWrite_arm {tag : Nat} (ok : pathOk s path 0x090130 = true) (sent : fld w 31 24 = tag) (fresh : tag ≠ lastTag s 0x090130) (arm : fld w 1 0 = 1)
    (free : s.shp.checking = none) : schedActWrite path w s = { schedTaken tag w s with shp.checking := some (stagedSchedule tag s) } := by
  subst sent
  have freshToo : fld w 31 24 ≠ lastTag (setPair 0x090130 w s) 0x090130 := fresh
  have idle : ¬ (setTag 0x090130 (fld w 31 24) (setPair 0x090130 w s)).shp.checking.isSome = true := by simp [free]
  rw [schedActWrite, withAuthority_ok ok, ← stagedSchedule_schedTaken]
  simp only [schedAct, if_neg freshToo, if_pos arm, if_neg idle]
  rfl

theorem schedActWrite_cancel {tag : Nat} (ok : pathOk s path 0x090130 = true) (sent : fld w 31 24 = tag) (fresh : tag ≠ lastTag s 0x090130) (cancel : fld w 1 0 = 2) :
    schedActWrite path w s = { schedTaken tag w s with shp.armed := none, shp.resTag := tag, shp.result := 0 } := by
  subst sent
  have freshToo : fld w 31 24 ≠ lastTag (setPair 0x090130 w s) 0x090130 := fresh
  have notArm : fld w 1 0 ≠ 1 := by omega
  rw [schedActWrite, withAuthority_ok ok]
  simp only [schedAct, if_neg freshToo, if_neg notArm, if_pos cancel]
  rfl

theorem doSchedArm_free (ok : pathOk s path 0x090130 = true) (fresh : tag.toNat ≠ lastTag s 0x090130) (free : s.shp.checking = none) :
    doSchedArm path tag s =
      { schedTaken tag.toNat (w32 (tag.toNat * 16777216 + 1)) s with shp.checking := some (stagedSchedule tag.toNat s) } :=
  schedActWrite_arm ok (schedWord_tag (by decide)) fresh (schedWord_act (by decide)) free

theorem doSchedCancel_ok (ok : pathOk s path 0x090130 = true) (fresh : tag.toNat ≠ lastTag s 0x090130) :
    doSchedCancel path tag s =
      { schedTaken tag.toNat (w32 (tag.toNat * 16777216 + 2)) s with shp.armed := none, shp.resTag := tag.toNat, shp.result := 0 } :=
  schedActWrite_cancel ok (schedWord_tag (by decide)) fresh (schedWord_act (by decide))

end

/-! ### The check (R158–R160) -/

section
variable {d : Delivered} {s : State}

/-- A check that ends leaves its TAG, and no failing entry yet. -/
def checkEnded (d : Delivered) (s : State) : State := { s with shp.checking := none, shp.resTag := d.tag, shp.resEntry := 0 }

theorem doScheduleCheckDone_count (checking : s.shp.checking = some d) (count : (regWord s 0x090128).toNat < 1 ∨ 1440 < (regWord s 0x090128).toNat) :
    doScheduleCheckDone s = { checkEnded d s with shp.result := 2 } := by
  simp only [doScheduleCheckDone, checking]
  exact if_pos count

/-- A count of entries that fits a bank. -/
theorem not_badCount {n : Nat} (nonzero : 1 ≤ n) (fits : n ≤ 1440) : ¬ (n < 1 ∨ 1440 < n) := by omega

theorem doScheduleCheckDone_crc (checking : s.shp.checking = some d) (nonzero : 1 ≤ (regWord s 0x090128).toNat) (fits : (regWord s 0x090128).toNat ≤ 1440)
    (crc : crc32c (bankBytes s.shp.bankWords (regWord s 0x090128).toNat) ≠ regWord s 0x09012C) :
    doScheduleCheckDone s = { checkEnded d s with shp.result := 1 } := by
  simp only [doScheduleCheckDone, checking, if_neg (not_badCount nonzero fits)]
  exact if_pos crc

/-- A schedule that passes every check, in time for its descent and with no other armed, is armed; its minute may have come already. -/
theorem doScheduleCheckDone_passes (checking : s.shp.checking = some d) (nonzero : 1 ≤ (regWord s 0x090128).toNat) (fits : (regWord s 0x090128).toNat ≤ 1440)
    (crc : crc32c (bankBytes s.shp.bankWords (regWord s 0x090128).toNat) = regWord s 0x09012C) (good : badEntry d.entries = none)
    (window : d.from_ < d.until_) (ahead : minuteCount s < d.until_) (free : s.shp.armed = none) (inTime : scheduleLate d (checkEnded d s) = false) :
    doScheduleCheckDone s = takeOver { checkEnded d s with shp.armed := some d, shp.result := 0 } := by
  have inside : ¬ (d.until_ ≤ d.from_ ∨ d.until_ ≤ minuteCount (checkEnded d s)) := not_or.mpr ⟨Nat.not_le.mpr window, Nat.not_le.mpr ahead⟩
  have crcOk : ¬ crc32c (bankBytes s.shp.bankWords (regWord s 0x090128).toNat) ≠ regWord s 0x09012C := fun differs => differs crc
  simp only [checkEnded, free] at inside inTime
  simp only [doScheduleCheckDone, checking, if_neg (not_badCount nonzero fits)]
  refine (if_neg crcOk).trans ?_
  simp only [good, if_neg inside, free, inTime, Bool.false_eq_true, if_false]
  rfl

/-! ### The take-over, and the trim -/

theorem takeOver_due (armed : s.shp.armed = some d) (due : d.from_ ≤ minuteCount s) :
    takeOver s = { s with shp.inForce := some d, shp.armed := none, shp.bank := d.bank, shp.bankWords := s.shp.bankOther, shp.bankOther := s.shp.bankWords } := by
  simp only [takeOver, armed, if_pos due]

theorem doTrimSaturated_due {t : Time} (since : s.shp.trimSince = some t) (due : t + 100 * ms ≤ s.now) (first : s.shp.trimOn = false) :
    doTrimSaturated s = raise uSHP 5 .corrected {} { s with shp.trimOn := true } := by
  simp only [doTrimSaturated, since]
  exact if_pos ⟨due, Bool.eq_false_iff.mp first⟩

end

/-! ### The commands -/

section
variable {path : Path} {tag : Byte} {s : State}

theorem exec_schedArm (h : awake s) : exec (.schedArm path tag) s = .next (settle s (doSchedArm path tag s)) := coreStep_awake h

theorem exec_schedCancel (h : awake s) : exec (.schedCancel path tag) s = .next (settle s (doSchedCancel path tag s)) := coreStep_awake h

theorem exec_scheduleCheckDone (h : awake s) : exec .scheduleCheckDone s = .next (settle s (doScheduleCheckDone s)) := coreStep_awake h

theorem exec_scheduleTakeOver (h : awake s) : exec .scheduleTakeOver s = .next (settle s (takeOver s)) := coreStep_awake h

theorem exec_trimSaturated (h : awake s) : exec .trimSaturated s = .next (settle s (doTrimSaturated s)) := coreStep_awake h

end

/-- Settles O33: a new TAG acts by its ACT, the check answers its first failure or arms the schedule, and an armed schedule waits for its minute. -/
theorem schedules : Obligations.Schedules := by
  refine ⟨?arm, ?cancel, ?count, ?crc, ?passes, ?takeOver, ?trim⟩
  case arm =>
    intro s path tag h ok fresh free
    rw [exec_schedArm h, doSchedArm_free ok fresh free]
    exact ⟨_, _, rfl, rfl, rfl, rfl, rfl, rfl, rfl, rfl⟩
  case cancel =>
    intro s path tag h ok fresh
    rw [exec_schedCancel h, doSchedCancel_ok ok fresh]
    exact ⟨_, rfl, rfl, rfl, rfl, rfl⟩
  case count =>
    intro s d h checking count
    rw [exec_scheduleCheckDone h, doScheduleCheckDone_count checking count, checkEnded]
  case crc =>
    intro s d h checking nonzero fits crc
    rw [exec_scheduleCheckDone h, doScheduleCheckDone_crc checking nonzero fits crc, checkEnded]
  case passes =>
    intro s d z h checking nonzero fits crc good window ahead free ended inTime
    have isEnded : z = checkEnded d s := ended
    subst isEnded
    rw [exec_scheduleCheckDone h, doScheduleCheckDone_passes checking nonzero fits crc good window ahead free inTime]
  case takeOver =>
    intro s d h armed due
    rw [exec_scheduleTakeOver h, takeOver_due armed due]
  case trim =>
    intro s t h since due first
    rw [exec_trimSaturated h, doTrimSaturated_due since due first]

end Sys2Proof.Machine
end

section
/-! SUPPORT. The contract ledger from the minute's record to the spool and back (05_power_shaping_and_contract.md R165–R169), a rule for each outcome, and the obligation about them. -/

namespace Sys2Proof.Machine

section
variable {b : ClosedBlock} {s : State}

/-! ### The minute's record (R165, R166) -/

/-- The energy of the minute that ends, in mJ. -/
def minuteEnergy (s : State) : Int := s.afe.accum - s.shp.cur.startAccum

/-- A device that leads its cascade without a board, in a minute with an allowance: its own record alone is appended. Its flags are those the minute collected, with the timebase's and the
excess's. -/
theorem minuteClose_lead (ended : s.shp.lastMinute < minuteCount s) (noBoard : leadsBoard s = false) (lead : isLead s = true) (capped : s.shp.cur.noCap = false) :
    ∃ flags, minuteClose s = ledgerAppend (sealRecord (recordWords s.shp.cur (s.shp.seq + 1) flags (minuteEnergy s) (excessOf s.shp.cur.capW (minuteEnergy s))))
      (excessOf s.shp.cur.capW (minuteEnergy s)) (minuteCount s) (openRecord { s with cas.substituted := false, cas.energy := 0 }) := by
  have leadToo : isLead { s with cas.substituted := false, cas.energy := 0 } = true := lead
  simp only [minuteClose, if_pos ended, noBoard, capped, leadToo, Bool.false_eq_true, or_self, if_false, if_true]
  exact ⟨_, rfl⟩

/-! ### Signatures (R166, R169) -/

/-- The ledger with a block signed: the block is marked, and the one after it carries its digest. -/
def blockSigned (sb : SignedBlock) (s : State) : State :=
  let s := { s with fresh := s.fresh + 1, shp.closed := chainDigest sb.digest (sb.block.blockSeq + 1) (markSigned sb s.shp.closed) }
  if s.shp.blockOpen.blockSeq = sb.block.blockSeq + 1 then { s with shp.blockOpen.prevDigest := sb.digest } else s

/-- A signature draws one free value and changes the shaper's ledger alone. -/
theorem blockSigned_frame {sb : SignedBlock} : (blockSigned sb s).fresh = s.fresh + 1 ∧ { blockSigned sb s with fresh := s.fresh, shp := s.shp } = s := by
  simp only [blockSigned]
  split
  · exact ⟨rfl, rfl⟩
  · exact ⟨rfl, rfl⟩

theorem doLedgerBlockSigned_oldest (oldest : firstUnsigned s.shp.closed = some b) (key : s.sec.identityKey = true) :
    doLedgerBlockSigned s = nvsQueue { rank := 4, area := 0x0E, payload := some (.spool (signBlock b.block s)), length := 2392 }
      (ledgerWrite (signBlock b.block s) (blockSigned (signBlock b.block s) s)) := by
  simp only [doLedgerBlockSigned, oldest, if_pos key]
  rfl

theorem doSigningLate_due (oldest : firstUnsigned s.shp.closed = some b) (due : b.closed + 60 * sec ≤ s.now) (first : b.late = false) :
    doSigningLate s = raise uSHP 7 .corrected { item := 1 }
      { s with shp.closed := s.shp.closed.map (fun x => if x.block.blockSeq = b.block.blockSeq then { x with late := true } else x) } := by
  simp only [doSigningLate, oldest]
  exact if_pos ⟨due, Bool.eq_false_iff.mp first⟩

/-- The closed block of the checkpoint that no signature has reached is signed like any other. -/
theorem doLedgerResign_awaiting {c : Checkpoint} (checkpoint : nvsNewest s 0x0A = some (.ledger c)) (awaiting : c.awaiting = some b.block)
    (oldest : firstUnsigned s.shp.closed = some b) : doLedgerResign s = doLedgerBlockSigned s := by
  simp [doLedgerResign, checkpoint, awaiting, oldest]

/-! ### The spool (R168) -/

theorem doLedgerSpoolRestore_due (lost : s.dram.ledgerLost = true) (trained : (List.range 8).all s.mem.trained.contains = true) :
    doLedgerSpoolRestore s = { s with dram.ledger := (s.mram.spool.map (·.2)).foldl (fun l b => insertBlock b l) [], dram.ledgerLost := false } :=
  if_pos ⟨lost, trained⟩

/-! ### The events as commands -/

theorem exec_minuteClose (h : awake s) : exec .minuteClose s = .next (settle s (minuteClose s)) := coreStep_awake h

theorem exec_ledgerBlockSigned (h : awake s) : exec .ledgerBlockSigned s = .next (settle s (doLedgerBlockSigned s)) := coreStep_awake h

theorem exec_signingLate (h : awake s) : exec .signingLate s = .next (settle s (doSigningLate s)) := coreStep_awake h

theorem exec_spoolWriteDone (h : awake s) : exec .spoolWriteDone s = .next (settle s (doSpoolWriteDone s)) := coreStep_awake h

theorem exec_ledgerSpoolRestore (h : awake s) : exec .ledgerSpoolRestore s = .next (settle s (doLedgerSpoolRestore s)) := coreStep_awake h

theorem exec_ledgerResign (h : awake s) : exec .ledgerResign s = .next (settle s (doLedgerResign s)) := coreStep_awake h

end

/-- Settles O34: a minute that has ended is sealed and appended, the oldest closed block is signed, now or again, and the spool lets blocks go and gives them back. -/
theorem contractLedger : Obligations.ContractLedger := by
  refine ⟨?minute, ?signed, ?late, ?spooled, ?restored, ?resigned⟩
  case minute =>
    intro s h ended noBoard lead capped
    obtain ⟨flags, closes⟩ := minuteClose_lead ended noBoard lead capped
    exact ⟨flags, by rw [exec_minuteClose h, closes]; rfl⟩
  case signed =>
    intro s b h oldest key
    rw [exec_ledgerBlockSigned h, doLedgerBlockSigned_oldest oldest key]
    exact ⟨_, signBlock b.block s, rfl, rfl, rfl, rfl, rfl, rfl, blockSigned_frame⟩
  case late =>
    intro s b h oldest due first
    rw [exec_signingLate h, doSigningLate_due oldest due first]
  case spooled =>
    intro s h
    exact exec_spoolWriteDone h
  case restored =>
    intro s h lost trained
    rw [exec_ledgerSpoolRestore h, doLedgerSpoolRestore_due lost trained]
  case resigned =>
    intro s c b h checkpoint awaiting oldest key
    rw [exec_ledgerResign h, doLedgerResign_awaiting checkpoint awaiting oldest, doLedgerBlockSigned_oldest oldest key]
    exact ⟨_, signBlock b.block s, rfl, rfl, rfl, blockSigned_frame⟩

end Sys2Proof.Machine
end

section
/-! SUPPORT. Leak and flow channels from a reading to the state of their channel, and LKF_CLEAR (06_thermal_leak_and_flow.md R193–R197), a rule for each outcome, and the obligation about
them. -/

namespace Sys2Proof.Machine

/-! ### A channel after its update -/

@[simp] theorem lkfCh_updLkf_same {s : State} {n : Nat} {f : LkfCh → LkfCh} : lkfCh (updLkf n f s) n = f (lkfCh s n) := tget_tupd_same _ _ _ _

/-- An update is what it makes of the channel's own value. -/
theorem updLkf_congr {s : State} {n : Nat} {f g : LkfCh → LkfCh} (same : f (lkfCh s n) = g (lkfCh s n)) : updLkf n f s = updLkf n g s := by
  simp only [lkfCh] at same
  simp only [updLkf, tupd, same]

/-! ### Leak readings (R193–R195) -/

section
variable {s : State} {c : Fin 16} {ip qd : Word} {n b : Nat} {r q : Int}

/-- A reading kept in its channel, the `run`th in a row of band `b`. -/
def leakKept (n b run : Nat) (r q : Int) (s : State) : State := updLkf n (fun x => { x with band := b, run := run, value := r, aux := q }) s

/-- A fifth reading in a row: its band is the one last qualified. -/
def leakTaken (n b : Nat) (r q : Int) (s : State) : State := updLkf n (fun x => { x with qualAt := s.now, taken := b }) (leakKept n b 5 r q s)

/-- A channel whose band WET has just qualified latches it, unless it is latched already (R195). -/
def leakLatched (n b : Nat) (s : State) : State := if b = 1 ∧ ¬ s.und.wet.contains n = true then setWet (sadd s.und.wet n) s else s

theorem leakTaken_qualAt : (lkfCh (leakTaken n b r q s) n).qualAt = s.now := by simp [leakTaken]

theorem leakTaken_taken : (lkfCh (leakTaken n b r q s) n).taken = b := by simp [leakTaken]

theorem leakLatched_wet (unlatched : s.und.wet.contains n = false) :
    leakLatched n 1 (leakTaken n 1 r q s) = setWet (sadd s.und.wet n) (leakTaken n 1 r q s) := if_pos ⟨rfl, Bool.eq_false_iff.mp unlatched⟩

theorem leakLatched_other (other : b ≠ 1) : leakLatched n b s = s := if_neg (fun wet => other wet.1)

theorem leakTaken_frame : { leakTaken n b r q s with lkf.ch := s.lkf.ch } = s := by simp [leakTaken, leakKept]

theorem setWet_leakTaken_frame {l : NSet} :
    { setWet l (leakTaken n b r q s) with lkf.ch := s.lkf.ch, und.wet := s.und.wet, und.wetMirror := s.und.wetMirror } = s := by
  simp [setWet, leakTaken, leakKept]

/-- A channel whose band WET qualifies reports WET, latched before or not. -/
theorem leakState_wet : leakState s n 1 = 1 := ite_self 1

theorem doLeakReading_repeats (enabled : (lkfCh s c.val).state ≠ 7) (inPhase : r = leakRatio s c.val ip) (quadrature : q = leakRatio s c.val qd)
    (band : leakBand s c.val r q = (lkfCh s c.val).band) (few : (lkfCh s c.val).run < 4) :
    doLeakReading c ip qd s = updLkf c.val (fun x => { x with run := (lkfCh s c.val).run + 1, value := r, aux := q }) s := by
  have unqualified : ¬ 5 ≤ (lkfCh s c.val).run + 1 := by omega
  have uncapped : min ((lkfCh s c.val).run + 1) 5 = (lkfCh s c.val).run + 1 := by omega
  simp only [doLeakReading, if_neg enabled, ← inPhase, ← quadrature, if_pos band, unqualified, and_false, if_false, uncapped]
  exact updLkf_congr (by rw [band])

theorem doLeakReading_changes (enabled : (lkfCh s c.val).state ≠ 7) (inPhase : r = leakRatio s c.val ip) (quadrature : q = leakRatio s c.val qd)
    (other : leakBand s c.val r q ≠ (lkfCh s c.val).band) : doLeakReading c ip qd s = leakKept c.val (leakBand s c.val r q) 1 r q s := by
  have unqualified : ¬ 5 ≤ 1 := by decide
  simp only [doLeakReading, if_neg enabled, ← inPhase, ← quadrature, if_neg other, unqualified, and_false, if_false]
  rfl

/-- A fifth reading in a row qualifies its band, and the channel enters the band's state or stays at a latched WET. -/
theorem doLeakReading_qualifies (enabled : (lkfCh s c.val).state ≠ 7) (inPhase : r = leakRatio s c.val ip) (quadrature : q = leakRatio s c.val qd)
    (band : leakBand s c.val r q = b) (named : b ≠ 0xFF) (last : (lkfCh s c.val).band = b) (run : 4 ≤ (lkfCh s c.val).run) :
    doLeakReading c ip qd s = enterLkf c.val (leakState (leakLatched c.val b (leakTaken c.val b r q s)) c.val b) (leakLatched c.val b (leakTaken c.val b r q s)) := by
  have qualified : b ≠ 0xFF ∧ 5 ≤ (lkfCh s c.val).run + 1 := ⟨named, by omega⟩
  have capped : min ((lkfCh s c.val).run + 1) 5 = 5 := by omega
  simp only [doLeakReading, if_neg enabled, ← inPhase, ← quadrature, band, if_pos last.symm, if_pos qualified, capped]
  rfl

theorem doLeakNoisy_due (enabled : (lkfCh s c.val).state ≠ 7) (due : (lkfCh s c.val).qualAt + 500 * ms ≤ s.now) :
    doLeakNoisy c s = enterLkf c.val (leakState s c.val 4) (updLkf c.val (fun x => { x with taken := 4 }) s) := if_pos ⟨enabled, due⟩

end

/-! ### LKF_CLEAR (R195) -/

section
variable {path : Path} {tag : Byte} {mask : BitVec 16} {w : Word} {s : State}

/-- The word of LKF_CLEAR with this TAG and these channels. -/
def lkfClearWord (tag : Byte) (mask : BitVec 16) : Word := w32 (tag.toNat * 16777216 + mask.toNat)

theorem lkfClearWord_toNat : (lkfClearWord tag mask).toNat = tag.toNat * 16777216 + mask.toNat := by
  rw [lkfClearWord, w32, BitVec.toNat_ofNat, Nat.mod_eq_of_lt]
  omega

theorem lkfClearWord_tag : fld (lkfClearWord tag mask) 31 24 = tag.toNat := by
  rw [fld, lkfClearWord_toNat, Nat.shiftRight_eq_div_pow]
  omega

theorem lkfClearWord_mask : fld (lkfClearWord tag mask) 15 0 = mask.toNat := by
  rw [fld, lkfClearWord_toNat, Nat.shiftRight_eq_div_pow]
  omega

/-- LKF_CLEAR as a word of a new TAG leaves it: the word, its TAG and what it answers. -/
def lkfClearAnswered (tag result ch : Nat) (w : Word) (s : State) : State :=
  { setTag 0x0C0010 tag (setPair 0x0C0010 w s) with lkf.resTag := tag, lkf.result := result, lkf.resCh := ch }

theorem lkfClearWrite_ok (writer : path = .proc .thm ∨ path = .proc .sec) : lkfClearWrite path w s = lkfClear w (setPair 0x0C0010 w s) := if_pos writer

theorem doLkfClearRequest_denied (notThm : path ≠ .proc .thm) (notSec : path ≠ .proc .sec) :
    doLkfClearRequest path tag mask s = raise uLKF 4 .contained { path := pathCode path, w1 := some 0x0C0010, w2 := lkfClearWord tag mask } s :=
  if_neg (not_or.mpr ⟨notThm, notSec⟩)

/-- The first named channel that is not qualified dry refuses the clear. -/
theorem doLkfClearRequest_refused {ch : Nat} (writer : path = .proc .thm ∨ path = .proc .sec) (fresh : tag.toNat ≠ lastTag s 0x0C0010)
    (undry : (maskBits 16 mask.toNat).find? (fun c => (lkfCh s c).taken != 0) = some ch) :
    doLkfClearRequest path tag mask s = lkfClearAnswered tag.toNat 1 ch (lkfClearWord tag mask) s := by
  have freshToo : tag.toNat ≠ lastTag (setPair 0x0C0010 (lkfClearWord tag mask) s) 0x0C0010 := fresh
  have undryToo : (maskBits 16 mask.toNat).find? (fun c => (lkfCh (setTag 0x0C0010 tag.toNat (setPair 0x0C0010 (lkfClearWord tag mask) s)) c).taken != 0) = some ch := undry
  rw [doLkfClearRequest, ← lkfClearWord, lkfClearWrite_ok writer]
  simp only [lkfClear, lkfClearWord_tag, lkfClearWord_mask, if_neg freshToo, undryToo]
  rfl

/-- A clear of channels qualified dry drops their latches, and each that reports WET reports DRY. -/
theorem doLkfClearRequest_clears (writer : path = .proc .thm ∨ path = .proc .sec) (fresh : tag.toNat ≠ lastTag s 0x0C0010)
    (dry : (maskBits 16 mask.toNat).find? (fun c => (lkfCh s c).taken != 0) = none) :
    doLkfClearRequest path tag mask s = forEach (maskBits 16 mask.toNat) (fun c s => if (lkfCh s c).state = 1 then enterLkf c 0 s else s)
      (setWet ((maskBits 16 mask.toNat).foldl sdel s.und.wet) (lkfClearAnswered tag.toNat 0 0 (lkfClearWord tag mask) s)) := by
  have freshToo : tag.toNat ≠ lastTag (setPair 0x0C0010 (lkfClearWord tag mask) s) 0x0C0010 := fresh
  have dryToo : (maskBits 16 mask.toNat).find? (fun c => (lkfCh (setTag 0x0C0010 tag.toNat (setPair 0x0C0010 (lkfClearWord tag mask) s)) c).taken != 0) = none := dry
  rw [doLkfClearRequest, ← lkfClearWord, lkfClearWrite_ok writer]
  simp only [lkfClear, lkfClearWord_tag, lkfClearWord_mask, if_neg freshToo, dryToo]
  rfl

end

/-! ### Flow samples (R196) -/

section
variable {s : State} {c : Fin 16} {x : Word} {n : Nat}

/-- MODE of a channel: 0 none, 1 pulses, 2 voltage, 3 ratio. -/
def flowMode (s : State) (n : Nat) : Nat := (tget {} s.lkf.recs n).mode

/-- The channel as a sample's pulses leave it, in mode 1 alone. -/
def flowCounted (s : State) (n : Nat) (x : Word) : LkfCh := if flowMode s n = 1 then flowPulse (lkfCh s n) s.now x.toInt else lkfCh s n

/-- What a sample measures: the mean frequency in mode 1, the input itself in the others. -/
def flowInput (s : State) (n : Nat) (x : Word) : Int := if flowMode s n = 1 then flowMean (flowCounted s n x).freqs else x.toInt

/-- The channel's value of a sample. -/
def flowValue (s : State) (n : Nat) (x : Word) : Int :=
  if flowMode s n = 1 then qdiv (60 * flowInput s n x) (max (lkfParN s n 2) 1) else qdiv (lkfPar s n 2 * flowInput s n x) 65536 + lkfPar s n 3

/-- An input out of its mode's range. -/
def flowBad (s : State) (n : Nat) (x : Word) : Bool :=
  if flowMode s n = 1 then decide (5000 * 65536 < flowInput s n x)
  else if flowMode s n = 2 then decide (flowInput s n x * 1000 < 66 * 65536) || decide (3234 * 65536 < flowInput s n x * 1000)
  else decide (flowInput s n x * 100 < 5 * 65536) || decide (95 * 65536 < flowInput s n x * 100)

/-- A sample kept in its channel, with the times since when it is beyond a limit in use and inside that of its alarm. -/
def flowKept (n : Nat) (v aux : Int) (beyond : Option Time) (high : Bool) (inside : Option Time) (q : LkfCh) (s : State) : State :=
  updLkf n (fun x => { x with value := v, aux := aux, beyond := beyond, beyondHi := high, inside := inside }) (updLkf n (fun _ => q) s)

theorem flowCounted_state : (flowCounted s n x).state = (lkfCh s n).state := by
  rw [flowCounted]
  split <;> rfl

/-- A sample of a channel in use is kept and shown; one out of range makes its channel FAULT, and one in range ends that. -/
theorem doFlowSample_measured (used : flowMode s (16 + c.val) ≠ 0) (enabled : (lkfCh s (16 + c.val)).state ≠ 7) :
    ∃ aux beyond high inside t, t = writeSignal (lkfSignal (16 + c.val)) (qWord (flowValue s (16 + c.val) x)) (flowBad s (16 + c.val) x)
        (flowKept (16 + c.val) (flowValue s (16 + c.val) x) aux beyond high inside (flowCounted s (16 + c.val) x) s) ∧
      doFlowSample c x s = if flowBad s (16 + c.val) x = true then enterLkf (16 + c.val) 3 t
        else if (flowCounted s (16 + c.val) x).state = 3 then enterLkf (16 + c.val) 0 t else t :=
  ⟨_, _, _, _, _, rfl, if_neg (not_or.mpr ⟨used, enabled⟩)⟩

theorem doFlowSample_good (used : flowMode s (16 + c.val) ≠ 0) (enabled : (lkfCh s (16 + c.val)).state < 3) (good : flowBad s (16 + c.val) x = false) :
    ∃ aux beyond high inside, doFlowSample c x s = writeSignal (lkfSignal (16 + c.val)) (qWord (flowValue s (16 + c.val) x)) false
      (flowKept (16 + c.val) (flowValue s (16 + c.val) x) aux beyond high inside (flowCounted s (16 + c.val) x) s) := by
  obtain ⟨aux, beyond, high, inside, t, shown, sample⟩ := doFlowSample_measured (x := x) used (by omega)
  have sound : (flowCounted s (16 + c.val) x).state ≠ 3 := by rw [flowCounted_state]; omega
  rw [good] at shown
  rw [good, if_neg Bool.false_ne_true, if_neg sound, shown] at sample
  exact ⟨aux, beyond, high, inside, sample⟩

theorem flowValue_pulse (pulse : flowMode s n = 1) :
    flowValue s n x = qdiv (60 * flowMean (flowPulse (lkfCh s n) s.now x.toInt).freqs) (max (lkfParN s n 2) 1) := by
  simp only [flowValue, flowInput, flowCounted, if_pos pulse]

theorem flowValue_analog (analog : flowMode s n ≠ 1) : flowValue s n x = qdiv (lkfPar s n 2 * x.toInt) 65536 + lkfPar s n 3 := by
  simp only [flowValue, flowInput, if_neg analog]

theorem flowCounted_pulse (pulse : flowMode s n = 1) : flowCounted s n x = flowPulse (lkfCh s n) s.now x.toInt := if_pos pulse

theorem flowCounted_analog (analog : flowMode s n ≠ 1) : flowCounted s n x = lkfCh s n := if_neg analog

theorem flowBad_pulse (pulse : flowMode s n = 1) (inRange : flowMean (flowPulse (lkfCh s n) s.now x.toInt).freqs ≤ 5000 * 65536) : flowBad s n x = false := by
  simp only [flowBad, flowInput, flowCounted, if_pos pulse]
  exact decide_eq_false (Int.not_lt.mpr inRange)

theorem flowBad_voltage (voltage : flowMode s n = 2) (low : 66 * 65536 ≤ x.toInt * 1000) (high : x.toInt * 1000 ≤ 3234 * 65536) : flowBad s n x = false := by
  have analog : flowMode s n ≠ 1 := by omega
  simp only [flowBad, flowInput, if_neg analog, if_pos voltage, decide_eq_false (Int.not_lt.mpr low), decide_eq_false (Int.not_lt.mpr high), Bool.or_self]

theorem flowBad_ratio (ratio : flowMode s n = 3) (low : 5 * 65536 ≤ x.toInt * 100) (high : x.toInt * 100 ≤ 95 * 65536) : flowBad s n x = false := by
  have analog : flowMode s n ≠ 1 := by omega
  have notVoltage : flowMode s n ≠ 2 := by omega
  simp only [flowBad, flowInput, if_neg analog, if_neg notVoltage, decide_eq_false (Int.not_lt.mpr low), decide_eq_false (Int.not_lt.mpr high), Bool.or_self]

end

/-! ### Flow alarms (R197) -/

section
variable {s : State} {c : Fin 16} {t : Time}

theorem doFlowAlarm_due (beyond : (lkfCh s (16 + c.val)).beyond = some t) (judged : s.lkf.judging = true) (running : (lkfCh s (16 + c.val)).state = 0)
    (due : t + 2 * sec ≤ s.now) : doFlowAlarm c s = enterLkf (16 + c.val) (if (lkfCh s (16 + c.val)).beyondHi then 2 else 1) s := by
  simp only [doFlowAlarm, beyond]
  exact if_pos ⟨judged, running, due⟩

theorem doFlowAlarmEnd_due (inside : (lkfCh s (16 + c.val)).inside = some t) (judged : s.lkf.judging = true)
    (alarm : (lkfCh s (16 + c.val)).state = 1 ∨ (lkfCh s (16 + c.val)).state = 2) (due : t + 2 * sec ≤ s.now) :
    doFlowAlarmEnd c s = enterLkf (16 + c.val) 0 s := by
  simp only [doFlowAlarmEnd, inside]
  exact if_pos ⟨judged, alarm, due⟩

theorem doFlowJudgeStart_due (since : s.lkf.runSince = some t) (running : s.seq.trayState = 3) (due : t + 10 * sec ≤ s.now) :
    doFlowJudgeStart s = { s with lkf.judging := true } := by
  simp only [doFlowJudgeStart, since]
  exact if_pos ⟨running, due⟩

end

/-! ### The events as commands -/

section
variable {s : State} {c : Fin 16}

theorem exec_leakReading {ip qd : Word} (h : awake s) : exec (.leakReading c ip qd) s = .next (settle s (doLeakReading c ip qd s)) := coreStep_awake h

theorem exec_leakNoisy (h : awake s) : exec (.leakNoisy c) s = .next (settle s (doLeakNoisy c s)) := coreStep_awake h

theorem exec_lkfClearRequest {path : Path} {tag : Byte} {mask : BitVec 16} (h : awake s) :
    exec (.lkfClearRequest path tag mask) s = .next (settle s (doLkfClearRequest path tag mask s)) := coreStep_awake h

theorem exec_flowSample {x : Word} (h : awake s) : exec (.flowSample c x) s = .next (settle s (doFlowSample c x s)) := coreStep_awake h

theorem exec_flowAlarm (h : awake s) : exec (.flowAlarm c) s = .next (settle s (doFlowAlarm c s)) := coreStep_awake h

theorem exec_flowAlarmEnd (h : awake s) : exec (.flowAlarmEnd c) s = .next (settle s (doFlowAlarmEnd c s)) := coreStep_awake h

theorem exec_flowJudgeStart (h : awake s) : exec .flowJudgeStart s = .next (settle s (doFlowJudgeStart s)) := coreStep_awake h

end

/-- Settles O38: a reading counts, starts anew or qualifies by its band; a clear is denied, refused or acts by its path and the channels it names; a good sample is kept and shown, and a
channel's alarm and its judging wait out their times. -/
theorem leakAndFlow : Obligations.LeakAndFlow := by
  refine ⟨?repeats, ?changes, ?wet, ?qualifies, ?noisy, ?denied, ?refused, ?clears, ?pulses, ?analog, ?alarm, ?alarmEnd, ?judging⟩
  case repeats =>
    intro s c ip qd r q h enabled inPhase quadrature band few
    rw [exec_leakReading h, doLeakReading_repeats enabled inPhase quadrature band few]
  case changes =>
    intro s c ip qd r q h enabled inPhase quadrature other
    rw [exec_leakReading h, doLeakReading_changes enabled inPhase quadrature other, leakKept]
  case wet =>
    intro s c ip qd r q h enabled inPhase quadrature band last run unlatched
    rw [exec_leakReading h, doLeakReading_qualifies enabled inPhase quadrature band (by decide) last run, leakState_wet, leakLatched_wet unlatched]
    exact ⟨_, rfl, rfl, rfl, leakTaken_qualAt, leakTaken_taken, setWet_leakTaken_frame⟩
  case qualifies =>
    intro s c ip qd r q b h enabled inPhase quadrature band dry named last run
    rw [exec_leakReading h, doLeakReading_qualifies enabled inPhase quadrature band.symm named last run, leakLatched_other dry]
    exact ⟨_, rfl, leakTaken_qualAt, leakTaken_taken, leakTaken_frame⟩
  case noisy =>
    intro s c h enabled due
    rw [exec_leakNoisy h, doLeakNoisy_due enabled due]
  case denied =>
    intro s path tag mask h notThm notSec
    exact ⟨_, by rw [exec_lkfClearRequest h, doLkfClearRequest_denied notThm notSec]⟩
  case refused =>
    intro s path tag mask ch h writer fresh undry
    rw [exec_lkfClearRequest h, doLkfClearRequest_refused writer fresh undry]
    exact ⟨_, rfl, rfl, rfl, rfl, rfl⟩
  case clears =>
    intro s path tag mask h writer fresh dry
    rw [exec_lkfClearRequest h, doLkfClearRequest_clears writer fresh dry]
    exact ⟨_, rfl, rfl, rfl, rfl, rfl, rfl⟩
  case pulses =>
    intro s c x q f h pulse enabled counted mean inRange _
    subst counted mean
    have pulses : flowMode s (16 + c.val) = 1 := pulse
    obtain ⟨aux, beyond, high, inside, keeps⟩ := doFlowSample_good (by omega) enabled (flowBad_pulse pulses inRange)
    rw [exec_flowSample h, keeps, flowValue_pulse pulses, flowCounted_pulse pulses]
    refine ⟨_, rfl, ?_⟩
    simp [flowKept]
  case analog =>
    intro s c x h range enabled _
    have mode : flowMode s (16 + c.val) = 2 ∨ flowMode s (16 + c.val) = 3 := range.imp And.left And.left
    have analog : flowMode s (16 + c.val) ≠ 1 := by omega
    have good : flowBad s (16 + c.val) x = false := by
      obtain ⟨voltage, low, high⟩ | ⟨ratio, low, high⟩ := range
      · exact flowBad_voltage voltage low high
      · exact flowBad_ratio ratio low high
    obtain ⟨aux, beyond, high, inside, keeps⟩ := doFlowSample_good (by omega) enabled good
    rw [exec_flowSample h, keeps, flowValue_analog analog, flowCounted_analog analog]
    refine ⟨_, rfl, ?_⟩
    simp [flowKept]
  case alarm =>
    intro s c t h beyond judged running due
    rw [exec_flowAlarm h, doFlowAlarm_due beyond judged running due]
  case alarmEnd =>
    intro s c t h inside judged alarm due
    rw [exec_flowAlarmEnd h, doFlowAlarmEnd_due inside judged alarm due]
  case judging =>
    intro s t h since running due
    rw [exec_flowJudgeStart h, doFlowJudgeStart_due since running due]

end Sys2Proof.Machine
end

section
/-! SUPPORT. Motor channels and dies (07_motor_drive.md R205–R227): what an update, an entered state, a fault and a commanded speed write, and what they leave. -/

namespace Sys2Proof.Machine

/-! ### A channel and a die after an update -/

section
variable {s : State} {c n d e : Nat} {f : MotCh → MotCh} {g : MotDie → MotDie}

@[simp] theorem motCh_updMot_same : motCh (updMot c f s) c = f (motCh s c) := tget_tupd_same _ _ _ _

theorem motCh_updMot_other (other : n ≠ c) : motCh (updMot c f s) n = motCh s n := tget_tupd_other _ _ other _

@[simp] theorem motDie_updDie_same : motDie (updDie d g s) d = g (motDie s d) := tget_tupd_same _ _ _ _

theorem motDie_updDie_other (other : e ≠ d) : motDie (updDie d g s) e = motDie s e := tget_tupd_other _ _ other _

theorem motCh_updDie : motCh (updDie d g s) c = motCh s c := rfl

end

/-- The state without the motor channels. -/
def offChannels (s : State) : State := { s with mch := [] }

/-- The state without what lives in the motor dies: the dies and their channels. -/
def offMotors (s : State) : State := { s with mdie := [], mch := [] }

section
variable {s t u : State}

theorem frame_of_offChannels (same : offChannels u = offChannels s) : { u with mch := s.mch } = s := congrArg (fun t : State => { t with mch := s.mch }) same

theorem frame_of_offMotors (same : offMotors u = offMotors s) : { u with mdie := s.mdie, mch := s.mch } = s :=
  congrArg (fun t : State => { t with mdie := s.mdie, mch := s.mch }) same

theorem offMotors_of_offChannels (same : offChannels u = offChannels s) : offMotors u = offMotors s := (congrArg offMotors same :)

theorem motDie_of_offChannels (same : offChannels u = offChannels s) (d : Nat) : motDie u d = motDie s d := (congrArg (motDie · d) same :)

theorem now_of_offMotors (same : offMotors u = offMotors s) : u.now = s.now := (congrArg State.now same :)

@[simp] theorem updMot_offChannels {c : Nat} {f : MotCh → MotCh} : offChannels (updMot c f s) = offChannels s := rfl

theorem updDie_offMotors {d : Nat} {g : MotDie → MotDie} : offMotors (updDie d g s) = offMotors s := rfl

theorem offChannels_ite {c : Prop} [Decidable c] (hx : offChannels t = offChannels s) (hy : offChannels u = offChannels s) :
    offChannels (if c then t else u) = offChannels s := by
  split
  · exact hx
  · exact hy

end

/-! ### Going through the channels of a die -/

/-- What every round before and after an element's own keeps, and that round brings about, holds after a list that names the element once. -/
theorem forEach_once {α β : Type} {Before After : β → Prop} {f : α → β → β} {a : α} (start : ∀ x b, x ≠ a → Before b → Before (f x b)) (own : ∀ b, Before b → After (f a b))
    (rest : ∀ x b, x ≠ a → After b → After (f x b)) {l : List α} (once : l.Nodup) (named : a ∈ l) {b : β} (h : Before b) : After (forEach l f b) := by
  induction l generalizing b with
  | nil => exact (List.not_mem_nil named).elim
  | cons x r ih =>
    obtain ⟨fresh, onceInRest⟩ := List.nodup_cons.mp once
    rw [forEach_cons]
    by_cases here : x = a
    · subst here
      exact List.foldlRecOn (motive := After) r (fun b x => f x b) (own b h) fun b k y listed => rest y b (fun same => fresh (same ▸ listed)) k
    · exact ih onceInRest ((List.mem_cons.mp named).resolve_left fun same => here same.symm) (start x b here h)

theorem mem_dieChs {d c : Nat} : c ∈ dieChs d ↔ c / 8 = d := by
  simp only [dieChs, List.mem_map, List.mem_range]
  constructor
  · rintro ⟨i, small, rfl⟩
    omega
  · intro die
    exact ⟨c % 8, Nat.mod_lt _ (by decide), by omega⟩

theorem dieChs_nodup (d : Nat) : (dieChs d).Nodup :=
  List.pairwise_map.mpr (List.nodup_range.imp fun differ same => differ (Nat.add_left_cancel same))

/-! ### Entering a state (R205, R208) and a fault (R222) -/

section
variable {s : State} {c n st code : Nat}

@[simp] theorem motCh_enterCh_same : motCh (enterCh c st s) c =
    { motCh s c with
      state := st, at_ := s.now, watch := none, coast := none, gates := gatesIn s c st
      tries := if st = 1 then 0 else (motCh s c).tries
      starting := (motCh s c).starting && !(st == 1 || st == 7)
      hall := (motCh s c).hall && !isOff st
      hallBad := (motCh s c).hallBad && !isOff st
      speed := if isOff st then 0 else (motCh s c).speed
      runNs := (motCh s c).runNs + if isRunning (motCh s c).state then s.now - (motCh s c).at_ else 0 } := by
  rw [enterCh, motCh_updMot_same]
  by_cases running : isRunning (motCh s c).state = true
  · simp only [if_pos running]
  · simp only [if_neg running, Nat.add_zero]

theorem motCh_enterCh_other (other : n ≠ c) : motCh (enterCh c st s) n = motCh s n := motCh_updMot_other other

@[simp] theorem enterCh_offChannels : offChannels (enterCh c st s) = offChannels s := rfl

theorem gatesIn_off (off : isOff st = true) : gatesIn s c st = .off := if_pos off

@[simp] theorem motCh_chFault_same : motCh (chFault c code s) c =
    { motCh s c with
      fault := if stopsAll code then code else (motCh s c).fault
      slow := (motCh s c).slow || code == 4
      slowAt := if code = 4 then s.now else (motCh s c).slowAt
      report := sadd (motCh s c).report code
      faults := if code ≤ 5 then satInc 65535 (motCh s c).faults else (motCh s c).faults } := motCh_updMot_same

theorem motCh_chFault_other (other : n ≠ c) : motCh (chFault c code s) n = motCh s n := motCh_updMot_other other

@[simp] theorem chFault_offChannels : offChannels (chFault c code s) = offChannels s := rfl

end

/-! ### A channel brought to its commanded speed (R208, R210, R217, R221) -/

/-- What a channel keeps when it is brought to its commanded speed: its setpoint and its fault, and STOPPED and FAULTED its state. -/
structure Commanded (x y : MotCh) : Prop where
  setpoint : y.setpoint = x.setpoint
  lost : y.lost = x.lost
  fault : y.fault = x.fault
  faults : y.faults = x.faults
  state : x.state = 1 ∨ x.state = 7 → y.state = x.state

theorem Commanded.refl (x : MotCh) : Commanded x x := ⟨rfl, rfl, rfl, rfl, fun _ => rfl⟩

theorem Commanded.trans {x y z : MotCh} (h : Commanded x y) (k : Commanded y z) : Commanded x z where
  setpoint := k.setpoint.trans h.setpoint
  lost := k.lost.trans h.lost
  fault := k.fault.trans h.fault
  faults := k.faults.trans h.faults
  state off := (k.state (h.state off ▸ off)).trans (h.state off)

section
variable {s : State} {c n d : Nat}

/-- A state in which at most one channel differs, by an update that keeps what a commanded channel keeps. -/
def CommandedBy (c : Nat) (s t : State) : Prop := t = s ∨ ∃ f, t = updMot c f s ∧ Commanded (motCh s c) (motCh (updMot c f s) c)

theorem CommandedBy.same : CommandedBy c s s := .inl rfl

/-- An update that changes neither the setpoint nor the fault nor the state of its channel. -/
theorem CommandedBy.updMot {f : MotCh → MotCh} (keeps : Commanded (motCh s c) (f (motCh s c))) : CommandedBy c s (updMot c f s) :=
  .inr ⟨f, rfl, motCh_updMot_same.symm ▸ keeps⟩

/-- A channel that is neither STOPPED nor FAULTED may be stopped. -/
theorem CommandedBy.stop (driven : ¬ ((motCh s c).state = 1 ∨ (motCh s c).state = 7)) : CommandedBy c s (enterCh c 1 s) := by
  have keeps : Commanded (motCh s c) (motCh (enterCh c 1 s) c) := by
    rw [motCh_enterCh_same]
    exact ⟨rfl, rfl, rfl, rfl, fun off => (driven off).elim⟩
  exact .inr ⟨_, rfl, keeps⟩

/-- What `applyTarget` can do: nothing, begin or drop a watch, turn the regulator, or stop a started channel. -/
theorem applyTarget_commandedBy (c : Nat) (s : State) : CommandedBy c s (applyTarget c s) := by
  unfold applyTarget
  extract_lets x d
  split
  · exact .same
  · split
    · split
      · exact .updMot ⟨rfl, rfl, rfl, rfl, fun _ => rfl⟩
      · split
        · exact .updMot ⟨rfl, rfl, rfl, rfl, fun _ => rfl⟩
        · exact .same
    · split
      · exact .updMot ⟨rfl, rfl, rfl, rfl, fun _ => rfl⟩
      · split
        · next started =>
          have driven : (motCh s c).state = 2 ∨ (motCh s c).state = 3 ∨ (motCh s c).state = 4 := started
          exact .stop (by omega)
        · exact .same

theorem applyTarget_offChannels : offChannels (applyTarget c s) = offChannels s := by
  obtain same | ⟨f, same, _⟩ := applyTarget_commandedBy c s
  · rw [same]
  · rw [same, updMot_offChannels]

theorem applyTarget_commanded : Commanded (motCh s n) (motCh (applyTarget c s) n) := by
  obtain same | ⟨f, same, keeps⟩ := applyTarget_commandedBy c s
  · rw [same]
    exact .refl _
  · rw [same]
    by_cases own : n = c
    · exact own ▸ keeps
    · rw [motCh_updMot_other own]
      exact .refl _

theorem applyDie_offChannels : offChannels (applyDie d s) = offChannels s :=
  forEach_induct (P := fun t => offChannels t = offChannels s) _ rfl fun _ _ h => applyTarget_offChannels.trans h

theorem applyDie_commanded : Commanded (motCh s n) (motCh (applyDie d s) n) :=
  forEach_induct (P := fun t => Commanded (motCh s n) (motCh t n)) _ (.refl _) fun _ _ h => h.trans applyTarget_commanded

end

end Sys2Proof.Machine
end

section
/-! SUPPORT. A motor channel from its watch to RUN and back (07_motor_drive.md R205–R211, R223, R225), a rule for each outcome, and the obligation about them. -/

namespace Sys2Proof.Machine

/-! ### From the watch to RUN (R208–R210) -/

section
variable {s : State} {c : Fin 16} {w : Word} {t : Time} {hok : Bool}

theorem doStartWatchEnd_caught (watched : (motCh s c.val).watch = some t) (due : t + 50 * ms ≤ s.now) (asked : chTarget s c.val ≠ 0) (turning : handoffQ s c.val ≤ w.toInt) :
    doStartWatchEnd c w hok s = startHall c.val hok (runCh c.val w.toInt (updMot c.val (fun x => { x with hallInv := false }) (beginStart c.val s))) := by
  simp only [doStartWatchEnd, watched, if_neg (Nat.not_lt.mpr due), if_neg asked, if_pos turning]

theorem doStartWatchEnd_stopped (watched : (motCh s c.val).watch = some t) (due : t + 50 * ms ≤ s.now) (stop : chTarget s c.val = 0) :
    doStartWatchEnd c w hok s = enterCh c.val 1 s := by
  simp only [doStartWatchEnd, watched, if_neg (Nat.not_lt.mpr due), if_pos stop]

theorem doStartWatchEnd_backwards (watched : (motCh s c.val).watch = some t) (due : t + 50 * ms ≤ s.now) (asked : chTarget s c.val ≠ 0) (slow : w.toInt < handoffQ s c.val)
    (backwards : w.toInt < -handoffQ s c.val) : doStartWatchEnd c w hok s = updMot c.val (fun x => { x with watch := none, coast := some s.now }) s := by
  simp only [doStartWatchEnd, watched, if_neg (Nat.not_lt.mpr due), if_neg asked, if_neg (Int.not_le.mpr slow), if_pos backwards]

/-- A fan at rest starts by its Hall codes where they serve and are valid, and by alignment elsewhere. -/
theorem doStartWatchEnd_atRest (watched : (motCh s c.val).watch = some t) (due : t + 50 * ms ≤ s.now) (asked : chTarget s c.val ≠ 0) (slow : w.toInt < handoffQ s c.val)
    (atRest : -handoffQ s c.val ≤ w.toInt) :
    doStartWatchEnd c w hok s = if hasHall s c.val = true ∧ hok = true then startHall c.val true (runCh c.val (max 0 w.toInt) (countStart c.val s))
      else startHall c.val false (beginAttempt c.val 2 s) := by
  simp only [doStartWatchEnd, watched, if_neg (Nat.not_lt.mpr due), if_neg asked, if_neg (Int.not_le.mpr slow), if_neg (Int.not_lt.mpr atRest)]

theorem doReverseCoastEnd_coasting (coasting : (motCh s c.val).coast.isSome = true) (asked : chTarget s c.val ≠ 0) :
    doReverseCoastEnd c s = beginAttempt c.val 2 s := by
  have since : ¬ (motCh s c.val).coast.isNone = true := by rwa [Option.isNone_iff_eq_none, ← ne_eq, Option.ne_none_iff_isSome]
  simp only [doReverseCoastEnd, if_neg since, if_neg asked]

theorem doAlignDone_due (align : (motCh s c.val).state = 2) (due : (motCh s c.val).at_ + 250 * ms ≤ s.now) : doAlignDone c s = enterCh c.val 3 s := if_pos ⟨align, due⟩

theorem doBemfLock_due (ramp : (motCh s c.val).state = 3) (due : (motCh s c.val).at_ + 1000 * ms ≤ s.now) : doBemfLock c s = runCh c.val (handoffQ s c.val) s :=
  if_pos ⟨ramp, due⟩

/-! ### Attempts that fail, rests and counts (R209) -/

theorem doRampNoLock_due (ramp : (motCh s c.val).state = 3) (due : (motCh s c.val).at_ + 1200 * ms ≤ s.now) : doRampNoLock c s = failAttempt c.val s := if_pos ⟨ramp, due⟩

theorem doStallDetect_due (run : (motCh s c.val).state = 4) (due : (motCh s c.val).at_ + 500 * ms ≤ s.now) (limit : chPar s c.val 2 ≤ w.toNat) :
    doStallDetect c w false s = failAttempt c.val s := if_pos ⟨run, due, limit, Bool.false_ne_true⟩

theorem doRestDone_due (rest : (motCh s c.val).state = 6) (unwatched : (motCh s c.val).watch = none) (uncoasted : (motCh s c.val).coast = none)
    (due : (motCh s c.val).at_ + restNs s c.val ≤ s.now) (supplied : (motDie s (dieOf c.val)).busFault = false) :
    doRestDone c s = updMot c.val (fun x => { x with watch := some s.now }) s := if_pos ⟨rest, unwatched, uncoasted, due, Bool.eq_false_iff.mp supplied⟩

theorem doRunCountReset_due (run : (motCh s c.val).state = 4) (due : (motCh s c.val).at_ + 10 * sec ≤ s.now) :
    doRunCountReset c s = updMot c.val (fun x => { x with tries := 0, starting := false }) s := if_pos ⟨run, due⟩

/-! ### The sense (R223, R225) -/

theorem doSenseLost_run (run : (motCh s c.val).state = 4) :
    doSenseLost c w s = updMot c.val (fun x => { x with magLoss := w.toNat }) (chFault c.val 6 (enterCh c.val 5 s)) := if_pos run

theorem doSenseRegained_open (openLoop : (motCh s c.val).state = 5) : doSenseRegained c s = runCh c.val (motCh s c.val).speed s := if_pos openLoop

theorem doHallInvalid_driven (serves : hasHall s c.val = true) (first : (motCh s c.val).hallBad = false) (low : 2 ≤ (motCh s c.val).state) (high : (motCh s c.val).state ≤ 5) :
    doHallInvalid c s = hallLost c.val s := if_pos ⟨serves, Bool.eq_false_iff.mp first, low, high⟩

end

/-! ### Gates and the regulator (R205, R211) -/

section
variable {s : State} {c p : Nat}

theorem isOff_iff {st : Nat} : isOff st = true ↔ st = 0 ∨ st = 1 ∨ st = 6 ∨ st = 7 := by simp [isOff, or_assoc]

theorem gateOut_not_both : gateOut s c p ≠ (true, true) := by
  simp only [gateOut]
  split
  · decide
  · cases Config.gateSide c p s.now with
    | none => decide
    | some high => cases high <;> decide

theorem gateOut_off (off : isOff (motCh s c).state = true) : gateOut s c p = (false, false) := if_pos (.inl off)

theorem chDrive_off (off : isOff (motCh s c).state = true) : chDrive s c = .none := if_pos off

theorem regNow_rise (rise : (motCh s c).ref < (motCh s c).goal) :
    regNow s c = min (motCh s c).goal ((motCh s c).ref + rpmMaxQ s c * ((s.now - (motCh s c).refAt : Nat) : Int) / 2000000000) := if_neg (Int.not_le.mpr rise)

theorem regNow_fall (fall : (motCh s c).goal ≤ (motCh s c).ref) : regNow s c = (motCh s c).goal := if_pos fall

end

/-! ### The events as commands -/

section
variable {s : State} {c : Fin 16}

theorem exec_startWatchEnd {w : Word} {hok : Bool} (h : awake s) : exec (.startWatchEnd c w hok) s = .next (settle s (doStartWatchEnd c w hok s)) := coreStep_awake h

theorem exec_reverseCoastEnd (h : awake s) : exec (.reverseCoastEnd c) s = .next (settle s (doReverseCoastEnd c s)) := coreStep_awake h

theorem exec_alignDone (h : awake s) : exec (.alignDone c) s = .next (settle s (doAlignDone c s)) := coreStep_awake h

theorem exec_bemfLock (h : awake s) : exec (.bemfLock c) s = .next (settle s (doBemfLock c s)) := coreStep_awake h

theorem exec_rampNoLock (h : awake s) : exec (.rampNoLock c) s = .next (settle s (doRampNoLock c s)) := coreStep_awake h

theorem exec_stallDetect {cur : Word} {fund : Bool} (h : awake s) : exec (.stallDetect ⟨c, cur, fund⟩) s = .next (settle s (doStallDetect c cur fund s)) := coreStep_awake h

theorem exec_restDone (h : awake s) : exec (.restDone c) s = .next (settle s (doRestDone c s)) := coreStep_awake h

theorem exec_runCountReset (h : awake s) : exec (.runCountReset c) s = .next (settle s (doRunCountReset c s)) := coreStep_awake h

theorem exec_senseLost {mag : Word} (h : awake s) : exec (.senseLost ⟨c, mag⟩) s = .next (settle s (doSenseLost c mag s)) := coreStep_awake h

theorem exec_senseRegained (h : awake s) : exec (.senseRegained c) s = .next (settle s (doSenseRegained c s)) := coreStep_awake h

theorem exec_hallInvalid (h : awake s) : exec (.hallInvalid c) s = .next (settle s (doHallInvalid c s)) := coreStep_awake h

end

/-- Settles O41: the watch ends by the speed it saw, each later event acts when its time has come, the gates follow the state alone, and the regulator's reference is a bounded rise. -/
theorem motorStarts : Obligations.MotorStarts := by
  refine ⟨?caught, ?stopped, ?backwards, ?aligned, ?hall, ?coasted, ?ramp, ?lock, ?noLock, ?stall, ?rest, ?count, ?lost, ?regained, ?hallInvalid, ?notBoth, ?gatesOff, ?rise, ?fall⟩
  case caught =>
    intro s c w hok t h watched due asked turning
    rw [exec_startWatchEnd h, doStartWatchEnd_caught watched due asked turning]
  case stopped =>
    intro s c w hok t h watched due stop
    rw [exec_startWatchEnd h, doStartWatchEnd_stopped watched due stop]
  case backwards =>
    intro s c w hok t h watched due asked slow backwards
    rw [exec_startWatchEnd h, doStartWatchEnd_backwards watched due asked slow backwards]
  case aligned =>
    intro s c w hok t h watched due asked slow atRest noHall
    have unserved : ¬ (hasHall s c.val = true ∧ hok = true) := fun both => noHall.elim (Bool.eq_false_iff.mp · both.1) (Bool.eq_false_iff.mp · both.2)
    rw [exec_startWatchEnd h, doStartWatchEnd_atRest watched due asked slow atRest, if_neg unserved]
  case hall =>
    intro s c w t h watched due asked slow atRest serves
    rw [exec_startWatchEnd h, doStartWatchEnd_atRest watched due asked slow atRest, if_pos ⟨serves, rfl⟩]
  case coasted =>
    intro s c h coasting asked
    rw [exec_reverseCoastEnd h, doReverseCoastEnd_coasting coasting asked]
  case ramp =>
    intro s c h align due
    rw [exec_alignDone h, doAlignDone_due align due]
    exact ⟨_, rfl, by simp, by simp, by simp, fun _ other => motCh_enterCh_other other, frame_of_offChannels enterCh_offChannels⟩
  case lock =>
    intro s c h ramp due
    rw [exec_bemfLock h, doBemfLock_due ramp due]
  case noLock =>
    intro s c h ramp due
    rw [exec_rampNoLock h, doRampNoLock_due ramp due]
  case stall =>
    intro s c cur h run due limit
    rw [exec_stallDetect h, doStallDetect_due run due limit]
  case rest =>
    intro s c h rest unwatched uncoasted due supplied
    rw [exec_restDone h, doRestDone_due rest unwatched uncoasted due supplied]
  case count =>
    intro s c h run due
    rw [exec_runCountReset h, doRunCountReset_due run due]
  case lost =>
    intro s c mag h run
    rw [exec_senseLost h, doSenseLost_run run]
    refine ⟨_, rfl, by simp, by simp [stopsAll], by simp, by simp, by simp, fun n other => ?_, frame_of_offChannels (by simp)⟩
    rw [motCh_updMot_other other, motCh_chFault_other other, motCh_enterCh_other other]
  case regained =>
    intro s c h openLoop
    rw [exec_senseRegained h, doSenseRegained_open openLoop]
  case hallInvalid =>
    intro s c h serves first low high
    rw [exec_hallInvalid h, doHallInvalid_driven serves first low high]
  case notBoth =>
    intro s c p
    exact gateOut_not_both
  case gatesOff =>
    intro s c p state
    exact ⟨gateOut_off (isOff_iff.mpr state), chDrive_off (isOff_iff.mpr state)⟩
  case rise =>
    intro s c rise
    rw [regNow_rise rise]
    exact ⟨Int.min_le_left _ _, Int.min_le_right _ _⟩
  case fall =>
    intro s c fall
    exact regNow_fall fall

end Sys2Proof.Machine
end

section
/-! SUPPORT. Motor faults and MOT_CLEAR (07_motor_drive.md R222–R226, R229), a rule for each outcome, and the obligation about them. -/

namespace Sys2Proof.Machine

/-! ### FAULTED (R222) -/

section
variable {s : State} {c code : Nat}

theorem faultCh_offChannels : offChannels (faultCh c code s) = offChannels s := applyDie_offChannels.trans (by simp)

/-- A counted fault leaves its channel FAULTED with its code, whatever its die's channels are then commanded to, and writes channels alone. -/
theorem faultCh_faulted (holds : stopsAll code = true) (counts : code ≤ 5) (unsaturated : (motCh s c).faults < 65535) :
    (motCh (faultCh c code s) c).state = 7 ∧ (motCh (faultCh c code s) c).fault = code ∧ (motCh (faultCh c code s) c).faults = (motCh s c).faults + 1 ∧
      { faultCh c code s with mch := s.mch } = s := by
  have faulted : (motCh (chFault c code (enterCh c 7 s)) c).state = 7 := by simp
  have kept : Commanded (motCh (chFault c code (enterCh c 7 s)) c) (motCh (faultCh c code s) c) := applyDie_commanded
  refine ⟨(kept.state (.inr faulted)).trans faulted, ?_, ?_, frame_of_offChannels faultCh_offChannels⟩
  · rw [kept.fault, motCh_chFault_same]
    exact if_pos holds
  · rw [kept.faults, motCh_chFault_same, motCh_enterCh_same]
    exact (if_pos counts).trans (if_pos unsaturated)

end

section
variable {s : State} {c : Fin 16} {w a b fund mag cur : Word}

theorem doSenseFail_due (openLoop : (motCh s c.val).state = 5) (due : (motCh s c.val).at_ + 500 * ms ≤ s.now)
    (implausible : plausible s c.val fund.toNat mag.toNat cur.toNat = false) : doSenseFail c fund mag cur s = faultCh c.val 5 s :=
  if_pos ⟨openLoop, due, Bool.eq_false_iff.mp implausible⟩

theorem doOvercurrent_driven (low : 2 ≤ (motCh s c.val).state) (high : (motCh s c.val).state ≤ 5) (reached : overLevel s c.val a.toInt b.toInt = true) :
    doOvercurrent c a b s = faultCh c.val 3 s := if_pos ⟨low, high, reached⟩

theorem doOpenPhase_due (align : (motCh s c.val).state = 2) (due : (motCh s c.val).at_ + 50 * ms ≤ s.now) (short : 10 * cur.toNat < (motCh s c.val).capI) :
    doOpenPhase c cur s = faultCh c.val 2 s := if_pos ⟨align, due, short⟩

/-! ### SPEED_LOW (R222) -/

theorem doSpeedLow_due (run : (motCh s c.val).state = 4) (first : (motCh s c.val).slow = false) (configured : (motDie s (dieOf c.val)).state ≠ .boot)
    (due : (motCh s c.val).at_ + 2 * chPar s c.val 5 * ms ≤ s.now) (slow : w.toInt < (chPar s c.val 4 : Int) * 65536) :
    doSpeedLow c w s = applyDie (dieOf c.val) (chFault c.val 4 s) :=
  if_pos ⟨run, Bool.eq_false_iff.mp first, fun boot => configured (eq_of_beq boot), due, slow⟩

theorem doSpeedLowClear_due (run : (motCh s c.val).state = 4) (low : (motCh s c.val).slow = true) (due : (motCh s c.val).slowAt + chPar s c.val 5 * ms ≤ s.now)
    (fast : 11 * (chPar s c.val 4 : Int) * 65536 ≤ 10 * w.toInt) :
    doSpeedLowClear c w s = applyDie (dieOf c.val) (updMot c.val (fun x => { x with slow := false }) s) :=
  if_pos ⟨low, run, due, by simpa only [Int.natCast_mul, Int.cast_ofNat_Int] using fast⟩

end

/-! ### MOT_CLEAR (R226) -/

section
variable {path : Path} {tag : Byte} {mask : BitVec 16} {s : State}

/-- The word of MOT_CLEAR with this TAG and these channels: its fields lie as LKF_CLEAR's. -/
def motClearWord (tag : Byte) (mask : BitVec 16) : Word := lkfClearWord tag mask

/-- Why a channel's clear is refused: 1 when its reply does not show it FAULTED, 2 when its die has a supply fault; 0 when it is not. -/
def clearRefusal (s : State) (c : Nat) : Nat := if (motRep s c).state ≠ 7 then 1 else if s.mot.repBus.contains (dieOf c) then 2 else 0

theorem clearRefusal_refuses (c : Nat) : (clearRefusal s c != 0) = ((motRep s c).state != 7 || s.mot.repBus.contains (c / 8)) := by
  by_cases faulted : (motRep s c).state = 7
  · cases bus : s.mot.repBus.contains (c / 8) with
    | true => simp only [clearRefusal, dieOf, faulted, bus]; decide
    | false => simp only [clearRefusal, dieOf, faulted, bus]; decide
  · simp [clearRefusal, faulted]

/-- A channel that is refused is refused for its state, or else for its die's supply. -/
theorem clearRefusal_of_refused {c : Nat} (refused : (clearRefusal s c != 0) = true) : clearRefusal s c = if (motRep s c).state ≠ 7 then 1 else 2 := by
  by_cases faulted : (motRep s c).state = 7
  · have supply : c / 8 ∈ s.mot.repBus := by simpa [clearRefusal_refuses, faulted] using refused
    simp [clearRefusal, faulted, dieOf, supply]
  · simp only [clearRefusal, if_pos faulted]

/-- What a clear of the named channels comes to: the first refused decides, and with none refused all wait for the next heartbeats. -/
def clearJudged (tag : Nat) (named : List Nat) (s : State) : State :=
  match named.find? (fun c => clearRefusal s c != 0) with
  | some c => { s with mot.resTag := tag, mot.result := clearRefusal s c, mot.resCh := c }
  | none => { s with mot.resTag := tag, mot.result := 0, mot.resCh := 0, mot.clearing := named.foldl sadd s.mot.clearing }

theorem clearJudged_refused {n c : Nat} {named : List Nat} (refused : named.find? (fun c => clearRefusal s c != 0) = some c) :
    clearJudged n named s = { s with mot.resTag := n, mot.result := clearRefusal s c, mot.resCh := c } := by
  simp only [clearJudged, refused]

theorem clearJudged_accepted {n : Nat} {named : List Nat} (accepted : named.find? (fun c => clearRefusal s c != 0) = none) :
    clearJudged n named s = { s with mot.resTag := n, mot.result := 0, mot.resCh := 0, mot.clearing := named.foldl sadd s.mot.clearing } := by
  simp only [clearJudged, accepted]

theorem motClear_fresh {w : Word} (fresh : fld w 31 24 ≠ lastTag s 0x0B0040) :
    motClear w s = clearJudged (fld w 31 24) (maskBits 16 (fld w 15 0)) (setTag 0x0B0040 (fld w 31 24) s) := if_neg fresh

/-- The word and the TAG of a clear as MOT keeps them, whatever comes of it. -/
def motClearKept (tag : Byte) (mask : BitVec 16) (s : State) : State := setTag 0x0B0040 tag.toNat (setPair 0x0B0040 (motClearWord tag mask) s)

theorem doMotClearRequest_denied (notThm : path ≠ .proc .thm) (notSec : path ≠ .proc .sec) :
    doMotClearRequest path tag mask s = raise uMOT 9 .contained { path := pathCode path, w1 := some 0x0B0040, w2 := motClearWord tag mask } s :=
  if_neg (not_or.mpr ⟨notThm, notSec⟩)

theorem doMotClearRequest_fresh (writer : path = .proc .thm ∨ path = .proc .sec) (fresh : tag.toNat ≠ lastTag s 0x0B0040) :
    doMotClearRequest path tag mask s = clearJudged tag.toNat (maskBits 16 mask.toNat) (motClearKept tag mask s) := by
  have sent : fld (motClearWord tag mask) 31 24 = tag.toNat := lkfClearWord_tag
  have named : fld (motClearWord tag mask) 15 0 = mask.toNat := lkfClearWord_mask
  have freshToo : fld (motClearWord tag mask) 31 24 ≠ lastTag (setPair 0x0B0040 (motClearWord tag mask) s) 0x0B0040 := sent.symm ▸ fresh
  have taken : doMotClearRequest path tag mask s = motClear (motClearWord tag mask) (setPair 0x0B0040 (motClearWord tag mask) s) := if_pos writer
  rw [taken, motClear_fresh freshToo, sent, named, motClearKept]

theorem clearRefusal_motClearKept : clearRefusal (motClearKept tag mask s) = clearRefusal s := rfl

end

/-! ### The events as commands -/

section
variable {s : State} {c : Fin 16}

theorem exec_senseFail {fund mag cur : Word} (h : awake s) : exec (.senseFail ⟨c, fund, mag, cur⟩) s = .next (settle s (doSenseFail c fund mag cur s)) := coreStep_awake h

theorem exec_overcurrent {a b : Word} (h : awake s) : exec (.overcurrent ⟨c, a, b⟩) s = .next (settle s (doOvercurrent c a b s)) := coreStep_awake h

theorem exec_openPhase {cur : Word} (h : awake s) : exec (.openPhase ⟨c, cur⟩) s = .next (settle s (doOpenPhase c cur s)) := coreStep_awake h

theorem exec_speedLow {tach : Word} (h : awake s) : exec (.speedLow ⟨c, tach⟩) s = .next (settle s (doSpeedLow c tach s)) := coreStep_awake h

theorem exec_speedLowClear {tach : Word} (h : awake s) : exec (.speedLowClear ⟨c, tach⟩) s = .next (settle s (doSpeedLowClear c tach s)) := coreStep_awake h

theorem exec_motClearRequest {path : Path} {tag : Byte} {mask : BitVec 16} (h : awake s) :
    exec (.motClearRequest path tag mask) s = .next (settle s (doMotClearRequest path tag mask s)) := coreStep_awake h

end

/-- Settles O42: a fault that stops its channel leaves it FAULTED with its code, a low speed is noted and its end too, and a clear is denied, refused or waits for the heartbeats by its path
and what the replies show. -/
theorem motorFaults : Obligations.MotorFaults := by
  refine ⟨?senseFail, ?overcurrent, ?openPhase, ?speedLow, ?speedLowClear, ?denied, ?refused, ?accepted⟩
  case senseFail =>
    intro s c fund mag cur h openLoop due implausible unsaturated
    rw [exec_senseFail h, doSenseFail_due openLoop due implausible]
    exact ⟨_, rfl, faultCh_faulted (by decide) (by decide) unsaturated⟩
  case overcurrent =>
    intro s c a b h low high reached unsaturated
    rw [exec_overcurrent h, doOvercurrent_driven low high reached]
    exact ⟨_, rfl, faultCh_faulted (by decide) (by decide) unsaturated⟩
  case openPhase =>
    intro s c cur h align due short unsaturated
    rw [exec_openPhase h, doOpenPhase_due align due short]
    exact ⟨_, rfl, faultCh_faulted (by decide) (by decide) unsaturated⟩
  case speedLow =>
    intro s c tach h run first configured due slow
    rw [exec_speedLow h, doSpeedLow_due run first configured due slow, dieOf]
  case speedLowClear =>
    intro s c tach h run low due fast
    rw [exec_speedLowClear h, doSpeedLowClear_due run low due fast, dieOf]
  case denied =>
    intro s path tag mask h notThm notSec
    exact ⟨_, by rw [exec_motClearRequest h, doMotClearRequest_denied notThm notSec]⟩
  case refused =>
    intro s path tag mask ch h writer fresh refused
    simp only [← clearRefusal_refuses] at refused
    have refuses : (clearRefusal s ch != 0) = true := List.find?_some (p := fun c => clearRefusal s c != 0) refused
    rw [exec_motClearRequest h, doMotClearRequest_fresh writer fresh, clearJudged_refused (s := motClearKept tag mask s) refused, clearRefusal_motClearKept,
      clearRefusal_of_refused refuses]
    exact ⟨_, rfl, rfl, rfl, rfl, rfl⟩
  case accepted =>
    intro s path tag mask h writer fresh accepted
    simp only [← clearRefusal_refuses] at accepted
    rw [exec_motClearRequest h, doMotClearRequest_fresh writer fresh, clearJudged_accepted (s := motClearKept tag mask s) accepted]
    exact ⟨_, rfl, rfl, rfl, rfl, rfl⟩

end Sys2Proof.Machine
end

section
/-! SUPPORT. What a motor die does alone (07_motor_drive.md R215–R219, R227), a rule for each event, and the obligation about them. -/

namespace Sys2Proof.Machine

/-! ### Silence and lost setpoints (R215–R217, R219) -/

section
variable {s : State} {d : Fin 2} {c : Fin 16} {mv : BitVec 16}

theorem doDieFailsafe_due (run : (motDie s d.val).state = .run) (due : (motDie s d.val).lastValid + 19600 * us ≤ s.now) :
    doDieFailsafe d s = applyDie d.val (updDie d.val (fun x => { x with state := .failsafe, resumeRun := 0, repFailsafe := true }) s) := if_pos ⟨run, due⟩

theorem doSetpointLost_due (used : (motCh s c.val).state ≠ 0) (run : (motDie s (dieOf c.val)).state = .run) (due : (motCh s c.val).pairAt + 19600 * us ≤ s.now) :
    doSetpointLost c s = applyTarget c.val (updMot c.val (fun x => { x with lost := true }) s) := if_pos ⟨used, run, due⟩

/-- Without STANDBY the time since the last heartbeat counts too. -/
theorem doHostSilence_due (first : (motDie s d.val).silent = false) (configured : (motDie s d.val).state ≠ .boot) (counting : (motDie s d.val).standby = false)
    (due : (motDie s d.val).silenceS * sec ≤ (motDie s d.val).silNs + (s.now - (motDie s d.val).lastValid)) :
    doHostSilence d s = applyDie d.val (updDie d.val (fun x => { x with silent := true, repSilent := true }) s) := by
  simp only [doHostSilence, counting, Bool.false_eq_true, if_false]
  exact if_pos ⟨Bool.eq_false_iff.mp first, configured, due⟩

/-! ### The motor supply (R227) -/

/-- A die that notes its supply out of range. -/
def busFaulted (d : Nat) (mv : BitVec 16) (s : State) : State :=
  updDie d (fun x => { x with vmotMv := mv.toNat, busFault := true, busAt := s.now, repBus := x.repBus || !x.busFault }) s

/-- A channel whose die loses its supply: STOPPED, unless UNUSED or FAULTED. -/
def busStopped (c : Nat) (s : State) : State := if (motCh s c).state = 0 ∨ (motCh s c).state = 7 then s else enterCh c 1 s

theorem busStopped_offChannels {c : Nat} : offChannels (busStopped c s) = offChannels s := offChannels_ite rfl enterCh_offChannels

theorem motCh_busStopped_other {n c : Nat} (other : n ≠ c) : motCh (busStopped c s) n = motCh s n := by
  unfold busStopped
  split
  · rfl
  · exact motCh_enterCh_other other

theorem motCh_busStopped_off {n c : Nat} (off : (motCh s n).state = 0 ∨ (motCh s n).state = 7) : motCh (busStopped c s) n = motCh s n := by
  by_cases own : n = c
  · subst own
    rw [busStopped, if_pos off]
  · exact motCh_busStopped_other own

theorem doVmotBusFault_out (out : 62000 < mv.toNat ∨ mv.toNat < 9500) :
    doVmotBusFault d mv s = forEach (dieChs d.val) busStopped (busFaulted d.val mv s) := if_pos out

theorem doVmotBusRecover_due (faulted : (motDie s d.val).busFault = true) (due : (motDie s d.val).busAt + 100 * ms ≤ s.now) (low : 10800 ≤ mv.toNat) (high : mv.toNat ≤ 60000) :
    doVmotBusRecover d mv s = applyDie d.val (updDie d.val (fun x => { x with vmotMv := mv.toNat, busFault := false }) s) := if_pos ⟨faulted, due, low, high⟩

end

section
variable {s : State} {d : Nat} {c : Nat}

theorem forEach_busStopped_offChannels {l : List Nat} : offChannels (forEach l busStopped s) = offChannels s :=
  forEach_induct (P := fun t => offChannels t = offChannels s) _ rfl fun _ _ h => busStopped_offChannels.trans h

theorem motCh_forEach_busStopped_off {l : List Nat} (off : (motCh s c).state = 0 ∨ (motCh s c).state = 7) : motCh (forEach l busStopped s) c = motCh s c :=
  forEach_induct (P := fun t => motCh t c = motCh s c) _ rfl fun _ t h => (motCh_busStopped_off (show (motCh t c).state = 0 ∨ _ from h ▸ off)).trans h

theorem motCh_forEach_busStopped_elsewhere {l : List Nat} (elsewhere : c ∉ l) : motCh (forEach l busStopped s) c = motCh s c :=
  List.foldlRecOn (motive := fun t => motCh t c = motCh s c) l (fun t n => busStopped n t) rfl fun _ h n listed =>
    (motCh_busStopped_other fun same => elsewhere (by rwa [same])).trans h

/-- A channel is stopped once its own turn has come. -/
theorem motCh_forEach_busStopped_driven (own : c / 8 = d) (used : (motCh s c).state ≠ 0) (sound : (motCh s c).state ≠ 7) :
    (motCh (forEach (dieChs d) busStopped s) c).state = 1 ∧ (motCh (forEach (dieChs d) busStopped s) c).tries = 0 ∧
      (motCh (forEach (dieChs d) busStopped s) c).gates = .off := by
  refine forEach_once (Before := fun t => motCh t c = motCh s c) (After := fun t => (motCh t c).state = 1 ∧ (motCh t c).tries = 0 ∧ (motCh t c).gates = .off)
    (fun n t other h => (motCh_busStopped_other other.symm).trans h) (fun t h => ?_) (fun n t other h => ?_) (dieChs_nodup d) (mem_dieChs.mpr own) rfl
  · have driven : ¬ ((motCh t c).state = 0 ∨ (motCh t c).state = 7) := by rw [h]; exact not_or.mpr ⟨used, sound⟩
    rw [busStopped, if_neg driven]
    simp [gatesIn_off, isOff]
  · rwa [motCh_busStopped_other other.symm]

end

/-! ### The events as commands -/

section
variable {s : State} {d : Fin 2} {mv : BitVec 16}

theorem exec_dieFailsafe (h : awake s) : exec (.dieFailsafe d) s = .next (settle s (doDieFailsafe d s)) := coreStep_awake h

theorem exec_setpointLost {c : Fin 16} (h : awake s) : exec (.setpointLost c) s = .next (settle s (doSetpointLost c s)) := coreStep_awake h

theorem exec_hostSilence (h : awake s) : exec (.hostSilence d) s = .next (settle s (doHostSilence d s)) := coreStep_awake h

theorem exec_vmotBusFault (h : awake s) : exec (.vmotBusFault d mv) s = .next (settle s (doVmotBusFault d mv s)) := coreStep_awake h

theorem exec_vmotBusRecover (h : awake s) : exec (.vmotBusRecover d mv) s = .next (settle s (doVmotBusRecover d mv s)) := coreStep_awake h

end

/-- Settles O40: each silence changes its die or channel first and the speeds after it, a supply out of range stops the die's channels that are in use and not FAULTED, and its return asks for
their speeds again. -/
theorem dieSupervision : Obligations.DieSupervision := by
  refine ⟨?failsafe, ?lost, ?silence, ?busFault, ?busRecover⟩
  case failsafe =>
    intro s d h run due
    rw [exec_dieFailsafe h, doDieFailsafe_due run due]
  case lost =>
    intro s c h used run due
    rw [exec_setpointLost h, doSetpointLost_due used run due]
  case silence =>
    intro s d h first configured counting due
    rw [exec_hostSilence h, doHostSilence_due first configured counting due]
  case busFault =>
    intro s d mv h out
    have noted : motDie (forEach (dieChs d.val) busStopped (busFaulted d.val mv s)) d.val =
        { motDie s d.val with vmotMv := mv.toNat, busFault := true, busAt := s.now, repBus := (motDie s d.val).repBus || !(motDie s d.val).busFault } :=
      (motDie_of_offChannels forEach_busStopped_offChannels _).trans motDie_updDie_same
    rw [exec_vmotBusFault h, doVmotBusFault_out out]
    refine ⟨_, rfl, by rw [noted], by rw [noted], by rw [noted], fun c off => ?off, fun c own used sound => ?driven, fun c other => ?elsewhere, ?frame⟩
    case off => exact motCh_forEach_busStopped_off (s := busFaulted d.val mv s) off
    case driven => exact motCh_forEach_busStopped_driven (s := busFaulted d.val mv s) own used sound
    case elsewhere => exact motCh_forEach_busStopped_elsewhere (s := busFaulted d.val mv s) (mt mem_dieChs.mp other)
    case frame => exact frame_of_offMotors (offMotors_of_offChannels (s := busFaulted d.val mv s) forEach_busStopped_offChannels)
  case busRecover =>
    intro s d mv h faulted due low high
    rw [exec_vmotBusRecover h, doVmotBusRecover_due faulted due low high]

end Sys2Proof.Machine
end

section
/-! SUPPORT. What a motor die takes from a heartbeat (07_motor_drive.md R214–R219, R226): the configuration, the clears and the setpoints, each with what it leaves. -/

namespace Sys2Proof.Machine

/-! ### The configuration a heartbeat delivers (R207, R216, R220) -/

section
variable {s : State} {d : Nat} {h : Heartbeat}

/-- A die and its channels with the configuration of a heartbeat, where it delivers one. -/
def cfgTaken (d : Nat) (h : Heartbeat) (s : State) : State :=
  match h.cfg with
  | some g => dieLoadCfg d h.cfgId g s
  | none => s

theorem cfgTaken_none (undelivered : h.cfg = none) : cfgTaken d h s = s := by rw [cfgTaken, undelivered]

/-- Channel `i` of a die with the record and the parameters that a configuration has for it. -/
def chCfgKept (d : Nat) (g : DieCfg) (i : Nat) (s : State) : State :=
  updMot (8 * d + i) (fun x => { x with cfg := g.recs.getD i {}, par := g.pars.getD i []
                                        gates := if x.gates = .off then .off else if (g.recs.getD i {}).commut = 0 then .block else .sine }) s

/-- Channel `i` of a die as a configuration leaves it: UNUSED, or in use. -/
def chCfgTaken (d : Nat) (g : DieCfg) (i : Nat) (s : State) : State :=
  if (g.recs.getD i {}).kind = 0 then
    updMot (8 * d + i) (fun x => { x with fault := 0, tries := 0, slow := false, hallInv := false, starting := false }) (enterCh (8 * d + i) 0 (chCfgKept d g i s))
  else if (motCh (chCfgKept d g i s) (8 * d + i)).state = 0 then enterCh (8 * d + i) 1 (chCfgKept d g i s)
  else chCfgKept d g i s

/-- What a configuration writes to its die. -/
def dieCfgKept (d id : Nat) (g : DieCfg) (s : State) : State := updDie d (fun x => { x with silenceS := g.silenceS, cfgId := some id }) s

theorem dieLoadCfg_eq {id : Nat} {g : DieCfg} : dieLoadCfg d id g s = forEach (List.range 8) (chCfgTaken d g) (dieCfgKept d id g s) := rfl

theorem chCfgTaken_offChannels {g : DieCfg} {i : Nat} : offChannels (chCfgTaken d g i s) = offChannels s := by
  have kept : offChannels (chCfgKept d g i s) = offChannels s := updMot_offChannels
  exact offChannels_ite (by rw [updMot_offChannels, enterCh_offChannels, kept]) (offChannels_ite (by rw [enterCh_offChannels, kept]) kept)

theorem dieLoadCfg_offChannels {id : Nat} {g : DieCfg} : offChannels (dieLoadCfg d id g s) = offChannels (dieCfgKept d id g s) := by
  rw [dieLoadCfg_eq]
  exact forEach_induct (P := fun t => offChannels t = offChannels (dieCfgKept d id g s)) _ rfl fun _ _ k => chCfgTaken_offChannels.trans k

theorem cfgTaken_offMotors : offMotors (cfgTaken d h s) = offMotors s := by
  unfold cfgTaken
  split
  · exact (offMotors_of_offChannels dieLoadCfg_offChannels).trans rfl
  · rfl

theorem motDie_cfgTaken_other {e : Nat} (other : e ≠ d) : motDie (cfgTaken d h s) e = motDie s e := by
  unfold cfgTaken
  split
  · exact (motDie_of_offChannels dieLoadCfg_offChannels e).trans (motDie_updDie_other other)
  · rfl

end

/-! ### The clears it carries (R226) -/

section
variable {s : State} {d i mask : Nat}

/-- Channel `i` of a die as a heartbeat's clear leaves it: STOPPED without a fault if it is named and FAULTED. -/
def clearTaken (d mask i : Nat) (s : State) : State :=
  if mask.testBit i ∧ (motCh s (8 * d + i)).state = 7 then updMot (8 * d + i) (fun x => { x with fault := 0 }) (enterCh (8 * d + i) 1 s) else s

theorem dieClear_eq : dieClear d mask s = forEach (List.range 8) (clearTaken d mask) s := rfl

theorem clearTaken_offChannels : offChannels (clearTaken d mask i s) = offChannels s := offChannels_ite (by simp) rfl

theorem dieClear_offChannels : offChannels (dieClear d mask s) = offChannels s :=
  forEach_induct (P := fun t => offChannels t = offChannels s) _ rfl fun _ _ k => clearTaken_offChannels.trans k

theorem motCh_clearTaken_other {n : Nat} (other : n ≠ 8 * d + i) : motCh (clearTaken d mask i s) n = motCh s n := by
  unfold clearTaken
  split
  · rw [motCh_updMot_other other, motCh_enterCh_other other]
  · rfl

/-- A clear takes no channel out of use. -/
theorem motCh_clearTaken_used {n : Nat} (used : (motCh s n).state ≠ 0) : (motCh (clearTaken d mask i s) n).state ≠ 0 := by
  by_cases own : n = 8 * d + i
  · subst own
    unfold clearTaken
    split
    · simp
    · exact used
  · rwa [motCh_clearTaken_other own]

theorem motCh_dieClear_used {n : Nat} (used : (motCh s n).state ≠ 0) : (motCh (dieClear d mask s) n).state ≠ 0 :=
  forEach_induct (P := fun t => (motCh t n).state ≠ 0) _ used fun _ _ k => motCh_clearTaken_used k

theorem motCh_dieClear_faulted (inDie : i < 8) (named : mask.testBit i = true) (faulted : (motCh s (8 * d + i)).state = 7) :
    (motCh (dieClear d mask s) (8 * d + i)).state = 1 ∧ (motCh (dieClear d mask s) (8 * d + i)).fault = 0 := by
  rw [dieClear_eq]
  refine forEach_once (Before := fun t => (motCh t (8 * d + i)).state = 7) (After := fun t => (motCh t (8 * d + i)).state = 1 ∧ (motCh t (8 * d + i)).fault = 0)
    (fun n t other k => ?_) (fun t k => ?_) (fun n t other k => ?_) List.nodup_range (List.mem_range.mpr inDie) faulted
  · rwa [motCh_clearTaken_other (by omega)]
  · rw [clearTaken, if_pos ⟨named, k⟩]
    simp
  · rwa [motCh_clearTaken_other (by omega)]

end

/-! ### The setpoints whose pairs match (R215) -/

section
variable {s : State} {d i : Nat} {h : Heartbeat} {bad : Byte}

/-- Channel `i` of a die with the setpoint a heartbeat brings it, or with the report of a pair that does not match. -/
def pairTaken (d : Nat) (h : Heartbeat) (bad : Byte) (i : Nat) (s : State) : State :=
  if (motCh s (8 * d + i)).state = 0 then s
  else if injectArmed uMOT 4 (8 * d + i) s then updMot (8 * d + i) (fun x => { x with report := sadd x.report 9 }) (injectUse uMOT s)
  else if bad.getLsbD i then updMot (8 * d + i) (fun x => { x with report := sadd x.report 8 }) s
  else updMot (8 * d + i) (fun y => { y with setpoint := h.setpoints.getD i 0, pairAt := s.now, lost := false }) s

theorem injectArmed_disarmed {u : FUnit} {src unit : Nat} (disarmed : noInjection u s) : injectArmed u src unit s = false := by
  simp [injectArmed, show (winOf s u).injLeft = 0 from disarmed]

theorem pairTaken_disarmed (disarmed : noInjection uMOT s) : pairTaken d h bad i s =
    if (motCh s (8 * d + i)).state = 0 then s
    else if bad.getLsbD i then updMot (8 * d + i) (fun x => { x with report := sadd x.report 8 }) s
    else updMot (8 * d + i) (fun y => { y with setpoint := h.setpoints.getD i 0, pairAt := s.now, lost := false }) s := by
  simp only [pairTaken, injectArmed_disarmed disarmed, Bool.false_eq_true, if_false]

theorem pairTaken_offChannels (disarmed : noInjection uMOT s) : offChannels (pairTaken d h bad i s) = offChannels s := by
  rw [pairTaken_disarmed disarmed]
  exact offChannels_ite rfl (offChannels_ite (by simp) (by simp))

theorem noInjection_of_offChannels {t : State} {u : FUnit} (same : offChannels t = offChannels s) (disarmed : noInjection u s) : noInjection u t :=
  (congrArg (fun t : State => (winOf t u).injLeft) same :).trans disarmed

theorem motCh_pairTaken_other {n : Nat} (disarmed : noInjection uMOT s) (other : n ≠ 8 * d + i) : motCh (pairTaken d h bad i s) n = motCh s n := by
  rw [pairTaken_disarmed disarmed]
  split
  · rfl
  · split
    · exact motCh_updMot_other other
    · exact motCh_updMot_other other

/-- A setpoint leaves its channel's state and fault. -/
theorem motCh_pairTaken_kept {n : Nat} (disarmed : noInjection uMOT s) :
    (motCh (pairTaken d h bad i s) n).state = (motCh s n).state ∧ (motCh (pairTaken d h bad i s) n).fault = (motCh s n).fault := by
  by_cases own : n = 8 * d + i
  · subst own
    rw [pairTaken_disarmed disarmed]
    split
    · exact ⟨rfl, rfl⟩
    · split
      · rw [motCh_updMot_same]
        exact ⟨rfl, rfl⟩
      · rw [motCh_updMot_same]
        exact ⟨rfl, rfl⟩
  · rw [motCh_pairTaken_other disarmed own]
    exact ⟨rfl, rfl⟩

/-- The channels of a die with what a heartbeat's pairs bring them. -/
def pairsTaken (d : Nat) (h : Heartbeat) (bad : Byte) (s : State) : State := forEach (List.range 8) (pairTaken d h bad) s

theorem pairsTaken_offChannels (disarmed : noInjection uMOT s) : offChannels (pairsTaken d h bad s) = offChannels s :=
  forEach_induct (P := fun t => offChannels t = offChannels s) _ rfl fun _ _ k => (pairTaken_offChannels (noInjection_of_offChannels k disarmed)).trans k

theorem motCh_pairsTaken_kept {n : Nat} (disarmed : noInjection uMOT s) :
    (motCh (pairsTaken d h bad s) n).state = (motCh s n).state ∧ (motCh (pairsTaken d h bad s) n).fault = (motCh s n).fault := by
  refine (forEach_induct (P := fun t => offChannels t = offChannels s ∧ (motCh t n).state = (motCh s n).state ∧ (motCh t n).fault = (motCh s n).fault) _ ⟨rfl, rfl, rfl⟩ ?_).2
  intro i t ⟨same, state, fault⟩
  have still : noInjection uMOT t := noInjection_of_offChannels same disarmed
  obtain ⟨stateToo, faultToo⟩ := motCh_pairTaken_kept (d := d) (i := i) (h := h) (bad := bad) (n := n) still
  exact ⟨(pairTaken_offChannels still).trans same, stateToo.trans state, faultToo.trans fault⟩

/-- A channel in use whose pair matches has the heartbeat's setpoint, and has lost none. -/
theorem motCh_pairsTaken_matched (disarmed : noInjection uMOT s) (inDie : i < 8) (used : (motCh s (8 * d + i)).state ≠ 0) (matched : bad.getLsbD i = false) :
    (motCh (pairsTaken d h bad s) (8 * d + i)).setpoint = h.setpoints.getD i 0 ∧ (motCh (pairsTaken d h bad s) (8 * d + i)).lost = false := by
  refine (forEach_once (Before := fun t => noInjection uMOT t ∧ (motCh t (8 * d + i)).state ≠ 0)
    (After := fun t => noInjection uMOT t ∧ (motCh t (8 * d + i)).setpoint = h.setpoints.getD i 0 ∧ (motCh t (8 * d + i)).lost = false)
    (fun n t other k => ?_) (fun t k => ?_) (fun n t other k => ?_) List.nodup_range (List.mem_range.mpr inDie) ⟨disarmed, used⟩).2
  · exact ⟨noInjection_of_offChannels (pairTaken_offChannels k.1) k.1, by rw [motCh_pairTaken_other k.1 (by omega)]; exact k.2⟩
  · refine ⟨noInjection_of_offChannels (pairTaken_offChannels k.1) k.1, ?_⟩
    rw [pairTaken_disarmed k.1, if_neg k.2, if_neg (Bool.eq_false_iff.mp matched)]
    simp
  · exact ⟨noInjection_of_offChannels (pairTaken_offChannels k.1) k.1, by rw [motCh_pairTaken_other k.1 (by omega)]; exact k.2⟩

end

/-! ### The die that a good heartbeat reaches (R214, R216, R218, R219) -/

section
variable {x y : MotDie} {h : Heartbeat}

/-- The identity of the configuration a die has once it has taken a heartbeat. -/
def cfgIdTaken (h : Heartbeat) (x : MotDie) : Option Nat := if h.cfg.isSome then some h.cfgId else x.cfgId

/-- The heartbeats in a row that carried RESUME. -/
def resumesTaken (h : Heartbeat) (x : MotDie) : Nat := if h.resume then x.resumeRun + 1 else 0

/-- The state a heartbeat takes a die to. -/
def dieMoved (h : Heartbeat) (x : MotDie) : DieState :=
  if x.state = .boot ∧ cfgIdTaken h x = some h.cfgId then .run
  else match x.state with
    | .boot => .boot
    | .run => if h.park then .parked else .run
    | .failsafe => if 10 ≤ resumesTaken h x then .run else .failsafe
    | .parked => if h.park ∧ ¬ x.parkLine then .parked else .run

theorem dieMoved_configured (boot : x.state = .boot) (configured : h.cfg.isSome = true ∨ x.cfgId = some h.cfgId) : dieMoved h x = .run := by
  refine if_pos ⟨boot, ?_⟩
  unfold cfgIdTaken
  split
  · rfl
  · next undelivered => exact configured.resolve_left undelivered

theorem dieMoved_unconfigured (boot : x.state = .boot) (undelivered : h.cfg = none) (unknown : x.cfgId ≠ some h.cfgId) : dieMoved h x = .boot := by
  simp [dieMoved, cfgIdTaken, boot, undelivered, unknown]

theorem dieMoved_run (run : x.state = .run) : dieMoved h x = if h.park then .parked else .run := by simp [dieMoved, run]

theorem dieMoved_unparked (parked : x.state = .parked) (released : h.park = false ∨ x.parkLine = true) : dieMoved h x = .run := by
  have unparks : ¬ (h.park = true ∧ ¬ x.parkLine = true) := fun held => released.elim (Bool.eq_false_iff.mp · held.1) held.2
  simp only [dieMoved, parked, reduceCtorEq, false_and, if_false, if_neg unparks]

/-- The silence a die has counted when a heartbeat arrives (R219). -/
def silenceCounted (s : State) (x : MotDie) : Nat := if x.standby then x.silNs else x.silNs + (s.now - x.lastValid)

/-- A die with what it keeps of a heartbeat that found it as `x` and silent for `sil`. -/
def dieHeard (h : Heartbeat) (x : MotDie) (sil : Nat) (now : Time) (y : MotDie) : MotDie :=
  { y with
    state := dieMoved h x, lastSeq := some h.seq, lastValid := now, parkLine := false
    resumeRun := if dieMoved h x = .failsafe then resumesTaken h x else 0
    standby := h.standby, silNs := if h.heard then 0 else sil, silent := y.silent && !h.heard }

theorem dieHeard_heard {sil : Nat} {now : Time} (heard : h.heard = true) : (dieHeard h x sil now y).silent = false := by simp [dieHeard, heard]

end

section
variable {s : State} {d i : Nat} {h : Heartbeat} {bad : Byte}

/-- The channels of a die with what a heartbeat brings them, before the die counts it. -/
def chsTaken (d : Nat) (h : Heartbeat) (bad : Byte) (s : State) : State := pairsTaken d h bad (dieClear d h.clear (cfgTaken d h s))

/-- A die and its channels with what a good heartbeat brings them. -/
def dieTaken (d : Nat) (h : Heartbeat) (bad : Byte) (s : State) : State :=
  updDie d (dieHeard h (motDie s d) (silenceCounted s (motDie s d)) (chsTaken d h bad s).now) (chsTaken d h bad s)

/-- A good heartbeat taken, and the speeds then asked for. -/
def heartbeatTaken (d : Nat) (h : Heartbeat) (bad : Byte) (s : State) : State := applyDie d (dieTaken d h bad s)

theorem dieTaken_offMotors : offMotors (dieTaken d h bad s) = offMotors (chsTaken d h bad s) := updDie_offMotors

theorem motCh_dieTaken {n : Nat} : motCh (dieTaken d h bad s) n = motCh (chsTaken d h bad s) n := motCh_updDie

theorem motDie_heartbeatTaken {e : Nat} : motDie (heartbeatTaken d h bad s) e = motDie (dieTaken d h bad s) e := motDie_of_offChannels applyDie_offChannels e

theorem dieClear_cfgTaken_offMotors : offMotors (dieClear d h.clear (cfgTaken d h s)) = offMotors s :=
  (offMotors_of_offChannels dieClear_offChannels).trans cfgTaken_offMotors

theorem noInjection_dieClear_cfgTaken {u : FUnit} (disarmed : noInjection u s) : noInjection u (dieClear d h.clear (cfgTaken d h s)) :=
  (congrArg (fun t : State => (winOf t u).injLeft) dieClear_cfgTaken_offMotors :).trans disarmed

theorem chsTaken_offMotors (disarmed : noInjection uMOT s) : offMotors (chsTaken d h bad s) = offMotors s :=
  (offMotors_of_offChannels (pairsTaken_offChannels (noInjection_dieClear_cfgTaken disarmed))).trans dieClear_cfgTaken_offMotors

theorem motDie_chsTaken_other {e : Nat} (disarmed : noInjection uMOT s) (other : e ≠ d) : motDie (chsTaken d h bad s) e = motDie s e :=
  (motDie_of_offChannels ((pairsTaken_offChannels (noInjection_dieClear_cfgTaken disarmed)).trans dieClear_offChannels) e).trans (motDie_cfgTaken_other other)

theorem heartbeatTaken_offMotors (disarmed : noInjection uMOT s) : offMotors (heartbeatTaken d h bad s) = offMotors s :=
  (offMotors_of_offChannels applyDie_offChannels).trans (dieTaken_offMotors.trans (chsTaken_offMotors disarmed))

theorem motDie_heartbeatTaken_other {e : Nat} (disarmed : noInjection uMOT s) (other : e ≠ d) : motDie (heartbeatTaken d h bad s) e = motDie s e := by
  rw [motDie_heartbeatTaken, dieTaken, motDie_updDie_other other, motDie_chsTaken_other disarmed other]

theorem motDie_heartbeatTaken_same (disarmed : noInjection uMOT s) :
    ∃ y, motDie (heartbeatTaken d h bad s) d = dieHeard h (motDie s d) (silenceCounted s (motDie s d)) s.now y := by
  refine ⟨motDie (chsTaken d h bad s) d, ?_⟩
  rw [motDie_heartbeatTaken, dieTaken, motDie_updDie_same, now_of_offMotors (chsTaken_offMotors disarmed)]

/-- The speeds a heartbeat asks for change no setpoint. -/
theorem motCh_heartbeatTaken_commanded {n : Nat} : Commanded (motCh (chsTaken d h bad s) n) (motCh (heartbeatTaken d h bad s) n) := by
  rw [← motCh_dieTaken]
  exact applyDie_commanded

theorem motCh_heartbeatTaken_matched (disarmed : noInjection uMOT s) (inDie : i < 8) (undelivered : h.cfg = none) (used : (motCh s (8 * d + i)).state ≠ 0)
    (matched : bad.getLsbD i = false) :
    (motCh (heartbeatTaken d h bad s) (8 * d + i)).setpoint = h.setpoints.getD i 0 ∧ (motCh (heartbeatTaken d h bad s) (8 * d + i)).lost = false := by
  have usedToo : (motCh (dieClear d h.clear (cfgTaken d h s)) (8 * d + i)).state ≠ 0 := motCh_dieClear_used (by rwa [cfgTaken_none undelivered])
  obtain ⟨setpoint, lost⟩ := motCh_pairsTaken_matched (noInjection_dieClear_cfgTaken disarmed) inDie usedToo matched
  exact ⟨motCh_heartbeatTaken_commanded.setpoint.trans setpoint, motCh_heartbeatTaken_commanded.lost.trans lost⟩

theorem motCh_heartbeatTaken_cleared (disarmed : noInjection uMOT s) (inDie : i < 8) (undelivered : h.cfg = none) (named : h.clear.testBit i = true)
    (faulted : (motCh s (8 * d + i)).state = 7) :
    (motCh (heartbeatTaken d h bad s) (8 * d + i)).state = 1 ∧ (motCh (heartbeatTaken d h bad s) (8 * d + i)).fault = 0 := by
  obtain ⟨stopped, cleared⟩ := motCh_dieClear_faulted (s := cfgTaken d h s) inDie named (by rwa [cfgTaken_none undelivered])
  obtain ⟨state, fault⟩ := motCh_pairsTaken_kept (d := d) (h := h) (bad := bad) (n := 8 * d + i) (noInjection_dieClear_cfgTaken (d := d) (h := h) disarmed)
  have still : (motCh (chsTaken d h bad s) (8 * d + i)).state = 1 := state.trans stopped
  exact ⟨(motCh_heartbeatTaken_commanded.state (.inl still)).trans still, motCh_heartbeatTaken_commanded.fault.trans (fault.trans cleared)⟩

end

section
variable {s : State} {d : Fin 2} {h : Heartbeat} {bad : Byte}

theorem doHeartbeatReceive_discarded {crcOk : Bool} (sent : tfind s.mot.hb d.val = some h) (stray : ¬ crcOk = true ∨ (motDie s d.val).lastSeq = some h.seq) :
    doHeartbeatReceive d crcOk bad s = updDie d.val (fun x => { x with discarded := x.discarded + 1 }) s := by
  simp only [doHeartbeatReceive, sent]
  exact if_pos stray

theorem doHeartbeatReceive_good (sent : tfind s.mot.hb d.val = some h) (anew : (motDie s d.val).lastSeq ≠ some h.seq) :
    doHeartbeatReceive d true bad s = heartbeatTaken d.val h bad s := by
  have good : ¬ (¬ True ∨ (motDie s d.val).lastSeq = some h.seq) := by simpa using anew
  simp only [doHeartbeatReceive, sent]
  rw [if_neg good]
  rfl

theorem exec_heartbeatReceive {crcOk : Bool} (a : awake s) : exec (.heartbeatReceive d crcOk bad) s = .next (settle s (doHeartbeatReceive d crcOk bad s)) := coreStep_awake a

end

end Sys2Proof.Machine
end

section
/-! SUPPORT. What MOT takes from a motor die's reply (07_motor_drive.md R212, R214, R228, R229), and the obligation about heartbeats and their replies. -/

namespace Sys2Proof.Machine

/-! ### A channel in a reply (R212, R228, R229) -/

section
variable {s t : State} {d c n : Nat} {r : DieReply} {tach cur : Word}

/-- What a reply says of a channel. -/
def repOf (s : State) (c : Nat) (tach cur : Word) : MotRep :=
  { state := (motCh s c).state, fault := faultCode (motCh s c), tries := (motCh s c).tries, hall := (motCh s c).hall, est := repEst (motCh s c).state, tach := tach
    current := cur, starts := (motCh s c).starts, faults := (motCh s c).faults
    runS := ((motCh s c).runNs + (if isRunning (motCh s c).state then s.now - (motCh s c).at_ else 0)) / sec }

/-- A channel's values kept in MOT's registers. -/
def repNoted (c : Nat) (x : MotRep) (s : State) : State := { s with mot.rep := tset {} s.mot.rep c x, mot.tachRead := sadd s.mot.tachRead c }

/-- A channel's values written to its signals, and its events to the fault sources. -/
def chShown (c : Nat) (tach cur : Word) (m : MotCh) (s : State) : State :=
  forEach m.report (raiseChannelReport c) (writeFixedSignal 0x0B (0x0300 + c) (w32 (m.state + 256 * faultCode m)) false
    (writeFixedSignal 0x0B (0x0200 + c) cur false (writeFixedSignal 0x0B (0x0100 + c) tach (repEst m.state) s)))

/-- A channel whose events have been reported. -/
def chReported (c : Nat) (tach : Word) (s : State) : State := updMot c (fun x => { x with report := [], speed := if x.state = 4 then tach.toInt else x.speed }) s

/-- The speed and the current of a reply's channel. -/
def tachIn (s : State) (d : Nat) (r : DieReply) (c : Nat) : Word := repTach s c (r.tach.getD (c - 8 * d) 0)
def currentIn (d : Nat) (r : DieReply) (c : Nat) : Word := r.current.getD (c - 8 * d) 0

/-- MOT takes one channel of a die's reply. -/
def chRead (d : Nat) (r : DieReply) (c : Nat) (s : State) : State :=
  chReported c (tachIn s d r c) (chShown c (tachIn s d r c) (currentIn d r c) (motCh s c) (repNoted c (repOf s c (tachIn s d r c) (currentIn d r c)) s))

theorem raiseChannelReport_unreported {code : Nat} : unreported (raiseChannelReport c code s) = unreported s := by
  unfold raiseChannelReport
  extract_lets report
  split
  all_goals exact raise_unreported _ _ _ _

theorem chShown_unreported {m : MotCh} : unreported (chShown c tach cur m s) = unreported s := by
  refine forEach_induct (P := fun t => unreported t = unreported s) _ ?_ fun _ _ k => raiseChannelReport_unreported.trans k
  rw [writeFixedSignal_unreported, writeFixedSignal_unreported, writeFixedSignal_unreported]

theorem chReported_unreported (same : unreported t = unreported s) : unreported (chReported c tach t) = unreported (chReported c tach s) :=
  (congrArg (chReported c tach) same :)

/-- Beside its reports, a channel's reply is what MOT notes of the channel and what the channel forgets. -/
theorem chRead_unreported : unreported (chRead d r c s) =
    unreported (chReported c (tachIn s d r c) (repNoted c (repOf s c (tachIn s d r c) (currentIn d r c)) s)) := chReported_unreported chShown_unreported

theorem motRep_of_unreported (same : unreported t = unreported s) (n : Nat) : motRep t n = motRep s n := (congrArg (motRep · n) same :)

theorem motCh_of_unreported (same : unreported t = unreported s) (n : Nat) : motCh t n = motCh s n := (congrArg (motCh · n) same :)

theorem mot_of_unreported (same : unreported t = unreported s) : t.mot = s.mot := (congrArg State.mot same :)

theorem mdie_of_unreported (same : unreported t = unreported s) : t.mdie = s.mdie := (congrArg State.mdie same :)

theorem now_of_unreported (same : unreported t = unreported s) : t.now = s.now := (congrArg State.now same :)

theorem motRep_chReported : motRep (chReported c tach s) n = motRep s n := rfl

theorem motRep_repNoted_same {x : MotRep} : motRep (repNoted c x s) c = x := by simp [motRep, repNoted, tget_tset]

theorem motRep_repNoted_other {x : MotRep} (other : n ≠ c) : motRep (repNoted c x s) n = motRep s n := by simp [motRep, repNoted, tget_tset, other]

theorem motRep_chRead_same : motRep (chRead d r c s) c = repOf s c (tachIn s d r c) (currentIn d r c) := by
  rw [motRep_of_unreported chRead_unreported, motRep_chReported, motRep_repNoted_same]

theorem motRep_chRead_other (other : n ≠ c) : motRep (chRead d r c s) n = motRep s n := by
  rw [motRep_of_unreported chRead_unreported, motRep_chReported, motRep_repNoted_other other]

theorem motCh_repNoted {x : MotRep} : motCh (repNoted c x s) n = motCh s n := rfl

theorem motCh_chRead_other (other : n ≠ c) : motCh (chRead d r c s) n = motCh s n := by
  rw [motCh_of_unreported chRead_unreported, chReported, motCh_updMot_other other, motCh_repNoted]

theorem chRead_mdie : (chRead d r c s).mdie = s.mdie := (mdie_of_unreported chRead_unreported).trans rfl

theorem chRead_now : (chRead d r c s).now = s.now := (now_of_unreported chRead_unreported).trans rfl

/-! ### The channels of a reply -/

/-- What is read of a channel rests on the channel, the dies and the time alone. -/
theorem repOf_congr (channel : motCh t c = motCh s c) (dies : t.mdie = s.mdie) (time : t.now = s.now) :
    repOf t c (tachIn t d r c) cur = repOf s c (tachIn s d r c) cur := by
  have boot : dieIsBoot t c = dieIsBoot s c := by rw [dieIsBoot, motDie, dies]; rfl
  have handoff : handoffQ t c = handoffQ s c := by simp only [handoffQ, rpmMaxQ, chPar, boot, channel]
  have speed : tachIn t d r c = tachIn s d r c := by simp only [tachIn, repTach, rampSpeed, channel, handoff, time]
  rw [speed]
  simp only [repOf, channel, time]

/-- MOT's registers show of each channel of the die what it was when the reply came. -/
theorem motRep_forEach_chRead (inDie : c / 8 = d) : motRep (forEach (dieChs d) (chRead d r) s) c = repOf s c (tachIn s d r c) (currentIn d r c) := by
  refine forEach_once (Before := fun t => motCh t c = motCh s c ∧ t.mdie = s.mdie ∧ t.now = s.now)
    (After := fun t => motRep t c = repOf s c (tachIn s d r c) (currentIn d r c))
    (fun n t other k => ?_) (fun t k => ?_) (fun n t other k => ?_) (dieChs_nodup d) (mem_dieChs.mpr inDie) ⟨rfl, rfl, rfl⟩
  · obtain ⟨channel, dies, time⟩ := k
    exact ⟨(motCh_chRead_other other.symm).trans channel, chRead_mdie.trans dies, chRead_now.trans time⟩
  · obtain ⟨channel, dies, time⟩ := k
    rw [motRep_chRead_same, repOf_congr channel dies time]
  · rwa [motRep_chRead_other other.symm]

end

/-! ### The die in a reply (R214, R228, R229) -/

section
variable {s : State} {d : Nat} {r : DieReply} {x : MotDie}

/-- A bad checksum counted and reported. -/
def crcNoted (d : Nat) (inj : Bool) (s : State) : State := raise uMOT 5 .corrected { unit := d, inj := inj } { s with mot.hbBad := tupd 0 s.mot.hbBad d (satInc 255) }

/-- A report raised where it is due. -/
def raisedWhen (due : Bool) (src : Nat) (i : FaultInfo) (s : State) : State := if due then raise uMOT src .contained i s else s

/-- A die's supply written to its signal, the heartbeats it discarded counted, and its events reported. -/
def dieShown (d : Nat) (r : DieReply) (x : MotDie) (s : State) : State :=
  raisedWhen x.repBus 8 { unit := d, w1 := w32 x.vmotMv } (raisedWhen x.repSilent 7 { unit := d } (raisedWhen x.repFailsafe 6 { unit := d }
    (forEach (List.range (min x.discarded 255)) (fun _ s => crcNoted d false s)
      (writeFixedSignal 0x0B (0x0400 + d) (wInt (qdiv ((r.vmotMv : Int) * 65536) 1000)) false s))))

/-- A number put into a set or taken out of it. -/
def setPut (l : NSet) (b : Bool) (n : Nat) : NSet := if b then sadd l n else sdel l n

/-- What MOT's registers take of a die. -/
def dieNoted (d : Nat) (r : DieReply) (x : MotDie) (s : State) : State :=
  { s with mot.repDie := tset .boot s.mot.repDie d x.state, mot.repVmot := tset 0 s.mot.repVmot d r.vmotMv
           mot.repBus := setPut s.mot.repBus x.busFault d, mot.repSilent := setPut s.mot.repSilent x.silent d
           mot.fsSeen := if x.repFailsafe ∨ x.state = .failsafe then sadd s.mot.fsSeen d else s.mot.fsSeen
           mot.replied := sadd s.mot.replied d
           mot.clearing := clearsLeft s d x.lastSeq }

/-- A die that has replied: its events are reported, and its supply is as the reply says. -/
def dieReplied (d : Nat) (r : DieReply) (x : MotDie) (s : State) : State :=
  updDie d (fun y => { y with discarded := 0, repFailsafe := false, repSilent := false, repBus := false, vmotMv := r.vmotMv
                              busAt := if 10800 ≤ r.vmotMv ∧ r.vmotMv ≤ 60000 then x.busAt else s.now }) s

theorem rep_crcNoted {inj : Bool} : (crcNoted d inj s).mot.rep = s.mot.rep := by
  rw [crcNoted, mot_of_unreported (raise_unreported _ _ _ _)]

theorem rep_raisedWhen {due : Bool} {src : Nat} {i : FaultInfo} : (raisedWhen due src i s).mot.rep = s.mot.rep := by
  unfold raisedWhen
  split
  · rw [mot_of_unreported (raise_unreported _ _ _ _)]
  · rfl

theorem rep_dieShown : (dieShown d r x s).mot.rep = s.mot.rep := by
  rw [dieShown, rep_raisedWhen, rep_raisedWhen, rep_raisedWhen]
  exact forEach_induct (P := fun t : State => t.mot.rep = s.mot.rep) _ (congrArg MotS.rep (mot_of_unreported (writeFixedSignal_unreported _ _ _ _)))
    fun _ _ k => rep_crcNoted.trans k

theorem motRep_dieNoted_dieShown {n : Nat} : motRep (dieReplied d r x (dieNoted d r x (dieShown d r x s))) n = motRep s n := by
  show tget {} (dieShown d r x s).mot.rep n = tget {} s.mot.rep n
  rw [rep_dieShown]

end

section
variable {s : State} {d : Fin 2} {r : DieReply}

theorem injectCheck_disarmed {u : FUnit} {src unit : Nat} {ok : Bool} (disarmed : noInjection u s) : injectCheck u src unit ok s = (ok, s) :=
  if_neg (Bool.eq_false_iff.mp (injectArmed_disarmed disarmed))

theorem doHeartbeatReply_bad (disarmed : noInjection uMOT s) (bad : r.crcOk = false) : doHeartbeatReply d r s = crcNoted d.val false s := by
  simp only [doHeartbeatReply, injectCheck_disarmed disarmed, bad]
  rfl

/-- MOT with a die's good reply taken. -/
def replyTaken (d : Nat) (r : DieReply) (s : State) : State :=
  dieReplied d r (motDie s d) (dieNoted d r (motDie s d) (dieShown d r (motDie s d) (forEach (dieChs d) (chRead d r) s)))

theorem doHeartbeatReply_good (disarmed : noInjection uMOT s) (good : r.crcOk = true) : doHeartbeatReply d r s = replyTaken d.val r s := by
  simp only [doHeartbeatReply, injectCheck_disarmed disarmed, good]
  rfl

theorem replied_replyTaken {d : Nat} : (replyTaken d r s).mot.replied.contains d = true := List.contains_iff_mem.mpr (mem_sadd.mpr (.inl rfl))

theorem repDie_replyTaken {d : Nat} : tget .boot (replyTaken d r s).mot.repDie d = (motDie s d).state := (tget_tset _ _ _ _ _).trans (if_pos rfl)

theorem repVmot_replyTaken {d : Nat} : tget 0 (replyTaken d r s).mot.repVmot d = r.vmotMv := (tget_tset _ _ _ _ _).trans (if_pos rfl)

theorem discarded_replyTaken {d : Nat} : (motDie (replyTaken d r s) d).discarded = 0 := by rw [replyTaken, dieReplied, motDie_updDie_same]

theorem exec_heartbeatReply (a : awake s) : exec (.heartbeatReply d r) s = .next (settle s (doHeartbeatReply d r s)) := coreStep_awake a

end

/-- Settles O39: a stray heartbeat is counted alone; a good one moves its die, brings its channels their setpoints and clears, and leaves everything else; a reply is reported as bad or kept
channel by channel. -/
theorem heartbeats : Obligations.Heartbeats := by
  refine ⟨?badCrc, ?repeated, ?good, ?badReply, ?goodReply⟩
  case badCrc =>
    intro s d h bad a sent
    rw [exec_heartbeatReceive a, doHeartbeatReceive_discarded sent (.inl Bool.false_ne_true)]
  case repeated =>
    intro s d h bad a sent last
    rw [exec_heartbeatReceive a, doHeartbeatReceive_discarded sent (.inr last)]
  case good =>
    intro s d h bad a disarmed sent anew
    obtain ⟨y, die⟩ := motDie_heartbeatTaken_same (d := d.val) (h := h) (bad := bad) disarmed
    rw [exec_heartbeatReceive a, doHeartbeatReceive_good sent anew]
    refine ⟨_, rfl, ?_, ?_, ?_, fun heard => ?_, fun boot configured => ?_, fun boot undelivered unknown => ?_, fun run => ?_, fun parked released => ?_,
      fun i inDie undelivered used matched => motCh_heartbeatTaken_matched disarmed inDie undelivered used matched,
      fun i inDie undelivered named faulted => motCh_heartbeatTaken_cleared disarmed inDie undelivered named faulted,
      fun e other => motDie_heartbeatTaken_other disarmed other, frame_of_offMotors (heartbeatTaken_offMotors disarmed)⟩
    all_goals rw [die]
    · rfl
    · rfl
    · rfl
    · exact dieHeard_heard heard
    · exact dieMoved_configured boot configured
    · exact dieMoved_unconfigured boot undelivered unknown
    · exact dieMoved_run run
    · exact dieMoved_unparked parked released
  case badReply =>
    intro s d r a disarmed bad
    rw [exec_heartbeatReply a, doHeartbeatReply_bad disarmed bad, crcNoted]
  case goodReply =>
    intro s d r a disarmed good
    rw [exec_heartbeatReply a, doHeartbeatReply_good disarmed good]
    refine ⟨_, rfl, ?replied, ?state, ?supply, ?discarded, fun i inDie => ?channel⟩
    case replied => exact replied_replyTaken
    case state => exact repDie_replyTaken
    case supply => exact repVmot_replyTaken
    case discarded => exact discarded_replyTaken
    case channel =>
      have place : 8 * d.val + i - 8 * d.val = i := Nat.add_sub_cancel_left _ _
      have read : motRep (replyTaken d.val r s) (8 * d.val + i) = repOf s (8 * d.val + i) (repTach s (8 * d.val + i) (r.tach.getD i 0)) (r.current.getD i 0) := by
        rw [replyTaken, motRep_dieNoted_dieShown, motRep_forEach_chRead (by omega), tachIn, currentIn, place]
      rw [read]
      exact ⟨rfl, rfl, rfl, rfl, rfl⟩

end Sys2Proof.Machine
end

section
/-! SUPPORT. The arithmetic of the twin check (08_canopy_engine.md R231–R234, R239): rounding to BF16 commutes with the sign, so the products of an operand and of its twin add to 0 (to -ΣW for
INT8), and the obligation about the check. -/

namespace Sys2Proof.Machine

/-! ### The check on three sums (R239) -/

section
variable {afmt : Nat} {a b c : Int}

theorem twinOk_int8_iff : twinOk 0 (a, b, c) = true ↔ a + b + c = 0 := by rw [twinOk, if_pos rfl, beq_iff_eq]

theorem twinOk_float_iff (float : afmt ≠ 0) : twinOk afmt (a, b, c) = true ↔ a + b = 0 := by rw [twinOk, if_neg float, beq_iff_eq]

end

/-! ### The sums over an operand and over its complement (R233, R239) -/

theorem exactSum_eq_sum (l : List Int) : exactSum l = l.sum := List.sum_eq_foldl.symm

theorem exactSum_map_neg (l : List Int) : exactSum (l.map (- ·)) = -exactSum l := by
  simp only [exactSum_eq_sum]
  induction l with
  | nil => rfl
  | cons a l ih => rw [List.map_cons, List.sum_cons, List.sum_cons, ih, Int.neg_add]

/-- Where `u` is the unit of an operand, a product and that of the complement add to `-w * u`, and so do the sums over a row. -/
theorem exactSum_complement (u : Int) {w x : List Int} (paired : w.length = x.length) :
    exactSum (List.zipWith (· * ·) w x) + exactSum (List.zipWith (· * ·) w (x.map (fun v => -v - u))) + exactSum (w.map (· * u)) = 0 := by
  simp only [exactSum_eq_sum]
  induction w generalizing x with
  | nil => rfl
  | cons a w ih =>
    obtain _ | ⟨b, x⟩ := x
    · cases paired
    · have rest := ih (Nat.succ.inj paired)
      simp only [List.zipWith_cons_cons, List.map_cons, List.sum_cons, Int.mul_sub, Int.mul_neg]
      omega

theorem dotInt8_twinInt8 {w x : List Int} (paired : w.length = x.length) : dotInt8 w x + dotInt8 w (twinInt8 x) + w.foldl (· + ·) 0 = 0 := by
  have sums := exactSum_complement 1 paired
  simp only [Int.mul_one, List.map_id'] at sums
  exact sums

/-! ### Rounding commutes with the sign (R231, R232) -/

theorem two_pow_pos (k : Nat) : (0 : Int) < 2 ^ k := Int.pow_pos (by decide)

/-- A number given by its quotient and remainder, rounded. -/
theorem rne_of_divMod {q r : Int} {k : Nat} (nonneg : 0 ≤ r) (below : r < 2 ^ k) :
    rne (q * 2 ^ k + r) k = if 2 ^ k < 2 * r ∨ (2 * r = 2 ^ k ∧ q % 2 ≠ 0) then q + 1 else q := by
  have quotient : (q * 2 ^ k + r) / 2 ^ k = q := by
    rw [Int.add_comm, Int.add_mul_ediv_right _ _ (Int.ne_of_gt (two_pow_pos k)), Int.ediv_eq_zero_of_lt nonneg below, Int.zero_add]
  have remainder : q * 2 ^ k + r - q * 2 ^ k = r := by omega
  simp only [rne, quotient, remainder]

theorem rne_neg (a : Int) (k : Nat) : rne (-a) k = -rne a k := by
  have pos := two_pow_pos k
  have nonneg := Int.emod_nonneg a (Int.ne_of_gt pos)
  have below := Int.emod_lt_of_pos a pos
  rw [← Int.ediv_mul_add_emod a (2 ^ k)]
  generalize a / 2 ^ k = q, a % 2 ^ k = r at nonneg below ⊢
  by_cases exact : r = 0
  · have opposite : -(q * 2 ^ k + r) = -q * 2 ^ k + r := by rw [Int.neg_mul]; omega
    rw [opposite, rne_of_divMod nonneg below, rne_of_divMod nonneg below]
    omega
  · have opposite : -(q * 2 ^ k + r) = (-q - 1) * 2 ^ k + (2 ^ k - r) := by rw [Int.sub_mul, Int.neg_mul, Int.one_mul]; omega
    rw [opposite, rne_of_divMod nonneg below, rne_of_divMod (by omega) (by omega)]
    omega

theorem clampTo_fst (lo hi x : Int) : (clampTo lo hi x).1 = if x < lo then lo else if hi < x then hi else x := by
  rw [clampTo, apply_ite Prod.fst, apply_ite Prod.fst]

theorem clampTo_neg {top : Int} (x : Int) (nonneg : 0 ≤ top) : (clampTo (-top) top (-x)).1 = -(clampTo (-top) top x).1 := by
  rw [clampTo_fst, clampTo_fst]
  omega

theorem roundFloat_neg {top : Int} (p lsb sh : Nat) (v : Int) (nonneg : 0 ≤ top) : (roundFloat p lsb top sh (-v)).1 = -(roundFloat p lsb top sh v).1 := by
  simp only [roundFloat, Int.natAbs_neg, rne_neg, Int.neg_mul, clampTo_neg _ nonneg]

theorem toBf16_neg (sh : Nat) (v : Int) : (toBf16 sh (-v)).1 = -(toBf16 sh v).1 := roundFloat_neg _ _ _ _ (Int.mul_nonneg (by decide) (Int.le_of_lt (two_pow_pos 270)))

theorem parts3_neg (v : Int) : parts3 (-v) = (-(parts3 v).1, -(parts3 v).2.1, -(parts3 v).2.2) := by
  have sub (a b : Int) : -a - -b = -(a - b) := by omega
  simp only [parts3, toBf16_neg, sub]

/-! ### The products of a row and of its twin (R231, R239) -/

theorem products_neg (fp : Bool) (w x : Int) : products fp w (-x) = (products fp w x).map (- ·) := by
  cases fp with
  | false => simp only [products, Bool.false_eq_true, if_false, List.map_cons, List.map_nil, Int.mul_neg]
  | true => simp only [products, if_true, parts3_neg, List.map_cons, List.map_nil, Int.mul_neg]

theorem terms_neg (fp : Bool) (w x : List Int) : terms fp w (x.map (- ·)) = (terms fp w x).map (- ·) := by
  simp only [terms, List.zipWith_map_right, products_neg, List.flatMap_id, List.map_flatten, List.map_zipWith]

theorem terms_single (w x : List Int) : terms false w x = List.zipWith (· * ·) w x := by
  have single : products false = fun w x => [w * x] := rfl
  rw [terms, single, List.flatMap_id, ← List.map_zipWith (f := fun p : Int => [p]), ← List.flatMap_def, List.flatMap_singleton']

theorem exactSum_terms_twin_float {afmt : Nat} (float : afmt ≠ 0) (fp : Bool) (w x : List Int) :
    exactSum (terms fp w x) + exactSum (terms fp w (twinAct afmt x)) = 0 := by
  have sign : twinAct afmt x = x.map (- ·) := by simp only [twinAct, if_neg float]
  rw [sign, terms_neg, exactSum_map_neg, Int.add_right_neg]

theorem exactSum_terms_twin_int8 {w x : List Int} (paired : w.length = x.length) :
    exactSum (terms false w x) + exactSum (terms false w (twinAct 0 x)) + exactSum (w.map (· * 2 ^ 150)) = 0 := by
  rw [terms_single, terms_single]
  exact exactSum_complement _ paired

/-! ### Requantisation (R233) -/

theorem clampTo_bounds {lo hi : Int} (x : Int) (ordered : lo ≤ hi) : lo ≤ (clampTo lo hi x).1 ∧ (clampTo lo hi x).1 ≤ hi := by
  rw [clampTo_fst]
  omega

/-- Settles O43: for each term, the products of an operand and of its twin add to `-w` for INT8 and to 0 otherwise, where the three parts of a negated FP32 operand are the negated parts. -/
theorem twinCheck : Obligations.TwinCheck := by
  refine ⟨?exact, ?passes, ?fails, ?layer, ?requantised⟩
  case exact => exact fun _ _ paired => dotInt8_twinInt8 paired
  case passes => exact fun _ _ paired => twinOk_int8_iff.mpr (dotInt8_twinInt8 paired)
  case fails => exact fun _ _ _ => twinOk_int8_iff
  case layer =>
    intro fp afmt w x paired int8
    by_cases float : afmt = 0
    · rw [int8 float, float]
      exact twinOk_int8_iff.mpr (exactSum_terms_twin_int8 paired)
    · exact (twinOk_float_iff float).mpr (exactSum_terms_twin_float float fp w x)
  case requantised => exact fun _ _ _ => clampTo_bounds _ (by decide)

end Sys2Proof.Machine
end

section
/-! SUPPORT. A load's phases MANIFEST, TREE and PLAN (09_model_custody.md R266–R270), a rule for each outcome, and the obligation about them. -/

namespace Sys2Proof.Machine

section
variable {s : State}

/-! ### MANIFEST (R266, R268) -/

section
variable {m : ManifestRec} {sg : List SgEntry} {t : Tree} {r : Nat}

theorem doManifestVerified_unfetched (manifest : s.cus.state = 1) : doManifestVerified m false sg s = refuseLoad 8 0xF s := by
  simp [doManifestVerified, manifest]

theorem doManifestVerified_bad (manifest : s.cus.state = 1) (bad : manifestCheck s m = some r) (first : s.cus.resuming = none) :
    doManifestVerified m true sg s = refuseLoad r 0xF s := by
  simp [doManifestVerified, manifest, bad, first]

/-- The load with its verified manifest and its scatter list. -/
def manifestTaken (m : ManifestRec) (sg : List SgEntry) (s : State) : State :=
  { s with cus.man := some m, cus.manId := lo32 (manDigest m), cus.sg := sg }

theorem doManifestVerified_good (manifest : s.cus.state = 1) (good : manifestCheck s m = none) (first : s.cus.resuming = none) (scatter : sgOk s m sg = true) :
    doManifestVerified m true sg s = afterManifest (manifestTaken m sg s) := by
  simp [doManifestVerified, manifest, good, first, scatter, manifestTaken]

theorem afterManifest_noTree (tree : s.cus.tree = none) : afterManifest s = setLoad 2 { s with cus.tree := none } := by
  cases man : s.cus.man <;> simp only [afterManifest, man, tree]

theorem afterManifest_retained (man : s.cus.man = some m) (tree : s.cus.tree = some t) (same : t.root = m.root) : afterManifest s = enterPlan s := by
  simp only [afterManifest, man, tree, if_pos same]

end

/-! ### TREE (R267, R268) -/

section
variable {m : ManifestRec} {leaves : List Digest}

theorem doTreeDone_root (tree : s.cus.state = 2) (man : s.cus.man = some m) (root : merkleRoot leaves = m.root) (count : leaves.length = m.leafCount) :
    doTreeDone leaves s = enterPlan { s with cus.tree := some ⟨m.root, leaves⟩ } := by
  simp [doTreeDone, tree, man, root, count]

theorem doTreeDone_other (tree : s.cus.state = 2) (man : s.cus.man = some m) (other : merkleRoot leaves ≠ m.root ∨ leaves.length ≠ m.leafCount) (first : s.cus.resuming = none) :
    doTreeDone leaves s = refuseLoad 9 0xF s := by
  have notIts : ¬ (merkleRoot leaves = m.root ∧ leaves.length = m.leafCount) := fun its => other.elim (· its.1) (· its.2)
  simp [doTreeDone, tree, man, notIts, first]

end

/-! ### PLAN (R269) -/

section
variable {k : Fin 8} {b : BitVec 64} {t : Time}

theorem mem_maskBits {n m k : Nat} : k ∈ maskBits n m ↔ k < n ∧ m.testBit k = true := by rw [maskBits, List.mem_filter, List.mem_range]

/-- The load with the answer of slot `k` noted. -/
def capNoted (k n : Nat) (s : State) : State := { s with cus.caps := tput s.cus.caps k n }

/-- Every slot of the load has answered. -/
def allAnswered (s : State) : Bool := (loadSlots s).all (fun k => (tfind s.cus.caps k).isSome)

/-- An answer is the last one when every other slot of the load has answered. -/
theorem allAnswered_capNoted {k n : Nat} :
    allAnswered (capNoted k n s) = true ↔ ∀ i, i < 8 → s.cus.mask.testBit i = true → i ≠ k → (tfind s.cus.caps i).isSome = true := by
  simp only [allAnswered, loadSlots, capNoted, List.all_eq_true, mem_maskBits, and_imp, tfind_tput]
  refine forall₃_congr fun i _ _ => ?_
  by_cases own : i = k
  · simp [own]
  · simp [own]

theorem doCapAnswer_asked (plan : s.cus.state = 3) (asked : (tfind s.cus.queried k.val).isSome = true) :
    doCapAnswer k b s = if allAnswered (capNoted k.val b.toNat s) then planDone (capNoted k.val b.toNat s) else capNoted k.val b.toNat s :=
  if_pos ⟨plan, asked⟩

theorem doCapQueryTimeout_due (asked : tfind s.cus.queried k.val = some t) (plan : s.cus.state = 3) (silent : tfind s.cus.caps k.val = none) (due : t + 10 * ms ≤ s.now) :
    doCapQueryTimeout k s = refuseLoad 0x0B k.val s := by
  simp only [doCapQueryTimeout, asked]
  exact if_pos ⟨plan, silent, due⟩

end

/-! ### The phases as commands -/

theorem exec_manifestVerified {m : ManifestRec} {ok : Bool} {sg : List SgEntry} (h : awake s) :
    exec (.manifestVerified m ok sg) s = .next (settle s (doManifestVerified m ok sg s)) := coreStep_awake h

theorem exec_treeDone {l : Digest} {ls : List Digest} (h : awake s) : exec (.treeDone l ls) s = .next (settle s (doTreeDone (l :: ls) s)) := coreStep_awake h

theorem exec_capAnswer {k : Fin 8} {b : BitVec 64} (h : awake s) : exec (.capAnswer k b) s = .next (settle s (doCapAnswer k b s)) := coreStep_awake h

theorem exec_capQueryTimeout {k : Fin 8} (h : awake s) : exec (.capQueryTimeout k) s = .next (settle s (doCapQueryTimeout k s)) := coreStep_awake h

end

/-- Settles O48: a first load is refused with the code of what fails, and what passes leads to the next phase; an answer plans when every other slot of the load has answered. -/
theorem custodyPhases : Obligations.CustodyPhases := by
  refine ⟨?unfetched, ?bad, ?noTree, ?retained, ?root, ?other, ?noted, ?last, ?timeout⟩
  case unfetched =>
    intro s m sg h manifest
    rw [exec_manifestVerified h, doManifestVerified_unfetched manifest]
  case bad =>
    intro s m sg r h manifest bad first
    rw [exec_manifestVerified h, doManifestVerified_bad manifest bad first]
  case noTree =>
    intro s m sg h manifest good first scatter tree
    rw [exec_manifestVerified h, doManifestVerified_good manifest good first scatter, afterManifest_noTree (s := manifestTaken m sg s) tree, manifestTaken]
  case retained =>
    intro s m sg t h manifest good first scatter tree same
    rw [exec_manifestVerified h, doManifestVerified_good manifest good first scatter, afterManifest_retained (s := manifestTaken m sg s) rfl tree same, manifestTaken]
  case root =>
    intro s m l ls h tree man count root
    rw [exec_treeDone h, doTreeDone_root tree man root count]
  case other =>
    intro s m l ls h tree man other first
    rw [exec_treeDone h, doTreeDone_other tree man other first]
  case noted =>
    intro s k b n h plan asked slot inMask notOwn silent
    have waits : ¬ allAnswered (capNoted k.val b.toNat s) = true := by
      intro answered
      have hasAnswered := allAnswered_capNoted.mp answered n slot inMask notOwn
      rw [silent] at hasAnswered
      cases hasAnswered
    rw [exec_capAnswer h, doCapAnswer_asked plan asked, if_neg waits, capNoted]
  case last =>
    intro s k b h plan asked others
    rw [exec_capAnswer h, doCapAnswer_asked plan asked, if_pos (allAnswered_capNoted.mpr others), capNoted]
  case timeout =>
    intro s k t h asked plan silent due
    rw [exec_capQueryTimeout h, doCapQueryTimeout_due asked plan silent due]

end Sys2Proof.Machine
end

section
/-! SUPPORT. Job faults, the restart commands and the restart's states (09_model_custody.md R286–R290, R292), a rule for each outcome, and the obligation about them. -/

namespace Sys2Proof.Machine

section
variable {s : State}

/-! ### What leaves the custody state as it is -/

theorem read_ite {α : Type} (read : State → α) {x y : State} {a : α} {c : Prop} [Decidable c] (hx : read x = a) (hy : read y = a) : read (if c then x else y) = a := by
  split
  · exact hx
  · exact hy

theorem raise_cus (u : FUnit) (src : Nat) (cls : FClass) (i : FaultInfo) : (raise u src cls i s).cus = s.cus :=
  congrArg (·.cus) (raise_unreported u src cls i)

theorem rcdTrigger_cus (n : Nat) : (rcdTrigger n s).cus = s.cus := congrArg (·.cus) (rcdTrigger_unreported n)

theorem pumpPort_cus (p : Nat) : (pumpPort p s).cus = s.cus := read_ite State.cus rfl rfl

theorem gclSend_cus (p : Nat) (m : GclMsg) : (gclSend p m s).cus = s.cus := read_ite State.cus rfl (pumpPort_cus _)

theorem forEach_gclSend_cus {ports : Nat → Nat} {m : GclMsg} (l : List Nat) : (forEach l (fun k s => gclSend (ports k) m s) s).cus = s.cus :=
  forEach_induct (P := fun t : State => t.cus = s.cus) l rfl fun _ _ h => (gclSend_cus _ _).trans h

theorem gclFetch_cus (p addr len : Nat) : (gclFetch p addr len s).cus = s.cus := read_ite State.cus rfl (pumpPort_cus _)

/-- The resume record is written with the watermarks that it holds noted at the cursors (R282). -/
theorem recordResume_cus : ∃ cs, (recordResume s).cus = { s.cus with cursors := cs } := by
  unfold recordResume
  split
  · exact ⟨_, rfl⟩
  · exact ⟨_, rfl⟩

/-! ### A load begins (R264, R266) -/

/-- A load begins in MANIFEST with no result; which load it is stays as the state names it. -/
theorem beginLoad_cus : ∃ cs keys, (beginLoad s).cus = { s.cus with state := 1, result := 0, resSlot := 0xF, failLeaf := 0, owners := keys, cursors := cs } := by
  rw [beginLoad, gclFetch_cus, setLoad]
  obtain ⟨cs, recorded⟩ := recordResume_cus
  exact ⟨cs, _, recorded⟩

/-! ### JOB_FAULT and JOB_ABORT (R286, R287) -/

theorem jobAbortAssert_cus (reason : Nat) : (jobAbortAssert reason s).cus = { s.cus with abort := true } :=
  (raise_cus _ _ _ _).trans ((rcdTrigger_cus _).trans (forEach_gclSend_cus (ports := fun p => p) _))

/-- JOB_ABORT_N is asserted, unless it was before. -/
def jobAborted (s : State) : State := if s.cus.abort then s else jobAbortAssert 1 s

theorem jobAborted_abort : (jobAborted s).cus.abort = true := by
  unfold jobAborted
  split
  next asserted => exact asserted
  next => rw [jobAbortAssert_cus]

theorem doJobFault_slot {k : Fin 8} {code : Word} (active : portActive s (dnPort k.val) = true) (inJob : (jobMask s).contains k.val = true) :
    doJobFault k code s = jobFaultReason 2 [k.val] s := if_pos ⟨active, inJob⟩

/-! ### The words of CUS_RESTART_CMD (R292) -/

section
variable {path : Path} {w : Word} {op : Nat} {tag : Byte}

/-- The word of CUS_RESTART_CMD with this OP and TAG. -/
def restartWord (op : Nat) (tag : Byte) : Word := cusWord op tag.toNat 0 false

theorem restartWord_toNat (fits : op < 16) : (restartWord op tag).toNat = tag.toNat * 2 ^ 24 + op * 2 ^ 20 := by
  rw [restartWord, cusWord, w32, BitVec.toNat_ofNat, if_neg Bool.false_ne_true, Nat.mod_eq_of_lt] <;> omega

theorem restartWord_op (fits : op < 16) : fld (restartWord op tag) 23 20 = op := by
  rw [fld, restartWord_toNat fits, Nat.shiftRight_eq_div_pow]
  omega

theorem restartWord_tag (fits : op < 16) : fld (restartWord op tag) 31 24 = tag.toNat := by
  rw [fld, restartWord_toNat fits, Nat.shiftRight_eq_div_pow]
  omega

theorem cusPath_iff : cusPath path = true ↔ path = .proc .cus ∨ path = .proc .sec := by simp only [cusPath, Bool.or_eq_true, beq_iff_eq]

theorem cusRestartWrite_ok (writer : path = .proc .cus ∨ path = .proc .sec) : cusRestartWrite path w s = cusRestartCommand w (setPair 0x140090 w s) :=
  if_pos (cusPath_iff.mpr writer)

theorem cusRestartWrite_denied (notCus : path ≠ .proc .cus) (notSec : path ≠ .proc .sec) :
    cusRestartWrite path w s = raise uCUS 10 .contained { path := pathCode path, w1 := w32 0x140090, w2 := w } s :=
  if_neg (mt cusPath_iff.mp (not_or.mpr ⟨notCus, notSec⟩))

end

/-! ### A word of a new TAG acts by its OP (R288, R289) -/

/-- A held job has ended, and a load in progress with it; a restart keeps its reason and its start. -/
def jobStopped (s : State) : State :=
  abortLoad 0x11 { s with
    cus.reason := if s.cus.restart = 0 then 1 else s.cus.reason, cus.abortAt := if s.cus.restart = 0 then s.now else s.cus.abortAt
    cus.jobSlots := jobSlotMask s, cus.job := false }

/-- A held job waits in HELD with JOB_ABORT_N asserted. -/
def jobHeld (s : State) : State := noteJob (raise uCUS 5 .contained { item := 2 } { jobAborted (jobStopped s) with cus.restart := 7 })

theorem jobHeld_cus : (jobHeld s).cus = { (jobAborted (jobStopped s)).cus with restart := 7 } := raise_cus _ _ _ _

/-- No job and no restart, the remnant tier out of service and JOB_ABORT_N let go. -/
def jobReleased (s : State) : State :=
  noteJob (drivePin .jobAbort 1 { s with cus.abort := false, cus.restart := 0, cus.job := false, cus.remCleared := [], cus.plan := { s.cus.plan with rem := [] } })

section
variable {w : Word} {tag : Nat} (sent : fld w 31 24 = tag) (fresh : tag ≠ lastTag s 0x140090)
include sent fresh

theorem cusRestartCommand_restart (op : fld w 23 20 = 1) : cusRestartCommand w s = jobFaultReason 1 [] (setTag 0x140090 tag s) := by
  subst sent
  simp only [cusRestartCommand, if_neg fresh, op]

theorem cusRestartCommand_hold (op : fld w 23 20 = 2) (job : s.cus.job = true) : cusRestartCommand w s = jobHeld (setTag 0x140090 tag s) := by
  subst sent
  simp only [cusRestartCommand, if_neg fresh, op]
  exact if_pos (.inl job)

theorem cusRestartCommand_release (op : fld w 23 20 = 3) (held : s.cus.restart = 7) : cusRestartCommand w s = jobReleased (setTag 0x140090 tag s) := by
  subst sent
  simp only [cusRestartCommand, if_neg fresh, op]
  exact if_pos (.inl held)

theorem cusRestartCommand_continue (op : fld w 23 20 = 4) (held : s.cus.restart = 7) :
    cusRestartCommand w s = noteJob { setTag 0x140090 tag s with cus.restart := 1, cus.since := s.now } := by
  subst sent
  simp only [cusRestartCommand, if_neg fresh, op]
  exact if_pos held

end

/-- CUS_RESTART_CMD as a command of a new TAG leaves it: its word and its TAG kept. -/
def restartTaken (op : Nat) (tag : Byte) (s : State) : State := setTag 0x140090 tag.toNat (setPair 0x140090 (restartWord op tag) s)

section
variable {path : Path} {tag : Byte} (writer : path = .proc .cus ∨ path = .proc .sec) (fresh : tag.toNat ≠ lastTag s 0x140090)
include writer fresh

theorem doCusRestart_fresh : doCusRestart path tag s = jobFaultReason 1 [] (restartTaken 1 tag s) :=
  (cusRestartWrite_ok writer).trans (cusRestartCommand_restart (restartWord_tag (by decide)) fresh (restartWord_op (by decide)))

theorem doCusHold_job (job : s.cus.job = true) : doCusHold path tag s = jobHeld (restartTaken 2 tag s) :=
  (cusRestartWrite_ok writer).trans (cusRestartCommand_hold (restartWord_tag (by decide)) fresh (restartWord_op (by decide)) job)

theorem doCusRelease_held (held : s.cus.restart = 7) : doCusRelease path tag s = jobReleased (restartTaken 3 tag s) :=
  (cusRestartWrite_ok writer).trans (cusRestartCommand_release (restartWord_tag (by decide)) fresh (restartWord_op (by decide)) held)

theorem doCusContinue_held (held : s.cus.restart = 7) :
    doCusContinue path tag s = noteJob { restartTaken 4 tag s with cus.restart := 1, cus.since := s.now } :=
  (cusRestartWrite_ok writer).trans (cusRestartCommand_continue (restartWord_tag (by decide)) fresh (restartWord_op (by decide)) held)

end

/-! ### The restart's states (R288–R290) -/

theorem doAbortHoldExpiry_due (run : procRunning s .cus = true) (hold : s.cus.restart = 1) (due : s.cus.since + abortHoldNs s ≤ s.now) :
    doAbortHoldExpiry s = { s with cus.restart := 2, cus.since := s.now } := if_pos ⟨hold, run, due⟩

/-- The custody state without the times of the capacity queries. -/
def unasked (s : State) : CusS := { s.cus with queried := [] }

theorem unasked_gclSend (p : Nat) (m : GclMsg) : unasked (gclSend p m s) = unasked s := congrArg (fun x : CusS => { x with queried := [] }) (gclSend_cus p m)

/-- The capacity queries of READY_WAIT note when they were sent, and nothing else of the custody state. -/
theorem unasked_readyQueries : unasked (readyQueries s) = unasked s :=
  forEach_induct (P := fun t => unasked t = unasked s) _ rfl fun _ _ h => read_ite unasked ((unasked_gclSend _ _).trans h) h

theorem quiesces (run : procRunning s .cus = true) (quiesce : s.cus.restart = 2) : ¬ (s.cus.restart ≠ 2 ∨ ¬ procRunning s .cus = true) := by simp [quiesce, run]

theorem doQuiesceDone_keepPower (run : procRunning s .cus = true) (quiesce : s.cus.restart = 2) (keep : cusPolicy s = 0) :
    doQuiesceDone s = readyQueries (enterReady (stopCursors 0 s)) := (if_neg (quiesces run quiesce)).trans (if_pos keep)

/-- POWER_DOWN of slots that are all off leads to POWER_UP. -/
theorem restartPoll_allOff (run : procRunning s .cus = true) (down : s.cus.restart = 3) (free : s.cus.pwrRetry = none) (off : ∀ k ∈ s.cus.cycled, slotState s k = 1) :
    restartPoll s = { s with cus.restart := 4, cus.since := s.now } := by
  have allOff : (s.cus.cycled.all fun k => slotState s k == 1 || slotState s k == 6 || slotState s k == 0) = true :=
    List.all_eq_true.mpr fun k inCycle => by rw [off k inCycle]; rfl
  simp [restartPoll, free, run, down, allOff]

/-- The slots that POWER_DOWN cycles: every job slot under POLICY 2, else those that are not ON or raised the fault (R288). -/
def cycledSlots (s : State) : List Nat :=
  if cusPolicy s = 2 then maskBits 8 s.cus.jobSlots else (maskBits 8 s.cus.jobSlots).filter fun k => slotState s k != 4 || s.cus.raised.contains k

theorem lt_of_mem_cycledSlots {k : Nat} (cycled : k ∈ cycledSlots s) : k < 8 := by
  have inJob : k ∈ maskBits 8 s.cus.jobSlots := by
    unfold cycledSlots at cycled
    split at cycled
    · exact cycled
    · exact (List.mem_filter.mp cycled).1
  exact (mem_maskBits.mp inJob).1

/-- With every slot off, POWER_DOWN finds none to turn off. -/
theorem doQuiesceDone_allOff (run : procRunning s .cus = true) (quiesce : s.cus.restart = 2) (cycle : cusPolicy s ≠ 0) (off : ∀ k, k < 8 → slotState s k = 1) :
    doQuiesceDone s = restartPoll { stopCursors 0 s with cus.restart := 3, cus.since := s.now, cus.cycled := cycledSlots s, cus.raised := [] } := by
  have noneOn : ((cycledSlots s).filter fun k => slotState s k == 2 || slotState s k == 3 || slotState s k == 4) = [] :=
    List.filter_eq_nil_iff.mpr fun k cycled => by rw [off k (lt_of_mem_cycledSlots cycled)]; decide
  exact (if_neg (quiesces run quiesce)).trans ((if_neg cycle).trans (congrArg restartPoll (if_pos noneOn)))

theorem doReadyWaitTimeout_due (run : procRunning s .cus = true) (ready : s.cus.restart = 5) (due : s.cus.since + readyMin s * minuteNs ≤ s.now) :
    doReadyWaitTimeout s = raise uCUS 5 .contained { item := 0 } { s with cus.restart := 7 } := if_pos ⟨ready, run, due⟩

/-- JOB_ABORT_N is let go and the job slots are told to go on (R288). -/
def jobResumed (s : State) : State :=
  forEach (maskBits 8 s.cus.jobSlots) (fun k s => gclSend (dnPort k) .jobResume s) (drivePin .jobAbort 1 { s with cus.abort := false, cus.restart := 6, cus.since := s.now })

theorem jobResumed_cus : (jobResumed s).cus = { s.cus with abort := false, restart := 6, since := s.now } := forEach_gclSend_cus _

theorem jobResumed_jobSlots : (jobResumed s).cus.jobSlots = s.cus.jobSlots := by rw [jobResumed_cus]

theorem doReadyWaitDone_ready (run : procRunning s .cus = true) (wait : s.cus.restart = 5) (ready : jobReady s = true) :
    doReadyWaitDone s = noteJob (beginLoad { jobResumed s with
      cus.reload := true, cus.planOnly := false, cus.resuming := none, cus.mask := (jobResumed s).cus.jobSlots }) := if_pos ⟨wait, run, ready⟩

/-- With nothing to turn off, a retry that is due looks at the slots again. -/
theorem doPwrRetry_due {t : Time} (run : procRunning s .cus = true) (retry : s.cus.pwrRetry = some t) (due : t + 10 * ms ≤ s.now)
    (nothingOn : s.cus.restart = 3 → s.cus.cycled = []) : doPwrRetry s = restartPoll { s with cus.pwrRetry := none } := by
  have acts : ¬ (s.now < t + 10 * ms ∨ ¬ procRunning s .cus = true) := by simp [run, due]
  simp only [doPwrRetry, retry, if_neg acts]
  by_cases down : s.cus.restart = 3
  · simp [down, nothingOn down]
  · rw [if_neg down]

/-! ### The events as commands -/

section
variable {path : Path} {tag : Byte}

theorem exec_jobFault {k : Fin 8} {code : Word} (h : awake s) : exec (.jobFault k code) s = .next (settle s (doJobFault k code s)) := coreStep_awake h

theorem exec_cusRestart (h : awake s) : exec (.cusRestart path tag) s = .next (settle s (doCusRestart path tag s)) := coreStep_awake h

theorem exec_cusHold (h : awake s) : exec (.cusHold path tag) s = .next (settle s (doCusHold path tag s)) := coreStep_awake h

theorem exec_cusRelease (h : awake s) : exec (.cusRelease path tag) s = .next (settle s (doCusRelease path tag s)) := coreStep_awake h

theorem exec_cusContinue (h : awake s) : exec (.cusContinue path tag) s = .next (settle s (doCusContinue path tag s)) := coreStep_awake h

theorem exec_abortHoldExpiry (h : awake s) : exec .abortHoldExpiry s = .next (settle s (doAbortHoldExpiry s)) := coreStep_awake h

theorem exec_quiesceDone (h : awake s) : exec .quiesceDone s = .next (settle s (doQuiesceDone s)) := coreStep_awake h

theorem exec_readyWaitDone (h : awake s) : exec .readyWaitDone s = .next (settle s (doReadyWaitDone s)) := coreStep_awake h

theorem exec_readyWaitTimeout (h : awake s) : exec .readyWaitTimeout s = .next (settle s (doReadyWaitTimeout s)) := coreStep_awake h

theorem exec_pwrRetry (h : awake s) : exec .pwrRetry s = .next (settle s (doPwrRetry s)) := coreStep_awake h

end

end

/-- Settles O50: a restart command acts by its path, its TAG and its OP, and each state of a restart ends as its rule says; what is sent and reported on the way changes no restart state. -/
theorem jobRestart : Obligations.JobRestart := by
  refine ⟨?fault, ?denied, ?restart, ?hold, ?held, ?abortHold, ?keepPower, ?cyclePower, ?ready, ?timeout, ?retry, ?retryDown⟩
  case fault =>
    intro s k code h active inJob
    rw [exec_jobFault h, doJobFault_slot active inJob]
  case denied =>
    intro s path tag h notCus notSec
    rw [exec_cusRestart h, exec_cusHold h, exec_cusRelease h, exec_cusContinue h, doCusRestart, doCusHold, doCusRelease, doCusContinue]
    simp only [cusRestartWrite_denied notCus notSec]
    exact ⟨⟨_, rfl⟩, ⟨_, rfl⟩, ⟨_, rfl⟩, ⟨_, rfl⟩⟩
  case restart =>
    intro s path tag h writer fresh _ _
    rw [exec_cusRestart h, doCusRestart_fresh writer fresh]
    exact ⟨_, rfl, rfl⟩
  case hold =>
    intro s path tag h writer fresh job
    rw [exec_cusHold h, doCusHold_job writer fresh job]
    exact ⟨_, rfl, congrArg CusS.restart jobHeld_cus, (congrArg CusS.abort jobHeld_cus).trans jobAborted_abort⟩
  case held =>
    intro s path tag h writer fresh held
    rw [exec_cusRelease h, exec_cusContinue h, doCusRelease_held writer fresh held, doCusContinue_held writer fresh held]
    exact ⟨⟨_, rfl, rfl, rfl, rfl, rfl, rfl⟩, ⟨_, rfl, rfl, rfl, rfl⟩⟩
  case abortHold =>
    intro s h run hold due
    rw [exec_abortHoldExpiry h, doAbortHoldExpiry_due run hold due]
  case keepPower =>
    intro s h run quiesce keep
    have cus : unasked (readyQueries (enterReady (stopCursors 0 s))) = unasked (enterReady (stopCursors 0 s)) := unasked_readyQueries
    rw [exec_quiesceDone h, doQuiesceDone_keepPower run quiesce keep]
    exact ⟨_, rfl, congrArg CusS.restart cus, congrArg CusS.since cus, congrArg CusS.caps cus⟩
  case cyclePower =>
    intro s h run quiesce cycle free off
    rw [exec_quiesceDone h, doQuiesceDone_allOff run quiesce cycle off,
      restartPoll_allOff (s := { stopCursors 0 s with cus.restart := 3, cus.since := s.now, cus.cycled := cycledSlots s, cus.raised := [] })
        run rfl free fun k cycled => off k (lt_of_mem_cycledSlots cycled)]
    exact ⟨_, rfl, rfl, rfl, rfl⟩
  case ready =>
    intro s h run wait ready
    have resumed := jobResumed_cus (s := s)
    obtain ⟨cs, keys, cus⟩ := beginLoad_cus (s := { jobResumed s with cus.reload := true, cus.planOnly := false, cus.resuming := none, cus.mask := (jobResumed s).cus.jobSlots })
    rw [exec_readyWaitDone h, doReadyWaitDone_ready run wait ready]
    refine ⟨_, rfl, ?_⟩
    rw [noteJob, cus]
    exact ⟨congrArg CusS.restart resumed, congrArg CusS.abort resumed, rfl, rfl, jobResumed_jobSlots⟩
  case timeout =>
    intro s h run wait due
    rw [exec_readyWaitTimeout h, doReadyWaitTimeout_due run wait due]
  case retry =>
    intro s t h run retry due notDown
    rw [exec_pwrRetry h, doPwrRetry_due run retry due fun down => absurd down notDown]
  case retryDown =>
    intro s t h run retry due down cycled
    have poweredDown : restartPoll { s with cus.pwrRetry := none } = { s with cus.pwrRetry := none, cus.restart := 4, cus.since := s.now } :=
      restartPoll_allOff (s := { s with cus.pwrRetry := none }) run down rfl (by simp [cycled])
    rw [exec_pwrRetry h, doPwrRetry_due run retry due fun _ => cycled, poweredDown]

end Sys2Proof.Machine
end

section
/-! SUPPORT. The widths of a port by the lane sets of R301, and what the sending side adds to its replay buffer (10_gorino_coherent_link.md R301, R308), and the obligation about them. -/

namespace Sys2Proof.Machine

/-! ### Lane sets (R301) -/

/-- The lane sets of the UP port, the one it prefers first. -/
def upLaneSets : List (List Nat) := [List.range 16, List.range 8, (List.range 8).map (· + 8)]

/-- The lane sets of a DN or CS port, the one it prefers first. -/
def narrowLaneSets : List (List Nat) := List.range 4 :: [0, 1] :: [2, 3] :: (List.range 4).map ([·])

/-- The lane sets of a port (R301). -/
def laneSets (p : Nat) : List (List Nat) := if p = 0 then upLaneSets else narrowLaneSets

/-- The mask that names the lanes of a set. -/
def laneMask (l : List Nat) : Nat := l.foldr (fun i m => 2 ^ i ||| m) 0

/-- Width and mask of a lane set; 0 for none. -/
def laneChoice : Option (List Nat) → Nat × Nat
  | none => (0, 0)
  | some l => (l.length, laneMask l)

/-- Every lane of a set is usable. -/
def allUsable (u : Nat) (l : List Nat) : Bool := l.all u.testBit

section
variable {p u i : Nat} {l : List Nat}

theorem laneMask_cons : laneMask (i :: l) = 2 ^ i ||| laneMask l := rfl

theorem testBit_laneMask : (laneMask l).testBit i = true ↔ i ∈ l := by
  induction l with
  | nil => simp [laneMask]
  | cons j r ih => rw [laneMask_cons, Nat.testBit_or, Bool.or_eq_true, ih, Nat.testBit_two_pow, decide_eq_true_eq, List.mem_cons, eq_comm]

theorem allUsable_iff : allUsable u l = true ↔ ∀ i ∈ l, u.testBit i = true := List.all_eq_true

theorem laneChoice_find (sets : List (List Nat)) : laneChoice ((l :: sets).find? (allUsable u)) =
    if allUsable u l then (l.length, laneMask l) else laneChoice (sets.find? (allUsable u)) := by
  rw [List.find?_cons]
  cases allUsable u l <;> rfl

theorem laneChoice_single : laneChoice (some [i]) = (1, 2 ^ i) := by simp [laneChoice, laneMask]

/-- A set of one lane is usable when its lane is. -/
theorem find_single (lanes : List Nat) : (lanes.map ([·])).find? (allUsable u) = (lanes.find? (fun i => u.testBit i)).map ([·]) := by
  simp [List.find?_map, allUsable, Function.comp_def]

/-- A port takes the first of its lane sets that is usable. -/
theorem chooseWidth_eq : chooseWidth p u = laneChoice ((laneSets p).find? (allUsable u)) := by
  by_cases up : p = 0
  · simp only [laneSets, upLaneSets, chooseWidth, if_pos up, laneChoice_find]
    rfl
  · simp only [laneSets, narrowLaneSets, chooseWidth, if_neg up, laneChoice_find, find_single]
    cases (List.range 4).find? (fun i => u.testBit i) with
    | none => rfl
    | some i =>
      rw [Option.map_some, laneChoice_single]
      rfl

/-- No width is chosen only when no lane set is usable. -/
theorem chooseWidth_eq_zero : (chooseWidth p u).1 = 0 ↔ ∀ l ∈ laneSets p, ¬ allUsable u l = true := by
  have nonempty : [] ∉ laneSets p := by
    unfold laneSets
    split <;> decide
  rw [chooseWidth_eq, ← List.find?_eq_none]
  cases found : (laneSets p).find? (allUsable u) with
  | none => simp [laneChoice]
  | some l =>
    have lanes : l ≠ [] := fun empty => nonempty (empty ▸ List.mem_of_find?_eq_some found)
    simp [laneChoice, lanes]

/-- Each of the four lanes of a DN or CS port is a set alone, and no set is without them. -/
theorem narrowLaneSets_unusable : (∀ l ∈ narrowLaneSets, ¬ allUsable u l = true) ↔ ∀ i, i < 4 → u.testBit i = false := by
  constructor
  · intro unusable i lane
    have alone : [i] ∈ narrowLaneSets := by simp [narrowLaneSets, lane]
    simpa [allUsable] using unusable [i] alone
  · intro dark l set usable
    obtain ⟨i, inSet, lane⟩ : ∃ i ∈ l, i < 4 := (by decide : ∀ l ∈ narrowLaneSets, ∃ i ∈ l, i < 4) l set
    exact Bool.false_ne_true ((dark i lane).symm.trans (allUsable_iff.mp usable i inSet))

/-- A set names as many of the sixteen lanes as its width says. -/
theorem laneMask_count : ∀ l ∈ laneSets p, ((List.range 16).filter (fun i => (laneMask l).testBit i)).length = l.length := by
  unfold laneSets
  split <;> decide

end

/-! ### The replay buffer (R308) -/

section
variable {dn : Bool} {d now fuel : Nat} {q : GclPort} {a : ArbInst}

/-- One turn of the transmitter: it stops, or puts one flit in a replay buffer that has room. Filling a flit and charging the arbiter leave the buffer to `putFlit`. -/
theorem pump_succ : pump dn d now (fuel + 1) (q, a) = (q, a) ∨
    q.buf.length < d ∧ ∃ q' a' f, q'.buf = q.buf ++ [f] ∧ pump dn d now (fuel + 1) (q, a) = pump dn d now fuel (q', a') := by
  rw [pump]
  split
  next => exact .inl rfl
  next ready =>
    have room : q.buf.length < d := by omega
    dsimp only
    split
    next => exact .inr ⟨room, _, _, _, rfl, rfl⟩
    next =>
      split
      next => exact .inr ⟨room, _, _, _, rfl, rfl⟩
      next => exact .inl rfl

/-- The transmitter adds flits at the end of the replay buffer, as many as it has room for at most. -/
theorem pump_buf : ∃ new, (pump dn d now fuel (q, a)).1.buf = q.buf ++ new ∧ new.length ≤ d - q.buf.length := by
  induction fuel generalizing q a with
  | zero => exact ⟨[], by simp [pump]⟩
  | succ fuel ih =>
    obtain stops | ⟨room, q', a', f, put, goesOn⟩ := pump_succ (dn := dn) (d := d) (now := now) (fuel := fuel) (q := q) (a := a)
    · exact ⟨[], by simp [stops]⟩
    · obtain ⟨new, added, few⟩ := ih (q := q') (a := a')
      rw [put, List.length_append, List.length_singleton] at few
      refine ⟨f :: new, ?_, ?_⟩
      · rw [goesOn, added, put, List.append_assoc, List.singleton_append]
      · rw [List.length_cons]
        omega

end

/-- Settles O51: a port's width and mask are those of the first usable lane set of R301, and each flit sent finds room in the replay buffer. -/
theorem linkWidthsAndReplay : Obligations.LinkWidthsAndReplay := by
  refine ⟨?usable, ?width, ?none, ?bounded, ?kept⟩
  case usable =>
    intro p u i chosen
    rw [chooseWidth_eq] at chosen
    cases found : (laneSets p).find? (allUsable u) with
    | none => simp [found, laneChoice] at chosen
    | some l =>
      rw [found] at chosen
      exact allUsable_iff.mp (List.find?_some found) i (testBit_laneMask.mp chosen)
  case width =>
    intro p u _
    rw [chooseWidth_eq]
    cases found : (laneSets p).find? (allUsable u) with
    | none => simp [laneChoice]
    | some l => exact (laneMask_count l (List.mem_of_find?_eq_some found)).symm
  case none =>
    intro p u down
    rw [chooseWidth_eq_zero, laneSets, if_neg down, narrowLaneSets_unusable]
  case bounded =>
    intro dn d now fuel q a fits
    obtain ⟨new, added, few⟩ := pump_buf (dn := dn) (d := d) (now := now) (fuel := fuel) (q := q) (a := a)
    rw [added, List.length_append]
    omega
  case kept =>
    intro dn d now fuel q a
    obtain ⟨new, added, _⟩ := pump_buf (dn := dn) (d := d) (now := now) (fuel := fuel) (q := q) (a := a)
    exact ⟨new, added⟩

end Sys2Proof.Machine
end

section
/-! SUPPORT. The commands and the training of a port (10_gorino_coherent_link.md R300–R306, R324, R325), a rule for each event, and the obligation about them. -/

namespace Sys2Proof.Machine

section
variable {s : State} {p : Nat} {f : GclPort → GclPort}

/-! ### One port changes -/

theorem gclPort_updPort_same : gclPort (updPort p f s) p = f (gclPort s p) := tget_tupd_same _ _ _ _

theorem gclPort_updPort_other {n : Nat} (other : n ≠ p) : gclPort (updPort p f s) n = gclPort s n := tget_tupd_other _ _ other _

theorem portActive_iff : portActive s p = true ↔ (gclPort s p).state = 5 := beq_iff_eq

theorem enterRecovery_active {all : Bool} (active : (gclPort s p).state = 5) : enterRecovery p all s = updPort p (fun q => { q with
    state := 6, at_ := s.now, trainAt := s.now, recovering := true, testAll := all, wasWidth := q.width, recoveries := satInc 65535 q.recoveries, badTimes := [] }) s :=
  if_pos (portActive_iff.mpr active)

/-! ### The words of GCL_P_CTRL (R325) -/

section
variable {path : Path} {w : Word} {op : Nat} {tag : Byte}

theorem gclWord_toNat (fits : op < 16) : (gclWord op tag.toNat).toNat = tag.toNat * 2 ^ 24 + op := by
  rw [gclWord, w32, BitVec.toNat_ofNat, Nat.mod_eq_of_lt] <;> omega

theorem gclWord_op (fits : op < 16) : fld (gclWord op tag.toNat) 3 0 = op := by
  rw [fld, gclWord_toNat fits, Nat.shiftRight_eq_div_pow]
  omega

theorem gclWord_tag (fits : op < 16) : fld (gclWord op tag.toNat) 31 24 = tag.toNat := by
  rw [fld, gclWord_toNat fits, Nat.shiftRight_eq_div_pow]
  omega

theorem gclPath_iff : gclPath path = true ↔ path = .proc .hst ∨ path = .proc .sec := by simp only [gclPath, Bool.or_eq_true, beq_iff_eq]

theorem gclCmdWrite_ok (writer : path = .proc .hst ∨ path = .proc .sec) : gclCmdWrite path p w s = gclCommand p w (setPair (pCtrlOff p) w s) :=
  if_pos (gclPath_iff.mpr writer)

theorem gclCmdWrite_denied (notHst : path ≠ .proc .hst) (notSec : path ≠ .proc .sec) : gclCmdWrite path p w s = gclDenied path (pCtrlOff p) w s :=
  if_neg (mt gclPath_iff.mp (not_or.mpr ⟨notHst, notSec⟩))

end

/-- What a command of GCL_P_CTRL does by its OP. -/
def portCommand (p op : Nat) (s : State) : State :=
  match op with
  | 1 => enterRecovery p false s
  | 2 => enterRecovery p true s
  | 3 => if (gclPort s p).state = 0 then s else if (gclPort s p).state = 8 then setPort p 0 s else portLost p 0 s
  | 4 => if (gclPort s p).state = 0 then enterDetect p s else s
  | _ => s

/-- GCL_P_CTRL as a command of a new TAG leaves it: its word and its TAG kept. -/
def ctrlTaken (p op : Nat) (tag : Byte) (s : State) : State := setTag (pCtrlOff p) tag.toNat (setPair (pCtrlOff p) (gclWord op tag.toNat) s)

theorem ctrlTaken_frame {op : Nat} {tag : Byte} : { ctrlTaken p op tag s with regs := s.regs } = s := rfl

theorem gclCmdWrite_fresh {path : Path} {tag : Byte} {op : Nat} (writer : path = .proc .hst ∨ path = .proc .sec) (fresh : tag.toNat ≠ lastTag s (pCtrlOff p)) (fits : op < 16) :
    gclCmdWrite path p (gclWord op tag.toNat) s = portCommand p op (ctrlTaken p op tag s) := by
  have acts : ¬ tag.toNat = lastTag (setPair (pCtrlOff p) (gclWord op tag.toNat) s) (pCtrlOff p) := fresh
  rw [gclCmdWrite_ok writer, gclCommand, gclWord_tag fits, gclWord_op fits, if_neg acts]
  rfl

theorem portCommand_disable (enabled : (gclPort s p).state ≠ 0) (notDown : (gclPort s p).state ≠ 8) : portCommand p 3 s = portLost p 0 s :=
  (if_neg enabled).trans (if_neg notDown)

theorem portCommand_enable (disabled : (gclPort s p).state = 0) : portCommand p 4 s = enterDetect p s := if_pos disabled

/-! ### Lanes are chosen (R301, R303) -/

/-- A training's result noted: the lanes usable at both ends, those that failed here, and the width and lanes chosen. -/
def lanesNoted (p own peer : Nat) (s : State) : State :=
  let tested := testedLanes s p
  let u := own &&& peer &&& tested
  let c := chooseWidth p u
  updPort p (fun q => { q with usable := u, failed := (q.failed &&& (65535 - tested)) ||| (tested - (own &&& tested)), width := c.1, lanes := c.2 }) s

theorem lanesChosen_usable {own peer w m : Nat} (chosen : chooseWidth p (own &&& peer &&& testedLanes s p) = (w, m)) (usable : w ≠ 0) :
    lanesChosen p own peer s = setPort p 3 (lanesNoted p own peer s) := by
  have found : ¬ (chooseWidth p (own &&& peer &&& testedLanes s p)).1 = 0 := by rwa [chosen]
  exact if_neg found

/-- With a width chosen the port waits in FEC_LOCK, at that width on those lanes. -/
theorem gclPort_lanesNoted {own peer w m : Nat} (chosen : chooseWidth p (own &&& peer &&& testedLanes s p) = (w, m)) :
    (gclPort (setPort p 3 (lanesNoted p own peer s)) p).state = 3 ∧ (gclPort (setPort p 3 (lanesNoted p own peer s)) p).width = w ∧
      (gclPort (setPort p 3 (lanesNoted p own peer s)) p).lanes = m := by
  rw [setPort, gclPort_updPort_same, lanesNoted, gclPort_updPort_same, chosen]
  exact ⟨rfl, rfl, rfl⟩

theorem gclPort_lanesNoted_other {own peer n : Nat} (other : n ≠ p) : gclPort (setPort p 3 (lanesNoted p own peer s)) n = gclPort s n :=
  (gclPort_updPort_other other).trans (gclPort_updPort_other other)

theorem lanesNoted_frame {own peer : Nat} : { setPort p 3 (lanesNoted p own peer s) with gcl := s.gcl } = s := by simp only [setPort, lanesNoted, updPort]

end

/-! ### The events (R300–R306) -/

section
variable {s : State} {p : Fin 11} {r : ConfigRec} {own peer : BitVec 16}

theorem doPeerDetect_detect (detect : (gclPort s p.val).state = 1) : doPeerDetect p s = setPort p.val 2 s := if_pos detect

theorem doEqualiseDone_due (equalise : (gclPort s p.val).state = 2) (due : (gclPort s p.val).at_ + ms ≤ s.now) :
    doEqualiseDone p own peer s = lanesChosen p.val own.toNat peer.toNat s := if_pos ⟨equalise, due⟩

theorem doFecLockHeld_due (lock : (gclPort s p.val).state = 3) (due : (gclPort s p.val).at_ + 100 * us ≤ s.now) : doFecLockHeld p s = setPort p.val 4 s :=
  if_pos ⟨lock, due⟩

theorem doConfigRecord_agreed (config : (gclPort s p.val).state = 4) (major : r.version / 256 = 1) (role : r.role = wantRole p.val) (width : r.width = (gclPort s p.val).width) :
    doConfigRecord p r s = portUp p.val r s := (if_neg (not_not.mpr config)).trans (if_pos ⟨major, role, width⟩)

theorem doConfigRecord_refused (config : (gclPort s p.val).state = 4) (foreign : r.version / 256 ≠ 1 ∨ r.role ≠ wantRole p.val) :
    doConfigRecord p r s = updPort p.val (fun q => { q with peerRole := r.role, peerUnit := r.unit }) (portDown p.val s) := by
  have refused : ¬ (r.version / 256 = 1 ∧ r.role = wantRole p.val ∧ r.width = (gclPort s p.val).width) := by
    rintro ⟨major, role, _⟩
    exact foreign.elim (· major) (· role)
  exact (if_neg (not_not.mpr config)).trans (if_neg refused)

theorem doTrainTimeout_due (training : (gclPort s p.val).state ∈ [1, 2, 3, 4, 6]) (due : (gclPort s p.val).trainAt + 50 * ms ≤ s.now) :
    doTrainTimeout p s = portDown p.val s := if_pos ⟨by simpa using training, due⟩

theorem doDownRetry_due (down : (gclPort s p.val).state = 8) (due : (gclPort s p.val).at_ + sec ≤ s.now) : doDownRetry p s = enterDetect p.val s := if_pos ⟨down, due⟩

theorem doLowPowerEnter_idle (active : (gclPort s p.val).state = 5) (idle : (gclPort s p.val).queue = []) : doLowPowerEnter p s = setPort p.val 7 s :=
  if_pos ⟨portActive_iff.mpr active, idle⟩

theorem doLowPowerExit_low (low : (gclPort s p.val).state = 7) : doLowPowerExit p s = pumpPort p.val (setPort p.val 5 s) := if_pos low

theorem doRecoveryLanesChosen_recovering (recovery : (gclPort s p.val).state = 6) : doRecoveryLanesChosen p own peer s = lanesChosen p.val own.toNat peer.toNat s :=
  if_pos recovery

end

/-! ### The events as commands -/

section
variable {s : State} {path : Path} {p : Fin 11} {tag : Byte} {own peer : BitVec 16}

theorem exec_portRetrain (h : awake s) : exec (.portRetrain path p tag) s = .next (settle s (gclCmdWrite path p.val (gclWord 1 tag.toNat) s)) := coreStep_awake h

theorem exec_portFullRetrain (h : awake s) : exec (.portFullRetrain path p tag) s = .next (settle s (gclCmdWrite path p.val (gclWord 2 tag.toNat) s)) := coreStep_awake h

theorem exec_portDisable (h : awake s) : exec (.portDisable path p tag) s = .next (settle s (gclCmdWrite path p.val (gclWord 3 tag.toNat) s)) := coreStep_awake h

theorem exec_portEnable (h : awake s) : exec (.portEnable path p tag) s = .next (settle s (gclCmdWrite path p.val (gclWord 4 tag.toNat) s)) := coreStep_awake h

theorem exec_peerDetect (h : awake s) : exec (.peerDetect p) s = .next (settle s (doPeerDetect p s)) := coreStep_awake h

theorem exec_equaliseDone (h : awake s) : exec (.equaliseDone p own peer) s = .next (settle s (doEqualiseDone p own peer s)) := coreStep_awake h

theorem exec_fecLockHeld (h : awake s) : exec (.fecLockHeld p) s = .next (settle s (doFecLockHeld p s)) := coreStep_awake h

theorem exec_configRecord {r : ConfigRec} (h : awake s) : exec (.configRecord p r) s = .next (settle s (doConfigRecord p r s)) := coreStep_awake h

theorem exec_trainTimeout (h : awake s) : exec (.trainTimeout p) s = .next (settle s (doTrainTimeout p s)) := coreStep_awake h

theorem exec_downRetry (h : awake s) : exec (.downRetry p) s = .next (settle s (doDownRetry p s)) := coreStep_awake h

theorem exec_codewordLockLoss (h : awake s) : exec (.codewordLockLoss p) s = .next (settle s (enterRecovery p.val false s)) := coreStep_awake h

theorem exec_lowPowerEnter (h : awake s) : exec (.lowPowerEnter p) s = .next (settle s (doLowPowerEnter p s)) := coreStep_awake h

theorem exec_lowPowerExit (h : awake s) : exec (.lowPowerExit p) s = .next (settle s (doLowPowerExit p s)) := coreStep_awake h

theorem exec_recoveryLanesChosen (h : awake s) : exec (.recoveryLanesChosen p own peer) s = .next (settle s (doRecoveryLanesChosen p own peer s)) := coreStep_awake h

end

/-- Settles O52: a port's command acts by its path, its TAG and its OP, and each training event moves a port from the one state that waits for it. -/
theorem portTraining : Obligations.PortTraining := by
  refine ⟨?command, ?denied, ?detect, ?equalise, ?lock, ?config, ?refused, ?timeout, ?retry, ?lockLoss, ?lowEnter, ?lowExit, ?recovery⟩
  case command =>
    intro s path p tag h writer fresh
    rw [exec_portRetrain h, exec_portFullRetrain h, exec_portDisable h, exec_portEnable h, gclCmdWrite_fresh writer fresh (by decide), gclCmdWrite_fresh writer fresh (by decide),
      gclCmdWrite_fresh writer fresh (by decide), gclCmdWrite_fresh writer fresh (by decide)]
    refine ⟨⟨_, rfl, ctrlTaken_frame⟩, ⟨_, rfl, ctrlTaken_frame⟩, ?_, ?_⟩
    · intro enabled notDown
      rw [portCommand_disable (s := ctrlTaken p.val 3 tag s) enabled notDown]
      exact ⟨_, rfl, ctrlTaken_frame⟩
    · intro disabled
      rw [portCommand_enable (s := ctrlTaken p.val 4 tag s) disabled]
      exact ⟨_, rfl, ctrlTaken_frame⟩
  case denied =>
    intro s path p tag h notHst notSec
    rw [exec_portRetrain h, exec_portFullRetrain h, exec_portEnable h, exec_portDisable h]
    simp only [gclCmdWrite_denied notHst notSec]
    exact ⟨⟨_, rfl⟩, ⟨_, rfl⟩, ⟨_, rfl⟩, ⟨_, rfl⟩⟩
  case detect =>
    intro s p h detect
    rw [exec_peerDetect h, doPeerDetect_detect detect, setPort]
  case equalise =>
    intro s p own peer w m h equalise due all chosen usable
    have tested : chooseWidth p.val (own.toNat &&& peer.toNat &&& testedLanes s p.val) = (w, m) := by rwa [testedLanes, if_pos all]
    obtain ⟨state, width, lanes⟩ := gclPort_lanesNoted tested
    rw [exec_equaliseDone h, doEqualiseDone_due equalise due, lanesChosen_usable tested usable]
    exact ⟨_, rfl, state, width, lanes, fun _ other => gclPort_lanesNoted_other other, lanesNoted_frame⟩
  case lock =>
    intro s p h lock due
    rw [exec_fecLockHeld h, doFecLockHeld_due lock due, setPort]
  case config =>
    intro s p r h config major role width
    rw [exec_configRecord h, doConfigRecord_agreed config major role width]
  case refused =>
    intro s p r h config foreign
    rw [exec_configRecord h, doConfigRecord_refused config foreign]
  case timeout =>
    intro s p h training due
    rw [exec_trainTimeout h, doTrainTimeout_due training due]
  case retry =>
    intro s p h down due
    rw [exec_downRetry h, doDownRetry_due down due]
  case lockLoss =>
    intro s p h active
    rw [exec_codewordLockLoss h, enterRecovery_active active]
  case lowEnter =>
    intro s p h active idle
    rw [exec_lowPowerEnter h, doLowPowerEnter_idle active idle, setPort]
  case lowExit =>
    intro s p h low
    rw [exec_lowPowerExit h, doLowPowerExit_low low, setPort]
  case recovery =>
    intro s p own peer h recovery
    rw [exec_recoveryLanesChosen h, doRecoveryLanesChosen_recovering recovery]

end Sys2Proof.Machine
end

section
/-! SUPPORT. The pairs of the flight recorder, MEM_RCD_CFG and MEM_RCD_CTRL (00_scope.md R9, R10; 11_memory_subsystem.md R335, R339): who may write them, what a write and a command do, and
the obligation about their authority. -/

namespace Sys2Proof.Machine

section
variable {path : Path} {off : Nat} {w : Word} {s : State}

/-! ### Writes of MEM's registers (R339) -/

theorem pathOk_mem (block : off / 0x10000 = 0x15) (win : windowOf off = none) : pathOk s path off = (isSec path || path == .proc .recd) := by
  have notReset : off ≠ 0x000024 := by omega
  have notErr : ¬ (off = 0x000110 ∨ off = 0x000114) := by omega
  simp [pathOk, win, notReset, notErr, block]

theorem pathOk_mem_writer (block : off / 0x10000 = 0x15) (win : windowOf off = none) (writer : path = .proc .recd ∨ path = .proc .sec) : pathOk s path off = true := by
  rw [pathOk_mem block win]
  rcases writer with rfl | rfl <;> rfl

theorem pathOk_mem_denied (block : off / 0x10000 = 0x15) (win : windowOf off = none) (notRec : path ≠ .proc .recd) (notSec : path ≠ .proc .sec) : pathOk s path off = false := by
  rw [pathOk_mem block win, isSec, beq_false_of_ne notRec, beq_false_of_ne notSec, Bool.or_false]

/-- MEM's row for a write from another path is 6, uncorrected contained. -/
theorem denyWrite_mem (block : off / 0x10000 = 0x15) : denyWrite path off w s = raise uMEM 6 .contained { path := pathCode path, w1 := some (w32 off), w2 := w } s := by
  simp [denyWrite, writePathSource, block, uMEM]

theorem withAuthority_mem_denied {f : State → State} (block : off / 0x10000 = 0x15) (win : windowOf off = none) (notRec : path ≠ .proc .recd) (notSec : path ≠ .proc .sec) :
    withAuthority path off w f s = raise uMEM 6 .contained { path := pathCode path, w1 := some (w32 off), w2 := w } s := by
  rw [withAuthority_denied (pathOk_mem_denied block win notRec notSec) win, denyWrite_mem block]

/-! ### The words of the two pairs -/

/-- The words of MEM_RCD_CFG and of MEM_RCD_CTRL, value and complement. -/
def rcdPairWords : List Nat := [0x150300, 0x150304, 0x150310, 0x150314]

theorem rcdPairWord_place : ∀ off ∈ rcdPairWords,
    off % 4 = 0 ∧ mapped off = true ∧ windowOf off = none ∧ off / 0x10000 = 0x15 ∧ ∃ c, accOf off = .stg c ∨ accOf off = .cmd c := by
  decide

theorem wordWrite_mem_denied (block : off / 0x10000 = 0x15) (win : windowOf off = none) (pair : ∃ c, accOf off = .stg c ∨ accOf off = .cmd c)
    (notRec : path ≠ .proc .recd) (notSec : path ≠ .proc .sec) :
    wordWrite path off w s = raise uMEM 6 .contained { path := pathCode path, w1 := some (w32 off), w2 := w } s := by
  obtain ⟨c, staged | command⟩ := pair
  · rw [wordWrite_stg staged (by omega), withAuthority_mem_denied block win notRec notSec]
  · rw [wordWrite_cmd command, withAuthority_mem_denied block win notRec notSec]

section
variable {o : BitVec 24} {c : Bool} (h : awake s) (writer : path = .proc .recd ∨ path = .proc .sec) (word : o.toNat ∈ rcdPairWords)
include h writer word

/-- A write of MEM_RCD_CFG from REC or SEC stages its word (R9). -/
theorem exec_registerWrite_rcdCfg (acc : accOf o.toNat = .stg c) : exec (.registerWrite path o w) s = .next (settle s (setWord o.toNat (keptBits o.toNat c w) s)) := by
  obtain ⟨aligned, map, win, block, -⟩ := rcdPairWord_place _ word
  rw [exec_registerWrite_mapped h aligned map, wordWrite_stg acc (by omega), withAuthority_ok (pathOk_mem_writer block win writer)]

/-- A write of MEM_RCD_CTRL from REC or SEC is a write of its pair (R10). -/
theorem exec_registerWrite_rcdCtrl (acc : accOf o.toNat = .cmd c) : exec (.registerWrite path o w) s = .next (settle s (cmdPairWrite path o.toNat c w s)) := by
  obtain ⟨aligned, map, win, block, -⟩ := rcdPairWord_place _ word
  rw [exec_registerWrite_mapped h aligned map, wordWrite_cmd acc, withAuthority_ok (pathOk_mem_writer block win writer)]

end

/-! ### The commands of MEM_RCD_CTRL (R335) -/

theorem rcdCmdWrite_denied (notRec : path ≠ .proc .recd) (notSec : path ≠ .proc .sec) :
    rcdCmdWrite path w s = raise uMEM 6 .contained { path := pathCode path, w1 := some (w32 0x150310), w2 := w } s :=
  withAuthority_mem_denied (by decide) (by decide) notRec notSec

theorem rcdCmdWrite_ok (writer : path = .proc .recd ∨ path = .proc .sec) : rcdCmdWrite path w s = rcdCommand w (setPair 0x150310 w s) :=
  withAuthority_ok (pathOk_mem_writer (by decide) (by decide) writer)

theorem exec_rcdTrigger {tag : Byte} (h : awake s) : exec (.rcdTrigger path tag) s = .next (settle s (rcdCmdWrite path (w32 (tag.toNat * 16777216 + 1)) s)) := coreStep_awake h

theorem exec_rcdRearm {tag : Byte} (h : awake s) : exec (.rcdRearm path tag) s = .next (settle s (rcdCmdWrite path (w32 (tag.toNat * 16777216 + 2)) s)) := coreStep_awake h

end

/-- Settles O54: the four words are MEM's, whose registers REC and SEC alone may write; for another path the block's own write-path row is all that follows. -/
theorem recorderAuthority : Obligations.RecorderAuthority := by
  refine ⟨?denied, ?commandDenied, ?taken⟩
  case denied =>
    intro s path o w h notRec notSec word
    have ofPair : o.toNat ∈ rcdPairWords := List.mem_map_of_mem (f := BitVec.toNat) word
    obtain ⟨aligned, map, win, block, pair⟩ := rcdPairWord_place _ ofPair
    rw [exec_registerWrite_mapped h aligned map, wordWrite_mem_denied block win pair notRec notSec]
    exact ⟨_, rfl⟩
  case commandDenied =>
    intro s path tag h notRec notSec
    rw [exec_rcdTrigger h, exec_rcdRearm h, rcdCmdWrite_denied notRec notSec, rcdCmdWrite_denied notRec notSec]
    exact ⟨⟨_, rfl⟩, ⟨_, rfl⟩⟩
  case taken =>
    intro s path w h writer
    exact ⟨exec_registerWrite_rcdCfg h writer (by decide) (by decide), exec_registerWrite_rcdCfg h writer (by decide) (by decide),
      exec_registerWrite_rcdCtrl h writer (by decide) (by decide), exec_registerWrite_rcdCtrl h writer (by decide) (by decide)⟩

end Sys2Proof.Machine
end

section
/-! SUPPORT. Memory interfaces, reads that fail their codes, and the flight recorder's states (11_memory_subsystem.md R329, R332, R335, R336), a rule for each outcome. -/

namespace Sys2Proof.Machine

section
variable {s : State}

/-! ### Training (R329) -/

section
variable {i : Fin 8} (runs : s.sec.phase ≠ 0) (untrained : s.mem.trained.contains i.val = false) (usable : s.mem.failed.contains i.val = false)
include runs untrained usable

/-- An attempt counts while SEC runs, of an interface that is neither trained nor failed. -/
theorem trains : ¬ (s.sec.phase = 0 ∨ s.mem.trained.contains i.val = true ∨ s.mem.failed.contains i.val = true) := by
  rw [untrained, usable]
  simp [runs]

theorem doMiTrainDone_trained : doMiTrainDone i true s = rcdStart { s with mem.trained := sadd s.mem.trained i.val, mem.tries := terase s.mem.tries i.val } :=
  if_neg (trains runs untrained usable)

theorem doMiTrainDone_third (second : tget 0 s.mem.tries i.val = 2) :
    doMiTrainDone i false s = raise uMEM 2 .contained { unit := i.val } { s with mem.tries := tput s.mem.tries i.val 3, mem.failed := sadd s.mem.failed i.val } := by
  refine (if_neg (trains runs untrained usable)).trans ?_
  simp [second]

end

/-! ### Uncorrectable reads (R332) -/

section
variable {a : Nat} {ok : Bool}

/-- An uncorrectable read counted at its interface and raised with its address; it names no ledger block. -/
def ueReported (a : Nat) (s : State) : State :=
  raise uMEM 1 .contained { unit := miOf a, w1 := some (lo32 a), w2 := hi32 a, w3 := w32 0 } { s with
    mem.unc := tput s.mem.unc (miOf a) (satInc 65535 (tget 0 s.mem.unc (miOf a))) }

/-- Which leaf a remnant address holds is the custody state's alone. -/
theorem remLeafAt_of_cus {t : State} {mib : Nat} (same : t.cus = s.cus) : remLeafAt t mib = remLeafAt s mib := by
  unfold remLeafAt shardAt shardsOf
  rw [same]

theorem dramUe_scratch (scratch : regionOf s a = 5) : dramUe a ok false s = ueReported a s := by
  simp [dramUe, scratch, ueReported]

theorem dramUe_remnant {l : Nat} (remnant : regionOf s a = 0) (leaf : remLeafAt s (a / 1048576) = some l) : dramUe a ok false s = withdrawLeaf l (ueReported a s) := by
  have leafToo : remLeafAt (ueReported a s) (a / 1048576) = some l := (remLeafAt_of_cus (raise_cus _ _ _ _)).trans leaf
  rw [ueReported] at leafToo
  simp [dramUe, remnant, ueReported, leafToo]

theorem dramUe_recorder (recorder : regionOf s a = 2) : dramUe a ok false s = { ueReported a s with
    mem.rcd.badPages := sadd (ueReported a s).mem.rcd.badPages ((a - regionBaseMib (ueReported a s) 2 * 1048576) / 4096) } := by
  simp [dramUe, recorder, ueReported]

end

/-! ### The recorder's commands (R335) -/

/-- MEM_RCD_CTRL as a command of a new TAG leaves it: its word and its TAG kept. -/
def rcdTaken (op : Nat) (tag : Byte) (s : State) : State := setTag 0x150310 tag.toNat (setPair 0x150310 (w32 (tag.toNat * 16777216 + op)) s)

theorem rcdTaken_frame {op : Nat} {tag : Byte} : { rcdTaken op tag s with regs := s.regs } = s := rfl

section
variable {path : Path} {tag : Byte} (writer : path = .proc .recd ∨ path = .proc .sec) (fresh : tag.toNat ≠ lastTag s 0x150310)
include writer fresh

theorem rcdCmdWrite_trigger : rcdCmdWrite path (w32 (tag.toNat * 16777216 + 1)) s = rcdTrigger 7 (rcdTaken 1 tag s) := by
  have acts : ¬ tag.toNat = lastTag (setPair 0x150310 (w32 (tag.toNat * 16777216 + 1)) s) 0x150310 := fresh
  simp only [rcdCmdWrite_ok writer, rcdCommand, schedWord_tag (act := 1) (by decide), schedWord_act (act := 1) (by decide), if_neg acts, rcdTaken]

theorem rcdCmdWrite_rearm (frozen : s.mem.rcd.state = 3) :
    rcdCmdWrite path (w32 (tag.toNat * 16777216 + 2)) s = { rcdTaken 2 tag s with mem.rcd.state := 1, mem.rcd.since := s.now } := by
  have acts : ¬ tag.toNat = lastTag (setPair 0x150310 (w32 (tag.toNat * 16777216 + 2)) s) 0x150310 := fresh
  simp only [rcdCmdWrite_ok writer, rcdCommand, schedWord_tag (act := 2) (by decide), schedWord_act (act := 2) (by decide), if_neg acts]
  exact if_pos frozen

end

/-! ### The recorder's states (R335, R336) -/

theorem doRcdPostExpire_due (post : s.mem.rcd.state = 2) (due : s.mem.rcd.since + fld (liveWord s 0x150300) 5 0 * sec ≤ s.now) :
    doRcdPostExpire s = { s with mem.rcd.state := 3, mem.rcd.since := s.now } := if_pos ⟨post, due⟩

theorem doRcdAutoRearm_due (frozen : s.mem.rcd.state = 3) (due : s.mem.rcd.since + fld (liveWord s 0x150300) 23 16 * minuteNs ≤ s.now) :
    doRcdAutoRearm s = raise uMEM 5 .corrected {} { s with mem.rcd.state := 1, mem.rcd.since := s.now, mem.rcd.lost := satInc 255 s.mem.rcd.lost } :=
  if_pos ⟨frozen, due⟩

theorem rcdWrites_iff : rcdWrites s = true ↔ s.mem.rcd.state = 1 ∨ s.mem.rcd.state = 2 := by simp only [rcdWrites, Bool.or_eq_true, beq_iff_eq]

theorem doRcdStagingOverflow_writing (writes : s.mem.rcd.state = 1 ∨ s.mem.rcd.state = 2) :
    doRcdStagingOverflow s = raise uMEM 4 .corrected {} (rcdEvent .gap { s with mem.rcd.gaps := satInc 255 s.mem.rcd.gaps }) := if_pos (rcdWrites_iff.mpr writes)

/-! ### The events as commands -/

theorem exec_miTrainDone {i : Fin 8} {ok : Bool} (h : awake s) : exec (.miTrainDone i ok) s = .next (settle s (doMiTrainDone i ok s)) := coreStep_awake h

theorem exec_dramReadUe {a : BitVec 37} {t : Subtree} (h : awake s) :
    exec (.dramReadUe a t) s = .next (settle s (dramUe a.toNat (subtreeOk s t.first.toNat t.leaves) false s)) := coreStep_awake h

theorem exec_rcdPostExpire (h : awake s) : exec .rcdPostExpire s = .next (settle s (doRcdPostExpire s)) := coreStep_awake h

theorem exec_rcdAutoRearm (h : awake s) : exec .rcdAutoRearm s = .next (settle s (doRcdAutoRearm s)) := coreStep_awake h

theorem exec_rcdStagingOverflow (h : awake s) : exec .rcdStagingOverflow s = .next (settle s (doRcdStagingOverflow s)) := coreStep_awake h

end

end Sys2Proof.Machine
end

section
/-! SUPPORT. An arbiter from a request to the end of its beat, its refill, and a lock that lasts too long (13_pass_arbiter.md R367, R371–R375; 12_two_wire_ports.md R356–R359), a rule
for each outcome, and the obligation about them and the memory. -/

namespace Sys2Proof.Machine

section
variable {s : State} {i r : Nat}

/-! ### One arbiter, one requester or one port changes -/

theorem arbInst_updArb_same {f : ArbInst → ArbInst} : arbInst (updArb i f s) i = f (arbInst s i) := tget_tupd_same _ _ _ _

/-- A change of one arbiter changes the arbiters alone. -/
theorem updArb_but_arb {f : ArbInst → ArbInst} {arb : ArbS} : { updArb i f s with arb := arb } = { s with arb := arb } := rfl

/-- A change of an arbiter beside its requesters leaves every requester as it is. -/
theorem arbReq_updArb {f : ArbInst → ArbInst} (keeps : ∀ a, (f a).reqs = a.reqs) : arbReq (updArb i f s) i r = arbReq s i r := by
  rw [arbReq, arbInst_updArb_same, instReq, keeps]
  rfl

theorem arbReq_updReq_same {f : ArbReqS → ArbReqS} : arbReq (updReq i r f s) i r = f (arbReq s i r) := by
  rw [arbReq, updReq, arbInst_updArb_same]
  exact tget_tupd_same _ _ _ _

theorem arbInst_updReq {f : ArbReqS → ArbReqS} : arbInst (updReq i r f s) i = instUpd r f (arbInst s i) := arbInst_updArb_same

/-- A raise leaves every arbiter as it is. -/
theorem arbInst_raise {n : Nat} {u : FUnit} {src : Nat} {cls : FClass} {info : FaultInfo} : arbInst (raise u src cls info s) n = arbInst s n :=
  (congrArg (fun t : State => arbInst t n) (raise_unreported u src cls info) :)

theorem arbReq_raise {n : Nat} {u : FUnit} {src : Nat} {cls : FClass} {info : FaultInfo} : arbReq (raise u src cls info s) n r = arbReq s n r :=
  congrArg (instReq · r) arbInst_raise

theorem twpPort_updTwp_same {p : Nat} {f : TwpPort → TwpPort} : twpPort (updTwp p f s) p = f (twpPort s p) := tget_tupd_same _ _ _ _

/-! ### A request (R371, R373) -/

section
variable {n c : Nat} {op : Option TwOp}

theorem arbPut_absent {lock : Bool} (absent : arbCount i ≤ r) : arbPut i r n c lock op s = s := if_pos absent

/-- FULL (R371): nothing of the refused request is kept, unless it is a two-wire transfer. -/
theorem arbPut_full {lock : Bool} (present : r < arbCount i) (full : 8 ≤ (arbReq s i r).queue.length) :
    arbPut i r n c lock none s = raise uARB 2 .corrected { unit := i, w2 := w32 r } (updReq i r (fun x => { x with full := true }) s) := by
  rw [arbPut, if_neg (Nat.not_le.mpr present), if_pos full]

theorem arbPut_queued (present : r < arbCount i) (room : (arbReq s i r).queue.length < 8) :
    arbPut i r n c false op s = arbGo i (updReq i r (fun x => { x with
      queue := x.queue ++ [{ stamp := s.now, left := max n 1, cost := c, lock := false, op := op }] }) s) := by
  rw [arbPut, if_neg (Nat.not_le.mpr present), if_neg (Nat.not_le.mpr room)]
  simp

end

/-! ### The end of a beat (R368, R372, R373) -/

/-- The resource is free of the requester's beat. -/
def beatOver (i r : Nat) (s : State) : State := updArb i (fun a => { a with beats := a.beats.filter (fun b => b.req != r) }) s

/-- The requester's lock, if it holds one, ends. -/
def lockEnded (r : Nat) (a : ArbInst) : ArbInst := { a with lock := match a.lock with | some l => if l.owner = r then none else some l | none => none }

/-- A request whose last beat is over has left the queue `q`, and its requester's lock with it unless the request `e` goes on locking. -/
def requestOver (i r : Nat) (e : ArbEntry) (q : List ArbEntry) (s : State) : State :=
  let t := updReq i r (fun x => { x with queue := q }) (beatOver i r s)
  if ¬ e.lock ∨ e.op.any twSeq then updArb i (lockEnded r) t else t

section
variable {e : ArbEntry} {q : List ArbEntry}

theorem arbReq_beatOver : arbReq (beatOver i r s) i r = arbReq s i r := arbReq_updArb fun _ => rfl

theorem arbBeatEnd_last {t : Time} (onBus : ⟨r, t⟩ ∈ (arbInst s i).beats) (head : (arbReq s i r).queue = e :: q) (last : e.left ≤ 1) :
    arbBeatEnd i r s = arbGo i (requestOver i r e q s) := by
  have granted : (arbInst s i).beats.any (fun b => b.req == r) = true := List.any_eq_true.mpr ⟨_, onBus, beq_self_eq_true r⟩
  have headToo : (arbReq (beatOver i r s) i r).queue = e :: q := by rw [arbReq_beatOver, head]
  rw [beatOver] at headToo
  simp only [arbBeatEnd, granted, headToo, if_pos last, requestOver, beatOver]
  rfl

theorem arbReq_requestOver : (arbReq (requestOver i r e q s) i r).queue = q := by
  have left : (arbReq (updReq i r (fun x => { x with queue := q }) (beatOver i r s)) i r).queue = q := by rw [arbReq_updReq_same]
  exact read_ite (fun t => (arbReq t i r).queue) ((congrArg ArbReqS.queue (arbReq_updArb (f := lockEnded r) fun _ => rfl)).trans left) left

theorem beats_requestOver : (arbInst (requestOver i r e q s) i).beats = (arbInst s i).beats.filter (fun b => b.req != r) := by
  have rest : (arbInst (updReq i r (fun x => { x with queue := q }) (beatOver i r s)) i).beats = (arbInst s i).beats.filter (fun b => b.req != r) := by
    rw [arbInst_updReq, beatOver, arbInst_updArb_same]
    rfl
  exact read_ite (fun t => (arbInst t i).beats) ((congrArg ArbInst.beats (arbInst_updArb_same (f := lockEnded r))).trans rest) rest

theorem requestOver_frame : { requestOver i r e q s with arb := s.arb } = s := by
  unfold requestOver
  split <;> simp only [beatOver, updReq, updArb_but_arb]

end

/-! ### The refill (R367) -/

theorem doWindowRefill_boundary {i : Fin 34} (window : arbWindow s i.val ≠ 0)
    (crossed : (arbInst s i.val).refilled / arbWindow s i.val < s.now / arbWindow s i.val) (noSwap : (arbInst s i.val).swap = none) :
    doWindowRefill i s = forEach (List.range (arbCount i.val)) (refillReq i.val)
      (updArb i.val (fun a => { a with refilled := s.now, windows := inc8 a.windows, units := arbUnits s i.val }) s) := by
  have acts : ¬ (arbWindow s i.val = 0 ∨ s.now / arbWindow s i.val ≤ (arbInst s i.val).refilled / arbWindow s i.val) := not_or.mpr ⟨window, Nat.not_le.mpr crossed⟩
  simp only [doWindowRefill, if_neg acts, noSwap]

/-! ### A lock over its time (R375) -/

/-- The lock is broken: it and its owner's requests are gone, and the bite is counted. -/
def lockBroken (i r : Nat) (s : State) : State :=
  updReq i r (fun x => { x with queue := [] }) (updArb i (fun a => { a with lock := none, bites := satInc 65535 a.bites, beats := a.beats.filter (fun b => b.req != r) }) s)

/-- A broken lock of a two-wire port's arbiter (R359): the transfer on the bus is over, a held-low SDA asks for a bus clear, and the transfers `ops` of the owner end. -/
def lockBrokenBus (p : Nat) (ops : List TwOp) (freed : Bool) (s : State) : State :=
  let t := updTwp p (fun x => { x with cur := none, curAbort := false }) s
  let t := if (twpPort t p).sdaLow then busClear p freed t else t
  raise (.twp p) 6 .contained {} (forEach ops (fun o s => note (.twDone p o 8) s) t)

/-- A two-wire port after the bite at the lock of requester `r` of its arbiter, whose transfers are `ops`. -/
def portBitten (i r : Nat) (ops : List TwOp) (freed : Bool) (s : State) : State :=
  lockBrokenBus (i - 16) ops freed (raise uARB 0 .contained { unit := i, w2 := w32 r } (lockBroken i r s))

theorem lock_lockBroken : (arbInst (lockBroken i r s) i).lock = none := by
  rw [lockBroken, arbInst_updReq, arbInst_updArb_same]
  rfl

theorem bites_lockBroken : (arbInst (lockBroken i r s) i).bites = satInc 65535 (arbInst s i).bites := by
  rw [lockBroken, arbInst_updReq, arbInst_updArb_same]
  rfl

theorem queue_lockBroken : (arbReq (lockBroken i r s) i r).queue = [] := by rw [lockBroken, arbReq_updReq_same]

theorem lockBroken_frame : { lockBroken i r s with arb := s.arb } = s := by simp only [lockBroken, updReq, updArb_but_arb]

section
variable {i : Fin 34} {l : ArbLock} {freed : Bool} (locked : (arbInst s i.val).lock = some l) (due : l.start + arbLockWd s i.val * us ≤ s.now)
include locked due

theorem doLockWatchdogBite_due (plain : i.val < 16 ∨ 32 ≤ i.val) :
    doLockWatchdogBite i freed s = arbGo i.val (raise uARB 0 .contained { unit := i.val, w2 := w32 l.owner } (lockBroken i.val l.owner s)) := by
  have notBus : ¬ (16 ≤ i.val ∧ i.val < 32) := by omega
  simp only [doLockWatchdogBite, locked, if_pos due, if_neg notBus, lockBroken]

theorem doLockWatchdogBite_bus (bus : 16 ≤ i.val ∧ i.val < 32) :
    doLockWatchdogBite i freed s = arbGo i.val (portBitten i.val l.owner ((arbReq s i.val l.owner).queue.filterMap (·.op)) freed s) := by
  simp only [doLockWatchdogBite, locked, if_pos due, if_pos bus]
  rfl

end

/-! ### A port whose lock is broken (R356, R359) -/

/-- The arbiter of port `p` holds no lock, requester `r` waits for nothing, and no transfer is on the bus. -/
structure PortFreed (p r : Nat) (s : State) : Prop where
  lock  : (arbInst s (16 + p)).lock = none
  queue : (arbReq s (16 + p) r).queue = []
  cur   : (twpPort s p).cur = none

section
variable {p : Nat} {t : State}

/-- What writes neither arbiters nor ports leaves a freed port freed. -/
theorem PortFreed.of_same (freed : PortFreed p r s) (arb : t.arb = s.arb) (twp : t.twp = s.twp) : PortFreed p r t := by
  obtain ⟨lock, queue, cur⟩ := freed
  refine ⟨?_, ?_, ?_⟩
  · rwa [arbInst, arb]
  · rwa [arbReq, arbInst, arb]
  · rwa [twpPort, twp]

theorem PortFreed.unreported (freed : PortFreed p r s) (same : unreported t = unreported s) : PortFreed p r t :=
  freed.of_same (congrArg (·.arb) same) (congrArg (·.twp) same)

theorem PortFreed.raise {u : FUnit} {src : Nat} {cls : FClass} {info : FaultInfo} (freed : PortFreed p r s) : PortFreed p r (raise u src cls info s) :=
  freed.unreported (raise_unreported _ _ _ _)

theorem PortFreed.drivePin {pin : HeldPin} {level : Nat} (freed : PortFreed p r s) : PortFreed p r (drivePin pin level s) := freed.unreported rfl

theorem PortFreed.notes {n : TwOp → Note} (ops : List TwOp) (freed : PortFreed p r s) : PortFreed p r (forEach ops (fun o s => note (n o) s) s) :=
  forEach_induct (P := PortFreed p r) ops freed fun _ _ h => h.unreported rfl

theorem PortFreed.updTwp {f : TwpPort → TwpPort} (freed : PortFreed p r s) (keeps : ∀ x, x.cur = none → (f x).cur = none := by exact fun _ idle => idle) :
    PortFreed p r (updTwp p f s) :=
  ⟨freed.lock, freed.queue, by rw [twpPort_updTwp_same]; exact keeps _ freed.cur⟩

theorem tfind_map {α : Type} {f : α → α} (l : Tab α) (j : Nat) : tfind (l.map fun e => (e.1, f e.2)) j = (tfind l j).map f := by
  induction l with
  | nil => rfl
  | cons e l ih =>
    obtain ⟨k, x⟩ := e
    by_cases here : k = j
    · simp [tfind, here]
    · simp [tfind, here, ih]

theorem queue_emptied (reqs : Tab ArbReqS) : (tget (α := ArbReqS) {} (reqs.map fun e : Nat × ArbReqS => (e.1, { e.2 with queue := [] })) r).queue = [] := by
  rw [tget, tfind_map (f := fun x : ArbReqS => { x with queue := [] })]
  cases tfind reqs r <;> rfl

/-- Every queue of the arbiter emptied, its beats and its lock dropped (R357). -/
theorem PortFreed.flushed (freed : PortFreed p r s) :
    PortFreed p r (updArb (16 + p) (fun a => { a with reqs := a.reqs.map (fun e => (e.1, { e.2 with queue := [] })), beats := [], lock := none }) s) := by
  refine ⟨?_, ?_, freed.cur⟩
  · rw [arbInst_updArb_same]
  · rw [arbReq, arbInst_updArb_same]
    exact queue_emptied _

/-- A bus clear starts no transfer and no lock, and queues nothing. -/
theorem PortFreed.busClear {sda : Bool} (freed : PortFreed p r s) : PortFreed p r (busClear p sda s) := by
  unfold Machine.busClear
  split
  next => exact freed
  next =>
    extract_lets x s1 s2 pin again ops s3 s4
    have counted : PortFreed p r s1 := freed.updTwp
    have stuck : PortFreed p r s2 := PortFreed.raise counted.updTwp
    split
    next => exact PortFreed.raise counted.updTwp
    next =>
      split
      next => exact PortFreed.drivePin stuck.updTwp
      next => exact PortFreed.notes _ (stuck.flushed.updTwp fun _ _ => rfl)

theorem PortFreed.lockBrokenBus {ops : List TwOp} {sda : Bool} (lock : (arbInst s (16 + p)).lock = none) (queue : (arbReq s (16 + p) r).queue = []) :
    PortFreed p r (lockBrokenBus p ops sda s) := by
  unfold Machine.lockBrokenBus
  extract_lets t u
  have idle : PortFreed p r t := ⟨lock, queue, by rw [twpPort_updTwp_same]⟩
  have cleared : PortFreed p r u := by
    unfold u
    split
    · exact idle.busClear
    · exact idle
  exact (cleared.notes ops).raise

theorem portBitten_freed {ops : List TwOp} {sda : Bool} (bus : 16 ≤ i) : (arbInst (portBitten i r ops sda s) i).lock = none ∧
    (arbReq (portBitten i r ops sda s) i r).queue = [] ∧ (twpPort (portBitten i r ops sda s) (i - 16)).cur = none := by
  obtain ⟨p, rfl⟩ := Nat.exists_eq_add_of_le bus
  rw [portBitten, Nat.add_sub_cancel_left]
  obtain ⟨lock, queue, cur⟩ : PortFreed p r _ := PortFreed.lockBrokenBus (ops := ops) (sda := sda)
    (s := raise uARB 0 .contained { unit := 16 + p, w2 := w32 r } (lockBroken (16 + p) r s))
    (by rw [arbInst_raise, lock_lockBroken]) (by rw [arbReq_raise, queue_lockBroken])
  exact ⟨lock, queue, cur⟩

end

end

/-! ### The events as commands -/

section
variable {s : State} {i : Fin 34} {r : Fin 16}

theorem exec_windowRefill (h : awake s) : exec (.windowRefill i) s = .next (settle s (doWindowRefill i s)) := coreStep_awake h

theorem exec_lockWatchdogBite {freed : Bool} (h : awake s) : exec (.lockWatchdogBite i freed) s = .next (settle s (doLockWatchdogBite i freed s)) := coreStep_awake h

theorem exec_arbRequest {n c : Nat} {lock : Bool} (h : awake s) : exec (.arbRequest i r n c lock) s = .next (settle s (doArbRequest i r n c lock s)) := coreStep_awake h

theorem exec_beatComplete (h : awake s) : exec (.beatComplete i r) s = .next (settle s (doBeatComplete i r s)) := coreStep_awake h

theorem doArbRequest_bus {n c : Nat} {lock : Bool} (bus : 16 ≤ i.val ∧ i.val < 32) : doArbRequest i r n c lock s =
    arbPut i.val r.val n c lock (some { owner := .other r.val, kind := .other, addr := 0, page := 0xFF, value := 0 }) s := by
  rw [doArbRequest, if_pos bus]

theorem doArbRequest_plain {n c : Nat} {lock : Bool} (plain : i.val < 16 ∨ 32 ≤ i.val) : doArbRequest i r n c lock s = arbPut i.val r.val n c lock none s := by
  have notBus : ¬ (16 ≤ i.val ∧ i.val < 32) := by omega
  rw [doArbRequest, if_neg notBus]

theorem doBeatComplete_plain (plain : i.val < 16 ∨ 32 ≤ i.val) : doBeatComplete i r s = arbBeatEnd i.val r.val s := by
  have notBus : ¬ (16 ≤ i.val ∧ i.val < 32) := by omega
  exact if_neg notBus

theorem doBeatComplete_bus {o : TwOp} (bus : 16 ≤ i.val ∧ i.val < 32) (cur : (twpPort s (i.val - 16)).cur = some o) (kind : o.kind = .other) (owner : twReq o.owner = r.val) :
    doBeatComplete i r s = arbBeatEnd i.val r.val (updTwp (i.val - 16) (fun x => { x with cur := none }) s) := by
  simp only [doBeatComplete, if_pos bus, cur, kind, owner, and_self, if_true]

end

/-- Settles O55: each event of a memory interface, the recorder or an arbiter acts in the one state that waits for it;
after a broken lock on a two-wire port neither a bus clear nor a raise locks, queues or starts anything. -/
theorem memoryAndArbiter : Obligations.MemoryAndArbiter := by
  refine ⟨?trained, ?third, ?scratch, ?remnant, ?recorder, ?commands, ?post, ?rearm, ?overflow, ?absent, ?bus, ?plain, ?full, ?beat, ?transfer, ?refill, ?bite, ?busBite⟩
  case trained =>
    intro s i h runs untrained usable
    rw [exec_miTrainDone h, doMiTrainDone_trained runs untrained usable]
  case third =>
    intro s i h runs untrained usable second
    rw [exec_miTrainDone h, doMiTrainDone_third runs untrained usable second]
  case scratch =>
    intro s a first leaves h region
    rw [exec_dramReadUe h, dramUe_scratch region, ueReported, miOf]
  case remnant =>
    intro s a first leaves l h region leaf
    rw [exec_dramReadUe h, dramUe_remnant region leaf, ueReported, miOf]
  case recorder =>
    intro s a first leaves h region
    rw [exec_dramReadUe h, dramUe_recorder region]
    exact ⟨_, rfl, rfl⟩
  case commands =>
    intro s path tag h writer fresh
    rw [exec_rcdTrigger h, exec_rcdRearm h, rcdCmdWrite_trigger writer fresh]
    refine ⟨⟨_, rfl, rcdTaken_frame⟩, fun frozen => ?_⟩
    rw [rcdCmdWrite_rearm writer fresh frozen]
    exact ⟨_, rfl, rfl, rfl, rfl⟩
  case post =>
    intro s h post due
    rw [exec_rcdPostExpire h, doRcdPostExpire_due post due]
  case rearm =>
    intro s h frozen due
    rw [exec_rcdAutoRearm h, doRcdAutoRearm_due frozen due]
  case overflow =>
    intro s h writes
    rw [exec_rcdStagingOverflow h, doRcdStagingOverflow_writing writes]
  case absent =>
    intro s i r n c lock h absent
    rw [exec_arbRequest h, doArbRequest, arbPut_absent absent]
  case bus =>
    intro s i r n c h present room above below
    rw [exec_arbRequest h, doArbRequest_bus ⟨above, below⟩, arbPut_queued present room]
  case plain =>
    intro s i r n c h present room plain
    rw [exec_arbRequest h, doArbRequest_plain plain, arbPut_queued present room]
  case full =>
    intro s i r n c lock h present full plain
    rw [exec_arbRequest h, doArbRequest_plain plain, arbPut_full present full]
  case beat =>
    intro s i r e q t h plain beats _ head last
    have onBus : ⟨r.val, t⟩ ∈ (arbInst s i.val).beats := by rw [beats]; exact List.mem_singleton_self _
    have rest : (arbInst (requestOver i.val r.val e q s) i.val).beats = [] := by rw [beats_requestOver, beats]; simp
    rw [exec_beatComplete h, doBeatComplete_plain plain, arbBeatEnd_last onBus head last.le]
    exact ⟨_, rfl, arbReq_requestOver, rest, requestOver_frame⟩
  case transfer =>
    intro s i r o h above below cur kind owner
    rw [exec_beatComplete h, doBeatComplete_bus ⟨above, below⟩ cur kind owner]
  case refill =>
    intro s i h window crossed noSwap
    rw [exec_windowRefill h, doWindowRefill_boundary window crossed noSwap]
  case bite =>
    intro s i l freed h plain locked due
    rw [exec_lockWatchdogBite h, doLockWatchdogBite_due locked due plain]
    exact ⟨_, rfl, lock_lockBroken, queue_lockBroken, bites_lockBroken, lockBroken_frame⟩
  case busBite =>
    intro s i l freed h above below locked due
    rw [exec_lockWatchdogBite h, doLockWatchdogBite_bus locked due ⟨above, below⟩]
    exact ⟨_, rfl, portBitten_freed above⟩

end Sys2Proof.Machine
end

section
/-! SUPPORT. A step, and the end of one that owes nothing (95_what_each_step_holds.md; log 1, log 9, log 110), and the obligations about them. -/

namespace Sys2Proof.Machine

/-- Settles O1: the queue's front is the one command that a step runs. -/
theorem stepRunsFront : Obligations.StepRunsFront := by
  intro c rest s front
  rw [step, front]

/-- Settles O2: an empty queue holds no command, and time passes by TICK commands alone. -/
theorem stepIdles : Obligations.StepIdles := by
  intro s empty
  rw [step, empty]

/-- Settles O8: a quiet change leaves no note to carry out and nothing to react to, so that only the pin logic acts. -/
theorem quietStepsSettleAtOnce : Obligations.QuietStepsSettleAtOnce := by
  intro a t still
  rw [settle, if_pos still]

end Sys2Proof.Machine
end

section
/-! SUPPORT. The supplies up to POR_N's release (15_boot_keys_and_attestation.md R419; 19_electrical_and_package.md R503, R504, R508), a rule for each event, and the obligation about them. -/

namespace Sys2Proof.Machine

section
variable {s : State} {t : Time}

theorem doStandbySupplyGood_first (bad : s.und.supply.standbyGood = false) (powered : s.pmd.state ≠ 3) :
    doStandbySupplyGood s = { s with und.supply := { s.und.supply with standbyGood := true, mainEn := true, enSince := some s.now } } := by
  simp [doStandbySupplyGood, bad, powered]

theorem doMainPgTimeout_due (since : s.und.supply.enSince = some t) (enabled : s.und.supply.mainEn = true) (low : s.und.supply.mainPg = false)
    (due : t + 20000000 ≤ s.now) :
    doMainPgTimeout s = { s with und.supply := { s.und.supply with mainEn := false, enSince := none, retryAt := some (s.now + 1000000000) } } := by
  have now : t + 20 * ms ≤ s.now := due
  simp [doMainPgTimeout, since, enabled, low, now, sec]

theorem doPorNRelease_asserted {b r : Fin 4} {h : Fin 8} (asserted : s.und.supply.porAsserted = true) :
    doPorNRelease b r h s = { s with und.supply.porAsserted := false, und.straps := { casRole := r.val, bootSrc := b.val, therm := h.val }, sec.startAt := s.now } := by
  rw [doPorNRelease, if_pos asserted]

theorem exec_standbySupplyGood : exec .standbySupplyGood s = .next (settle s (doStandbySupplyGood s)) := supplyStep_eq _ s

theorem exec_mainPgTimeout : exec .mainPgTimeout s = .next (settle s (doMainPgTimeout s)) := supplyStep_eq _ s

theorem exec_porNRelease {b r : Fin 4} {h : Fin 8} : exec (.porNRelease b r h) s = .next (settle s (doPorNRelease b r h s)) := supplyStep_eq _ s

theorem exec_inputPowerGood (h : awake s) : exec .inputPowerGood s = .next (settle s (doInputPowerGood s)) := coreStep_awake h

end

/-- Settles O11: each event finds the supplies as its rule asks and makes its one change to them. -/
theorem supplyEvents : Obligations.SupplyEvents := by
  refine ⟨?good, ?timeout, ?release, ?input⟩
  case good =>
    intro s bad powered
    rw [exec_standbySupplyGood, doStandbySupplyGood_first bad powered]
  case timeout =>
    intro s t since enabled low due
    rw [exec_mainPgTimeout, doMainPgTimeout_due since enabled low due]
  case release =>
    intro s b r h asserted
    rw [exec_porNRelease, doPorNRelease_asserted asserted]
  case input =>
    intro s h
    rw [exec_inputPowerGood h, doInputPowerGood]

end Sys2Proof.Machine
end

section
/-! SUPPORT. What the shared operations keep (Machine/Ops.lean, in its order): `Kept` (Laws/Kept.lean) carried through each. -/

namespace Sys2Proof.Machine

section
variable {σ s : State}

/-- One branch follows from the other: the proof of the shared state is given once. -/
theorem kept_cond {x y : State} {c : Prop} {inst : Decidable c} (hy : Kept σ y) (hx : Kept σ y → Kept σ x) : Kept σ (if c then x else y) :=
  kept_ite (hx hy) hy

/-- `kept_ite` for an operation that answers a value with its state. -/
theorem kept_ite_snd {α : Type} {x y : α × State} {c : Prop} {inst : Decidable c} (hx : Kept σ x.2) (hy : Kept σ y.2) :
    Kept σ (if c then x else y).2 := by
  split
  · exact hx
  · exact hy

theorem updProc_kept {p f} (h : Kept σ s) : Kept σ (updProc p f s) :=
  kept_mk h rfl id

theorem loadWords_kept {l} (h : Kept σ s) : Kept σ (loadWords l s) :=
  foldl_kept (fun _ _ h1 => setWord_kept _ _ _ (setWord_kept _ _ _ (setLive_kept _ _ _ h1))) h

theorem updTile_kept {t f} (h : Kept σ s) : Kept σ (updTile t f s) :=
  kept_mk h rfl id

theorem updSlot_kept {n f} (h : Kept σ s) : Kept σ (updSlot n f s) :=
  kept_mk h rfl id

theorem staleSignal_kept {i} (h : Kept σ s) : Kept σ (staleSignal i s) :=
  writeSignal_kept _ _ _ _ h

theorem writeFixedSignal_kept {producer src w stale} (h : Kept σ s) : Kept σ (writeFixedSignal producer src w stale s) :=
  forEach_kept (fun _ _ => writeSignal_kept _ _ _ _) h

theorem updLatch_kept {p f} (h : Kept σ s) : Kept σ (updLatch p f s) :=
  kept_mk h rfl id

theorem presentHeld_kept {p} (h : Kept σ s) : Kept σ (presentHeld p s) :=
  updLatch_kept h

theorem releaseThr_kept (h : Kept σ s) : Kept σ (releaseThr s) := by
  unfold releaseThr
  split
  · exact forEach_kept (fun _ _ => driveThr_kept _) h
  · exact h

theorem injectUse_kept {u} (h : Kept σ s) : Kept σ (injectUse u s) :=
  updWin_kept _ _ h

theorem injectCheck_kept {u src unit ok} (h : Kept σ s) : Kept σ (injectCheck u src unit ok s).2 :=
  kept_ite_snd (injectUse_kept h) h

theorem injectPair_kept {u src unit p} (h : Kept σ s) : Kept σ (injectPair u src unit p s).2 :=
  kept_ite_snd (injectUse_kept h) h

theorem nvsQueue_kept {j} (h : Kept σ s) : Kept σ (nvsQueue j s) := by
  unfold nvsQueue
  exact kept_mk (by split; exacts [kept_ite (kept_mk h rfl id) h, h]) rfl id

theorem denyWrite_kept {path off w} (h : Kept σ s) : Kept σ (denyWrite path off w s) :=
  raise_kept _ _ _ _ h

end

end Sys2Proof.Machine
end

section
/-! SUPPORT. What the operations of the link's sending side keep (Machine/Link.lean, in its order): `Kept` (Laws/Kept.lean) carried through each. -/

namespace Sys2Proof.Machine

section
variable {σ s : State}

theorem updPort_kept {p f} (h : Kept σ s) : Kept σ (updPort p f s) :=
  kept_mk h rfl id

theorem pumpPort_kept {p} (h : Kept σ s) : Kept σ (pumpPort p s) :=
  kept_ite (kept_mk h rfl id) (updPort_kept h)

theorem gclSend_kept {p m} (h : Kept σ s) : Kept σ (gclSend p m s) :=
  kept_ite h (pumpPort_kept (updPort_kept h))

theorem gclReads_kept {p l} (h : Kept σ s) : Kept σ (gclReads p l s) :=
  kept_ite h (pumpPort_kept (updPort_kept h))

theorem dropReq_kept {p tag} (h : Kept σ s) : Kept σ (dropReq p tag s) := by
  dsimp only [dropReq]
  exact have h1 := updPort_kept h;
    by split; exacts [h1, gclReads_kept (updPort_kept h1)]

theorem gclFetch_kept {p addr len} (h : Kept σ s) : Kept σ (gclFetch p addr len s) :=
  gclReads_kept h

theorem staleReads_kept {f} (h : Kept σ s) : Kept σ (staleReads f s) :=
  updPort_kept h

theorem holdOrDo_kept {page c act} (hact : ∀ s, Kept σ s → Kept σ (act s)) (h : Kept σ s) : Kept σ (holdOrDo page c act s) :=
  kept_ite (kept_mk h rfl id) (kept_ite (gclSend_kept (kept_mk h rfl id)) (hact _ h))

end

end Sys2Proof.Machine
end

section
/-! SUPPORT. What the operations of the register map keep (Machine/RegMap.lean, in its order): `Kept` (Laws/Kept.lean) carried through each. -/

namespace Sys2Proof.Machine

section
variable {σ s : State}

theorem withAuthority_kept {path off w f} (hf : ∀ s, Kept σ s → Kept σ (f s)) (h : Kept σ s) : Kept σ (withAuthority path off w f s) :=
  kept_ite (hf _ h) (kept_ite (raise_kept _ _ _ _ h) (denyWrite_kept h))

end

end Sys2Proof.Machine
end

section
/-! SUPPORT. What the operations of the Pass arbiter keep (Machine/Arb.lean, in its order): `Kept` (Laws/Kept.lean) carried through each. -/

namespace Sys2Proof.Machine

section
variable {σ s : State}

theorem updArb_kept {i f} (h : Kept σ s) : Kept σ (updArb i f s) :=
  kept_mk h rfl id

theorem updReq_kept {i r f} (h : Kept σ s) : Kept σ (updReq i r f s) :=
  updArb_kept h

theorem updTwp_kept {p f} (h : Kept σ s) : Kept σ (updTwp p f s) :=
  kept_mk h rfl id

theorem twpFlag_kept {p b} (h : Kept σ s) : Kept σ (twpFlag p b s) :=
  updTwp_kept h

theorem busClear_kept {p freed} (h : Kept σ s) : Kept σ (busClear p freed s) :=
  kept_ite h
    (have h1 := updTwp_kept h;
      kept_ite (raise_kept _ _ _ _ (updTwp_kept h1))
      (have h2 := raise_kept _ _ _ _ (twpFlag_kept h1);
        kept_ite (drivePin_kept _ _ (updTwp_kept h2)) (forEach_kept (fun _ _ => note_kept _) (updTwp_kept (updArb_kept h2)))))

theorem arbGrant_kept {i r} (h : Kept σ s) : Kept σ (arbGrant i r s) := by
  unfold arbGrant
  split
  · exact h
  · extract_lets cost s1 s2
    have h2 : Kept σ s2 := updArb_kept (updArb_kept h)
    split
    · exact kept_ite (updTwp_kept h2) h2
    · exact h2

theorem arbDecide_kept {i n} (h : Kept σ s) : Kept σ (arbDecide i n s) := by
  induction n generalizing s with
  | zero => exact h
  | succ n ih =>
    unfold arbDecide
    refine kept_ite h ?_
    split
    · exact kept_ite (ih (arbGrant_kept h)) h
    · split
      · exact ih (arbGrant_kept h)
      · exact h

theorem arbGo_kept {i} (h : Kept σ s) : Kept σ (arbGo i s) :=
  arbDecide_kept (kept_ite (busClear_kept h) h)

theorem arbPut_kept {i r beats cost lock op} (h : Kept σ s) : Kept σ (arbPut i r beats cost lock op s) := by
  unfold arbPut
  exact kept_ite h
    (kept_ite
      (have h1 := raise_kept _ _ _ _ (updReq_kept h);
        by split; exacts [kept_ite (updTwp_kept h1) h1, h1]) (arbGo_kept (updReq_kept (kept_ite (raise_kept _ _ _ _ h) h))))

theorem twSubmit_kept {p o} (h : Kept σ s) : Kept σ (twSubmit p o s) :=
  kept_ite (note_kept _ h) (kept_ite (note_kept _ h) (arbPut_kept h))

theorem twReoffer_kept {p} (h : Kept σ s) : Kept σ (twReoffer p s) := by
  unfold twReoffer
  split
  · exact h
  · exact kept_ite (twSubmit_kept (updTwp_kept h)) h

theorem twNext_kept {p r d last} (h : Kept σ s) : Kept σ (twNext p r d last s) :=
  updReq_kept h

theorem arbBeatEnd_kept {i r} (h : Kept σ s) : Kept σ (arbBeatEnd i r s) := by
  unfold arbBeatEnd
  exact kept_ite h
    (have h1 := updArb_kept h;
      arbGo_kept (by
        split
        · exact h1
        · exact kept_ite (have h3 := updReq_kept h1; kept_ite (updArb_kept h3) h3) (updReq_kept h1)))

theorem arbFlush_kept {i r} (h : Kept σ s) : Kept σ (arbFlush i r s) :=
  have h1 := updReq_kept h;
    kept_ite (forEach_kept (fun _ _ => note_kept _) h1) h1

@[simp] theorem doArbRequest_kept {inst req beats cost lock} (h : Kept σ s) : Kept σ (doArbRequest inst req beats cost lock s) :=
  arbPut_kept h

@[simp] theorem doBeatComplete_kept {inst req} (h : Kept σ s) : Kept σ (doBeatComplete inst req s) := by
  unfold doBeatComplete
  exact kept_ite (by split; exacts [kept_ite (arbBeatEnd_kept (updTwp_kept h)) h, h]) (arbBeatEnd_kept h)

theorem refillReq_kept {i r} (h : Kept σ s) : Kept σ (refillReq i r s) :=
  have h2 := updReq_kept (injectCheck_kept h);
    kept_ite h2 (raise_kept _ _ _ _ h2)

@[simp] theorem doWindowRefill_kept {inst} (h : Kept σ s) : Kept σ (doWindowRefill inst s) := by
  unfold doWindowRefill
  extract_lets i w s1 s2
  have h1 : Kept σ s1 := by
    unfold s1
    split
    · exact kept_ite (updCommit_kept _ _ _ (updArb_kept (foldl_kept (fun _ _ => setLive_kept _ _ _) h))) h
    · exact h
  exact kept_ite h (forEach_kept (fun _ _ => refillReq_kept) (updArb_kept h1))

@[simp] theorem doLockWatchdogBite_kept {inst sdaFreed} (h : Kept σ s) : Kept σ (doLockWatchdogBite inst sdaFreed s) := by
  dsimp only [doLockWatchdogBite]
  split
  · exact h
  · exact have h3 := raise_kept _ _ _ _ (updReq_kept (updArb_kept h));
      arbGo_kept
      (kept_ite (have h5 := updTwp_kept h3; raise_kept _ _ _ _ (forEach_kept (fun _ _ => note_kept _) (kept_ite (busClear_kept h5) h5))) h3)

/-- Words and live values that are dropped leave the tables in their order. -/
theorem kept_filterRegs {t : State} {f g : Nat × Word → Bool} (h : Kept σ s) (ht : Kept σ t) :
    Kept σ { t with regs.words := s.regs.words.filter f, regs.live := s.regs.live.filter g } := by
  refine ⟨ht.queue, ht.fuses, ht.plane, fun ok => ?_, ht.disc⟩
  obtain ⟨words, live, -, -, -⟩ := h.regs ok
  obtain ⟨-, -, half, commits, tags⟩ := ht.regs ok
  exact ⟨(tsorted_filter _ words).1, (tsorted_filter _ live).1, half, commits, tags⟩

theorem arbLoad_kept {b} (h : Kept σ s) : Kept σ (arbLoad b s) := 
  kept_ite (kept_filterRegs h (forEach_kept (fun _ _ => updArb_kept) h)) (loadWords_kept (forEach_kept (fun _ _ => updArb_kept) h))

end

end Sys2Proof.Machine
end

section
/-! SUPPORT. What the operations of the glade fabric keep (Machine/Fabric.lean, in its order): `Kept` (Laws/Kept.lean) carried through each. -/

namespace Sys2Proof.Machine

section
variable {σ s : State}

theorem slotWrite_kept {n w stale} (h : Kept σ s) : Kept σ (slotWrite n w stale s) :=
  writeSignal_kept _ _ _ _ h

theorem injectInputs_kept {n} (h : Kept σ s) : Kept σ (injectInputs n s).2 :=
  foldl_kept_of (p := Prod.snd) (fun _ _ h => kept_ite_snd (injectUse_kept h) h) h

theorem evalSlotOn_kept {n pl tNs inv} (h : Kept σ s) : Kept σ (evalSlotOn n pl tNs inv s) :=
  whenDo_kept (fun _ => raise_kept _ _ _ _) (forEach_kept (fun _ _ => raise_kept _ _ _ _) (slotWrite_kept (updSlot_kept h)))

theorem haltSlot_kept {n} (h : Kept σ s) : Kept σ (haltSlot n s) :=
  slotWrite_kept (updSlot_kept h)

theorem injectPairs_kept {n} (h : Kept σ s) : Kept σ (injectPairs n s) :=
  forEach_kept
    (fun _ _ h1 => kept_ite h1 (kept_ite (raise_kept _ _ _ _ (haltSlot_kept (injectUse_kept h1))) (raise_kept _ _ _ _ (injectUse_kept h1)))) h

theorem evalSlot_kept {n pl tNs} (h : Kept σ s) : Kept σ (evalSlot n pl tNs s) :=
  kept_ite h (have h1 := injectPairs_kept h; kept_ite h1 (evalSlotOn_kept (injectInputs_kept h1)))

theorem evalTile_kept {c t snap} (h : Kept σ s) : Kept σ (evalTile c t snap s) :=
  foldl_kept_of (p := Prod.snd) (fun _ _ => evalSlot_kept) h

theorem slotOverrun_kept {c t} (h : Kept σ s) : Kept σ (slotOverrun c t s) :=
  kept_ite (raise_kept _ _ _ _ (updTile_kept (kept_mk h rfl id)))
    (raise_kept _ _ _ _ (forEach_kept (fun _ _ h4 => slotWrite_kept (updSlot_kept h4)) (updTile_kept (kept_mk h rfl id))))

theorem evalRank_kept {c r late} (h : Kept σ s) : Kept σ (evalRank c r late s) :=
  forEach_kept (fun _ _ h1 => kept_ite (kept_ite (slotOverrun_kept h1) (evalTile_kept h1)) h1) h

theorem adoptClassDone_kept {c} (h : Kept σ s) : Kept σ (adoptClassDone c s) :=
  kept_mk h rfl id

theorem adoptCheck_kept (h : Kept σ s) : Kept σ (adoptCheck s) :=
  forEach_kept (fun _ _ h2 => kept_ite (kept_mk h2 rfl id) h2) (kept_ite (kept_mk h rfl id) h)

theorem fabricTick_kept {c late} (h : Kept σ s) : Kept σ (fabricTick c late s) :=
  kept_ite (adoptCheck_kept (adoptClassDone_kept (forEach_kept (fun _ _ => evalRank_kept) h))) h

@[simp] theorem doSignalChangeEvaluate_kept {slot} (h : Kept σ s) : Kept σ (doSignalChangeEvaluate slot s) :=
  kept_ite (adoptCheck_kept (kept_mk (evalSlot_kept (kept_mk h rfl id)) rfl id)) h

theorem markChanged_kept {old} (h : Kept σ s) : Kept σ (markChanged old s) :=
  kept_mk h rfl id

/-- A slot's output as a load leaves it: stale, with its complements. -/
theorem loadTiles_kept {b ts} (h : Kept σ s) : Kept σ (loadTiles b ts s) := by
  unfold loadTiles
  refine markChanged_kept (forEach_kept (fun t s h => forEach_kept (fun k s h => ?_) (updTile_kept h)) h)
  have plain : (0xFFFFFFFF : Word) = ~~~0 := by decide
  exact kept_gld (updSlot_kept h) (plane_tset (fun _ => ⟨plain, rfl⟩) rfl)

theorem beginLoading_kept {b} (h : Kept σ s) : Kept σ (beginLoading b s) :=
  loadSignals_kept _ _ (loadTiles_kept (kept_mk h rfl id))

@[simp] theorem doStructureLoad_kept (h : Kept σ s) : Kept σ (doStructureLoad s) := by
  unfold doStructureLoad
  split
  · exact h
  · exact kept_ite (beginLoading_kept h) (kept_ite (beginLoading_kept h) (kept_ite (kept_mk h rfl id) h))

theorem beginAdopting_kept (h : Kept σ s) : Kept σ (beginAdopting s) :=
  adoptCheck_kept (kept_mk h rfl id)

theorem beginQuarterAdopting_kept {q} (h : Kept σ s) : Kept σ (beginQuarterAdopting q s) :=
  adoptCheck_kept (kept_mk h rfl id)

@[simp] theorem doStructureLoadDone_kept {quarter readbackOk} (h : Kept σ s) : Kept σ (doStructureLoadDone quarter readbackOk s) := by
  have lost := dropStructure_kept _ h
  unfold doStructureLoadDone
  generalize dropStructure s = u at lost
  split
  · exact kept_ite (kept_ite (beginAdopting_kept h) (raise_kept _ _ _ _ (kept_mk lost rfl id))) h
  · exact kept_ite (kept_ite (beginQuarterAdopting_kept h) (raise_kept _ _ _ _ (forEach_kept (fun _ _ => updTile_kept) h))) h

theorem haltTile_kept {t} (h : Kept σ s) : Kept σ (haltTile t s) :=
  forEach_kept (fun _ _ h1 => kept_ite (haltSlot_kept h1) h1) (updTile_kept h)

@[simp] theorem doParamEccError_kept {tile e} (h : Kept σ s) : Kept σ (doParamEccError tile e s) := by
  dsimp only [doParamEccError]
  split
  · exact raise_kept _ _ _ _ h
  · exact raise_kept _ _ _ _ h
  · split
    · exact raise_kept _ _ _ _ (haltSlot_kept h)
    · exact h
  · exact raise_kept _ _ _ _ (haltTile_kept h)

theorem stageWrite_kept {path t p comp value} (h : Kept σ s) : Kept σ (stageWrite path t p comp value s) :=
  kept_ite (updTile_kept h) (raise_kept _ _ _ _ h)

@[simp] theorem doParamStageWrite_kept {path tile pair comp value} (h : Kept σ s) : Kept σ (doParamStageWrite path tile pair comp value s) :=
  stageWrite_kept h

theorem tileResult_kept {t code first} (h : Kept σ s) : Kept σ (tileResult t code first s) :=
  updTile_kept h

theorem tileCommit_kept {t} (h : Kept σ s) : Kept σ (tileCommit t s) := by
  dsimp only [tileCommit]
  split
  · exact tileResult_kept h
  · split
    · exact tileResult_kept h
    · exact updTile_kept h

theorem tileDiscard_kept {t} (h : Kept σ s) : Kept σ (tileDiscard t s) :=
  updTile_kept h

theorem tilePathFault_kept {path t off w} (h : Kept σ s) : Kept σ (tilePathFault path t off w s) :=
  raise_kept _ _ _ _ h

@[simp] theorem doTileCommit_kept {path tile} (h : Kept σ s) : Kept σ (doTileCommit path tile s) :=
  kept_ite (tileCommit_kept h) (tilePathFault_kept h)

@[simp] theorem doTileDiscard_kept {path tile} (h : Kept σ s) : Kept σ (doTileDiscard path tile s) :=
  kept_ite (tileDiscard_kept h) (tilePathFault_kept h)

theorem tileApply_kept {t} (h : Kept σ s) : Kept σ (tileApply t s) := by
  unfold tileApply
  split
  · exact kept_ite (updTile_kept h) h
  · exact h

@[simp] theorem doTileCommitApply_kept {tile} (h : Kept σ s) : Kept σ (doTileCommitApply tile s) :=
  tileApply_kept h

theorem groupTileResult_kept {r} (h : Kept σ s) : Kept σ (groupTileResult r s) := by
  unfold groupTileResult
  split
  · exact tileResult_kept h
  · exact tileResult_kept h

/-- The verdict of a group whose tile `first` was the first to fail. -/
def groupRejected (first : Nat) (s : State) : State :=
  { s with gld.groupResult := 6, gld.groupFirst := first, gld.groupSeq := inc8 s.gld.groupSeq }

theorem groupReject_eq {first} : groupReject first s = groupRejected first (forEach (groupFindings s) groupTileResult s) := rfl

theorem groupRejected_kept {first} (h : Kept σ s) : Kept σ (groupRejected first s) := kept_mk h rfl id

theorem groupReject_kept {first} (h : Kept σ s) : Kept σ (groupReject first s) := by
  rw [groupReject_eq]
  exact groupRejected_kept (forEach_kept (fun _ _ => groupTileResult_kept) h)

/-- The commit of a group's tiles `ts`, waiting for the end of their evaluations. -/
def groupTaken (ts : List Nat) (s : State) : State := { s with gld.groupPend := some (s.now, ts) }

theorem groupAccept_eq :
    groupAccept s = groupTaken (groupTiles s) (forEach (groupTiles s) (fun t => updTile t (fun x => { x with pending := some (s.now, x.staged) })) s) := rfl

theorem groupTaken_kept {ts} (h : Kept σ s) : Kept σ (groupTaken ts s) := kept_mk h rfl id

theorem groupAccept_kept (h : Kept σ s) : Kept σ (groupAccept s) := by
  rw [groupAccept_eq]
  exact groupTaken_kept (forEach_kept (fun _ _ => updTile_kept) h)

theorem groupCommit_kept (h : Kept σ s) : Kept σ (groupCommit s) := by
  unfold groupCommit
  exact kept_ite (kept_mk h rfl id) (by split; exacts [groupReject_kept h, groupAccept_kept h])

@[simp] theorem doGroupCommit_kept {path} (h : Kept σ s) : Kept σ (doGroupCommit path s) := by
  unfold doGroupCommit
  split
  · exact kept_ite (groupCommit_kept h) (tilePathFault_kept h)
  · exact tilePathFault_kept h

theorem groupApply_kept (h : Kept σ s) : Kept σ (groupApply s) := by
  unfold groupApply
  split
  · exact kept_ite (forEach_kept (fun _ _ => tileApply_kept) (kept_mk h rfl id)) h
  · exact h

@[simp] theorem doGroupCommitApply_kept (h : Kept σ s) : Kept σ (doGroupCommitApply s) :=
  groupApply_kept h

end

end Sys2Proof.Machine
end

section
/-! SUPPORT. What the operations of power sequencing keep (Machine/Seq.lean, in its order): `Kept` (Laws/Kept.lean) carried through each. -/

namespace Sys2Proof.Machine

section
variable {σ s : State}

theorem updRail_kept {r f} (h : Kept σ s) : Kept σ (updRail r f s) :=
  kept_mk h rfl id

theorem updGraph_kept {g f} (h : Kept σ s) : Kept σ (updGraph g f s) :=
  kept_mk h rfl id

theorem updStep_kept {g i f} (h : Kept σ s) : Kept σ (updStep g i f s) :=
  updGraph_kept h

theorem setSlotState_kept {k v} (h : Kept σ s) : Kept σ (setSlotState k v s) :=
  kept_mk h rfl id

theorem commandRail_kept {r on} (h : Kept σ s) : Kept σ (commandRail r on s) :=
  kept_ite h (have h1 := updRail_kept h; kept_ite (drivePin_kept _ _ h1) (kept_ite (twSubmit_kept h1) (kept_ite (twSubmit_kept h1) h1)))

theorem readRailStatus_kept {r} (h : Kept σ s) : Kept σ (readRailStatus r s) :=
  kept_ite (twSubmit_kept (updRail_kept h)) h

theorem railCommit_kept (h : Kept σ s) : Kept σ (railCommit s) := by
  unfold railCommit
  split
  · exact h
  · exact nvsQueue_kept h

theorem recordFailure_kept {rail cause phase key} (h : Kept σ s) : Kept σ (recordFailure rail cause phase key s) := by
  dsimp only [recordFailure]
  exact have h1 := kept_mk h rfl id;
    by
    split
    · exact rcdTrigger_kept _ (railCommit_kept (kept_mk h1 rfl id))
    · exact have h2 := kept_mk h1 rfl id;
        kept_ite (railCommit_kept h2) h2

theorem closeEpisode_kept (h : Kept σ s) : Kept σ (closeEpisode s) := by
  unfold closeEpisode
  split
  · exact h
  · exact kept_mk (railCommit_kept (kept_mk h rfl id)) rfl id

theorem episodeDown_kept {key} (h : Kept σ s) : Kept σ (episodeDown key s) :=
  kept_ite ((have h1 := kept_mk h rfl id; kept_ite (closeEpisode_kept h1) h1)) h

theorem enterTrayRunning_kept (h : Kept σ s) : Kept σ (enterTrayRunning s) :=
  kept_mk h rfl id

theorem leaveTrayRunning_kept (h : Kept σ s) : Kept σ (leaveTrayRunning s) :=
  kept_mk h rfl id

theorem releaseCharges_kept (h : Kept σ s) : Kept σ (releaseCharges s) :=
  kept_mk h rfl id

theorem markReady_kept {g} (h : Kept σ s) : Kept σ (markReady g s) :=
  forEach_kept (fun _ _ h1 => kept_ite (updStep_kept h1) h1) h

theorem startReady_kept {n} (h : Kept σ s) : Kept σ (startReady n s) := by
  induction n generalizing s with
  | zero => exact h
  | succ n ih =>
    unfold startReady
    refine kept_ite ?_ h
    split
    · exact ih (updStep_kept h)
    · exact h

theorem promote_kept {g} (h : Kept σ s) : Kept σ (promote g s) :=
  startReady_kept (markReady_kept h)

theorem startGraph_kept {g} (h : Kept σ s) : Kept σ (startGraph g s) :=
  promote_kept (updGraph_kept h)

theorem queueWaited_kept {g i} (h : Kept σ s) : Kept σ (queueWaited g i s) :=
  kept_mk h rfl id

theorem abortGraph_kept {g} (h : Kept σ s) : Kept σ (abortGraph g s) :=
  kept_ite (updGraph_kept (forEach_kept (fun _ _ h2 => updStep_kept (kept_ite (queueWaited_kept (updRail_kept h2)) h2)) h)) h

theorem releasePfw_kept (h : Kept σ s) : Kept σ (releasePfw s) :=
  kept_ite (drivePin_kept _ _ (kept_mk h rfl id)) h

theorem trayDownDone_kept (h : Kept σ s) : Kept σ (trayDownDone s) :=
  note_kept _ (releasePfw_kept (closeEpisode_kept (kept_mk h rfl id)))

theorem trayDownContinue_kept (h : Kept σ s) : Kept σ (trayDownContinue s) :=
  kept_ite (kept_ite (trayDownDone_kept (updGraph_kept h)) (startGraph_kept h)) h

theorem powerDownComplete_kept {g} (h : Kept σ s) : Kept σ (powerDownComplete g s) :=
  have h1 := updGraph_kept h;
    kept_ite (trayDownDone_kept h1) (trayDownContinue_kept (note_kept _ (releasePfw_kept (episodeDown_kept (kept_mk (setSlotState_kept h1) rfl id)))))

theorem powerUpComplete_kept {g} (h : Kept σ s) : Kept σ (powerUpComplete g s) :=
  have h1 := updGraph_kept h;
    kept_ite (forEach_kept (fun _ _ h3 => kept_ite (startGraph_kept (setSlotState_kept h3)) h3) (enterTrayRunning_kept (kept_mk h1 rfl id)))
    (setSlotState_kept h1)

theorem graphCheck_kept {g} (h : Kept σ s) : Kept σ (graphCheck g s) :=
  kept_ite (kept_ite (powerUpComplete_kept h) (powerDownComplete_kept h)) h

theorem completeStep_kept {g i} (h : Kept σ s) : Kept σ (completeStep g i s) :=
  have h1 := updStep_kept h;
    graphCheck_kept (promote_kept (kept_ite (updRail_kept h1) (kept_ite (updRail_kept h1) h1)))

theorem activateEnable_kept {g i} (h : Kept σ s) : Kept σ (activateEnable g i s) :=
  commandRail_kept (updRail_kept (updStep_kept h))

theorem stepAct_kept {g i} (h : Kept σ s) : Kept σ (stepAct g i s) :=
  kept_ite (kept_ite (completeStep_kept h) (kept_ite (updRail_kept (updStep_kept h)) (activateEnable_kept h)))
    (kept_cond (completeStep_kept h)
      (fun h2 => kept_ite (completeStep_kept (kept_ite (commandRail_kept h) h)) (kept_ite h2 (commandRail_kept (updRail_kept (updStep_kept h))))))

@[simp] theorem doStepDelayDone_kept {graph step} (h : Kept σ s) : Kept σ (doStepDelayDone graph step s) :=
  kept_ite (stepAct_kept h) h

theorem stepAdmit_kept {g i} (h : Kept σ s) : Kept σ (stepAdmit g i s) := by
  have h1 := releaseCharges_kept h
  exact kept_ite (activateEnable_kept (queueWaited_kept (kept_mk h1 rfl id))) h1

@[simp] theorem doStepAdmit_kept {graph step} (h : Kept σ s) : Kept σ (doStepAdmit graph step s) :=
  kept_ite (stepAdmit_kept h) h

theorem admitQueue_kept {n} (h : Kept σ s) : Kept σ (admitQueue n s) := by
  induction n generalizing s with
  | zero => exact h
  | succ n ih =>
    unfold admitQueue
    split
    · exact h
    · exact kept_ite (stepAdmit_kept h) (ih (stepAdmit_kept h))

@[simp] theorem doStepQualified_kept {graph step} (h : Kept σ s) : Kept σ (doStepQualified graph step s) :=
  kept_ite (completeStep_kept h) h

theorem supersede_kept (h : Kept σ s) : Kept σ (supersede s) := by
  unfold supersede
  split
  · exact kept_mk h rfl id
  · exact h

theorem cancelHeldUp_kept {k} (h : Kept σ s) : Kept σ (cancelHeldUp k s) := by
  unfold cancelHeldUp
  split
  · exact kept_ite (supersede_kept h) h
  · exact h

theorem markFault_kept {key} (h : Kept σ s) : Kept σ (markFault key s) :=
  kept_ite (kept_mk h rfl id) (kept_mk h rfl id)

theorem slotDown_kept {k fault} (h : Kept σ s) : Kept σ (slotDown k fault s) :=
  have h1 := cancelHeldUp_kept h;
    have h2 := kept_ite (markFault_kept h1) h1;
    kept_ite h2 (graphCheck_kept (startGraph_kept (setSlotState_kept (abortGraph_kept h2))))

theorem trayDown_kept {fault} (h : Kept σ s) : Kept σ (trayDown fault s) :=
  have h1 := cancelHeldUp_kept h;
    have h2 := kept_ite (markFault_kept h1) h1;
    kept_ite h2
    (trayDownContinue_kept
      (forEach_kept (fun _ _ h6 => kept_ite (setSlotState_kept h6) (kept_ite (slotDown_kept h6) h6))
        (kept_mk (leaveTrayRunning_kept (abortGraph_kept h2)) rfl id)))

theorem endHolds_kept (h : Kept σ s) : Kept σ (endHolds s) :=
  kept_mk (forEach_kept (fun _ _ h2 => kept_ite h2 (markFault_kept h2)) h) rfl id

theorem dropWaiting_kept (h : Kept σ s) : Kept σ (dropWaiting s) :=
  forEach_kept (fun _ _ h1 => kept_ite (setSlotState_kept h1) h1) h

theorem enableFail_kept {g i cause} (h : Kept σ s) : Kept σ (enableFail g i cause s) :=
  have h6 := commandRail_kept (abortGraph_kept (raise_kept _ _ _ _ (recordFailure_kept (updRail_kept (updGraph_kept (updStep_kept h))))));
    kept_ite (trayDown_kept (dropWaiting_kept h6)) (slotDown_kept h6)

theorem downFailure_kept {r cause} (h : Kept σ s) : Kept σ (downFailure r cause s) := by
  dsimp only [downFailure]
  exact have h2 := recordFailure_kept (updRail_kept h);
    have h4 := raise_kept _ _ _ _ (kept_ite (kept_mk h2 rfl id) (kept_mk h2 rfl id));
    by split; exacts [completeStep_kept h4, h4]

theorem startHold_kept {k commanded} (h : Kept σ s) : Kept σ (startHold k commanded s) :=
  kept_ite h (drivePin_kept _ _ (kept_mk h rfl id))

theorem startTrayHold_kept {commanded} (h : Kept σ s) : Kept σ (startTrayHold commanded s) :=
  kept_ite h (kept_ite (trayDown_kept (drivePin_kept _ _ (kept_mk h rfl id))) (startHold_kept h))

theorem trayDownToo_kept (h : Kept σ s) : Kept σ (trayDownToo s) :=
  kept_ite h (kept_ite (trayDown_kept (drivePin_kept _ _ (kept_mk h rfl id))) (startHold_kept h))

theorem runningFault_kept {r cause ovoc} (h : Kept σ s) : Kept σ (runningFault r cause ovoc s) :=
  kept_ite
    (have h1 := downFailure_kept h;
      have h2 := kept_ite (commandRail_kept h1) h1;
      kept_ite (trayDownToo_kept (kept_mk h2 rfl id)) h2)
    (have h5 := raise_kept _ _ _ _ (updRail_kept (recordFailure_kept h));
      have h6 := kept_ite (startTrayHold_kept h5) (startHold_kept h5);
      note_kept _ (kept_ite (commandRail_kept h6) h6))

@[simp] theorem doPowerFailHoldExpiry_kept (h : Kept σ s) : Kept σ (doPowerFailHoldExpiry s) :=
  kept_ite h
    (releasePfw_kept
      (forEach_kept
        (fun _ _ h2 => kept_ite (kept_ite (trayDown_kept h2) (kept_ite h2 (episodeDown_kept (note_kept _ (kept_mk h2 rfl id)))))
          (kept_ite (slotDown_kept h2) (kept_ite h2 (episodeDown_kept (note_kept _ (kept_mk (kept_ite (setSlotState_kept h2) h2) rfl id))))))
        (kept_mk h rfl id)))

@[simp] theorem doStepTimeout_kept {graph step} (h : Kept σ s) : Kept σ (doStepTimeout graph step s) :=
  kept_ite (kept_ite (enableFail_kept h) (downFailure_kept h)) h

theorem queueLong_kept {g i} (h : Kept σ s) : Kept σ (queueLong g i s) :=
  kept_ite (raise_kept _ _ _ _ (updStep_kept h)) h

theorem stepEval_kept {g i} (h : Kept σ s) : Kept σ (stepEval g i s) := by
  dsimp only [stepEval]
  split
  · exact doStepDelayDone_kept h
  · exact queueLong_kept h
  · exact kept_ite (kept_ite (enableFail_kept h) (downFailure_kept h)) (kept_ite (doStepQualified_kept h) (doStepTimeout_kept h))
  · exact h

theorem graphEngine_kept (h : Kept σ s) : Kept σ (graphEngine s) := by
  unfold graphEngine
  exact have h1 := forEach_kept (fun _ _ h2 => kept_ite (forEach_kept (fun _ _ => stepEval_kept) h2) h2) h;
    kept_ite h1 (admitQueue_kept (releaseCharges_kept h1))

theorem decideFail_kept {g i cause} (h : Kept σ s) : Kept σ (decideFail g i cause s) := by
  have h1 : Kept σ (updStep g i (fun x => { x with fail := if x.fail = 0 then cause else x.fail }) s) := updStep_kept h
  unfold decideFail
  extract_lets t
  split
  · exact kept_ite (stepEval_kept h1) h1
  · exact h1

theorem railPg_kept {r good pin} (h : Kept σ s) : Kept σ (railPg r good pin s) := by
  unfold railPg
  extract_lets x t
  have ht : Kept σ t := updRail_kept h
  refine kept_ite h (kept_ite (kept_ite (downFailure_kept ht) ht) ?_)
  split
  · exact kept_ite (decideFail_kept (updRail_kept (updStep_kept ht))) (updRail_kept (updStep_kept ht))
  · exact kept_ite (runningFault_kept ht) ht

@[simp] theorem doPgChange_kept {pin level} (h : Kept σ s) : Kept σ (doPgChange pin level s) :=
  forEach_kept (fun _ _ => railPg_kept) (kept_mk h rfl id)

theorem railVsReading_kept {ch mv} (h : Kept σ s) : Kept σ (railVsReading ch mv s) :=
  forEach_kept (fun _ _ h1 => railPg_kept (updRail_kept h1)) h

@[simp] theorem doVsWindowFault_kept {rail} (h : Kept σ s) : Kept σ (doVsWindowFault rail s) := by
  dsimp only [doVsWindowFault]
  split
  · exact kept_ite (runningFault_kept h) h
  · exact h

theorem railStatusRead_kept {r res ov oc notGood fault} (h : Kept σ s) : Kept σ (railStatusRead r res ov oc notGood fault s) := by
  unfold railStatusRead
  extract_lets ok t method noResp lost
  have ht : Kept σ t := updRail_kept h
  refine kept_ite ht ?_
  split
  · exact kept_ite ht (kept_ite (kept_ite (railPg_kept (updStep_kept (updStep_kept ht))) (railPg_kept (updStep_kept ht)))
      (kept_ite (decideFail_kept (updStep_kept ht)) (updStep_kept ht)))
  · refine kept_ite (kept_ite (kept_ite (runningFault_kept ht) (kept_ite (runningFault_kept ht) (kept_ite (runningFault_kept ht) ht)))
      (kept_ite (runningFault_kept ht) ht)) (kept_ite ?_ ht)
    split
    · exact kept_ite (kept_ite (railPg_kept (updStep_kept ht)) (railPg_kept (updStep_kept ht)))
        (kept_ite (decideFail_kept (updStep_kept ht)) (updStep_kept ht))
    · exact ht

theorem railModeBad_kept {r} (h : Kept σ s) : Kept σ (railModeBad r s) := by
  unfold railModeBad
  split
  · exact decideFail_kept h
  · exact h

@[simp] theorem doQueueWaitLong_kept {graph step} (h : Kept σ s) : Kept σ (doQueueWaitLong graph step s) :=
  queueLong_kept h

theorem runSeq.clearFailedRails_kept {k} (h : Kept σ s) : Kept σ (runSeq.clearFailedRails k s) :=
  forEach_kept (fun _ _ => updRail_kept) h

theorem runSeq_kept {w} (h : Kept σ s) : Kept σ (runSeq w s) := by
  unfold runSeq
  extract_lets op ks _ begun cleared _ _ trayCleared
  have hb : Kept σ begun := forEach_kept (fun _ _ => setSlotState_kept) (kept_mk h rfl id)
  clear_value begun
  have hc : Kept σ cleared := forEach_kept (fun _ _ h => setSlotState_kept (runSeq.clearFailedRails_kept h)) h
  clear_value cleared
  have ht : Kept σ trayCleared := kept_ite (kept_mk (runSeq.clearFailedRails_kept hc) rfl id) hc
  clear_value trayCleared
  exact kept_ite (forEach_kept (fun _ _ h => kept_ite (startGraph_kept (setSlotState_kept h)) (setSlotState_kept h)) h)
    (kept_ite (forEach_kept (fun _ _ h => kept_ite (cancelHeldUp_kept (setSlotState_kept h)) (slotDown_kept (h))) h)
    (kept_ite (graphCheck_kept (startGraph_kept hb)) (kept_ite (trayDown_kept h) (kept_mk ht rfl id))))

theorem actSeq_kept {w} (h : Kept σ s) : Kept σ (actSeq w s) :=
  have h1 := kept_mk h rfl id;
    kept_ite (kept_mk h1 rfl id) (kept_ite (kept_mk h1 rfl id) (runSeq_kept (kept_mk h1 rfl id)))

theorem seqCommand_kept {w} (h : Kept σ s) : Kept σ (seqCommand w s) :=
  kept_ite h (have h1 := setTag_kept _ _ _ h; kept_ite (kept_mk h1 rfl id) (actSeq_kept (supersede_kept h1)))

theorem seqCmdWrite_kept {path w} (h : Kept σ s) : Kept σ (seqCmdWrite path w s) :=
  kept_ite (seqCommand_kept (setPair_kept _ _ _ h)) (raise_kept _ _ _ _ h)

@[simp] theorem doSeqSlotUp_kept {path tag mask} (h : Kept σ s) : Kept σ (doSeqSlotUp path tag mask s) :=
  seqCmdWrite_kept h

@[simp] theorem doSeqSlotDown_kept {path tag mask} (h : Kept σ s) : Kept σ (doSeqSlotDown path tag mask s) :=
  seqCmdWrite_kept h

@[simp] theorem doSeqTrayUp_kept {path tag mask} (h : Kept σ s) : Kept σ (doSeqTrayUp path tag mask s) :=
  seqCmdWrite_kept h

@[simp] theorem doSeqTrayDown_kept {path tag} (h : Kept σ s) : Kept σ (doSeqTrayDown path tag s) :=
  seqCmdWrite_kept h

@[simp] theorem doSeqClear_kept {path tag mask tray} (h : Kept σ s) : Kept σ (doSeqClear path tag mask tray s) :=
  seqCmdWrite_kept h

@[simp] theorem doSeqNop_kept {path tag} (h : Kept σ s) : Kept σ (doSeqNop path tag s) :=
  seqCmdWrite_kept h

theorem heldCommandRun_kept (h : Kept σ s) : Kept σ (heldCommandRun s) := by
  unfold heldCommandRun
  split
  · exact kept_ite h (actSeq_kept (kept_mk h rfl id))
  · exact h

@[simp] theorem doHeldCommandRun_kept (h : Kept σ s) : Kept σ (doHeldCommandRun s) :=
  heldCommandRun_kept h

@[simp] theorem doFfrValidClear_kept {path} (h : Kept σ s) : Kept σ (doFfrValidClear path s) :=
  withAuthority_kept (fun _ h1 => kept_mk h1 rfl id) h

theorem takePgPin_kept {r} (h : Kept σ s) : Kept σ (takePgPin r s) :=
  kept_ite (updRail_kept h) h

theorem seqLoad_kept {b} (h : Kept σ s) : Kept σ (seqLoad b s) :=
  have h1 := loadWords_kept (kept_mk h rfl id);
    kept_ite h1
    (forEach_kept (fun _ _ h4 => have h5 := takePgPin_kept (updRail_kept h4); kept_ite (drivePin_kept _ _ h5) h5)
      (forEach_kept (fun _ _ => setSlotState_kept) (kept_mk h1 rfl id)))

@[simp] theorem doSeqAdoptionStart_kept (h : Kept σ s) : Kept σ (doSeqAdoptionStart s) :=
  kept_ite
    (forEach_kept (fun _ _ h3 => have h4 := takePgPin_kept h3; kept_ite (twSubmit_kept h4) h4)
      (forEach_kept (fun _ _ h5 => kept_ite (setSlotState_kept h5) h5) (kept_mk h rfl id))) h

theorem adoptTakeDown_kept (h : Kept σ s) : Kept σ (adoptTakeDown s) :=
  forEach_kept (fun _ _ h2 => kept_ite ((have h3 := kept_mk h2 rfl id; kept_ite (slotDown_kept h3) h3)) h2)
    (kept_ite ((have h4 := kept_mk h rfl id; kept_ite (trayDown_kept h4) h4)) h)

theorem adoptArm_kept (h : Kept σ s) : Kept σ (adoptArm s) :=
  forEach_kept (fun _ _ h1 => kept_ite (updRail_kept h1) h1) h

theorem adoptClassify_kept (h : Kept σ s) : Kept σ (adoptClassify s) :=
  kept_ite
    (have h1 := forEach_kept
          (fun _ _ h8 => kept_ite h8
            (kept_ite (setSlotState_kept h8)
              (kept_ite (kept_mk (setSlotState_kept h8) rfl id) (kept_mk (setSlotState_kept (raise_kept _ _ _ _ (recordFailure_kept h8))) rfl id)))) h;
      adoptTakeDown_kept
      (kept_mk
        (forEach_kept (fun _ _ h4 => kept_ite (kept_ite (startTrayHold_kept h4) h4) (kept_ite (startHold_kept h4) h4))
          (kept_ite (kept_mk h1 rfl id)
            (have h5 := enterTrayRunning_kept (kept_mk h1 rfl id);
              kept_ite h5 (kept_mk (raise_kept _ _ _ _ (recordFailure_kept h5)) rfl id)))) rfl id)) h

theorem adoptRail_kept {r on good} (h : Kept σ s) : Kept σ (adoptRail r on good s) :=
  kept_ite h (updRail_kept h)

@[simp] theorem doAdoptRailReadDone_kept {rail on good} (h : Kept σ s) : Kept σ (doAdoptRailReadDone rail on good s) :=
  kept_ite (adoptClassify_kept (adoptRail_kept h)) h

theorem adoptTick_kept (h : Kept σ s) : Kept σ (adoptTick s) :=
  kept_ite h
    (forEach_kept (fun _ _ h4 => kept_ite (drivePin_kept _ _ h4) h4)
      (forEach_kept (fun _ _ h5 => kept_ite (adoptRail_kept h5) h5)
        (forEach_kept (fun _ _ h6 => kept_ite (adoptRail_kept h6) h6) (presentHeld_kept h))))

theorem seqTick_kept {c} (h : Kept σ s) : Kept σ (seqTick c s) := by
  unfold seqTick
  exact kept_ite (graphEngine_kept (doPowerFailHoldExpiry_kept (adoptTakeDown_kept (adoptArm_kept (adoptClassify_kept (adoptTick_kept h))))))
    (kept_ite (forEach_kept (fun _ _ h1 => kept_ite (readRailStatus_kept h1) h1) h)
      (kept_ite (forEach_kept (fun _ _ h2 => kept_ite (readRailStatus_kept h2) h2) h) h))

end

end Sys2Proof.Machine
end

section
/-! SUPPORT. What the operations of shaping and capping keep (Machine/Shp.lean, in its order): `Kept` (Laws/Kept.lean) carried through each. -/

namespace Sys2Proof.Machine

section
variable {σ s : State}

theorem updShp_kept {k f} (h : Kept σ s) : Kept σ (updShp k f s) :=
  kept_mk h rfl id

theorem afeTrip_kept {c} (h : Kept σ s) : Kept σ (afeTrip c s) :=
  kept_ite (kept_mk h rfl id) h

theorem fastTrip_kept {c} (h : Kept σ s) : Kept σ (fastTrip c s) :=
  kept_ite
    (have h2 := writeFixedSignal_kept (afeTrip_kept h);
      have h3 := kept_ite (kept_mk h2 rfl id) h2;
      have h4 := kept_ite (rcdTrigger_kept _ h3) h3;
      kept_ite (kept_ite (raise_kept _ _ _ _ h4) h4) (kept_ite h4 (kept_ite (raise_kept _ _ _ _ h4) (raise_kept _ _ _ _ h4)))) h

@[simp] theorem doFastTrip_kept {c} (h : Kept σ s) : Kept σ (doFastTrip c s) :=
  kept_ite (afeTrip_kept h) (fastTrip_kept h)

@[simp] theorem doTripLevelFall_kept (h : Kept σ s) : Kept σ (doTripLevelFall s) :=
  kept_ite ((have h1 := kept_mk h rfl id; kept_ite h1 (writeFixedSignal_kept h1))) h

theorem afeSample_kept {v i} (h : Kept σ s) : Kept σ (afeSample v i s) := by
  unfold afeSample
  exact forEach_kept
    (fun _ _ h2 => kept_ite (by split; exacts [h2, kept_mk h2 rfl id]) (kept_mk h2 rfl id)) (kept_mk h rfl id)

theorem sampleMeans_kept (h : Kept σ s) : Kept σ (sampleMeans s) :=
  kept_ite h
    (have h1 := kept_mk h rfl id;
      writeSignal_kept _ _ _ _ (writeSignal_kept _ _ _ _ (writeSignal_kept _ _ _ _ (kept_ite (kept_mk h1 rfl id) h1))))

@[simp] theorem doTraySample_kept {v i ok} (h : Kept σ s) : Kept σ (doTraySample v i ok s) :=
  have h1 := afeSample_kept h;
    kept_ite (forEach_kept (fun _ _ => afeTrip_kept) h1)
    (have h3 := kept_ite (kept_mk h1 rfl id) h1;
      sampleMeans_kept
      (kept_mk (forEach_kept (fun _ _ => fastTrip_kept) (kept_ite (raise_kept _ _ _ _ (kept_mk h3 rfl id)) (kept_ite (kept_mk h3 rfl id) h3))) rfl id))

theorem telemetryDraw_kept {k draw} (h : Kept σ s) : Kept σ (telemetryDraw k draw s) :=
  updShp_kept h

theorem telemetry_kept {k draw demand} (h : Kept σ s) : Kept σ (telemetry k draw demand s) :=
  writeFixedSignal_kept (writeFixedSignal_kept (updShp_kept h))

theorem telemetryDemand_kept {k demand} (h : Kept σ s) : Kept σ (telemetryDemand k demand s) := by
  unfold telemetryDemand
  split
  · exact telemetry_kept h
  · exact h

theorem gclMirror_kept {k power demand hotspot} (h : Kept σ s) : Kept σ (gclMirror k power demand hotspot s) :=
  forEach_kept (fun _ _ h1 => writeSignal_kept _ _ _ _ (kept_mk h1 rfl id)) h

theorem gclMirrorLate_kept (h : Kept σ s) : Kept σ (gclMirrorLate s) :=
  forEach_kept (fun _ _ h1 => kept_ite (staleSignal_kept h1) h1) h

@[simp] theorem doTelemetryRecord_kept {slot power demand hotspot} (h : Kept σ s) : Kept σ (doTelemetryRecord slot power demand hotspot s) :=
  kept_ite (gclMirror_kept (telemetry_kept h)) h

@[simp] theorem doTelemetryStale_kept {slot} (h : Kept σ s) : Kept σ (doTelemetryStale slot s) :=
  kept_ite (raise_kept _ _ _ _ (updShp_kept h)) h

theorem writeAck_kept {k sendUs} (h : Kept σ s) : Kept σ (writeAck k sendUs s) :=
  writeFixedSignal_kept h

@[simp] theorem doMsgAck_kept {slot seq} (h : Kept σ s) : Kept σ (doMsgAck slot seq s) := by
  unfold doMsgAck
  split
  · exact writeAck_kept (updShp_kept h)
  · exact h

theorem leaseMirror_kept {k} (h : Kept σ s) : Kept σ (leaseMirror k s) := by
  unfold leaseMirror
  split
  · exact h
  · exact have h4 := drivePin_kept _ _ (writeSignal_kept _ _ _ _ (updShp_kept (by split; exacts [kept_ite (kept_mk h rfl id) h, h])))
    kept_ite (raise_kept _ _ _ _ h4) h4

theorem writeCap_kept {k i v} (h : Kept σ s) : Kept σ (writeCap k i v s) :=
  kept_mk h rfl id

theorem combineInput_kept {k i} (h : Kept σ s) : Kept σ (combineInput k i s).2 := by
  dsimp only [combineInput]
  split
  · exact h
  · exact kept_ite_snd (kept_mk (injectPair_kept h) rfl id) (raise_kept _ _ _ _ (injectPair_kept h))

theorem combineSlot_kept {k} (h : Kept σ s) : Kept σ (combineSlot k s) :=
  writeSignal_kept _ _ _ _ (updShp_kept (combineInput_kept (combineInput_kept (combineInput_kept (combineInput_kept h)))))

theorem capCombine_kept (h : Kept σ s) : Kept σ (capCombine s) :=
  forEach_kept (fun _ _ => combineSlot_kept) h

theorem sendCap_kept {k} (h : Kept σ s) : Kept σ (sendCap k s) := by
  unfold sendCap
  exact kept_ite (updShp_kept (gclSend_kept h))
    (by split; exacts [kept_ite (updShp_kept (updShp_kept (twSubmit_kept h))) h, h])

theorem sendDueCaps_kept (h : Kept σ s) : Kept σ (sendDueCaps s) :=
  forEach_kept (fun _ _ h1 => kept_ite (sendCap_kept h1) h1) h

theorem passDraws.slotDraw_kept {k} (h : Kept σ s) : Kept σ (passDraws.slotDraw k s) :=
  kept_ite (updShp_kept h) (updShp_kept h)

theorem passDraws.showDraw_kept {k} (h : Kept σ s) : Kept σ (passDraws.showDraw k s) :=
  writeFixedSignal_kept (writeFixedSignal_kept h)

theorem passDraws_kept (h : Kept σ s) : Kept σ (passDraws s) :=
  forEach_kept (fun _ _ h => passDraws.showDraw_kept (passDraws.slotDraw_kept h)) h

theorem passBudget_kept (h : Kept σ s) : Kept σ (passBudget s) :=
  have h1 := kept_mk h rfl id;
    writeFixedSignal_kept (writeFixedSignal_kept (writeFixedSignal_kept (kept_mk (kept_ite (kept_mk h1 rfl id) h1) rfl id)))

theorem passShares_kept (h : Kept σ s) : Kept σ (passShares s) := by
  unfold passShares
  extract_lets parts t
  have ht : Kept σ t := forEach_kept (fun _ _ => updShp_kept) h
  split
  · exact forEach_kept (fun _ _ => updShp_kept) ht
  · exact forEach_kept (fun _ _ h => kept_ite (updShp_kept h) h) (foldl_kept_of (p := fun r : Int × Nat × State => r.2.2) (fun _ _ => updShp_kept) ht)

theorem vfIdle_kept {k} (h : Kept σ s) : Kept σ (vfIdle k s) :=
  updShp_kept h

theorem headRelease_kept {n} (h : Kept σ s) : Kept σ (headRelease n s) := by
  induction n generalizing s with
  | zero => exact h
  | succ n ih =>
    unfold headRelease
    split
    · exact h
    · exact kept_ite h (kept_ite h (kept_ite h (ih (kept_mk (updShp_kept h) rfl id))))

theorem passValley_kept (h : Kept σ s) : Kept σ (passValley s) :=
  forEach_kept (fun _ _ h5 => updShp_kept (kept_ite (kept_mk h5 rfl id) h5))
    (headRelease_kept
      (kept_mk (forEach_kept (fun _ _ => updShp_kept) (forEach_kept (fun _ _ h8 => kept_ite (vfIdle_kept h8) (kept_ite (vfIdle_kept h8) h8)) h)) rfl
        id))

theorem passInputs_kept (h : Kept σ s) : Kept σ (passInputs s) :=
  forEach_kept (fun _ _ h1 => writeCap_kept (writeCap_kept h1)) h

theorem faultInputs_kept (h : Kept σ s) : Kept σ (faultInputs s) :=
  forEach_kept (fun _ _ => writeCap_kept) h

theorem shpPass_kept (h : Kept σ s) : Kept σ (shpPass s) :=
  passInputs_kept (passValley_kept (passShares_kept (passBudget_kept (passDraws_kept h))))

@[simp] theorem doStepHint_kept {slot headReq tailIn tailLen headW headRamp} (h : Kept σ s) : Kept σ (doStepHint slot headReq tailIn tailLen headW headRamp s) :=
  kept_ite h (updShp_kept h)

@[simp] theorem doHintTimeout_kept {slot} (h : Kept σ s) : Kept σ (doHintTimeout slot s) :=
  kept_ite (vfIdle_kept h) h

@[simp] theorem doTailStart_kept {slot} (h : Kept σ s) : Kept σ (doTailStart slot s) :=
  kept_ite (updShp_kept h) h

@[simp] theorem doTailEnd_kept {slot} (h : Kept σ s) : Kept σ (doTailEnd slot s) :=
  kept_ite (updShp_kept h) h

@[simp] theorem doVfWaitTimeout_kept {slot} (h : Kept σ s) : Kept σ (doVfWaitTimeout slot s) :=
  kept_ite (vfIdle_kept h) h

@[simp] theorem doStepPinFall_kept {slot} (h : Kept σ s) : Kept σ (doStepPinFall slot s) :=
  kept_ite (updShp_kept h) h

@[simp] theorem doStepPinRise_kept {slot} (h : Kept σ s) : Kept σ (doStepPinRise slot s) :=
  kept_ite (kept_mk (updShp_kept h) rfl id) h

@[simp] theorem doTrimSaturated_kept (h : Kept σ s) : Kept σ (doTrimSaturated s) := by
  unfold doTrimSaturated
  split
  · exact kept_ite (raise_kept _ _ _ _ (kept_mk h rfl id)) h
  · exact h

theorem powerWindowClose_kept (h : Kept σ s) : Kept σ (powerWindowClose s) := by
  unfold powerWindowClose
  extract_lets _ own brd avg _ s1 _ s2 _ s3 _ c offMs r isPeak r' _
  have h1 : Kept σ s1 := kept_ite (kept_mk h rfl id) h
  have h2 : Kept σ s2 := kept_mk h1 rfl id
  have h3 : Kept σ s3 := kept_mk h2 rfl id
  clear_value s3 c
  refine kept_ite (kept_mk h rfl id) ?_
  split
  · exact kept_mk h3 rfl id
  · extract_lets above r2 s4 peak _ s5 _
    have h4 : Kept σ s4 := kept_mk h3 rfl id
    have h5 : Kept σ s5 := kept_mk h4 rfl id
    clear_value s4 s5
    exact kept_ite (kept_ite h5 (raise_kept _ _ _ _ (kept_mk h5 rfl id))) (kept_mk h4 rfl id)

theorem throttleTime_kept (h : Kept σ s) : Kept σ (throttleTime s) :=
  kept_ite (kept_mk h rfl id) h

theorem schedAct_kept {w} (h : Kept σ s) : Kept σ (schedAct w s) :=
  kept_ite h (have h1 := setTag_kept _ _ _ h; kept_ite (kept_ite (kept_mk h1 rfl id) (kept_mk h1 rfl id)) (kept_ite (kept_mk h1 rfl id) h1))

theorem schedActWrite_kept {path w} (h : Kept σ s) : Kept σ (schedActWrite path w s) :=
  withAuthority_kept (fun _ h1 => schedAct_kept (setPair_kept _ _ _ h1)) h

@[simp] theorem doSchedArm_kept {path tag} (h : Kept σ s) : Kept σ (doSchedArm path tag s) :=
  schedActWrite_kept h

@[simp] theorem doSchedCancel_kept {path tag} (h : Kept σ s) : Kept σ (doSchedCancel path tag s) :=
  schedActWrite_kept h

theorem takeOver_kept (h : Kept σ s) : Kept σ (takeOver s) := by
  unfold takeOver
  split
  · exact kept_ite (kept_mk h rfl id) h
  · exact h

@[simp] theorem doScheduleTakeOver_kept (h : Kept σ s) : Kept σ (doScheduleTakeOver s) :=
  takeOver_kept h

@[simp] theorem doScheduleCheckDone_kept (h : Kept σ s) : Kept σ (doScheduleCheckDone s) := by
  unfold doScheduleCheckDone
  split
  · exact h
  · exact have h1 := kept_mk h rfl id;
      kept_ite (kept_mk h1 rfl id)
      (kept_ite (kept_mk h1 rfl id) (by
          split
          · exact kept_mk h1 rfl id
          · exact kept_ite (kept_mk h1 rfl id)
              (have h3 := kept_mk (by split; exacts [kept_mk h1 rfl id, h1]) rfl id;
                takeOver_kept (kept_ite (raise_kept _ _ _ _ (kept_mk h3 rfl id)) h3))))

end

end Sys2Proof.Machine
end

section
/-! SUPPORT. What the operations of the contract ledger keep (Machine/Ledger.lean, in its order): `Kept` (Laws/Kept.lean) carried through each. -/

namespace Sys2Proof.Machine

section
variable {σ s : State}

theorem writeCheckpoint_kept (h : Kept σ s) : Kept σ (writeCheckpoint s) :=
  nvsQueue_kept h

theorem blockClose_kept (h : Kept σ s) : Kept σ (blockClose s) :=
  kept_ite h (kept_mk h rfl id)

theorem openRecord_kept (h : Kept σ s) : Kept σ (openRecord s) :=
  kept_mk h rfl id

theorem entryAtLoad_kept (h : Kept σ s) : Kept σ (entryAtLoad s) :=
  kept_ite (kept_mk h rfl id) h

theorem ledgerAppend_kept {w excess m} (h : Kept σ s) : Kept σ (ledgerAppend w excess m s) := by
  unfold ledgerAppend
  extract_lets _ _ s1 _ s2
  have h1 : Kept σ s1 := kept_mk h rfl id
  clear_value s1
  have h2 : Kept σ s2 := kept_ite (raise_kept _ _ _ _ (kept_mk h1 rfl id)) (kept_mk h1 rfl id)
  exact writeCheckpoint_kept (kept_ite (blockClose_kept h2) h2)

theorem minuteClose_kept (h : Kept σ s) : Kept σ (minuteClose s) :=
  kept_ite
    (kept_ite (openRecord_kept (kept_mk (kept_mk h rfl id) rfl id))
      (ledgerAppend_kept (openRecord_kept (kept_ite (kept_mk h rfl id) (gclSend_kept (kept_mk h rfl id)))))) h

@[simp] theorem doMinuteClose_kept (h : Kept σ s) : Kept σ (doMinuteClose s) :=
  minuteClose_kept h

theorem appendBlock_kept {b} (h : Kept σ s) : Kept σ (appendBlock b s) :=
  kept_mk h rfl id

theorem ledgerWrite_kept {b} (h : Kept σ s) : Kept σ (ledgerWrite b s) :=
  holdOrDo_kept (fun _ => appendBlock_kept) (kept_mk h rfl id)

@[simp] theorem doLedgerBlockSigned_kept (h : Kept σ s) : Kept σ (doLedgerBlockSigned s) := by
  unfold doLedgerBlockSigned
  split
  · exact h
  · exact kept_ite ((have h1 := kept_mk h rfl id; nvsQueue_kept (ledgerWrite_kept (kept_ite (kept_mk h1 rfl id) h1)))) h

@[simp] theorem doSigningLate_kept (h : Kept σ s) : Kept σ (doSigningLate s) := by
  unfold doSigningLate
  split
  · exact kept_ite (raise_kept _ _ _ _ (kept_mk h rfl id)) h
  · exact h

@[simp] theorem doSpoolWriteDone_kept (h : Kept σ s) : Kept σ (doSpoolWriteDone s) :=
  kept_mk h rfl id

@[simp] theorem doLedgerSpoolRestore_kept (h : Kept σ s) : Kept σ (doLedgerSpoolRestore s) :=
  kept_ite (kept_mk h rfl id) h

@[simp] theorem doLedgerResign_kept (h : Kept σ s) : Kept σ (doLedgerResign s) := by
  unfold doLedgerResign
  split
  · exact kept_ite (doLedgerBlockSigned_kept h) h
  · exact h

theorem ledgerResume_kept (h : Kept σ s) : Kept σ (ledgerResume s) := by
  unfold ledgerResume
  exact kept_mk (by split; exacts [kept_mk h rfl id, kept_mk h rfl id]) rfl id

end

end Sys2Proof.Machine
end

section
/-! SUPPORT. What the operations of the cascade keep (Machine/Cascade.lean, in its order): `Kept` (Laws/Kept.lean) carried through each. -/

namespace Sys2Proof.Machine

section
variable {σ s : State}

theorem updMember_kept {m f} (h : Kept σ s) : Kept σ (updMember m f s) :=
  kept_mk h rfl id

theorem casPortUp_kept {p} (h : Kept σ s) : Kept σ (casPortUp p s) :=
  kept_ite (kept_ite (updMember_kept h) (raise_kept _ _ _ _ (updMember_kept h))) h

theorem casTick_kept (h : Kept σ s) : Kept σ (casTick s) := by
  unfold casTick
  exact kept_ite
    (kept_ite (by
        split
        · exact kept_mk h rfl id
        · exact forEach_kept (fun _ _ h1 => kept_ite (kept_mk h1 rfl id) (gclSend_kept (updMember_kept h1))) h) h) (gclSend_kept h)

theorem casRelay_kept {down m} (h : Kept σ s) : Kept σ (casRelay down m s) :=
  kept_ite (gclSend_kept h) h

@[simp] theorem doMemberCap_kept {port m seq cap capC leaseUs sendUs} (h : Kept σ s) : Kept σ (doMemberCap port m seq cap capC leaseUs sendUs s) :=
  kept_ite (kept_ite (casRelay_kept h) h) (kept_ite (gclSend_kept (kept_mk h rfl id)) h)

@[simp] theorem doMemberReport_kept {m pin demand avg windowEnd} (h : Kept σ s) : Kept σ (doMemberReport m pin demand avg windowEnd s) :=
  kept_ite (updMember_kept h) (casRelay_kept h)

@[simp] theorem doMemberRecord_kept {m words} (h : Kept σ s) : Kept σ (doMemberRecord m words s) :=
  kept_ite (updMember_kept h) (casRelay_kept h)

@[simp] theorem doBoardRecordClose_kept (h : Kept σ s) : Kept σ (doBoardRecordClose s) := by
  unfold doBoardRecordClose
  split
  · exact kept_ite h (ledgerAppend_kept (kept_ite (raise_kept _ _ _ _ (kept_mk h rfl id)) (kept_mk h rfl id)))
  · exact h

@[simp] theorem doMemberLost_kept {m} (h : Kept σ s) : Kept σ (doMemberLost m s) :=
  kept_ite (raise_kept _ _ _ _ (kept_mk h rfl id)) h

@[simp] theorem doMemberLeaseExpiry_kept (h : Kept σ s) : Kept σ (doMemberLeaseExpiry s) := by
  unfold doMemberLeaseExpiry
  split
  · exact kept_ite (raise_kept _ _ _ _ (kept_mk h rfl id)) h
  · exact h

end

end Sys2Proof.Machine
end

section
/-! SUPPORT. What the operations of thermal supervision keep (Machine/Thm.lean, in its order): `Kept` (Laws/Kept.lean) carried through each. -/

namespace Sys2Proof.Machine

section
variable {σ s : State}

theorem updCh_kept {n f} (h : Kept σ s) : Kept σ (updCh n f s) :=
  kept_mk h rfl id

theorem updGrp_kept {g f} (h : Kept σ s) : Kept σ (updGrp g f s) :=
  kept_mk h rfl id

theorem senseTrip_kept {n v} (h : Kept σ s) : Kept σ (senseTrip n v s) :=
  kept_ite (raise_kept _ _ _ _ (kept_mk (kept_ite (raise_kept _ _ _ _ (kept_mk h rfl id)) (kept_ite (kept_mk h rfl id) h)) rfl id))
    (kept_cond (kept_ite (raise_kept _ _ _ _ (kept_mk h rfl id)) (kept_ite (kept_mk h rfl id) h)) (fun h1 => kept_mk h1 rfl id))

@[simp] theorem doSenseSample_kept {channel raw} (h : Kept σ s) : Kept σ (doSenseSample channel raw s) := by
  dsimp only [doSenseSample]
  split
  · exact h
  · exact have h1 := writeSignal_kept _ _ _ _ h;
      senseTrip_kept (kept_ite (railVsReading_kept h1) h1)

@[simp] theorem doThermalSample_kept {channel value feFault} (h : Kept σ s) : Kept σ (doThermalSample channel value feFault s) := by
  unfold doThermalSample
  split
  · exact h
  · exact kept_ite h (have h2 := writeSignal_kept _ _ _ _ (updCh_kept h); senseTrip_kept (kept_ite (raise_kept _ _ _ _ h2) h2))

@[simp] theorem doChannelPlausible_kept {channel} (h : Kept σ s) : Kept σ (doChannelPlausible channel s) := by
  dsimp only [doChannelPlausible]
  split
  · exact kept_ite (updCh_kept h) h
  · exact h

@[simp] theorem doSampleRateFall_kept {channel} (h : Kept σ s) : Kept σ (doSampleRateFall channel s) := by
  dsimp only [doSampleRateFall]
  split
  · exact kept_ite (updCh_kept h) h
  · exact h

theorem commitShut_kept {r} (h : Kept σ s) : Kept σ (commitShut r s) := by
  unfold commitShut
  exact nvsQueue_kept h

theorem setShutLatch_kept {k kind idx value hottest steps atOnce} (h : Kept σ s) : Kept σ (setShutLatch k kind idx value hottest steps atOnce s) := by
  unfold setShutLatch
  exact have h1 := note_kept _ (kept_mk h rfl id);
    have h3 := forEach_kept (fun _ _ => writeFixedSignal_kept)
        (by split; exacts [kept_mk h1 rfl id, rcdTrigger_kept _ (commitShut_kept (kept_mk h1 rfl id))]);
    kept_ite
    (have h4 := drivePin_kept _ _ (kept_mk h3 rfl id);
      kept_ite (trayDown_kept (endHolds_kept h4)) (kept_ite (kept_mk h4 rfl id) (kept_ite h4 (note_kept _ (releasePfw_kept (kept_mk h4 rfl id))))))
    (kept_ite (kept_ite (startTrayHold_kept (forEach_kept (fun _ _ => abortGraph_kept) h3)) (note_kept _ h3))
      (kept_ite h3 (kept_ite (startHold_kept (abortGraph_kept h3)) (kept_ite (note_kept _ (setSlotState_kept h3)) (note_kept _ h3)))))

theorem shutdownPowerDownDone_kept {key} (h : Kept σ s) : Kept σ (shutdownPowerDownDone key s) := by
  dsimp only [shutdownPowerDownDone]
  split
  · exact kept_ite (commitShut_kept (kept_mk (kept_mk h rfl id) rfl id)) (kept_mk h rfl id)
  · exact kept_mk h rfl id

theorem latchForGroup_kept {g} (h : Kept σ s) : Kept σ (latchForGroup g s) := by
  unfold latchForGroup
  exact setShutLatch_kept (kept_mk h rfl id)

theorem mirrorGroup_kept {g} (h : Kept σ s) : Kept σ (mirrorGroup g s) :=
  kept_mk h rfl id

theorem stepUp_kept {g} (h : Kept σ s) : Kept σ (stepUp g s) :=
  updGrp_kept h

theorem judgeLimit_kept {g} (h : Kept σ s) : Kept σ (judgeLimit g s) :=
  have h1 := updGrp_kept h;
    kept_ite (raise_kept _ _ _ _ h1) h1

@[simp] theorem doStaircaseStep_kept {group} (h : Kept σ s) : Kept σ (doStaircaseStep group s) := by
  dsimp only [doStaircaseStep]
  split
  · exact kept_ite (have h1 := updGrp_kept h; mirrorGroup_kept (judgeLimit_kept (kept_ite (stepUp_kept h1) h1))) h
  · exact h

@[simp] theorem doStaircaseRelease_kept {group} (h : Kept σ s) : Kept σ (doStaircaseRelease group s) := by
  dsimp only [doStaircaseRelease]
  split
  · exact kept_ite (mirrorGroup_kept (updGrp_kept h)) h
  · exact h

theorem evalGroup_kept {g} (h : Kept σ s) : Kept σ (evalGroup g s) :=
  kept_ite h
    (kept_ite (updGrp_kept h)
      (have h1 := updGrp_kept h;
        have h3 := updGrp_kept (kept_ite (raise_kept _ _ _ _ h1) h1);
        kept_ite h3
        (kept_ite (mirrorGroup_kept (latchForGroup_kept (raise_kept _ _ _ _ (updGrp_kept h3))))
          (have h6 := kept_ite (raise_kept _ _ _ _ (updGrp_kept h3)) h3;
            have h7 := kept_ite
                (kept_ite (have h10 := updGrp_kept h6; kept_ite (stepUp_kept (updGrp_kept h10)) h10) (kept_ite (updGrp_kept h6) (updGrp_kept h6))) h6;
            mirrorGroup_kept
            (kept_ite (kept_ite (have h9 := updGrp_kept h7; kept_ite h9 (raise_kept _ _ _ _ h9)) h7)
              (kept_ite (raise_kept _ _ _ _ (updGrp_kept h7)) (kept_ite (updGrp_kept h7) h7)))))))

theorem writeThermal_kept {k} (h : Kept σ s) : Kept σ (writeThermal k s) :=
  driveThr_kept _ (writeFixedSignal_kept (writeCap_kept (kept_mk h rfl id)))

theorem thmTick_kept (h : Kept σ s) : Kept σ (thmTick s) :=
  kept_ite
    (forEach_kept (fun _ _ h3 => kept_ite (writeFixedSignal_kept (writeFixedSignal_kept h3)) h3)
      (writeFixedSignal_kept (forEach_kept (fun _ _ => writeThermal_kept) (forEach_kept (fun _ _ => evalGroup_kept) h)))) h

theorem shdnClr_kept {w} (h : Kept σ s) : Kept σ (shdnClr w s) := by
  unfold shdnClr
  extract_lets tag s1 named j _ s2 _ s3 s4 s5
  have h2 : Kept σ s2 := kept_mk (setTag_kept _ _ _ h) rfl id
  clear_value s2
  have h3 : Kept σ s3 := kept_mk h2 rfl id
  clear_value s3
  have h5 : Kept σ s5 := writeFixedSignal_kept (forEach_kept (fun _ _ h => kept_ite (mirrorGroup_kept (updGrp_kept h)) h) h3)
  clear_value s5
  refine kept_ite h (kept_ite h2 ?_)
  split
  · exact kept_ite (commitShut_kept (kept_mk h5 rfl id)) h5
  · split
    · exact commitShut_kept (kept_mk h5 rfl id)
    · exact h5

theorem shdnClrWrite_kept {path w} (h : Kept σ s) : Kept σ (shdnClrWrite path w s) :=
  kept_ite (shdnClr_kept (setPair_kept _ _ _ h)) (raise_kept _ _ _ _ h)

@[simp] theorem doShdnClrRequest_kept {path tag mask tray} (h : Kept σ s) : Kept σ (doShdnClrRequest path tag mask tray s) :=
  shdnClrWrite_kept h

theorem critKeep_kept {i value faulted} (h : Kept σ s) : Kept σ (critKeep i value faulted s) :=
  kept_mk h rfl id

theorem tcritAsleep_kept {i value faulted} (h : Kept σ s) : Kept σ (tcritAsleep i value faulted s) :=
  have h1 := critKeep_kept h;
    kept_ite (kept_mk h1 rfl id) h1

theorem tcritAwake_kept {i value faulted} (h : Kept σ s) : Kept σ (tcritAwake i value faulted s) :=
  have h1 := writeSignal_kept _ _ _ _ (critKeep_kept h);
    have h2 := kept_ite (senseTrip_kept h1) h1;
    have h3 := kept_ite (have h5 := raise_kept _ _ _ _ h2; kept_ite (raise_kept _ _ _ _ h5) h5) h2;
    kept_ite (setShutLatch_kept (raise_kept _ _ _ _ (rcdTrigger_kept _ (kept_mk h3 rfl id)))) h3

@[simp] theorem doTcritConversion_kept {diode value faulted} (h : Kept σ s) : Kept σ (doTcritConversion diode value faulted s) :=
  kept_ite (tcritAsleep_kept h) (tcritAwake_kept h)

theorem thmLoad_kept {b} (h : Kept σ s) : Kept σ (thmLoad b s) :=
  loadWords_kept (kept_mk h rfl id)

end

end Sys2Proof.Machine
end

section
/-! SUPPORT. What the operations of the leak, flow and pressure channels keep (Machine/Lkf.lean, in its order): `Kept` (Laws/Kept.lean) carried through each. -/

namespace Sys2Proof.Machine

section
variable {σ s : State}

theorem updLkf_kept {c f} (h : Kept σ s) : Kept σ (updLkf c f s) :=
  kept_mk h rfl id

theorem setWet_kept {l} (h : Kept σ s) : Kept σ (setWet l s) :=
  kept_mk h rfl id

theorem enterLkf_kept {c st} (h : Kept σ s) : Kept σ (enterLkf c st s) :=
  have h1 := updLkf_kept h;
    have h2 := kept_ite (writeSignal_kept _ _ _ _ h1) (kept_ite (writeSignal_kept _ _ _ _ h1) h1);
    kept_ite h2
    (kept_ite (kept_ite (raise_kept _ _ _ _ h2) (kept_ite (raise_kept _ _ _ _ h2) h2))
      (kept_ite (raise_kept _ _ _ _ h2) (kept_ite (raise_kept _ _ _ _ h2) h2)))

@[simp] theorem doLeakReading_kept {channel r q} (h : Kept σ s) : Kept σ (doLeakReading channel r q s) :=
  kept_ite h (have h1 := updLkf_kept h; kept_ite (have h2 := updLkf_kept h1; enterLkf_kept (kept_ite (setWet_kept h2) h2)) h1)

@[simp] theorem doLeakNoisy_kept {channel} (h : Kept σ s) : Kept σ (doLeakNoisy channel s) :=
  kept_ite (enterLkf_kept (updLkf_kept h)) h

theorem lkfClear_kept {w} (h : Kept σ s) : Kept σ (lkfClear w s) := by
  dsimp only [lkfClear]
  exact kept_ite h
    (have h1 := setTag_kept _ _ _ h;
      by
      split
      · exact kept_mk h1 rfl id
      · exact forEach_kept (fun _ _ h3 => kept_ite (enterLkf_kept h3) h3) (setWet_kept (kept_mk h1 rfl id)))

theorem lkfClearWrite_kept {path w} (h : Kept σ s) : Kept σ (lkfClearWrite path w s) :=
  kept_ite (lkfClear_kept (setPair_kept _ _ _ h)) (raise_kept _ _ _ _ h)

@[simp] theorem doLkfClearRequest_kept {path tag mask} (h : Kept σ s) : Kept σ (doLkfClearRequest path tag mask s) :=
  lkfClearWrite_kept h

@[simp] theorem doFlowSample_kept {channel x} (h : Kept σ s) : Kept σ (doFlowSample channel x s) :=
  kept_ite h (have h3 := writeSignal_kept _ _ _ _ (updLkf_kept (updLkf_kept h)); kept_ite (enterLkf_kept h3) (kept_ite (enterLkf_kept h3) h3))

@[simp] theorem doFlowAlarm_kept {channel} (h : Kept σ s) : Kept σ (doFlowAlarm channel s) := by
  dsimp only [doFlowAlarm]
  split
  · exact kept_ite (enterLkf_kept h) h
  · exact h

@[simp] theorem doFlowAlarmEnd_kept {channel} (h : Kept σ s) : Kept σ (doFlowAlarmEnd channel s) := by
  dsimp only [doFlowAlarmEnd]
  split
  · exact kept_ite (enterLkf_kept h) h
  · exact h

@[simp] theorem doFlowJudgeStart_kept (h : Kept σ s) : Kept σ (doFlowJudgeStart s) := by
  unfold doFlowJudgeStart
  split
  · exact kept_ite (kept_mk h rfl id) h
  · exact h

theorem lkfReaction_kept (h : Kept σ s) : Kept σ (lkfReaction s) :=
  forEach_kept
    (fun _ _ h1 => kept_ite
      (have h2 := updLkf_kept h1;
        kept_ite (setShutLatch_kept h2) (kept_ite (setShutLatch_kept h2) h2)) (kept_ite (updLkf_kept h1) h1)) h

theorem lkfLoad_kept {b} (h : Kept σ s) : Kept σ (lkfLoad b s) :=
  forEach_kept (fun _ _ => updLkf_kept) (loadWords_kept (kept_mk h rfl id))

end

end Sys2Proof.Machine
end

section
/-! SUPPORT. What the operations of the motor dies keep (Machine/Mot.lean, in its order): `Kept` (Laws/Kept.lean) carried through each. -/

namespace Sys2Proof.Machine

section
variable {σ s : State}

theorem updDie_kept {d f} (h : Kept σ s) : Kept σ (updDie d f s) :=
  kept_mk h rfl id

theorem updMot_kept {c f} (h : Kept σ s) : Kept σ (updMot c f s) :=
  kept_mk h rfl id

theorem enterCh_kept {c st} (h : Kept σ s) : Kept σ (enterCh c st s) :=
  updMot_kept h

theorem chFault_kept {c code} (h : Kept σ s) : Kept σ (chFault c code s) :=
  updMot_kept h

theorem setGoal_kept {c} (h : Kept σ s) : Kept σ (setGoal c s) :=
  updMot_kept h

theorem applyTarget_kept {c} (h : Kept σ s) : Kept σ (applyTarget c s) :=
  kept_ite h (kept_ite (kept_ite (updMot_kept h) (kept_ite (setGoal_kept h) h)) (kept_ite (updMot_kept h) (kept_ite (enterCh_kept h) h)))

theorem applyDie_kept {d} (h : Kept σ s) : Kept σ (applyDie d s) :=
  forEach_kept (fun _ _ => applyTarget_kept) h

theorem faultCh_kept {c code} (h : Kept σ s) : Kept σ (faultCh c code s) :=
  applyDie_kept (chFault_kept (enterCh_kept h))

theorem beginStart_kept {c} (h : Kept σ s) : Kept σ (beginStart c s) :=
  updMot_kept h

theorem failAttempt_kept {c} (h : Kept σ s) : Kept σ (failAttempt c s) :=
  have h2 := updMot_kept (beginStart_kept h);
    kept_ite (faultCh_kept h2) (updMot_kept (enterCh_kept h2))

theorem countStart_kept {c} (h : Kept σ s) : Kept σ (countStart c s) :=
  updMot_kept (beginStart_kept h)

theorem beginAttempt_kept {c st} (h : Kept σ s) : Kept σ (beginAttempt c st s) :=
  enterCh_kept (countStart_kept h)

theorem runCh_kept {c v} (h : Kept σ s) : Kept σ (runCh c v s) :=
  applyTarget_kept (updMot_kept (enterCh_kept h))

theorem hallLost_kept {c} (h : Kept σ s) : Kept σ (hallLost c s) :=
  updMot_kept h

theorem startHall_kept {c ok} (h : Kept σ s) : Kept σ (startHall c ok s) :=
  kept_ite h (kept_ite (updMot_kept h) (hallLost_kept h))

@[simp] theorem doStartWatchEnd_kept {channel speed hallOk} (h : Kept σ s) : Kept σ (doStartWatchEnd channel speed hallOk s) := by
  dsimp only [doStartWatchEnd]
  split
  · exact h
  · exact kept_ite h
      (kept_ite (enterCh_kept h)
        (kept_ite (startHall_kept (runCh_kept (updMot_kept (beginStart_kept h))))
          (kept_ite (updMot_kept h) (kept_ite (startHall_kept (runCh_kept (countStart_kept h))) (startHall_kept (beginAttempt_kept h))))))

@[simp] theorem doReverseCoastEnd_kept {channel} (h : Kept σ s) : Kept σ (doReverseCoastEnd channel s) :=
  kept_ite h (kept_ite (enterCh_kept h) (beginAttempt_kept h))

@[simp] theorem doAlignDone_kept {channel} (h : Kept σ s) : Kept σ (doAlignDone channel s) :=
  kept_ite (enterCh_kept h) h

@[simp] theorem doBemfLock_kept {channel} (h : Kept σ s) : Kept σ (doBemfLock channel s) :=
  kept_ite (runCh_kept h) h

@[simp] theorem doRampNoLock_kept {channel} (h : Kept σ s) : Kept σ (doRampNoLock channel s) :=
  kept_ite (failAttempt_kept h) h

@[simp] theorem doRestDone_kept {channel} (h : Kept σ s) : Kept σ (doRestDone channel s) :=
  kept_ite (updMot_kept h) h

@[simp] theorem doStallDetect_kept {channel cur fund} (h : Kept σ s) : Kept σ (doStallDetect channel cur fund s) :=
  kept_ite (failAttempt_kept h) h

@[simp] theorem doRunCountReset_kept {channel} (h : Kept σ s) : Kept σ (doRunCountReset channel s) :=
  kept_ite (updMot_kept h) h

@[simp] theorem doSenseLost_kept {channel mag} (h : Kept σ s) : Kept σ (doSenseLost channel mag s) :=
  kept_ite (updMot_kept (chFault_kept (enterCh_kept h))) h

@[simp] theorem doSenseRegained_kept {channel} (h : Kept σ s) : Kept σ (doSenseRegained channel s) :=
  kept_ite (runCh_kept h) h

@[simp] theorem doSenseFail_kept {channel fund mag cur} (h : Kept σ s) : Kept σ (doSenseFail channel fund mag cur s) :=
  kept_ite (faultCh_kept h) h

@[simp] theorem doOvercurrent_kept {channel a b} (h : Kept σ s) : Kept σ (doOvercurrent channel a b s) :=
  kept_ite (faultCh_kept h) h

@[simp] theorem doOpenPhase_kept {channel cur} (h : Kept σ s) : Kept σ (doOpenPhase channel cur s) :=
  kept_ite (faultCh_kept h) h

@[simp] theorem doSpeedLow_kept {channel tach} (h : Kept σ s) : Kept σ (doSpeedLow channel tach s) :=
  kept_ite (applyDie_kept (chFault_kept h)) h

@[simp] theorem doSpeedLowClear_kept {channel tach} (h : Kept σ s) : Kept σ (doSpeedLowClear channel tach s) :=
  kept_ite (applyDie_kept (updMot_kept h)) h

@[simp] theorem doHallInvalid_kept {channel} (h : Kept σ s) : Kept σ (doHallInvalid channel s) :=
  kept_ite (hallLost_kept h) h

@[simp] theorem doVmotBusFault_kept {die mv} (h : Kept σ s) : Kept σ (doVmotBusFault die mv s) :=
  kept_ite (forEach_kept (fun _ _ h2 => kept_ite h2 (enterCh_kept h2)) (updDie_kept h)) h

@[simp] theorem doVmotBusRecover_kept {die mv} (h : Kept σ s) : Kept σ (doVmotBusRecover die mv s) :=
  kept_ite (applyDie_kept (updDie_kept h)) h

theorem clearReps_kept (h : Kept σ s) : Kept σ (clearReps s) :=
  forEach_kept (fun _ _ h1 => kept_mk h1 rfl id) h

theorem motTick_kept (h : Kept σ s) : Kept σ (motTick s) :=
  kept_ite h (kept_mk (forEach_kept (fun _ _ h3 => kept_ite (forEach_kept (fun _ _ => writeFixedSignal_kept) h3) h3) (clearReps_kept h)) rfl id)

theorem dieLoadCfg_kept {d id g} (h : Kept σ s) : Kept σ (dieLoadCfg d id g s) :=
  forEach_kept (fun _ _ h2 => have h3 := updMot_kept h2; kept_ite (updMot_kept (enterCh_kept h3)) (kept_ite (enterCh_kept h3) h3)) (updDie_kept h)

theorem dieClear_kept {d mask} (h : Kept σ s) : Kept σ (dieClear d mask s) :=
  forEach_kept (fun _ _ h1 => kept_ite (updMot_kept (enterCh_kept h1)) h1) h

@[simp] theorem doHeartbeatReceive_kept {die crcOk badPairs} (h : Kept σ s) : Kept σ (doHeartbeatReceive die crcOk badPairs s) := by
  dsimp only [doHeartbeatReceive]
  split
  · exact h
  · exact kept_ite (updDie_kept h)
      (applyDie_kept
        (updDie_kept
          (forEach_kept (fun _ _ h5 => kept_ite h5 (kept_ite (updMot_kept (injectUse_kept h5)) (kept_ite (updMot_kept h5) (updMot_kept h5))))
            (dieClear_kept (by split; exacts [dieLoadCfg_kept h, h])))))

@[simp] theorem doDieFailsafe_kept {die} (h : Kept σ s) : Kept σ (doDieFailsafe die s) :=
  kept_ite (applyDie_kept (updDie_kept h)) h

@[simp] theorem doSetpointLost_kept {channel} (h : Kept σ s) : Kept σ (doSetpointLost channel s) :=
  kept_ite (applyTarget_kept (updMot_kept h)) h

@[simp] theorem doHostSilence_kept {die} (h : Kept σ s) : Kept σ (doHostSilence die s) :=
  kept_ite (applyDie_kept (updDie_kept h)) h

theorem raiseChannelReport_kept {c code} (h : Kept σ s) : Kept σ (raiseChannelReport c code s) := by
  unfold raiseChannelReport
  split
  · exact raise_kept _ _ _ _ h
  · exact raise_kept _ _ _ _ h
  · exact raise_kept _ _ _ _ h
  · exact raise_kept _ _ _ _ h
  · exact raise_kept _ _ _ _ h
  · exact raise_kept _ _ _ _ h
  · exact raise_kept _ _ _ _ h
  · exact raise_kept _ _ _ _ h
  · exact raise_kept _ _ _ _ h
  · exact raise_kept _ _ _ _ h

@[simp] theorem doHeartbeatReply_kept {die r} (h : Kept σ s) : Kept σ (doHeartbeatReply die r s) :=
  have h1 := injectCheck_kept h;
    kept_ite (raise_kept _ _ _ _ (kept_mk h1 rfl id))
    (have h4 := forEach_kept (fun _ _ h9 => raise_kept _ _ _ _ (kept_mk h9 rfl id))
          (writeFixedSignal_kept
            (forEach_kept
              (fun _ _ h10 => updMot_kept
                (forEach_kept (fun _ _ => raiseChannelReport_kept)
                  (writeFixedSignal_kept (writeFixedSignal_kept (writeFixedSignal_kept (kept_mk h10 rfl id)))))) h1));
      have h5 := kept_ite (raise_kept _ _ _ _ h4) h4;
      have h6 := kept_ite (raise_kept _ _ _ _ h5) h5;
      updDie_kept (kept_mk (kept_ite (raise_kept _ _ _ _ h6) h6) rfl id))

theorem motClear_kept {w} (h : Kept σ s) : Kept σ (motClear w s) := by
  dsimp only [motClear]
  exact kept_ite h (have h1 := setTag_kept _ _ _ h; by split; exacts [kept_mk h1 rfl id, kept_mk h1 rfl id])

theorem motClearWrite_kept {path w} (h : Kept σ s) : Kept σ (motClearWrite path w s) :=
  kept_ite (motClear_kept (setPair_kept _ _ _ h)) (raise_kept _ _ _ _ h)

@[simp] theorem doMotClearRequest_kept {path tag mask} (h : Kept σ s) : Kept σ (doMotClearRequest path tag mask s) :=
  motClearWrite_kept h

theorem motLoad_kept {b} (h : Kept σ s) : Kept σ (motLoad b s) :=
  loadWords_kept (kept_mk h rfl id)

end

end Sys2Proof.Machine
end

section
/-! SUPPORT. What the operations of the items' signatures keep (Machine/Keys.lean, in its order): `Kept` (Laws/Kept.lean) carried through each. -/

namespace Sys2Proof.Machine

section
variable {σ s : State}

theorem rereads_kept {l} (h : Kept σ s) : Kept σ (rereads l s) :=
  forEach_kept (fun _ _ => forEach_kept (fun _ _ => raise_kept _ _ _ _)) h

end

end Sys2Proof.Machine
end

section
/-! SUPPORT. What the operations of the flight recorder keep (Machine/Recorder.lean, in its order): `Kept` (Laws/Kept.lean) carried through each. -/

namespace Sys2Proof.Machine

section
variable {σ s : State}

theorem rcdPut_kept {stream time ws} (h : Kept σ s) : Kept σ (rcdPut stream time ws s) :=
  kept_ite h (kept_mk h rfl id)

theorem rcdFlush_kept {n stream t ws} (h : Kept σ s) : Kept σ (rcdFlush n stream t ws s) := by
  induction n generalizing t ws s with
  | zero => exact kept_mk h rfl id
  | succ n ih => exact ih (rcdPut_kept h)

theorem rcdWords_kept {stream ws} (h : Kept σ s) : Kept σ (rcdWords stream ws s) :=
  kept_ite (rcdFlush_kept h) h

theorem rcdEvent_kept {e} (h : Kept σ s) : Kept σ (rcdEvent e s) :=
  kept_ite (rcdWords_kept (kept_mk h rfl id)) h

theorem rcdTick_kept {c} (h : Kept σ s) : Kept σ (rcdTick c s) :=
  kept_ite h (kept_ite (rcdWords_kept h) (kept_ite (rcdWords_kept (kept_mk h rfl id)) (kept_ite (rcdWords_kept h) h)))

theorem rcdWindow_kept {ch n} (h : Kept σ s) : Kept σ (rcdWindow ch n s).2 :=
  kept_mk h rfl id

end

end Sys2Proof.Machine
end

section
/-! SUPPORT. What the operations of the Canopy engine keep (Machine/Canopy.lean, in its order): `Kept` (Laws/Kept.lean) carried through each. -/

namespace Sys2Proof.Machine

section
variable {σ s : State}

theorem updModel_kept {m f} (h : Kept σ s) : Kept σ (updModel m f s) :=
  kept_mk h rfl id

theorem updCt_kept {t f} (h : Kept σ s) : Kept σ (updCt t f s) :=
  kept_mk h rfl id

theorem staleOutputs_kept {m} (h : Kept σ s) : Kept σ (staleOutputs m s) := by
  unfold staleOutputs
  split
  · exact h
  · exact forEach_kept (fun _ _ => writeSignal_kept _ _ _ _) (updModel_kept h)

theorem relRecord_kept {r} (h : Kept σ s) : Kept σ (relRecord r s) :=
  kept_ite (rcdEvent_kept h) (kept_ite (kept_mk h rfl id) (raise_kept _ _ _ _ (kept_mk h rfl id)))

theorem enterWarmup_kept {m} (h : Kept σ s) : Kept σ (enterWarmup m s) :=
  updModel_kept (kept_mk (staleOutputs_kept h) rfl id)

theorem afterJob_kept {m} (h : Kept σ s) : Kept σ (afterJob m s) :=
  kept_ite h (kept_ite (updModel_kept (kept_mk (staleOutputs_kept h) rfl id)) (kept_ite (updModel_kept (staleOutputs_kept h)) h))

theorem countMiss_kept {m} (h : Kept σ s) : Kept σ (countMiss m s) :=
  have h1 := updModel_kept h;
    kept_ite (raise_kept _ _ _ _ h1) h1

theorem sramOff_kept (h : Kept σ s) : Kept σ (sramOff s) :=
  kept_ite (kept_mk h rfl id) h

theorem dispatchTiles_kept (h : Kept σ s) : Kept σ (dispatchTiles s) :=
  sramOff_kept (forEach_kept (fun _ _ h1 => kept_ite h1 (updCt_kept h1)) h)

theorem dropJob_kept {m last} (h : Kept σ s) : Kept σ (dropJob m last s) := by
  unfold dropJob
  split
  · exact h
  · exact dispatchTiles_kept
      (afterJob_kept (relRecord_kept (staleOutputs_kept (forEach_kept (fun _ _ h3 => kept_ite (updCt_kept h3) h3) (updModel_kept h)))))

theorem jobComplete_kept {m} (h : Kept σ s) : Kept σ (jobComplete m s) := by
  dsimp only [jobComplete]
  split
  · exact have h1 := updModel_kept h;
      afterJob_kept (relRecord_kept (kept_ite (forEach_kept (fun _ _ => writeSignal_kept _ _ _ _) h1) h1))
  · exact h

theorem advanceJob_kept {n m} (h : Kept σ s) : Kept σ (advanceJob n m s) := by
  induction n generalizing s with
  | zero => exact h
  | succ n ih =>
    unfold advanceJob
    split
    · refine kept_ite ?_ h
      split
      · exact ih (updModel_kept h)
      · exact jobComplete_kept h
    · exact h

theorem faultModel_kept {m} (h : Kept σ s) : Kept σ (faultModel m s) :=
  have h1 := dropJob_kept (staleOutputs_kept h);
    kept_ite (updModel_kept h1) h1

theorem haltCt_kept {t src inj} (h : Kept σ s) : Kept σ (haltCt t src inj s) := by
  unfold haltCt
  exact forEach_kept
    (fun _ _ h3 => by split; exacts [kept_ite (faultModel_kept h3) h3, h3]) (raise_kept _ _ _ _ (updCt_kept h))

theorem twinFail_kept {d m t layer inj} (h : Kept σ s) : Kept σ (twinFail d m t layer inj s) :=
  have h4 := updCt_kept (dropJob_kept (raise_kept _ _ _ _ (updModel_kept h)));
    kept_ite (haltCt_kept h4) h4

theorem segInject_kept {t m l} (h : Kept σ s) : Kept σ (segInject t m l s).2 := by
  unfold segInject
  split
  · exact h
  · exact injectUse_kept h

theorem stateEcc_kept {m inj} (h : Kept σ s) : Kept σ (stateEcc m inj s) :=
  have h1 := raise_kept _ _ _ _ (dropJob_kept h);
    dispatchTiles_kept (kept_ite (enterWarmup_kept h1) h1)

theorem weightFault_kept {t m f inj} (h : Kept σ s) : Kept σ (weightFault t m f inj s) := by
  unfold weightFault
  split
  · exact dispatchTiles_kept (haltCt_kept h)
  · exact dispatchTiles_kept (raise_kept _ _ _ _ (dropJob_kept h))

theorem segmentResult_kept {t m r} (h : Kept σ s) : Kept σ (segmentResult t m r s) := by
  unfold segmentResult
  split
  · exact have h1 := updModel_kept h;
      kept_ite (dispatchTiles_kept (advanceJob_kept h1))
      (kept_ite (dispatchTiles_kept (twinFail_kept (injectCheck_kept h1))) (dispatchTiles_kept (advanceJob_kept (updCt_kept (injectCheck_kept h1)))))
  · exact dispatchTiles_kept h

@[simp] theorem doSegmentDone_kept {tile r} (h : Kept σ s) : Kept σ (doSegmentDone tile r s) := by
  dsimp only [doSegmentDone]
  split
  · exact h
  · exact have h1 := updCt_kept (segInject_kept h);
      have h2 := kept_ite (raise_kept _ _ _ _ h1) h1;
      by split; exacts [weightFault_kept h2, weightFault_kept h2, stateEcc_kept h2, segmentResult_kept h2]

theorem missJob_kept {m j} (h : Kept σ s) : Kept σ (missJob m j s) :=
  countMiss_kept (raise_kept _ _ _ _ (dropJob_kept (updModel_kept h)))

@[simp] theorem doDeadlineMiss_kept {model} (h : Kept σ s) : Kept σ (doDeadlineMiss model s) := by
  unfold doDeadlineMiss
  split
  · exact h
  · exact kept_ite h (missJob_kept h)

theorem expireJobs_kept (h : Kept σ s) : Kept σ (expireJobs s) := by
  unfold expireJobs
  exact forEach_kept (fun _ _ h1 => by split; exacts [kept_ite (missJob_kept h1) h1, h1]) h

theorem snapInput_kept {m k e acc} (h : Kept σ acc.2.2) : Kept σ (snapInput m k e acc).2.2 := by
  unfold snapInput
  split
  · exact rcdWindow_kept h
  · have used : Kept σ (if injectArmed uCNP 2 m acc.2.2 then injectUse uCNP acc.2.2 else acc.2.2) := kept_ite (injectUse_kept h) h
    exact kept_ite (updModel_kept used) (raise_kept _ _ _ _ (updModel_kept used))

theorem startModel_kept {d} (h : Kept σ s) : Kept σ (startModel d s) :=
  kept_ite (updModel_kept (staleOutputs_kept h)) (enterWarmup_kept h)

theorem releaseModel_kept {d} (h : Kept σ s) : Kept σ (releaseModel d s) := by
  unfold releaseModel
  extract_lets m s1 s2 x s3
  have h1 : Kept σ s1 := by
    unfold s1
    split
    · exact kept_ite (missJob_kept h) h
    · exact h
  clear_value s1
  have h2 : Kept σ s2 := kept_ite (startModel_kept h1) h1
  have h3 : Kept σ s3 := updModel_kept h2
  clear_value s2 s3
  split
  · exact h2
  · extract_lets r s4
    have h4 : Kept σ s4 := foldl_kept_of (p := fun r : List Word × Bool × State => r.2.2) (fun _ _ => snapInput_kept) h3
    clear_value s4
    refine kept_ite h2 (kept_ite (countMiss_kept (relRecord_kept (staleOutputs_kept (updModel_kept h4)))) ?_)
    split
    · exact h4
    · exact advanceJob_kept (updModel_kept h4)

theorem cnpTick_kept {c} (h : Kept σ s) : Kept σ (cnpTick c s) :=
  kept_ite (expireJobs_kept h) (kept_ite h (dispatchTiles_kept (forEach_kept (fun _ _ h1 => kept_ite (releaseModel_kept h1) h1) h)))

theorem cnpReport_kept {tag res step m} (h : Kept σ s) : Kept σ (cnpReport tag res step m s) :=
  kept_mk h rfl id

theorem cnpResult_kept {tag res step m} (h : Kept σ s) : Kept σ (cnpResult tag res step m s) :=
  have h1 := cnpReport_kept h;
    kept_ite h1 (raise_kept _ _ _ _ h1)

theorem cnpAccept_kept {tag m img srcOk len dg} (h : Kept σ s) : Kept σ (cnpAccept tag m img srcOk len dg s) := by
  unfold cnpAccept
  split
  · exact cnpResult_kept h
  · exact kept_ite (cnpResult_kept h) (by
        split
        · exact kept_ite (cnpResult_kept h) (kept_ite (cnpResult_kept h) (kept_ite (cnpResult_kept h) (kept_mk h rfl id)))
        · exact cnpResult_kept h)

theorem cnpCommand_kept {w} (h : Kept σ s) : Kept σ (cnpCommand w s) := by
  unfold cnpCommand
  extract_lets tag op m t x src len top
  have ht : Kept σ t := setTag_kept _ _ _ h
  refine kept_ite h (kept_ite (cnpAccept_kept ht) (kept_ite ?_ ht))
  split
  · exact cnpReport_kept ht
  · exact kept_ite (cnpReport_kept ht) (kept_ite (kept_ite (afterJob_kept (updModel_kept (cnpReport_kept ht))) (cnpReport_kept ht))
      (kept_ite (kept_ite (kept_ite (cnpReport_kept ht) (enterWarmup_kept (cnpReport_kept ht))) (cnpReport_kept ht))
      (kept_ite (updModel_kept (cnpReport_kept ht)) (cnpReport_kept ht))))

theorem cnpCmdWrite_kept {path w} (h : Kept σ s) : Kept σ (cnpCmdWrite path w s) :=
  kept_ite (cnpCommand_kept (setPair_kept _ _ _ h)) (raise_kept _ _ _ _ h)

@[simp] theorem doCnpLoad_kept {path tag model} (h : Kept σ s) : Kept σ (doCnpLoad path tag model s) :=
  cnpCmdWrite_kept h

@[simp] theorem doCnpSuspend_kept {path tag model} (h : Kept σ s) : Kept σ (doCnpSuspend path tag model s) :=
  cnpCmdWrite_kept h

@[simp] theorem doCnpResume_kept {path tag model} (h : Kept σ s) : Kept σ (doCnpResume path tag model s) :=
  cnpCmdWrite_kept h

@[simp] theorem doCnpResetState_kept {path tag model} (h : Kept σ s) : Kept σ (doCnpResetState path tag model s) :=
  cnpCmdWrite_kept h

theorem bootNext_kept {n} (h : Kept σ s) : Kept σ (bootNext n s) := by
  induction n generalizing s with
  | zero => exact h
  | succ n ih =>
    unfold bootNext
    refine kept_ite h ?_
    split
    · exact h
    · exact ih (cnpAccept_kept (kept_mk h rfl id))

@[simp] theorem doStagedHashDone_kept (h : Kept σ s) : Kept σ (doStagedHashDone s) := by
  unfold doStagedHashDone
  split
  · exact kept_ite h (kept_ite (afterJob_kept (updModel_kept (kept_mk h rfl id))) (bootNext_kept (cnpResult_kept (kept_mk h rfl id))))
  · exact h

theorem holdModel_kept {m on} (h : Kept σ s) : Kept σ (holdModel m on s) := by
  unfold holdModel
  split
  · exact forEach_kept (fun _ _ => updCt_kept) h
  · exact h

@[simp] theorem doLoadCopyDone_kept {flips} (h : Kept σ s) : Kept σ (doLoadCopyDone flips s) := by
  unfold doLoadCopyDone
  split
  · exact kept_ite h
      (have h1 := kept_mk h rfl id;
        kept_ite (bootNext_kept (cnpResult_kept (holdModel_kept (updModel_kept h1))))
        (bootNext_kept (cnpResult_kept (holdModel_kept (updModel_kept h1)))))
  · exact h

@[simp] theorem doCnpStateEcc_kept {model} (h : Kept σ s) : Kept σ (doCnpStateEcc model s) :=
  kept_ite (stateEcc_kept h) h

@[simp] theorem doCanopyBootLoad_kept (h : Kept σ s) : Kept σ (doCanopyBootLoad s) :=
  kept_ite (bootNext_kept (kept_mk h rfl id)) h

theorem cnpLoadDescs_kept {b} (h : Kept σ s) : Kept σ (cnpLoadDescs b s) :=
  forEach_kept (fun _ _ => staleOutputs_kept) (kept_mk h rfl id)

theorem reloadTiles_kept {ts} (h : Kept σ s) : Kept σ (reloadTiles ts s) :=
  forEach_kept (fun _ _ h1 => kept_ite h1 (kept_ite (holdModel_kept (updModel_kept h1)) (holdModel_kept h1))) h

theorem engineGate_kept (h : Kept σ s) : Kept σ (engineGate s) :=
  sramOff_kept (kept_mk (forEach_kept (fun _ _ h2 => kept_ite (afterJob_kept (updModel_kept h2)) h2) h) rfl id)

theorem engineUngate_kept (h : Kept σ s) : Kept σ (engineUngate s) :=
  dispatchTiles_kept (forEach_kept (fun _ _ h2 => kept_ite (enterWarmup_kept h2) h2) (reloadTiles_kept (kept_mk h rfl id)))

theorem cnpQuarterReset_kept {q} (h : Kept σ s) : Kept σ (cnpQuarterReset q s) := by
  unfold cnpQuarterReset
  exact dispatchTiles_kept
    (forEach_kept
      (fun _ _ h3 => by split; exacts [kept_ite (enterWarmup_kept h3) h3, h3])
      (reloadTiles_kept
        (forEach_kept (fun _ _ => updCt_kept)
          (forEach_kept (fun _ _ h5 => by split; exacts [kept_ite (dropJob_kept h5) h5, h5]) h))))

end

end Sys2Proof.Machine
end

section
/-! SUPPORT. What the operations of model custody keep (Machine/Custody.lean, in its order): `Kept` (Laws/Kept.lean) carried through each. -/

namespace Sys2Proof.Machine

section
variable {σ s : State}

theorem updCursor_kept {c f} (h : Kept σ s) : Kept σ (updCursor c f s) :=
  kept_mk h rfl id

theorem clearJobNote_kept (h : Kept σ s) : Kept σ (clearJobNote s) :=
  kept_mk h rfl id

theorem noteJob_kept (h : Kept σ s) : Kept σ (noteJob s) :=
  kept_mk h rfl id

theorem recordResume_kept (h : Kept σ s) : Kept σ (recordResume s) := by
  unfold recordResume
  split
  · exact kept_mk h rfl id
  · exact h

theorem setLoad_kept {st} (h : Kept σ s) : Kept σ (setLoad st s) :=
  recordResume_kept (kept_mk h rfl id)

theorem cusResult_kept {res slot} (h : Kept σ s) : Kept σ (cusResult res slot s) :=
  kept_mk h rfl id

theorem refuseLoad_kept {res slot} (h : Kept σ s) : Kept σ (refuseLoad res slot s) :=
  raise_kept _ _ _ _ (setLoad_kept (cusResult_kept h))

theorem stopCursors_kept {st} (h : Kept σ s) : Kept σ (stopCursors st s) :=
  staleReads_kept (kept_mk h rfl id)

theorem failLoad_kept {res slot item} (h : Kept σ s) : Kept σ (failLoad res slot item s) :=
  raise_kept _ _ _ _ (forEach_kept (fun _ _ => gclSend_kept) (setLoad_kept (cusResult_kept (stopCursors_kept h))))

theorem queryCaps_kept (h : Kept σ s) : Kept σ (queryCaps s) :=
  forEach_kept (fun _ _ h1 => gclSend_kept (kept_mk h1 rfl id)) (kept_mk h rfl id)

theorem enterPlan_kept (h : Kept σ s) : Kept σ (enterPlan s) :=
  queryCaps_kept (setLoad_kept h)

theorem sendLoadBegin_kept {k} (h : Kept σ s) : Kept σ (sendLoadBegin k s) :=
  forEach_kept (fun _ _ => gclSend_kept) h

theorem loadEnd_kept (h : Kept σ s) : Kept σ (loadEnd s) :=
  have h3 := kept_mk (setLoad_kept (cusResult_kept (kept_mk (forEach_kept (fun _ _ => gclSend_kept) h) rfl id))) rfl id;
    kept_ite (noteJob_kept (gclSend_kept (kept_mk h3 rfl id))) (noteJob_kept (kept_mk h3 rfl id))

theorem reuseRegion_kept (h : Kept σ s) : Kept σ (reuseRegion s) :=
  forEach_kept (fun _ _ => holdOrDo_kept (fun _ h3 => h3)) (kept_mk h rfl id)

theorem startStream_kept (h : Kept σ s) : Kept σ (startStream s) :=
  have h2 := kept_mk (forEach_kept (fun _ _ => updCursor_kept) (kept_mk h rfl id)) rfl id;
    have h3 := setLoad_kept (kept_ite (kept_mk h2 rfl id) (reuseRegion_kept (kept_mk h2 rfl id)));
    kept_ite (loadEnd_kept h3) h3

theorem planDone_kept (h : Kept σ s) : Kept σ (planDone s) := by
  dsimp only [planDone]
  split
  · exact kept_ite (startStream_kept (forEach_kept (fun _ _ => sendLoadBegin_kept) (kept_mk h rfl id))) (failLoad_kept (kept_mk h rfl id))
  · split
    · exact refuseLoad_kept (kept_mk h rfl id)
    · exact kept_ite (refuseLoad_kept (kept_mk h rfl id))
        (kept_ite (setLoad_kept (cusResult_kept (kept_mk (kept_mk h rfl id) rfl id)))
          (startStream_kept (forEach_kept (fun _ _ => sendLoadBegin_kept) (kept_ite (kept_mk (kept_mk h rfl id) rfl id) (kept_mk h rfl id)))))

@[simp] theorem doCapAnswer_kept {slot bytes} (h : Kept σ s) : Kept σ (doCapAnswer slot bytes s) :=
  kept_ite ((have h1 := kept_mk h rfl id; kept_ite (planDone_kept h1) h1)) (kept_ite (kept_mk h rfl id) h)

@[simp] theorem doCapQueryTimeout_kept {slot} (h : Kept σ s) : Kept σ (doCapQueryTimeout slot s) := by
  dsimp only [doCapQueryTimeout]
  split
  · exact kept_ite (refuseLoad_kept h) h
  · exact h

theorem afterManifest_kept (h : Kept σ s) : Kept σ (afterManifest s) := by
  unfold afterManifest
  split
  · exact kept_ite (enterPlan_kept h) (setLoad_kept (kept_mk h rfl id))
  · exact setLoad_kept (kept_mk h rfl id)

@[simp] theorem doManifestVerified_kept {m fetchOk sg} (h : Kept σ s) : Kept σ (doManifestVerified m fetchOk sg s) := by
  unfold doManifestVerified
  exact kept_ite h
    (kept_ite (refuseLoad_kept h) (by
        split
        · exact kept_ite (failLoad_kept h) (refuseLoad_kept h)
        · exact kept_ite (failLoad_kept h) (kept_ite (refuseLoad_kept h) (afterManifest_kept (kept_mk h rfl id)))))

@[simp] theorem doTreeDone_kept {leaves} (h : Kept σ s) : Kept σ (doTreeDone leaves s) := by
  unfold doTreeDone
  exact kept_ite h (by
      split
      · exact h
      · exact kept_ite (enterPlan_kept (kept_mk h rfl id)) (kept_ite (failLoad_kept h) (refuseLoad_kept h)))

theorem beginLoad_kept (h : Kept σ s) : Kept σ (beginLoad s) :=
  gclFetch_kept (setLoad_kept (kept_mk h rfl id))

theorem startLoad_kept {planOnly allow mask} (h : Kept σ s) : Kept σ (startLoad planOnly allow mask s) := by
  unfold startLoad
  exact kept_ite (cusResult_kept h) (by
      split
      · exact cusResult_kept h
      · exact kept_ite (cusResult_kept h) (beginLoad_kept (kept_mk (kept_ite h (clearJobNote_kept (kept_mk h rfl id))) rfl id)))

theorem abortLoad_kept {res} (h : Kept σ s) : Kept σ (abortLoad res s) :=
  kept_ite (setLoad_kept (cusResult_kept (stopCursors_kept h))) h

theorem resumeLoad_kept (h : Kept σ s) : Kept σ (resumeLoad s) :=
  kept_ite ((have h1 := setLoad_kept (kept_mk h rfl id); kept_ite (loadEnd_kept h1) h1)) h

theorem cusCommand_kept {w} (h : Kept σ s) : Kept σ (cusCommand w s) := by
  unfold cusCommand
  exact kept_ite h
    (have h1 := kept_mk (setTag_kept _ _ _ h) rfl id;
      by
      split
      · exact startLoad_kept h1
      · exact startLoad_kept h1
      · exact kept_ite (abortLoad_kept h1) (cusResult_kept h1)
      · exact resumeLoad_kept h1
      · exact h1)

theorem cusDenied_kept {path off w} (h : Kept σ s) : Kept σ (cusDenied path off w s) :=
  raise_kept _ _ _ _ h

theorem cusCmdWrite_kept {path w} (h : Kept σ s) : Kept σ (cusCmdWrite path w s) :=
  kept_ite (cusCommand_kept (setPair_kept _ _ _ h)) (cusDenied_kept h)

@[simp] theorem doCusLoad_kept {path tag mask allowRemnant} (h : Kept σ s) : Kept σ (doCusLoad path tag mask allowRemnant s) :=
  cusCmdWrite_kept h

@[simp] theorem doCusPlanOnly_kept {path tag mask allowRemnant} (h : Kept σ s) : Kept σ (doCusPlanOnly path tag mask allowRemnant s) :=
  cusCmdWrite_kept h

@[simp] theorem doCusCancel_kept {path tag} (h : Kept σ s) : Kept σ (doCusCancel path tag s) :=
  cusCmdWrite_kept h

@[simp] theorem doCusResume_kept {path tag} (h : Kept σ s) : Kept σ (doCusResume path tag s) :=
  cusCmdWrite_kept h

@[simp] theorem doLoadResumeAfterReset_kept (h : Kept σ s) : Kept σ (doLoadResumeAfterReset s) := by
  unfold doLoadResumeAfterReset
  split
  · exact h
  · exact kept_ite h
      (have h1 := injectCheck_kept h;
        kept_ite (raise_kept _ _ _ _ (kept_mk h1 rfl id)) (kept_ite h1 (beginLoad_kept (kept_mk h1 rfl id))))

theorem fetchLeaf_kept {c l} (h : Kept σ s) : Kept σ (fetchLeaf c l s) :=
  gclReads_kept (updCursor_kept h)

@[simp] theorem doLeafFetch_kept (h : Kept σ s) : Kept σ (doLeafFetch s) := by
  dsimp only [doLeafFetch]
  exact kept_ite h (by split; exacts [h, fetchLeaf_kept h])

theorem leafArrived_kept {c l i} (h : Kept σ s) : Kept σ (leafArrived c l i s) :=
  kept_ite h (have h1 := kept_ite h (updCursor_kept h); kept_ite (gclSend_kept h1) h1)

theorem leafCleared_kept {c l} (h : Kept σ s) : Kept σ (leafCleared c l s) :=
  kept_ite h
    (have h1 := updCursor_kept h;
      have h2 := kept_ite (recordResume_kept h1) h1;
      kept_ite (have h3 := updCursor_kept h2; kept_ite (loadEnd_kept h3) h3) h2)

theorem jobAbortAssert_kept {reason} (h : Kept σ s) : Kept σ (jobAbortAssert reason s) :=
  raise_kept _ _ _ _ (rcdTrigger_kept _ (forEach_kept (fun _ _ => gclSend_kept) (drivePin_kept _ _ (kept_mk h rfl id))))

theorem beginRestart_kept {reason} (h : Kept σ s) : Kept σ (beginRestart reason s) :=
  have h1 := kept_mk h rfl id;
    have h4 := jobAbortAssert_kept (kept_mk (abortLoad_kept (kept_ite (kept_mk h1 rfl id) h1)) rfl id);
    kept_ite (raise_kept _ _ _ _ (kept_mk h4 rfl id)) h4

theorem jobFaultReason_kept {reason slots} (h : Kept σ s) : Kept σ (jobFaultReason reason slots s) :=
  kept_ite h (noteJob_kept (kept_mk (kept_ite (raise_kept _ _ _ _ h) (kept_ite h (beginRestart_kept h))) rfl id))

theorem jobFaultFromSlot_kept {k} (h : Kept σ s) : Kept σ (jobFaultFromSlot k s) :=
  kept_ite (jobFaultReason_kept h) (kept_ite (jobFaultReason_kept h) h)

theorem jobFaultFromLatch_kept {k} (h : Kept σ s) : Kept σ (jobFaultFromLatch k s) :=
  kept_ite (jobFaultReason_kept h) (kept_ite (jobFaultReason_kept h) h)

@[simp] theorem doJobFault_kept {slot code} (h : Kept σ s) : Kept σ (doJobFault slot code s) :=
  kept_ite (jobFaultReason_kept h) h

theorem leafFail_kept {c l} (h : Kept σ s) : Kept σ (leafFail c l s) :=
  have h2 := updCursor_kept (staleReads_kept h);
    kept_ite ((have h3 := raise_kept _ _ _ _ (kept_mk h2 rfl id); kept_ite (failLoad_kept (kept_mk h3 rfl id)) h3))
    (have h4 := raise_kept _ _ _ _ h2;
      kept_ite h4 (have h6 := raise_kept _ _ _ _ (updCursor_kept (kept_mk h4 rfl id)); kept_ite (jobFaultReason_kept h6) h6))

theorem applyRefetch_kept {l} (h : Kept σ s) : Kept σ (applyRefetch l s) :=
  have h1 := updCursor_kept (kept_mk h rfl id);
    kept_ite (leafCleared_kept h1) h1

theorem refetchDone_kept {l} (h : Kept σ s) : Kept σ (refetchDone l s) := by
  unfold refetchDone
  split
  · exact holdOrDo_kept (fun _ => applyRefetch_kept) h
  · exact applyRefetch_kept h

@[simp] theorem doLeafHashDone_kept {leaf bytes} (h : Kept σ s) : Kept σ (doLeafHashDone leaf bytes s) := by
  unfold doLeafHashDone
  extract_lets l digest want
  split
  · exact h
  · extract_lets s1 _ s2 s3 _
    have h1 : Kept σ s1 := updCursor_kept h
    clear_value s1
    have h2 : Kept σ s2 := kept_mk h1 rfl id
    clear_value s2
    exact kept_ite (leafFail_kept h) (kept_ite (gclSend_kept (updCursor_kept h2)) (refetchDone_kept (kept_ite h2 (kept_mk h2 rfl id))))

@[simp] theorem doClearAck_kept {slot leaf} (h : Kept σ s) : Kept σ (doClearAck slot leaf s) :=
  kept_ite (leafCleared_kept (updCursor_kept h)) h

@[simp] theorem doClearAckTimeout_kept {slot leaf} (h : Kept σ s) : Kept σ (doClearAckTimeout slot leaf s) := by
  dsimp only [doClearAckTimeout]
  split
  · exact kept_ite h (kept_ite (raise_kept _ _ _ _ (gclSend_kept (updCursor_kept h))) (failLoad_kept h))
  · exact h

theorem cusPortDown_kept {p} (h : Kept σ s) : Kept σ (cusPortDown p s) :=
  kept_ite (jobFaultReason_kept h) (kept_ite (have h1 := kept_ite (failLoad_kept h) h; kept_ite h1 (jobFaultReason_kept h1)) h)

theorem withdrawLeaf_kept {l} (h : Kept σ s) : Kept σ (withdrawLeaf l s) :=
  kept_ite (updCursor_kept (forEach_kept (fun _ _ => holdOrDo_kept (fun _ h5 => h5)) (raise_kept _ _ _ _ (kept_mk h rfl id)))) h

theorem decayRemnant_kept {flips} (h : Kept σ s) : Kept σ (decayRemnant flips s) :=
  forEach_kept (fun _ _ h1 => kept_mk h1 rfl id) h

@[simp] theorem doRemnantScrub_kept {flips} (h : Kept σ s) : Kept σ (doRemnantScrub flips s) :=
  have h1 := decayRemnant_kept h;
    kept_ite (forEach_kept (fun _ _ => withdrawLeaf_kept) (kept_mk h1 rfl id)) h1

theorem askPwr_kept {op mask tray} (h : Kept σ s) : Kept σ (askPwr op mask tray s).2 := by
  unfold askPwr
  refine kept_ite_snd ?_ (kept_mk h rfl id)
  exact seqCmdWrite_kept (path := .proc .pwr) h

theorem readyQueries_kept (h : Kept σ s) : Kept σ (readyQueries s) :=
  forEach_kept (fun _ _ h1 => kept_ite (gclSend_kept (kept_mk h1 rfl id)) h1) h

theorem enterReady_kept (h : Kept σ s) : Kept σ (enterReady s) :=
  kept_mk h rfl id

theorem restartPoll_kept (h : Kept σ s) : Kept σ (restartPoll s) := by
  have ready : Kept σ (enterReady s) := enterReady_kept h
  unfold restartPoll
  extract_lets _ js wait judge failed off
  have judged : ∀ r : Option Nat × State, Kept σ r.2 → Kept σ (judge r) := by
    intro r hr
    unfold judge
    split
    · exact hr
    · exact enterReady_kept hr
    · exact enterReady_kept hr
    · exact enterReady_kept hr
    · exact kept_mk hr rfl id
  exact kept_ite h (kept_ite (readyQueries_kept h) (kept_ite (kept_ite (kept_mk h rfl id) h) (kept_ite
    (kept_ite (kept_ite (askPwr_kept (kept_mk h rfl id)) ready)
      (kept_ite (judged _ (askPwr_kept h)) (kept_ite (kept_ite (askPwr_kept (kept_mk h rfl id)) (kept_ite ready (judged _ (askPwr_kept h)))) h))) h)))

@[simp] theorem doAbortHoldExpiry_kept (h : Kept σ s) : Kept σ (doAbortHoldExpiry s) :=
  kept_ite (kept_mk h rfl id) h

@[simp] theorem doQuiesceDone_kept (h : Kept σ s) : Kept σ (doQuiesceDone s) :=
  kept_ite h
    (have h1 := stopCursors_kept h;
      kept_ite (readyQueries_kept (enterReady_kept h1)) ((have h2 := kept_mk h1 rfl id; restartPoll_kept (kept_ite h2 (askPwr_kept h2)))))

@[simp] theorem doReadyWaitDone_kept (h : Kept σ s) : Kept σ (doReadyWaitDone s) :=
  kept_ite (noteJob_kept (beginLoad_kept (kept_mk (forEach_kept (fun _ _ => gclSend_kept) (drivePin_kept _ _ (kept_mk h rfl id))) rfl id))) h

@[simp] theorem doReadyWaitTimeout_kept (h : Kept σ s) : Kept σ (doReadyWaitTimeout s) :=
  kept_ite (raise_kept _ _ _ _ (kept_mk h rfl id)) h

@[simp] theorem doPwrRetry_kept (h : Kept σ s) : Kept σ (doPwrRetry s) := by
  unfold doPwrRetry
  split
  · exact kept_ite h (kept_ite ((have h1 := kept_mk h rfl id; kept_ite (restartPoll_kept h1) (askPwr_kept h1))) (restartPoll_kept (kept_mk h rfl id)))
  · exact h

theorem cusRestartCommand_kept {w} (h : Kept σ s) : Kept σ (cusRestartCommand w s) := by
  unfold cusRestartCommand
  exact kept_ite h
    (have h1 := setTag_kept _ _ _ h;
      by
      split
      · exact jobFaultReason_kept h1
      · exact kept_ite
          (have h2 := abortLoad_kept (kept_mk h1 rfl id);
            noteJob_kept (raise_kept _ _ _ _ (kept_mk (kept_ite h2 (jobAbortAssert_kept h2)) rfl id))) h1
      · exact kept_ite (noteJob_kept (drivePin_kept _ _ (kept_mk h1 rfl id))) h1
      · exact kept_ite (noteJob_kept (kept_mk h1 rfl id)) h1
      · exact h1)

theorem cusRestartWrite_kept {path w} (h : Kept σ s) : Kept σ (cusRestartWrite path w s) :=
  kept_ite (cusRestartCommand_kept (setPair_kept _ _ _ h)) (cusDenied_kept h)

@[simp] theorem doCusRestart_kept {path tag} (h : Kept σ s) : Kept σ (doCusRestart path tag s) :=
  cusRestartWrite_kept h

@[simp] theorem doCusHold_kept {path tag} (h : Kept σ s) : Kept σ (doCusHold path tag s) :=
  cusRestartWrite_kept h

@[simp] theorem doCusRelease_kept {path tag} (h : Kept σ s) : Kept σ (doCusRelease path tag s) :=
  cusRestartWrite_kept h

@[simp] theorem doCusContinue_kept {path tag} (h : Kept σ s) : Kept σ (doCusContinue path tag s) :=
  cusRestartWrite_kept h

theorem cusProcRestart_kept (h : Kept σ s) : Kept σ (cusProcRestart s) :=
  kept_ite (setLoad_kept (staleReads_kept (kept_mk h rfl id))) h

end

end Sys2Proof.Machine
end

section
/-! SUPPORT. What the operations of the Gorino Coherent Link keep (Machine/Gcl.lean, in its order): `Kept` (Laws/Kept.lean) carried through each. -/

namespace Sys2Proof.Machine

section
variable {σ s : State}

theorem setPort_kept {p st} (h : Kept σ s) : Kept σ (setPort p st s) :=
  updPort_kept h

theorem enterDetect_kept {p} (h : Kept σ s) : Kept σ (enterDetect p s) :=
  updPort_kept h

theorem enterRecovery_kept {p all} (h : Kept σ s) : Kept σ (enterRecovery p all s) :=
  kept_ite (updPort_kept h) h

theorem applyChange_kept {c} (h : Kept σ s) : Kept σ (applyChange c s) := by
  unfold applyChange
  split
  · exact appendBlock_kept h
  · exact refetchDone_kept h
  · exact h

theorem directoryToI_kept (h : Kept σ s) : Kept σ (directoryToI s) :=
  forEach_kept (fun _ _ => applyChange_kept) (kept_mk h rfl id)

theorem portLost_kept {p st} (h : Kept σ s) : Kept σ (portLost p st s) :=
  have h1 := updPort_kept h;
    have h2 := kept_ite (directoryToI_kept h1) h1;
    cusPortDown_kept (forEach_kept (fun _ _ h5 => kept_ite (leafFail_kept h5) h5) (kept_ite (updShp_kept h2) h2))

theorem portDown_kept {p} (h : Kept σ s) : Kept σ (portDown p s) :=
  portLost_kept (raise_kept _ _ _ _ (updPort_kept h))

theorem portUp_kept {p r} (h : Kept σ s) : Kept σ (portUp p r s) :=
  have h1 := updPort_kept h;
    kept_ite
    (have h2 := updPort_kept h1;
      pumpPort_kept (kept_ite (raise_kept _ _ _ _ h2) (raise_kept _ _ _ _ h2))) (casPortUp_kept (pumpPort_kept (updPort_kept h1)))

theorem gclCommand_kept {p w} (h : Kept σ s) : Kept σ (gclCommand p w s) := by
  unfold gclCommand
  exact kept_ite h
    (have h1 := setTag_kept _ _ _ h;
      by
      split
      · exact enterRecovery_kept h1
      · exact enterRecovery_kept h1
      · exact kept_ite h1 (kept_ite (setPort_kept h1) (portLost_kept h1))
      · exact kept_ite (enterDetect_kept h1) h1
      · exact h1)

theorem gclDenied_kept {path off w} (h : Kept σ s) : Kept σ (gclDenied path off w s) :=
  raise_kept _ _ _ _ h

theorem gclCmdWrite_kept {path p w} (h : Kept σ s) : Kept σ (gclCmdWrite path p w s) :=
  kept_ite (gclCommand_kept (setPair_kept _ _ _ h)) (gclDenied_kept h)

@[simp] theorem doPortRetrain_kept {path port tag} (h : Kept σ s) : Kept σ (doPortRetrain path port tag s) :=
  gclCmdWrite_kept h

@[simp] theorem doPortFullRetrain_kept {path port tag} (h : Kept σ s) : Kept σ (doPortFullRetrain path port tag s) :=
  gclCmdWrite_kept h

@[simp] theorem doPortDisable_kept {path port tag} (h : Kept σ s) : Kept σ (doPortDisable path port tag s) :=
  gclCmdWrite_kept h

@[simp] theorem doPortEnable_kept {path port tag} (h : Kept σ s) : Kept σ (doPortEnable path port tag s) :=
  gclCmdWrite_kept h

@[simp] theorem doPeerDetect_kept {port} (h : Kept σ s) : Kept σ (doPeerDetect port s) :=
  kept_ite (setPort_kept h) h

theorem lanesChosen_kept {p own peer} (h : Kept σ s) : Kept σ (lanesChosen p own peer s) :=
  have h1 := updPort_kept h;
    kept_ite (portDown_kept h1) (setPort_kept h1)

@[simp] theorem doEqualiseDone_kept {port own peer} (h : Kept σ s) : Kept σ (doEqualiseDone port own peer s) :=
  kept_ite (lanesChosen_kept h) h

@[simp] theorem doRecoveryLanesChosen_kept {port own peer} (h : Kept σ s) : Kept σ (doRecoveryLanesChosen port own peer s) :=
  kept_ite (lanesChosen_kept h) h

@[simp] theorem doFecLockHeld_kept {port} (h : Kept σ s) : Kept σ (doFecLockHeld port s) :=
  kept_ite (setPort_kept h) h

@[simp] theorem doConfigRecord_kept {port r} (h : Kept σ s) : Kept σ (doConfigRecord port r s) :=
  kept_ite h (kept_ite (portUp_kept h) (updPort_kept (portDown_kept h)))

@[simp] theorem doTrainTimeout_kept {port} (h : Kept σ s) : Kept σ (doTrainTimeout port s) :=
  kept_ite (portDown_kept h) h

@[simp] theorem doDownRetry_kept {port} (h : Kept σ s) : Kept σ (doDownRetry port s) :=
  kept_ite (enterDetect_kept h) h

@[simp] theorem doCodewordLockLoss_kept {port} (h : Kept σ s) : Kept σ (doCodewordLockLoss port s) :=
  enterRecovery_kept h

@[simp] theorem doLowPowerEnter_kept {port} (h : Kept σ s) : Kept σ (doLowPowerEnter port s) :=
  kept_ite (setPort_kept h) h

theorem lowPowerExit_kept {p} (h : Kept σ s) : Kept σ (lowPowerExit p s) :=
  kept_ite (pumpPort_kept (setPort_kept h)) h

@[simp] theorem doLowPowerExit_kept {port} (h : Kept σ s) : Kept σ (doLowPowerExit port s) :=
  lowPowerExit_kept h

theorem protocolError_kept {p} (h : Kept σ s) : Kept σ (protocolError p s) :=
  enterRecovery_kept (raise_kept _ _ _ _ (updPort_kept h))

theorem takeRxMsg_kept {p m} (h : Kept σ s) : Kept σ (takeRxMsg p m s) :=
  kept_ite (protocolError_kept h)
    (have h1 := updPort_kept h;
      kept_ite h1 (have h2 := raise_kept _ _ _ _ (updPort_kept h1); kept_ite (gclSend_kept h2) h2))

theorem fecErrors_kept {p f} (h : Kept σ s) : Kept σ (fecErrors p f s).2.2.2 := by
  unfold fecErrors
  split
  · split
    · exact injectUse_kept h
    · exact injectUse_kept h
  · exact h

theorem discardFlit_kept {p} (h : Kept σ s) : Kept σ (discardFlit p s) :=
  updPort_kept h

@[simp] theorem doFlitReceive_kept {port f} (h : Kept σ s) : Kept σ (doFlitReceive port f s) := by
  unfold doFlitReceive
  extract_lets p e s1 s2 s3 c s4 q buf buf' s5 s6 q' s7
  have h1 : Kept σ s1 := fecErrors_kept h
  clear_value s1
  have h2 : Kept σ s2 := kept_ite (raise_kept _ _ _ _ (updPort_kept h1)) h1
  clear_value s2
  have h3 : Kept σ s3 := kept_ite (raise_kept _ _ _ _ (updPort_kept h2)) h2
  clear_value s3
  have h4 : Kept σ c.2 := injectCheck_kept h3
  have h5 : Kept σ s5 := updPort_kept h4
  clear_value s5
  have h6 : Kept σ s6 := updPort_kept h5
  clear_value s6
  have h7 : Kept σ s7 := by
    refine kept_ite (forEach_kept (fun _ _ => takeRxMsg_kept) h6) ?_
    split
    · exact kept_ite (protocolError_kept h6) (updPort_kept h6)
    · exact protocolError_kept h6
  exact kept_ite h (kept_ite (enterRecovery_kept h3) (kept_ite (discardFlit_kept h3)
    (kept_ite (raise_kept _ _ _ _ (discardFlit_kept (updPort_kept h4))) (kept_ite (pumpPort_kept (discardFlit_kept h4))
    (kept_ite (enterRecovery_kept (raise_kept _ _ _ _ h5)) (kept_ite (pumpPort_kept h5) (pumpPort_kept h7)))))))

theorem gclTick_kept (h : Kept σ s) : Kept σ (gclTick s) :=
  forEach_kept (fun _ _ h1 => kept_ite (updPort_kept h1) (kept_ite (lowPowerExit_kept h1) h1)) h

theorem sendTimeSync_kept (h : Kept σ s) : Kept σ (sendTimeSync s) :=
  forEach_kept (fun _ _ h1 => kept_ite (gclSend_kept (updPort_kept h1)) h1) h

theorem refuseAccess_kept {p tag status addr} (h : Kept σ s) : Kept σ (refuseAccess p tag status addr s) :=
  have h2 := raise_kept _ _ _ _ (updPort_kept h);
    gclSend_kept (kept_ite (raise_kept _ _ _ _ h2) h2)

theorem dramUe_kept {a treeOk inj} (h : Kept σ s) : Kept σ (dramUe a treeOk inj s) := by
  dsimp only [dramUe]
  split
  · split
    · exact withdrawLeaf_kept (raise_kept _ _ _ _ (kept_ite_snd (kept_mk (kept_mk h rfl id) rfl id) (kept_mk h rfl id)))
    · exact raise_kept _ _ _ _ (kept_ite_snd (kept_mk (kept_mk h rfl id) rfl id) (kept_mk h rfl id))
  · exact kept_ite (raise_kept _ _ _ _ (kept_ite_snd (kept_mk (kept_mk h rfl id) rfl id) (kept_mk h rfl id)))
      (failLoad_kept (raise_kept _ _ _ _ (kept_ite_snd (kept_mk (kept_mk h rfl id) rfl id) (kept_mk h rfl id))))
  · exact kept_mk (raise_kept _ _ _ _ (kept_ite_snd (kept_mk (kept_mk h rfl id) rfl id) (kept_mk h rfl id))) rfl id
  · exact forEach_kept (fun _ _ h3 => kept_ite (updModel_kept h3) h3)
      (raise_kept _ _ _ _ (kept_ite_snd (kept_mk (kept_mk h rfl id) rfl id) (kept_mk h rfl id)))
  · exact kept_mk (raise_kept _ _ _ _ (kept_ite_snd (kept_mk (kept_mk h rfl id) rfl id) (kept_mk h rfl id))) rfl id
  · exact raise_kept _ _ _ _ (kept_ite_snd (kept_mk (kept_mk h rfl id) rfl id) (kept_mk h rfl id))

theorem dramCheck_kept {a} (h : Kept σ s) : Kept σ (dramCheck a s).2 :=
  kept_ite_snd h
    (kept_ite_snd (raise_kept _ _ _ _ (injectUse_kept (kept_mk h rfl id)))
      (kept_ite_snd (dramUe_kept (injectUse_kept (injectUse_kept h))) (injectUse_kept h)))

theorem answerRead_kept {p tag addr len cached} (h : Kept σ s) : Kept σ (answerRead p tag addr len cached s) := by
  unfold answerRead
  split
  · exact refuseAccess_kept h
  · exact have h1 := dramCheck_kept h;
      kept_ite (gclSend_kept h1) (by
        split
        · exact gclSend_kept (kept_mk (kept_ite (kept_mk h1 rfl id) h1) rfl id)
        · exact gclSend_kept (kept_mk (kept_ite (kept_mk h1 rfl id) h1) rfl id))

@[simp] theorem doRdS_kept {port tag addr} (h : Kept σ s) : Kept σ (doRdS port tag addr s) :=
  kept_ite (answerRead_kept h) h

@[simp] theorem doRdUc_kept {port tag addr len} (h : Kept σ s) : Kept σ (doRdUc port tag addr len s) :=
  kept_ite h (kept_ite (answerRead_kept h) (refuseAccess_kept h))

@[simp] theorem doWr_kept {port tag addr} (h : Kept σ s) : Kept σ (doWr port tag addr s) :=
  kept_ite h (refuseAccess_kept (kept_ite (raise_kept _ _ _ _ h) h))

@[simp] theorem doCompletionReceived_kept {port tag status poison} (h : Kept σ s) : Kept σ (doCompletionReceived port tag status poison s) := by
  dsimp only [doCompletionReceived]
  split
  · exact h
  · exact kept_ite h
      (have h1 := dropReq_kept h;
        by split; exacts [kept_ite (leafArrived_kept h1) (leafFail_kept h1), h1])

@[simp] theorem doCompletionTimeout_kept {port tag} (h : Kept σ s) : Kept σ (doCompletionTimeout port tag s) := by
  dsimp only [doCompletionTimeout]
  split
  · exact h
  · exact kept_ite h (have h1 := raise_kept _ _ _ _ (dropReq_kept h); by split; exacts [leafFail_kept h1, h1])

@[simp] theorem doSnpInv_kept {page} (h : Kept σ s) : Kept σ (doSnpInv page s) :=
  kept_ite (gclSend_kept h) h

@[simp] theorem doSnpRspI_kept {page} (h : Kept σ s) : Kept σ (doSnpRspI page s) := by
  unfold doSnpRspI
  split
  · exact h
  · exact kept_ite h (forEach_kept (fun _ _ => applyChange_kept) (kept_mk h rfl id))

@[simp] theorem doSnoopResend_kept {page} (h : Kept σ s) : Kept σ (doSnoopResend page s) := by
  unfold doSnoopResend
  split
  · exact h
  · exact kept_ite h (have h2 := gclSend_kept (kept_mk h rfl id); kept_ite (raise_kept _ _ _ _ h2) h2)

@[simp] theorem doTimeSync_kept {port t1} (h : Kept σ s) : Kept σ (doTimeSync port t1 s) :=
  kept_ite (gclSend_kept (updPort_kept h)) h

@[simp] theorem doTimeReq_kept {port} (h : Kept σ s) : Kept σ (doTimeReq port s) :=
  kept_ite (gclSend_kept (kept_ite (gclSend_kept (kept_mk h rfl id)) h)) h

theorem gclRelease_kept (h : Kept σ s) : Kept σ (gclRelease s) :=
  forEach_kept (fun _ _ => enterDetect_kept) h

end

end Sys2Proof.Machine
end

section
/-! SUPPORT. What the operations of the memory subsystem keep (Machine/Mem.lean, in its order): `Kept` (Laws/Kept.lean) carried through each. -/

namespace Sys2Proof.Machine

section
variable {σ s : State}

@[simp] theorem doDramReadUe_kept {addr first leaves} (h : Kept σ s) : Kept σ (doDramReadUe addr first leaves s) :=
  dramUe_kept h

theorem rcdCommand_kept {w} (h : Kept σ s) : Kept σ (rcdCommand w s) := by
  unfold rcdCommand
  exact kept_ite h
    (have h1 := setTag_kept _ _ _ h;
      by split; exacts [rcdTrigger_kept _ h1, kept_ite (kept_mk h1 rfl id) h1, h1])

theorem rcdCmdWrite_kept {path w} (h : Kept σ s) : Kept σ (rcdCmdWrite path w s) :=
  withAuthority_kept (fun _ h1 => rcdCommand_kept (setPair_kept _ _ _ h1)) h

@[simp] theorem doRcdTrigger_kept {path tag} (h : Kept σ s) : Kept σ (doRcdTrigger path tag s) :=
  rcdCmdWrite_kept h

@[simp] theorem doRcdRearm_kept {path tag} (h : Kept σ s) : Kept σ (doRcdRearm path tag s) :=
  rcdCmdWrite_kept h

@[simp] theorem doRcdPostExpire_kept (h : Kept σ s) : Kept σ (doRcdPostExpire s) :=
  kept_ite (kept_mk h rfl id) h

@[simp] theorem doRcdAutoRearm_kept (h : Kept σ s) : Kept σ (doRcdAutoRearm s) :=
  kept_ite (raise_kept _ _ _ _ (kept_mk h rfl id)) h

@[simp] theorem doRcdStagingOverflow_kept (h : Kept σ s) : Kept σ (doRcdStagingOverflow s) :=
  kept_ite (raise_kept _ _ _ _ (rcdEvent_kept (kept_mk h rfl id))) h

end

end Sys2Proof.Machine
end

section
/-! SUPPORT. What the operations of the fault windows keep (Machine/FaultOps.lean, in its order): `Kept` (Laws/Kept.lean) carried through each. -/

namespace Sys2Proof.Machine

section
variable {σ s : State}

theorem logFlush_kept {rank} (h : Kept σ s) : Kept σ (logFlush rank s) :=
  kept_ite h (nvsQueue_kept (kept_mk h rfl id))

@[simp] theorem doFaultLogCommit_kept (h : Kept σ s) : Kept σ (doFaultLogCommit s) := by
  unfold doFaultLogCommit
  split
  · exact kept_ite (logFlush_kept h) h
  · exact h

theorem logMerge_kept {block w} (h : Kept σ s) : Kept σ (logMerge block w s) :=
  kept_mk h rfl id

theorem fwCommand_kept {u w} (h : Kept σ s) : Kept σ (fwCommand u w s) := by
  unfold fwCommand
  exact kept_ite h
    (have h1 := setTag_kept _ _ _ h;
      by
      split
      · exact kept_ite (updWin_kept _ _ h1) h1
      · exact kept_ite (updWin_kept _ _ (logMerge_kept h1)) h1
      · exact h1)

theorem fwCtrlWrite_kept {path u w} (h : Kept σ s) : Kept σ (fwCtrlWrite path u w s) :=
  withAuthority_kept (fun _ h1 => fwCommand_kept (setPair_kept _ _ _ h1)) h

@[simp] theorem doFwClaim_kept {path u tag} (h : Kept σ s) : Kept σ (doFwClaim path u tag s) :=
  fwCtrlWrite_kept h

@[simp] theorem doFwRelease_kept {path u tag} (h : Kept σ s) : Kept σ (doFwRelease path u tag s) :=
  fwCtrlWrite_kept h

theorem clearPending_kept {u j mask} (h : Kept σ s) : Kept σ (clearPending u j mask s) :=
  releaseThr_kept (updWin_kept _ _ h)

@[simp] theorem doPendingClear_kept {path u word mask} (h : Kept σ s) : Kept σ (doPendingClear path u word mask s) :=
  withAuthority_kept (fun _ => clearPending_kept) h

theorem injectCommand_kept {u w} (h : Kept σ s) : Kept σ (injectCommand u w s) :=
  kept_ite h (have h1 := setTag_kept _ _ _ h; kept_ite (updWin_kept _ _ h1) (updWin_kept _ _ h1))

theorem fwInjectWrite_kept {path u w} (h : Kept σ s) : Kept σ (fwInjectWrite path u w s) :=
  withAuthority_kept (fun _ h1 => injectCommand_kept (setPair_kept _ _ _ h1)) h

@[simp] theorem doFwInjectRequest_kept {path u tag source count mode} (h : Kept σ s) : Kept σ (doFwInjectRequest path u tag source count mode s) :=
  fwInjectWrite_kept h

@[simp] theorem doTrapAckTimeout_kept {u} (h : Kept σ s) : Kept σ (doTrapAckTimeout u s) := by
  unfold doTrapAckTimeout
  split
  · exact kept_ite (note_kept _ (updWin_kept _ _ h)) h
  · exact h

@[simp] theorem doErrPulseEnd_kept (h : Kept σ s) : Kept σ (doErrPulseEnd s) := by
  unfold doErrPulseEnd
  split
  · exact kept_ite ((have h1 := kept_mk h rfl id; kept_ite (kept_mk h1 rfl id) (drivePin_kept _ _ (kept_mk h1 rfl id)))) h
  · exact h

theorem errCommand_kept {w} (h : Kept σ s) : Kept σ (errCommand w s) := by
  unfold errCommand
  exact kept_ite h
    (have h1 := setTag_kept _ _ _ h;
      by
      split
      · exact drivePin_kept _ _ (kept_mk h1 rfl id)
      · exact have h2 := kept_mk h1 rfl id;
          kept_ite h2 (drivePin_kept _ _ (kept_mk h2 rfl id))
      · exact h1)

theorem errCtrlWrite_kept {path w} (h : Kept σ s) : Kept σ (errCtrlWrite path w s) :=
  withAuthority_kept (fun _ h1 => errCommand_kept (setPair_kept _ _ _ h1)) h

@[simp] theorem doErrHold_kept {path tag after} (h : Kept σ s) : Kept σ (doErrHold path tag after s) :=
  errCtrlWrite_kept h

@[simp] theorem doErrRelease_kept {path tag after} (h : Kept σ s) : Kept σ (doErrRelease path tag after s) :=
  errCtrlWrite_kept h

end

end Sys2Proof.Machine
end

section
/-! SUPPORT. What the operations of the non-volatile store keep (Machine/Nvs.lean, in its order): `Kept` (Laws/Kept.lean) carried through each. -/

namespace Sys2Proof.Machine

section
variable {σ s : State}

theorem nvsResult_kept {tag area result} (h : Kept σ s) : Kept σ (nvsResult tag area result s) :=
  kept_mk h rfl id

theorem nvsDeny_kept {p tag area w} (h : Kept σ s) : Kept σ (nvsDeny p tag area w s) :=
  denyWrite_kept (nvsResult_kept h)

theorem monoInc_kept {c tag} (h : Kept σ s) : Kept σ (monoInc c tag s) :=
  nvsQueue_kept h

theorem nvsFetch_kept {a} (h : Kept σ s) : Kept σ (nvsFetch a s).2 :=
  kept_ite_snd (kept_ite_snd (injectCheck_kept h) (raise_kept _ _ _ _ (injectCheck_kept h))) h

theorem nvsCommand_kept {p w payload} (h : Kept σ s) : Kept σ (nvsCommand p w payload s) := by
  dsimp only [nvsCommand]
  exact kept_ite h
    (have h1 := setTag_kept _ _ _ h;
      by
      split
      · exact kept_ite (nvsDeny_kept h1)
          (kept_ite (nvsResult_kept h1)
            (kept_ite (nvsResult_kept h1)
              (by split; exacts [kept_ite (nvsQueue_kept h1) (nvsResult_kept h1), nvsResult_kept h1])))
      · exact by
          split
          · exact nvsResult_kept (kept_mk (nvsFetch_kept h1) rfl id)
          · exact nvsResult_kept (nvsFetch_kept h1)
      · exact kept_ite (nvsDeny_kept h1) (kept_ite (nvsResult_kept h1) (nvsQueue_kept h1))
      · exact kept_ite (nvsDeny_kept h1) (kept_ite (nvsResult_kept h1) (monoInc_kept h1))
      · exact h1)

theorem nvsCmdWrite_kept {path w payload} (h : Kept σ s) : Kept σ (nvsCmdWrite path w payload s) := by
  unfold nvsCmdWrite
  split
  · exact nvsCommand_kept (setPair_kept _ _ _ h)
  · exact denyWrite_kept h

@[simp] theorem doNvsCommit_kept {path tag area q} (h : Kept σ s) : Kept σ (doNvsCommit path tag area q s) :=
  nvsCmdWrite_kept (kept_ite (setWord_kept _ _ _ h) h)

@[simp] theorem doNvsRead_kept {path tag area} (h : Kept σ s) : Kept σ (doNvsRead path tag area s) :=
  nvsCmdWrite_kept h

@[simp] theorem doNvsErase_kept {path tag area} (h : Kept σ s) : Kept σ (doNvsErase path tag area s) :=
  nvsCmdWrite_kept h

@[simp] theorem doNvsMonoInc_kept {path tag counter} (h : Kept σ s) : Kept σ (doNvsMonoInc path tag counter s) :=
  nvsCmdWrite_kept h

theorem writeBank_kept {a len q ok} (h : Kept σ s) : Kept σ (writeBank a len q ok s) :=
  kept_ite (kept_mk h rfl id) (kept_mk h rfl id)

theorem nvsWrite_kept {j ok} (h : Kept σ s) : Kept σ (nvsWrite j ok s) := by
  unfold nvsWrite
  exact kept_ite
    (by split; exacts [kept_ite (kept_mk h rfl id) (kept_mk h rfl id), kept_ite (kept_mk h rfl id) h])
    (kept_ite (kept_ite (kept_mk h rfl id) h) (writeBank_kept h))

theorem recordFault_kept {a} (h : Kept σ s) : Kept σ (recordFault a s) :=
  kept_ite (raise_kept _ _ _ _ h) (kept_ite (raise_kept _ _ _ _ h) (kept_ite (raise_kept _ _ _ _ h) h))

@[simp] theorem doNvsCommitDone_kept {flips} (h : Kept σ s) : Kept σ (doNvsCommitDone flips s) := by
  unfold doNvsCommitDone
  split
  · exact h
  · exact kept_ite
      (kept_ite
        (raise_kept _ _ _ _
          (kept_mk (by
              split
              · exact nvsResult_kept (nvsWrite_kept (kept_mk (forEach_kept (fun _ _ h6 => raise_kept _ _ _ _ (kept_mk h6 rfl id)) h) rfl id))
              · exact nvsWrite_kept (kept_mk (forEach_kept (fun _ _ h6 => raise_kept _ _ _ _ (kept_mk h6 rfl id)) h) rfl id)) rfl id))
        (kept_mk (by
            split
            · exact nvsResult_kept (nvsWrite_kept (kept_mk (forEach_kept (fun _ _ h6 => raise_kept _ _ _ _ (kept_mk h6 rfl id)) h) rfl id))
            · exact nvsWrite_kept (kept_mk (forEach_kept (fun _ _ h6 => raise_kept _ _ _ _ (kept_mk h6 rfl id)) h) rfl id)) rfl id))
      (recordFault_kept
        (raise_kept _ _ _ _
          (kept_mk (by
              split
              · exact nvsResult_kept (nvsWrite_kept (kept_mk (forEach_kept (fun _ _ h6 => raise_kept _ _ _ _ (kept_mk h6 rfl id)) h) rfl id))
              · exact nvsWrite_kept (kept_mk (forEach_kept (fun _ _ h6 => raise_kept _ _ _ _ (kept_mk h6 rfl id)) h) rfl id)) rfl id)))

theorem nvsScan_kept (h : Kept σ s) : Kept σ (nvsScan s) :=
  forEach_kept (fun _ _ h3 => kept_mk h3 rfl id)
    (kept_mk (forEach_kept (fun _ _ => raise_kept _ _ _ _) (forEach_kept (fun _ _ => raise_kept _ _ _ _) h)) rfl id)

theorem countResume_kept (h : Kept σ s) : Kept σ (countResume s) :=
  kept_mk h rfl id

end

end Sys2Proof.Machine
end

section
/-! SUPPORT. What the operations of the timebase keep (Machine/Timebase.lean, in its order): `Kept` (Laws/Kept.lean) carried through each. -/

namespace Sys2Proof.Machine

section
variable {σ s : State}

@[simp] theorem doTimeRsp_kept {port t4} (h : Kept σ s) : Kept σ (doTimeRsp port t4 s) :=
  kept_ite (have h1 := updPort_kept h; kept_ite (setTbs_kept _ _ h1) h1) h

@[simp] theorem doPpsEdge_kept (h : Kept σ s) : Kept σ (doPpsEdge s) :=
  kept_ite h (kept_ite (setTbs_kept _ _ h) (raise_kept _ _ _ _ (setTbs_kept _ _ h)))

theorem servoTick_kept (h : Kept σ s) : Kept σ (servoTick s) := by
  dsimp only [servoTick]
  exact have h1 := setTbs_kept _ _ h;
    by split; exacts [setTbs_kept _ _ h1, setTbs_kept _ _ (kept_mk h1 rfl id)]

@[simp] theorem doHoldoverEnter_kept (h : Kept σ s) : Kept σ (doHoldoverEnter s) :=
  kept_ite (setTbs_kept _ _ h) h

@[simp] theorem doHoldoverLimit_kept (h : Kept σ s) : Kept σ (doHoldoverLimit s) :=
  kept_ite (raise_kept _ _ _ _ (setTbs_kept _ _ h)) h

@[simp] theorem doCrystalFail_kept (h : Kept σ s) : Kept σ (doCrystalFail s) :=
  kept_ite h (raise_kept _ _ _ _ (setTbs_kept _ _ h))

theorem advanceTime_kept (h : Kept σ s) : Kept σ (advanceTime s) := by
  dsimp only [advanceTime]
  exact have h1 := setTbs_kept _ _ h;
    by split; exacts [raise_kept _ _ _ _ (setTbs_kept _ _ (kept_ite (kept_mk h1 rfl id) h1)), h1]

theorem almFire_kept {k} (h : Kept σ s) : Kept σ (almFire k s) :=
  kept_ite (kept_mk (setWord_kept _ _ _ h) rfl id) h

end

end Sys2Proof.Machine
end

section
/-! SUPPORT. What the operations of the two-wire ports keep (Machine/Twp.lean, in its order): `Kept` (Laws/Kept.lean) carried through each. -/

namespace Sys2Proof.Machine

section
variable {σ s : State}

theorem adoptRead_kept {r ok d} (h : Kept σ s) : Kept σ (adoptRead r ok d s) :=
  kept_ite (kept_ite (doAdoptRailReadDone_kept h) (doAdoptRailReadDone_kept h)) h

theorem alertStillLow_kept (h : Kept σ s) : Kept σ (alertStillLow s).2 :=
  kept_mk h rfl id

theorem alertAgain_kept {p} (h : Kept σ s) : Kept σ (alertAgain p s) :=
  kept_ite (twSubmit_kept (alertStillLow_kept h)) (updTwp_kept (alertStillLow_kept h))

theorem alertDone_kept {p res d} (h : Kept σ s) : Kept σ (alertDone p res d s) :=
  kept_ite (alertAgain_kept (forEach_kept (fun _ _ => readRailStatus_kept) (updTwp_kept (updTwp_kept h))))
    (kept_ite
      (have h3 := updTwp_kept h;
        kept_ite (raise_kept _ _ _ _ (twpFlag_kept (updTwp_kept (alertStillLow_kept h3))))
        (kept_cond (alertStillLow_kept h3) (fun h4 => twSubmit_kept h4))) (alertAgain_kept h))

theorem fxDone_kept {p w rlen opt tag res nack d} (h : Kept σ s) : Kept σ (fxDone p w rlen opt tag res nack d s) :=
  updTwp_kept h

theorem twFinish_kept {p o res nack d} (h : Kept σ s) : Kept σ (twFinish p o res nack d s) := by
  dsimp only [twFinish]
  exact have h1 := kept_ite (updTwp_kept h) h;
    have h2 := kept_ite (twpFlag_kept h1) h1;
    by
    split
    · exact kept_ite (railModeBad_kept h2) h2
    · exact railStatusRead_kept h2
    · exact railStatusRead_kept h2
    · exact adoptRead_kept h2
    · exact adoptRead_kept h2
    · exact kept_ite (doMsgAck_kept h2) h2
    · exact kept_ite (telemetryDraw_kept h2) h2
    · exact kept_ite (telemetryDemand_kept h2) h2
    · exact by split; exacts [kept_ite (writeSignal_kept _ _ _ _ (kept_mk h2 rfl id)) h2, h2]
    · exact alertDone_kept h2
    · exact fxDone_kept h2
    · exact h2

@[simp] theorem doTransferDone_kept {port result nack data} (h : Kept σ s) : Kept σ (doTransferDone port result nack data s) := by
  dsimp only [doTransferDone]
  split
  · exact h
  · exact kept_ite h
      (have h1 := updTwp_kept h;
        kept_ite (twReoffer_kept (arbBeatEnd_kept (twNext_kept h1))) (twReoffer_kept (twFinish_kept (arbBeatEnd_kept (twNext_kept h1)))))

theorem clkLowEnd_kept {p sdaLow freed} (h : Kept σ s) : Kept σ (clkLowEnd p sdaLow freed s) := by
  unfold clkLowEnd
  split
  · exact updTwp_kept h
  · exact have h1 := updTwp_kept h;
      twReoffer_kept (twFinish_kept (arbBeatEnd_kept (twNext_kept (kept_ite (busClear_kept h1) h1))))

theorem clkLowTick_kept (h : Kept σ s) : Kept σ (clkLowTick s) := by
  unfold clkLowTick
  exact forEach_kept (fun _ _ h1 => by split; exacts [kept_ite (clkLowEnd_kept h1) h1, h1]) h

@[simp] theorem doClkLowTimeout_kept {port sdaLow freed} (h : Kept σ s) : Kept σ (doClkLowTimeout port sdaLow freed s) :=
  kept_ite h
    (have h1 := raise_kept _ _ _ _ (twpFlag_kept (updTwp_kept h));
      kept_ite (kept_ite (clkLowEnd_kept h1) (updTwp_kept h1)) (kept_ite (updTwp_kept h1) h1))

@[simp] theorem doDataLowTimeout_kept {port freed} (h : Kept σ s) : Kept σ (doDataLowTimeout port freed s) :=
  kept_ite h
    (have h1 := twpFlag_kept (updTwp_kept h);
      kept_ite (raise_kept _ _ _ _ h1) (have h2 := raise_kept _ _ _ _ h1; kept_ite (arbGo_kept (busClear_kept h2)) h2))

theorem twpCommand_kept {p w freed} (h : Kept σ s) : Kept σ (twpCommand p w freed s) :=
  kept_ite h
    (have h1 := setTag_kept _ _ _ h;
      kept_ite h1
      (kept_ite (updTwp_kept h1)
        (kept_ite (updTwp_kept h1)
          (kept_ite (arbGo_kept (updTwp_kept (busClear_kept h1))) (kept_ite (updTwp_kept h1) (updTwp_kept (drivePin_kept _ _ (updTwp_kept h1))))))))

theorem twpCtrlWrite_kept {path p w freed} (h : Kept σ s) : Kept σ (twpCtrlWrite path p w freed s) :=
  withAuthority_kept (fun _ h1 => twpCommand_kept (setPair_kept _ _ _ h1)) h

@[simp] theorem doTwpBusClearCmd_kept {path port tag freed} (h : Kept σ s) : Kept σ (doTwpBusClearCmd path port tag freed s) :=
  twpCtrlWrite_kept h

@[simp] theorem doTwpResetPulse_kept {path port tag} (h : Kept σ s) : Kept σ (doTwpResetPulse path port tag s) :=
  twpCtrlWrite_kept h

@[simp] theorem doResetPinRelease_kept {port} (h : Kept σ s) : Kept σ (doResetPinRelease port s) := by
  dsimp only [doResetPinRelease]
  split
  · exact kept_ite (drivePin_kept _ _ (updTwp_kept h)) h
  · exact h

@[simp] theorem doResetPinSettle_kept {port freed} (h : Kept σ s) : Kept σ (doResetPinSettle port freed s) := by
  dsimp only [doResetPinSettle]
  split
  · exact kept_ite (arbGo_kept (busClear_kept (updTwp_kept h))) h
  · exact h

@[simp] theorem doStuckRetry_kept {port freed} (h : Kept σ s) : Kept σ (doStuckRetry port freed s) := by
  dsimp only [doStuckRetry]
  split
  · exact kept_ite (arbGo_kept (busClear_kept h)) h
  · exact h

@[simp] theorem doAlertLineFall_kept {port} (h : Kept σ s) : Kept σ (doAlertLineFall port s) :=
  kept_ite (twSubmit_kept (updTwp_kept h)) h

@[simp] theorem doAlertIgnoreEnd_kept {port} (h : Kept σ s) : Kept σ (doAlertIgnoreEnd port s) := by
  unfold doAlertIgnoreEnd
  split
  · exact kept_ite (updTwp_kept h) h
  · exact h

theorem driveAlert_kept (h : Kept σ s) : Kept σ (driveAlert s) :=
  drivePin_kept _ _ h

theorem alertSource_kept {j} (h : Kept σ s) : Kept σ (alertSource j s) :=
  kept_ite h (driveAlert_kept (updTwp_kept h))

@[simp] theorem doAlertResponseRead_kept {won} (h : Kept σ s) : Kept σ (doAlertResponseRead won s) := by
  unfold doAlertResponseRead
  split
  · exact kept_ite (driveAlert_kept (updTwp_kept h)) h
  · exact h

theorem fxStart_kept {p k w} (h : Kept σ s) : Kept σ (fxStart p k w s) :=
  have h1 := setWord_kept _ _ _ h;
    kept_ite h1 (kept_ite (updTwp_kept h1) (twSubmit_kept (updTwp_kept h1)))

@[simp] theorem doFxTransferStart_kept {path port window ctrl} (h : Kept σ s) : Kept σ (doFxTransferStart path port window ctrl s) :=
  withAuthority_kept (fun _ => fxStart_kept) h

theorem mirrorTick_kept {r} (h : Kept σ s) : Kept σ (mirrorTick r s) :=
  have h1 := kept_ite (twSubmit_kept (kept_mk h rfl id)) h;
    kept_ite (staleSignal_kept h1) h1

theorem twpTick_kept {c} (h : Kept σ s) : Kept σ (twpTick c s) := by
  unfold twpTick
  exact kept_ite (forEach_kept (fun _ _ => twReoffer_kept) h)
    (kept_ite (forEach_kept (fun _ _ => mirrorTick_kept) h)
      (kept_ite
        (forEach_kept (fun _ _ h3 => by split; exacts [kept_ite h3 (twSubmit_kept (twSubmit_kept h3)), h3]) h) h))

theorem twpLoad_kept {b} (h : Kept σ s) : Kept σ (twpLoad b s) :=
  loadWords_kept (kept_mk h rfl id)

end

end Sys2Proof.Machine
end

section
/-! SUPPORT. What the operations of the device power states keep (Machine/Power.lean, in its order): `Kept` (Laws/Kept.lean) carried through each. -/

namespace Sys2Proof.Machine

section
variable {σ s : State}

theorem holdUpdate_kept (h : Kept σ s) : Kept σ (holdUpdate s) :=
  kept_ite (kept_mk h rfl id) (kept_ite (kept_mk h rfl id) h)

@[simp] theorem doHoldoffExpiry_kept (h : Kept σ s) : Kept σ (doHoldoffExpiry s) := by
  unfold doHoldoffExpiry
  split
  · exact kept_ite (kept_mk h rfl id) h
  · exact h

theorem paceTick_kept {counts} (h : Kept σ s) : Kept σ (paceTick counts s) :=
  kept_mk h rfl id

@[simp] theorem doPaceStepUp_kept {region} (h : Kept σ s) : Kept σ (doPaceStepUp region s) := by
  unfold doPaceStepUp
  split
  · exact kept_ite (kept_mk h rfl id) h
  · exact h

@[simp] theorem doPaceStepDown_kept (h : Kept σ s) : Kept σ (doPaceStepDown s) :=
  kept_ite (kept_mk h rfl id) h

@[simp] theorem doPaceOverrun_kept {region} (h : Kept σ s) : Kept σ (doPaceOverrun region s) := by
  unfold doPaceOverrun
  split
  · exact kept_ite (raise_kept _ _ _ _ (kept_mk h rfl id)) h
  · exact h

theorem addResidency_kept {st n} (h : Kept σ s) : Kept σ (addResidency st n s) :=
  kept_mk h rfl id

theorem enterD2_kept (h : Kept σ s) : Kept σ (enterD2 s) :=
  kept_mk (forEach_kept (fun _ _ h2 => kept_ite (updProc_kept h2) h2) h) rfl id

theorem leaveD2_kept (h : Kept σ s) : Kept σ (leaveD2 s) :=
  have h2 := kept_mk (forEach_kept (fun _ _ h3 => kept_ite (updProc_kept h3) h3) h) rfl id;
    kept_ite (rcdEvent_kept (kept_mk h2 rfl id)) h2

theorem enterD3_kept (h : Kept σ s) : Kept σ (enterD3 s) :=
  kept_mk h rfl id

theorem deepen_kept (h : Kept σ s) : Kept σ (deepen s) :=
  have h1 := kept_mk h rfl id;
    kept_ite (engineGate_kept h1) (kept_ite (enterD2_kept h1) (kept_ite (enterD3_kept h1) h1))

theorem leaveD3_kept (h : Kept σ s) : Kept σ (leaveD3 s) :=
  note_kept _ (kept_mk h rfl id)

theorem arrive_kept (h : Kept σ s) : Kept σ (arrive s) :=
  kept_ite (kept_ite ((have h1 := kept_mk h rfl id; have h2 := kept_ite (leaveD2_kept h1) h1; kept_ite (engineUngate_kept h2) h2)) h) h

theorem wakeTo_kept {st} (h : Kept σ s) : Kept σ (wakeTo st s) :=
  kept_ite h (kept_ite (leaveD3_kept h) (arrive_kept (kept_mk h rfl id)))

theorem wakeTick_kept (h : Kept σ s) : Kept σ (wakeTick s) :=
  kept_mk h rfl id

@[simp] theorem doDomainSupplyGood_kept {domain} (h : Kept σ s) : Kept σ (doDomainSupplyGood domain s) :=
  kept_ite (arrive_kept (kept_mk h rfl id)) h

@[simp] theorem doDomainFail_kept {domain} (h : Kept σ s) : Kept σ (doDomainFail domain s) := by
  unfold doDomainFail
  split
  · exact kept_ite (arrive_kept (raise_kept _ _ _ _ (kept_mk h rfl id))) h
  · exact h

@[simp] theorem doWakeEvent_kept {source} (h : Kept σ s) : Kept σ (doWakeEvent source s) :=
  kept_ite (kept_ite (leaveD3_kept h) h) (kept_ite (wakeTo_kept h) (kept_ite (wakeTo_kept h) h))

@[simp] theorem doWakeAddressMatch_kept {port addr} (h : Kept σ s) : Kept σ (doWakeAddressMatch port addr s) :=
  kept_ite (kept_ite (leaveD3_kept (twpFlag_kept h)) (kept_ite (twpFlag_kept h) h)) h

@[simp] theorem doTbsAlarm_kept {alarm} (h : Kept σ s) : Kept σ (doTbsAlarm alarm s) :=
  kept_ite (have h1 := almFire_kept h; kept_ite (leaveD3_kept h1) h1) h

theorem pmdTick_kept (h : Kept σ s) : Kept σ (pmdTick s) :=
  have h2 := kept_mk (kept_ite (kept_mk h rfl id) h) rfl id;
    kept_ite (wakeTo_kept (kept_mk h2 rfl id)) ((have h3 := kept_mk h2 rfl id; kept_ite (deepen_kept h3) h3))

theorem setLocate_kept {b} (h : Kept σ s) : Kept σ (setLocate b s) :=
  kept_mk h rfl id

@[simp] theorem doLocateButton_kept (h : Kept σ s) : Kept σ (doLocateButton s) :=
  have h1 := setLocate_kept (kept_mk h rfl id);
    kept_ite (leaveD3_kept h1) h1

@[simp] theorem doLocateTimeout_kept (h : Kept σ s) : Kept σ (doLocateTimeout s) :=
  kept_ite (setLocate_kept h) h

theorem driveIndicators_kept (h : Kept σ s) : Kept σ (driveIndicators s) :=
  drivePin_kept _ _ (drivePin_kept _ _ (drivePin_kept _ _ (forEach_kept (fun _ _ => drivePin_kept _ _) h)))

end

end Sys2Proof.Machine
end

section
/-! SUPPORT. What the operations of the commits keep (Machine/Commit.lean, in its order): `Kept` (Laws/Kept.lean) carried through each. -/

namespace Sys2Proof.Machine

section
variable {σ s : State}

theorem commitResult_kept {reg first result} (h : Kept σ s) : Kept σ (commitResult reg first result s) :=
  updCommit_kept _ _ _ h

theorem commitRequest_kept {reg} (h : Kept σ s) : Kept σ (commitRequest reg s) := by
  unfold commitRequest
  extract_lets ws t
  have ht : Kept σ t := updCommit_kept _ _ _ h
  refine kept_ite (updCommit_kept _ _ _ h) ?_
  split
  · exact commitResult_kept h
  · exact kept_ite (updArb_kept ht) ht

theorem applyWords_kept {ws} (h : Kept σ s) : Kept σ (applyWords ws s) :=
  foldl_kept (fun _ _ h1 => setLive_kept _ _ _ h1) h

theorem commitApply_kept {reg} (h : Kept σ s) : Kept σ (commitApply reg s) := by
  unfold commitApply
  split
  · exact kept_ite (commitResult_kept (applyWords_kept h)) h
  · exact h

theorem commitTick_kept (h : Kept σ s) : Kept σ (commitTick s) :=
  forEach_kept (fun _ _ => commitApply_kept) h

theorem commitWrite_kept {path reg w} (h : Kept σ s) : Kept σ (commitWrite path reg w s) :=
  withAuthority_kept (fun _ h1 => kept_ite h1 (kept_ite (discardStaged_kept _ _ h1) (commitRequest_kept h1))) h

@[simp] theorem doBlockCommit_kept {path reg} (h : Kept σ s) : Kept σ (doBlockCommit path reg s) :=
  kept_ite (commitWrite_kept h) h

@[simp] theorem doBlockDiscard_kept {path reg} (h : Kept σ s) : Kept σ (doBlockDiscard path reg s) :=
  kept_ite (commitWrite_kept h) h

@[simp] theorem doBlockCommitApply_kept {reg} (h : Kept σ s) : Kept σ (doBlockCommitApply reg s) :=
  commitApply_kept h

theorem loadSections_kept {b} (h : Kept σ s) : Kept σ (loadSections b s) :=
  cnpLoadDescs_kept (arbLoad_kept (twpLoad_kept (seqLoad_kept (motLoad_kept (lkfLoad_kept (thmLoad_kept (entryAtLoad_kept (kept_mk h rfl id))))))))

theorem discardRegions_kept {l} (h : Kept σ s) : Kept σ (discardRegions l s) :=
  have h1 := kept_ite (kept_mk h rfl id) h;
    have h2 := kept_ite (kept_mk h1 rfl id) h1;
    have h3 := kept_ite (kept_mk h2 rfl id) h2;
    have h4 := kept_ite (kept_mk h3 rfl id) h3;
    kept_ite (kept_mk h4 rfl id) h4

@[simp] theorem doStandbyApply_kept (h : Kept σ s) : Kept σ (doStandbyApply s) := by
  unfold doStandbyApply
  split
  · exact h
  · exact kept_ite (loadSections_kept (kept_mk (discardRegions_kept (dropStructure_kept _ h)) rfl id)) h

theorem stageTile_kept {b t} (h : Kept σ s) : Kept σ (stageTile b t s) :=
  updTile_kept h

theorem stagePart_kept {b code} (h : Kept σ s) : Kept σ (stagePart b code s) :=
  foldl_kept (fun _ _ h2 => setWord_kept _ _ _ (setWord_kept _ _ _ h2)) (discardStaged_kept _ _ h)

theorem cfgReport_kept {state block detail result} (h : Kept σ s) : Kept σ (cfgReport state block detail result s) :=
  kept_mk h rfl id

theorem startLiveApply_kept {b parts retry} (h : Kept σ s) : Kept σ (startLiveApply b parts retry s) := by
  dsimp only [startLiveApply]
  exact have h1 := forEach_kept (fun _ _ => stagePart_kept) h;
    have h2 := kept_ite (forEach_kept (fun _ _ => stageTile_kept) h1) h1;
    by split; exacts [cfgReport_kept (kept_mk h2 rfl id), kept_mk h2 rfl id]

theorem configApply_kept {late} (h : Kept σ s) : Kept σ (configApply late s) := by
  unfold configApply
  split
  · exact kept_ite (cfgReport_kept (kept_mk (applyWords_kept (forEach_kept (fun _ _ => updTile_kept) h)) rfl id)) h
  · exact h

@[simp] theorem doConfigCommitApply_kept (h : Kept σ s) : Kept σ (doConfigCommitApply s) :=
  configApply_kept h

theorem interruptApply_kept {p} (h : Kept σ s) : Kept σ (interruptApply p s) := by
  unfold interruptApply
  split
  · exact kept_ite h
      (have h1 := discardStaged_kept _ _ h;
        have h3 := cfgReport_kept (kept_ite (forEach_kept (fun _ _ => tileDiscard_kept) h1) h1);
        kept_ite (kept_mk h3 rfl id) (kept_mk h3 rfl id))
  · exact h

@[simp] theorem doApplyRetry_kept (h : Kept σ s) : Kept σ (doApplyRetry s) := by
  unfold doApplyRetry
  split
  · exact kept_ite (startLiveApply_kept h) h
  · exact h

theorem startApply_kept {b} (h : Kept σ s) : Kept σ (startApply b s) := by
  unfold startApply
  split
  · exact kept_ite (startLiveApply_kept h) (kept_mk h rfl id)
  · exact h

theorem applyEnd_kept (h : Kept σ s) : Kept σ (applyEnd s) :=
  kept_ite (cfgReport_kept h) h

end

end Sys2Proof.Machine
end

section
/-! SUPPORT. What the operations of read accesses keep (Machine/ReadAccess.lean, in its order): `Kept` (Laws/Kept.lean) carried through each. -/

namespace Sys2Proof.Machine

section
variable {σ s : State}

theorem readEffect_kept {off} (h : Kept σ s) : Kept σ (readEffect off s) := by
  dsimp only [readEffect]
  split
  · exact kept_ite (updWin_kept _ _ h) h
  · split
    · exact kept_ite (kept_mk h rfl id) h
    · exact kept_ite (kept_mk h rfl id) h
    · exact kept_ite (kept_mk h rfl id) h
    · exact kept_ite (kept_mk h rfl id) h
    · exact kept_ite (updTwp_kept h) (kept_ite (updTwp_kept h) h)
    · exact kept_ite h (kept_ite (updArb_kept h) (kept_ite (updReq_kept h) (kept_ite (updReq_kept h) h)))
    · exact kept_ite (kept_mk h rfl id) h
    · exact kept_ite (kept_mk h rfl id) (kept_ite (kept_mk h rfl id) h)
    · exact kept_ite (kept_mk h rfl id)
        (kept_ite (by
            split
            · exact updPort_kept h
            · exact updPort_kept h
            · exact updPort_kept h
            · exact updPort_kept h
            · exact updPort_kept h
            · exact h) h)
    · exact kept_ite (kept_mk h rfl id) (kept_ite (kept_mk h rfl id) h)
    · exact kept_ite (kept_mk h rfl id) (kept_ite (kept_mk h rfl id) h)
    · exact kept_ite (kept_mk h rfl id) h
    · exact kept_ite (updTile_kept h)
        (kept_ite (kept_ite (updCt_kept h) (kept_ite (updCt_kept h) h)) (kept_ite (kept_mk h rfl id) (kept_ite (updModel_kept h) h)))

theorem unmappedFault_kept {path off w} (h : Kept σ s) : Kept σ (unmappedFault path off w s) :=
  raise_kept _ _ _ _ h

theorem readAccess_kept {path off} (h : Kept σ s) : Kept σ (readAccess path off s).2 :=
  kept_ite_snd (readEffect_kept h) (kept_ite_snd h (unmappedFault_kept h))

@[simp] theorem doRcRead_kept {path offset} (h : Kept σ s) : Kept σ (doRcRead path offset s) :=
  readAccess_kept h

theorem readRun_kept {path n off} (h : Kept σ s) : Kept σ (readRun path n off s).2 := by
  induction n generalizing off s with
  | zero => exact h
  | succ n ih => exact ih (readAccess_kept h)

end

end Sys2Proof.Machine
end

section
/-! SUPPORT. What the operations of the firmware processors keep (Machine/Fpc.lean, in its order): `Kept` (Laws/Kept.lean) carried through each. -/

namespace Sys2Proof.Machine

section
variable {σ s : State}

theorem mbxSend_kept {c m} (h : Kept σ s) : Kept σ (mbxSend c m s) :=
  kept_ite (forEach_kept (fun _ _ => gclSend_kept) h) (kept_ite (kept_mk h rfl id) (kept_ite (forEach_kept (fun _ _ => gclSend_kept) h) h))

theorem mbxReply_kept {c m} (h : Kept σ s) : Kept σ (mbxReply c m s) :=
  have h1 := kept_mk h rfl id;
    mbxSend_kept (kept_ite (kept_mk h1 rfl id) h1)

theorem answerReq_kept {r status words} (h : Kept σ s) : Kept σ (answerReq r status words s) :=
  mbxReply_kept (kept_mk h rfl id)

theorem hwAnswer_kept {r status} (h : Kept σ s) : Kept σ (hwAnswer r status s) :=
  answerReq_kept (kept_mk h rfl id)

theorem mbxEvent_kept {seq result} (h : Kept σ s) : Kept σ (mbxEvent seq result s) :=
  forEach_kept (fun _ _ h1 => mbxSend_kept (kept_mk h1 rfl id)) (kept_mk h rfl id)

theorem trialEvent_kept {code} (h : Kept σ s) : Kept σ (trialEvent code s) :=
  kept_ite (kept_mk h rfl id) h

theorem abortOnBus_kept {p t} (h : Kept σ s) : Kept σ (abortOnBus p t s) := by
  unfold abortOnBus
  split
  · exact kept_ite (updTwp_kept h) h
  · exact h

theorem procStop_kept {p} (h : Kept σ s) : Kept σ (procStop p s) :=
  have h6 := interruptApply_kept
        (forEach_kept (fun _ _ => tileDiscard_kept)
          (discardStaged_kept _ _
            (forEach_kept (fun _ _ => abortOnBus_kept) (forEach_kept (fun _ _ => arbFlush_kept) (forEach_kept (fun _ _ => hwAnswer_kept) h)))));
    have h7 := kept_ite (cusProcRestart_kept h6) h6;
    kept_ite (kept_mk h7 rfl id) h7

theorem procHalt_kept {p} (h : Kept σ s) : Kept σ (procHalt p s) :=
  trialEvent_kept (raise_kept _ _ _ _ (updProc_kept h))

theorem procBegin_kept {p cause} (h : Kept σ s) : Kept σ (procBegin p cause s) :=
  raise_kept _ _ _ _ (updProc_kept h)

theorem procRestart_kept {p cause} (h : Kept σ s) : Kept σ (procRestart p cause s) :=
  kept_ite h
    (have h1 := updProc_kept h;
      have h3 := procStop_kept (kept_ite (trialEvent_kept h1) h1);
      kept_cond (procBegin_kept h3) (fun h4 => kept_ite (note_kept _ h4) (procHalt_kept (updProc_kept h3))))

theorem fpcCommand_kept {p w} (h : Kept σ s) : Kept σ (fpcCommand p w s) := by
  unfold fpcCommand
  exact kept_ite h
    (have h1 := setTag_kept _ _ _ h;
      by
      split
      · exact kept_ite (updProc_kept h1) h1
      · exact kept_ite (procBegin_kept (updProc_kept h1)) (procRestart_kept h1)
      · exact h1)

theorem fpcCtrlWrite_kept {path p w} (h : Kept σ s) : Kept σ (fpcCtrlWrite path p w s) :=
  withAuthority_kept (fun _ h1 => fpcCommand_kept (setPair_kept _ _ _ h1)) h

@[simp] theorem doProcRelease_kept {path p tag} (h : Kept σ s) : Kept σ (doProcRelease path p tag s) :=
  fpcCtrlWrite_kept h

@[simp] theorem doFpcRestart_kept {path p tag} (h : Kept σ s) : Kept σ (doFpcRestart path p tag s) :=
  fpcCtrlWrite_kept h

@[simp] theorem doProcReady_kept {path p key} (h : Kept σ s) : Kept σ (doProcReady path p key s) :=
  withAuthority_kept (fun _ h1 => kept_ite (updProc_kept h1) h1) h

@[simp] theorem doProcWdKick_kept {path p key} (h : Kept σ s) : Kept σ (doProcWdKick path p key s) :=
  withAuthority_kept (fun _ h1 => kept_ite (updProc_kept (kept_ite (kept_mk h1 rfl id) h1)) h1) h

@[simp] theorem doProcWatchdog_kept {p} (h : Kept σ s) : Kept σ (doProcWatchdog p s) :=
  kept_ite (procRestart_kept h) h

@[simp] theorem doProcTrap_kept {p} (h : Kept σ s) : Kept σ (doProcTrap p s) :=
  procRestart_kept h

@[simp] theorem doProcMemoryError_kept {p} (h : Kept σ s) : Kept σ (doProcMemoryError p s) :=
  procRestart_kept h

theorem procStart_kept {p} (h : Kept σ s) : Kept σ (procStart p s) :=
  updProc_kept h

theorem keepDigest_kept {kind index d} (h : Kept σ s) : Kept σ (keepDigest kind index d s) :=
  kept_mk h rfl id

theorem loadCopy_kept {p f} (h : Kept σ s) : Kept σ (loadCopy p f s) :=
  updProc_kept h

theorem storeCopy_kept {p f} (h : Kept σ s) : Kept σ (storeCopy p f s) :=
  loadCopy_kept (keepDigest_kept h)

@[simp] theorem doProcRestoreDone_kept {p flips} (h : Kept σ s) : Kept σ (doProcRestoreDone p flips s) :=
  kept_ite h (kept_ite (procStart_kept h) (have h1 := raise_kept _ _ _ _ (updProc_kept h); kept_ite (note_kept _ h1) (updProc_kept h1)))

@[simp] theorem doProcReloadDone_kept {p item} (h : Kept σ s) : Kept σ (doProcReloadDone p item s) := by
  unfold doProcReloadDone
  refine kept_ite h ?_
  split
  · exact procHalt_kept h
  · extract_lets t
    have ht : Kept σ t := rereads_kept h
    clear_value t
    split
    · exact kept_ite (procStart_kept (storeCopy_kept ht)) (procHalt_kept ht)
    · exact procHalt_kept ht

end

end Sys2Proof.Machine
end

section
/-! SUPPORT. What the operations of field update keep (Machine/Upd.lean, in its order): `Kept` (Laws/Kept.lean) carried through each. -/

namespace Sys2Proof.Machine

section
variable {σ s : State}

theorem saveRecord_kept {r} (h : Kept σ s) : Kept σ (saveRecord r s) :=
  nvsQueue_kept (kept_mk h rfl id)

theorem updResult_kept {result detail} (h : Kept σ s) : Kept σ (updResult result detail s) :=
  kept_mk h rfl id

theorem stagingRefused_kept {code detail erased} (h : Kept σ s) : Kept σ (stagingRefused code detail erased s) :=
  raise_kept _ _ _ _ (saveRecord_kept (updResult_kept (kept_mk (kept_ite (kept_mk h rfl id) h) rfl id)))

@[simp] theorem doStagingDone_kept {p} (h : Kept σ s) : Kept σ (doStagingDone p s) := by
  unfold doStagingDone
  extract_lets c inst t s1 cls _ s2 _
  have h1 : Kept σ s1 := rereads_kept h
  clear_value s1
  have h2 : Kept σ s2 := kept_mk h1 rfl id
  refine kept_ite h (kept_ite (stagingRefused_kept h) ?_)
  split
  · exact stagingRefused_kept h
  · exact kept_ite (stagingRefused_kept h1) (updResult_kept (saveRecord_kept h2))

theorem beginStaging_kept (h : Kept σ s) : Kept σ (beginStaging s) :=
  saveRecord_kept (kept_mk h rfl id)

theorem armSet_kept {mode} (h : Kept σ s) : Kept σ (armSet mode s) :=
  kept_ite (updResult_kept h) (kept_ite (updResult_kept h) (updResult_kept (saveRecord_kept (kept_mk (kept_ite h (mbxEvent_kept h)) rfl id))))

theorem updCommand_kept {w} (h : Kept σ s) : Kept σ (updCommand w s) := by
  unfold updCommand
  exact kept_ite h
    (have h1 := setTag_kept _ _ _ h;
      by
      split
      · exact armSet_kept (kept_mk h1 rfl id)
      · exact armSet_kept (kept_mk h1 rfl id)
      · exact have h2 := kept_mk h1 rfl id;
          kept_ite (updResult_kept (saveRecord_kept (kept_mk h2 rfl id))) (updResult_kept h2)
      · exact have h3 := kept_mk h1 rfl id;
          kept_ite (updResult_kept (trialEvent_kept h3)) (updResult_kept h3)
      · exact h1)

theorem updCmdWrite_kept {path w} (h : Kept σ s) : Kept σ (updCmdWrite path w s) :=
  withAuthority_kept (fun _ h1 => updCommand_kept (setPair_kept _ _ _ h1)) h

@[simp] theorem doUpdArmTime_kept {path tag} (h : Kept σ s) : Kept σ (doUpdArmTime path tag s) :=
  updCmdWrite_kept h

@[simp] theorem doUpdArmReset_kept {path tag} (h : Kept σ s) : Kept σ (doUpdArmReset path tag s) :=
  updCmdWrite_kept h

@[simp] theorem doUpdCancel_kept {path tag} (h : Kept σ s) : Kept σ (doUpdCancel path tag s) :=
  updCmdWrite_kept h

@[simp] theorem doUpdRollback_kept {path tag} (h : Kept σ s) : Kept σ (doUpdRollback path tag s) :=
  updCmdWrite_kept h

theorem markBefore_kept (h : Kept σ s) : Kept σ (markBefore s) :=
  kept_mk h rfl id

theorem enterDeferred_kept (h : Kept σ s) : Kept σ (enterDeferred s) :=
  raise_kept _ _ _ _ (saveRecord_kept (kept_mk h rfl id))

theorem startActivation_kept (h : Kept σ s) : Kept σ (startActivation s) :=
  have h2 := saveRecord_kept (markBefore_kept (kept_mk h rfl id));
    kept_ite h2 (kept_mk h2 rfl id)

theorem cancelWindow_kept (h : Kept σ s) : Kept σ (cancelWindow s) :=
  raise_kept _ _ _ _ (updResult_kept (saveRecord_kept (kept_mk h rfl id)))

@[simp] theorem doActivationTime_kept (h : Kept σ s) : Kept σ (doActivationTime s) :=
  kept_ite (kept_ite (cancelWindow_kept h) (kept_ite (enterDeferred_kept h) (startActivation_kept h))) h

@[simp] theorem doDeferEnd_kept (h : Kept σ s) : Kept σ (doDeferEnd s) :=
  kept_ite (startActivation_kept h) h

@[simp] theorem doDeferWindowEnd_kept (h : Kept σ s) : Kept σ (doDeferWindowEnd s) :=
  kept_ite (cancelWindow_kept h) h

theorem reportBits_kept {i} (h : Kept σ s) : Kept σ (reportBits i s) := by
  unfold reportBits
  split
  · exact kept_ite (cfgReport_kept h) (kept_ite (cfgReport_kept h) h)
  · exact h

theorem proveSet_kept {t} (h : Kept σ s) : Kept σ (proveSet s t).2 := by
  dsimp only [proveSet]
  split
  · exact reportBits_kept (rereads_kept (kept_mk h rfl id))
  · exact rereads_kept (kept_mk h rfl id)

theorem provingFailed_kept {slot code} (h : Kept σ s) : Kept σ (provingFailed slot code s) :=
  raise_kept _ _ _ _ (updResult_kept (saveRecord_kept (kept_mk h rfl id)))

theorem queueSwitch_kept {r} (h : Kept σ s) : Kept σ (queueSwitch r s) :=
  nvsQueue_kept (kept_mk h rfl id)

@[simp] theorem doProvingDone_kept (h : Kept σ s) : Kept σ (doProvingDone s) := by
  unfold doProvingDone
  exact kept_ite h
    (kept_ite (enterDeferred_kept h) (by
        split
        · exact provingFailed_kept h
        · exact kept_ite (provingFailed_kept (proveSet_kept h)) (queueSwitch_kept (kept_mk (proveSet_kept h) rfl id))))

theorem copySettings_kept {old new} (h : Kept σ s) : Kept σ (copySettings old new s) := by
  unfold copySettings
  exact kept_ite h (by split; exacts [by split; exacts [nvsQueue_kept h, h], h])

theorem forerunnerSettings_kept (h : Kept σ s) : Kept σ (forerunnerSettings s) :=
  forEach_kept (fun _ _ => raise_kept _ _ _ _) h

theorem runSet_kept {t} (h : Kept σ s) : Kept σ (runSet t s) := by
  unfold runSet
  exact bootNext_kept
    (kept_mk (by
        split
        · exact kept_ite
            (forEach_kept
              (fun _ _ h4 => kept_ite
                (procBegin_kept (updProc_kept (by split; exacts [storeCopy_kept h4, h4])))
                (procRestart_kept (by split; exacts [storeCopy_kept h4, h4]))) (kept_mk h rfl id))
            (startApply_kept
              (kept_mk
                (forEach_kept
                  (fun _ _ h4 => kept_ite
                    (procBegin_kept (updProc_kept (by split; exacts [storeCopy_kept h4, h4])))
                    (procRestart_kept (by split; exacts [storeCopy_kept h4, h4]))) (kept_mk h rfl id)) rfl id))
        · exact forEach_kept
            (fun _ _ h4 => kept_ite
              (procBegin_kept (updProc_kept (by split; exacts [storeCopy_kept h4, h4])))
              (procRestart_kept (by split; exacts [storeCopy_kept h4, h4]))) (kept_mk h rfl id)) rfl id)

theorem takeSwitch_kept {r} (h : Kept σ s) : Kept σ (takeSwitch r s) := by
  unfold takeSwitch
  extract_lets t fmtOld _ s1 _ s2
  have h1 : Kept σ s1 := kept_mk h rfl id
  clear_value s1
  have h2 : Kept σ s2 := kept_ite (updResult_kept (copySettings_kept (kept_mk h1 rfl id))) (kept_mk h1 rfl id)
  clear_value s2
  cases t with
  | some t => exact kept_ite (runSet_kept h2) (note_kept _ h2)
  | none => exact h2

theorem confirmSet_kept (h : Kept σ s) : Kept σ (confirmSet s) := by
  unfold confirmSet
  exact have h1 := saveRecord_kept h;
    have h2 := kept_ite (nvsQueue_kept h1) h1;
    updResult_kept (kept_mk (kept_ite h2 (by split; exacts [nvsQueue_kept h2, h2])) rfl id)

theorem confirmTick_kept (h : Kept σ s) : Kept σ (confirmTick s) :=
  kept_ite (confirmSet_kept h) h

theorem fallbackBegins_kept (h : Kept σ s) : Kept σ (fallbackBegins s) :=
  kept_ite (raise_kept _ _ _ _ (saveRecord_kept h)) h

@[simp] theorem doTrialExpiry_kept (h : Kept σ s) : Kept σ (doTrialExpiry s) :=
  kept_ite (fallbackBegins_kept (trialEvent_kept h)) h

@[simp] theorem doFallbackStart_kept (h : Kept σ s) : Kept σ (doFallbackStart s) := by
  unfold doFallbackStart
  exact kept_ite h (by
      split
      · exact saveRecord_kept h
      · exact kept_ite (saveRecord_kept h)
          (kept_ite (provingFailed_kept (proveSet_kept h)) (queueSwitch_kept (updResult_kept (kept_mk (proveSet_kept h) rfl id)))))

theorem trialClock_kept (h : Kept σ s) : Kept σ (trialClock s) := by
  unfold trialClock
  exact kept_ite h
    (by split; exacts [kept_ite (kept_mk h rfl id) h, kept_ite h (saveRecord_kept (kept_mk h rfl id))])

theorem applyWatch_kept (h : Kept σ s) : Kept σ (applyWatch s) :=
  kept_ite (trialEvent_kept (kept_mk h rfl id)) (kept_ite ((have h1 := kept_mk h rfl id; kept_ite (trialEvent_kept h1) h1)) h)

theorem switchWatch_kept (h : Kept σ s) : Kept σ (switchWatch s) := by
  unfold switchWatch
  split
  · exact kept_ite h (kept_ite (takeSwitch_kept h) (queueSwitch_kept h))
  · exact h

theorem resetWatch_kept (h : Kept σ s) : Kept σ (resetWatch s) :=
  kept_ite (note_kept _ h) h

theorem updReact_kept (h : Kept σ s) : Kept σ (updReact s) :=
  have h1 := kept_ite (kept_mk h rfl id) h;
    have h2 := kept_ite (saveRecord_kept (kept_mk h1 rfl id)) h1;
    trialClock_kept (resetWatch_kept (switchWatch_kept (fallbackBegins_kept (applyWatch_kept (kept_ite (enterDeferred_kept h2) h2)))))

end

end Sys2Proof.Machine
end

section
/-! SUPPORT. What the operations of the boot chain keep (Machine/Sec.lean, in its order): `Kept` (Laws/Kept.lean) carried through each. -/

namespace Sys2Proof.Machine

section
variable {σ s : State}

theorem recoveryWait_kept {code kind index need} (h : Kept σ s) : Kept σ (recoveryWait code kind index need s) :=
  gclRelease_kept (raise_kept _ _ _ _ (kept_mk h rfl id))

theorem bootFail_kept {slot code kind index need} (h : Kept σ s) : Kept σ (bootFail slot code kind index need s) :=
  have h1 := raise_kept _ _ _ _ h;
    have h2 := kept_ite (kept_mk h1 rfl id) h1;
    kept_ite (note_kept _ (kept_mk h2 rfl id)) (recoveryWait_kept h2)

theorem bootUpdate_kept {slot t flash} (h : Kept σ s) : Kept σ (bootUpdate slot t flash s) :=
  have h1 := kept_mk h rfl id;
    kept_ite (updResult_kept (saveRecord_kept (copySettings_kept (kept_mk h1 rfl id))))
    (kept_ite (provingFailed_kept h1)
      (kept_ite (saveRecord_kept h1)
        (kept_ite (kept_mk h1 rfl id)
          (kept_ite (saveRecord_kept h1)
            (kept_ite (updResult_kept (saveRecord_kept (kept_mk (kept_ite (raise_kept _ _ _ _ h1) h1) rfl id))) (kept_ite (kept_mk h1 rfl id) h1))))))

theorem resetLog_kept (h : Kept σ s) : Kept σ (resetLog s) := by
  unfold resetLog
  exact nvsQueue_kept (kept_mk h rfl id)

theorem loadImages_kept {t} (h : Kept σ s) : Kept σ (loadImages t s) := by
  unfold loadImages
  exact forEach_kept (fun _ _ h1 => by split; exacts [loadCopy_kept h1, h1]) h

theorem storeAlias_kept {t svn} (h : Kept σ s) : Kept σ (storeAlias t svn s) :=
  nvsQueue_kept (kept_mk h rfl id)

theorem bootDone_kept {slot path t flash} (h : Kept σ s) : Kept σ (bootDone slot path t flash s) := by
  unfold bootDone
  exact have h1 := kept_ite (raise_kept _ _ _ _ h) h;
    have h3 := kept_ite (kept_mk h1 rfl id) (storeAlias_kept (kept_mk h1 rfl id));
    forerunnerSettings_kept
    (resetLog_kept
      (bootUpdate_kept
        (kept_ite
          (gclRelease_kept (by
              split
              · exact loadSections_kept (cfgReport_kept (procStart_kept (loadImages_kept (kept_mk h3 rfl id))))
              · exact procStart_kept (loadImages_kept (kept_mk h3 rfl id)))) (by
            split
            · exact loadSections_kept (cfgReport_kept (procStart_kept (loadImages_kept (kept_mk h3 rfl id))))
            · exact procStart_kept (loadImages_kept (kept_mk h3 rfl id))))))

theorem bootSet_kept {slot path t fast flash} (h : Kept σ s) : Kept σ (bootSet slot path t fast flash s) := by
  dsimp only [bootSet]
  exact have h1 := rereads_kept h;
    have h2 := kept_ite (raise_kept _ _ _ _ (kept_mk h1 rfl id)) h1;
    by
    split
    · exact bootDone_kept h2
    · exact bootFail_kept (kept_ite (by split; exacts [reportBits_kept h2, h2]) h2)

theorem crystalAtStart_kept {good} (h : Kept σ s) : Kept σ (crystalAtStart good s) :=
  kept_ite (doCrystalFail_kept h) (kept_ite h (setTbs_kept _ _ h))

theorem romStart_kept {b} (h : Kept σ s) : Kept σ (romStart b s) :=
  have h3 := monoInc_kept (ledgerResume_kept (countResume_kept (nvsScan_kept (crystalAtStart_kept (kept_mk h rfl id)))));
    kept_ite (monoInc_kept h3) h3

@[simp] theorem doSecRomRelease_kept {b} (h : Kept σ s) : Kept σ (doSecRomRelease b s) := by
  dsimp only [doSecRomRelease]
  exact kept_ite h
    (have h1 := romStart_kept h;
      kept_ite (raise_kept _ _ _ _ (kept_mk h1 rfl id))
      (kept_ite (recoveryWait_kept h1)
        (have h2 := kept_mk h1 rfl id;
          by split; exacts [bootFail_kept h2, kept_ite (bootFail_kept h2) (bootSet_kept h2)])))

theorem releaseProc_kept {p} (h : Kept σ s) : Kept σ (releaseProc p s) :=
  kept_ite (fpcCtrlWrite_kept h) h

theorem secPoll_kept (h : Kept σ s) : Kept σ (secPoll s) :=
  kept_ite
    (have h1 := kept_ite (kept_mk h rfl id) h;
      have h2 := kept_ite (releaseProc_kept h1) h1;
      have h3 := kept_ite (releaseProc_kept h2) h2;
      have h4 := kept_ite (releaseProc_kept h3) h3;
      have h5 := kept_ite (releaseProc_kept (releaseProc_kept h4)) h4;
      kept_ite (kept_mk h5 rfl id) h5) h

@[simp] theorem doInputPowerGood_kept (h : Kept σ s) : Kept σ (doInputPowerGood s) :=
  kept_mk h rfl id

@[simp] theorem doUpNoPeer_kept (h : Kept σ s) : Kept σ (doUpNoPeer s) := by
  unfold doUpNoPeer
  split
  · exact kept_ite (kept_mk h rfl id) h
  · exact h

theorem rcvResult_kept {tag result} (h : Kept σ s) : Kept σ (rcvResult tag result s) :=
  kept_mk h rfl id

theorem rcvRelease_kept {tag b} (h : Kept σ s) : Kept σ (rcvRelease tag b s) := by
  unfold rcvRelease
  exact kept_ite (rcvResult_kept (kept_mk h rfl id)) (by
      split
      · exact bootDone_kept (rcvResult_kept h)
      · exact recoveryWait_kept (rcvResult_kept (kept_ite (by split; exacts [reportBits_kept h, h]) h)))

theorem rcvCommand_kept {w view b} (h : Kept σ s) : Kept σ (rcvCommand w view b s) := by
  dsimp only [rcvCommand]
  exact kept_ite h
    (have h1 := setTag_kept _ _ _ h;
      by
      split
      · exact kept_ite (rcvResult_kept h1) (kept_ite (rcvResult_kept (kept_mk h1 rfl id)) (gclFetch_kept (kept_mk h1 rfl id)))
      · exact rcvResult_kept (kept_mk h1 rfl id)
      · exact kept_ite (rcvResult_kept h1) (rcvResult_kept (kept_mk h1 rfl id))
      · exact by
          split
          · exact kept_ite (rcvResult_kept (kept_mk h1 rfl id))
              (rcvResult_kept (by split; exacts [cfgReport_kept h1, h1]))
          · exact rcvResult_kept h1
      · exact rcvRelease_kept h1
      · exact h1)

theorem rcvWrite_kept {path w view b} (h : Kept σ s) : Kept σ (rcvWrite path w view b s) :=
  withAuthority_kept (fun _ h1 => rcvCommand_kept (setPair_kept _ _ _ h1)) h

@[simp] theorem doRcvPull_kept {path tag kind index} (h : Kept σ s) : Kept σ (doRcvPull path tag kind index s) :=
  rcvWrite_kept h

@[simp] theorem doRcvAppendReset_kept {path tag kind index} (h : Kept σ s) : Kept σ (doRcvAppendReset path tag kind index s) :=
  rcvWrite_kept h

@[simp] theorem doRcvAppend_kept {path tag kind index view} (h : Kept σ s) : Kept σ (doRcvAppend path tag kind index view s) :=
  rcvWrite_kept h

@[simp] theorem doRcvVerify_kept {path tag kind index} (h : Kept σ s) : Kept σ (doRcvVerify path tag kind index s) :=
  rcvWrite_kept h

@[simp] theorem doRcvRelease_kept {path tag b} (h : Kept σ s) : Kept σ (doRcvRelease path tag b s) :=
  rcvWrite_kept h

@[simp] theorem doPullDone_kept {ok item} (h : Kept σ s) : Kept σ (doPullDone ok item s) := by
  unfold doPullDone
  split
  · exact have h1 := kept_mk h rfl id;
      kept_ite (rcvResult_kept (kept_mk h1 rfl id)) (rcvResult_kept (kept_mk h1 rfl id))
  · exact h

theorem pullWatch_kept (h : Kept σ s) : Kept σ (pullWatch s) :=
  kept_ite (doPullDone_kept h) h

theorem keyCommand_kept {path w} (h : Kept σ s) : Kept σ (keyCommand path w s) :=
  kept_ite h (have h1 := setTag_kept _ _ _ h; kept_ite (kept_mk h1 rfl id) (raise_kept _ _ _ _ (kept_mk h1 rfl id)))

theorem keyWrite_kept {path w} (h : Kept σ s) : Kept σ (keyWrite path w s) :=
  withAuthority_kept (fun _ h1 => keyCommand_kept (setPair_kept _ _ _ h1)) h

theorem fillKeyBuf_kept {l} (h : Kept σ s) : Kept σ (fillKeyBuf l s) :=
  kept_mk h rfl id

@[simp] theorem doKeySubmit_kept {path tag record} (h : Kept σ s) : Kept σ (doKeySubmit path tag record s) :=
  withAuthority_kept (fun _ h1 => keyWrite_kept (fillKeyBuf_kept h1)) h

/-- A blow only adds to the fuses (R410). -/
@[simp] theorem doFuseBlowDone_kept {readBack} (h : Kept σ s) : Kept σ (doFuseBlowDone readBack s) := by
  unfold doFuseBlowDone
  extract_lets touched _
  split
  · extract_lets t
    have ht : Kept σ t := ⟨h.queue, h.fuses.trans (blowFuse_grows _ _ _ _), h.plane, h.regs, h.disc⟩
    exact kept_ite (raise_kept _ _ _ _ ht) (raise_kept _ _ _ _ ht)
  · exact h

@[simp] theorem doSupervisionWatchdogBite_kept (h : Kept σ s) : Kept σ (doSupervisionWatchdogBite s) :=
  kept_ite (note_kept _ h) h

@[simp] theorem doResetCtrlKey_kept {path value} (h : Kept σ s) : Kept σ (doResetCtrlKey path value s) :=
  kept_ite (kept_ite (note_kept _ h) (raise_kept _ _ _ _ h)) (raise_kept _ _ _ _ h)

end

end Sys2Proof.Machine
end

section
/-! SUPPORT. What the operations of the mailboxes keep (Machine/Mbx.lean, in its order): `Kept` (Laws/Kept.lean) carried through each. -/

namespace Sys2Proof.Machine

section
variable {σ s : State}

theorem mbxRefuse_kept {m typ status inj} (h : Kept σ s) : Kept σ (mbxRefuse m typ status inj s) :=
  mbxReply_kept (kept_mk (kept_ite (raise_kept _ _ _ _ h) (kept_ite h (raise_kept _ _ _ _ h))) rfl id)

theorem mbxAccept_kept {c typ seq} (h : Kept σ s) : Kept σ (mbxAccept c typ seq s) :=
  kept_mk h rfl id

theorem relayAnswer_kept {m typ} (h : Kept σ s) : Kept σ (relayAnswer m typ s) := by
  unfold relayAnswer
  split
  · exact answerReq_kept h
  · exact h

theorem mbxSubmit_kept {typ m img} (h : Kept σ s) : Kept σ (mbxSubmit typ m img s) := by
  dsimp only [mbxSubmit]
  exact kept_ite h
    (kept_ite (kept_mk h rfl id)
      (have h1 := kept_ite_snd (injectCheck_kept h) h;
        kept_ite (mbxRefuse_kept h1)
        (kept_ite (relayAnswer_kept h1)
          (have h2 := mbxAccept_kept h1;
            by
            split
            · exact mbxSend_kept (kept_mk h2 rfl id)
            · exact kept_ite (mbxRefuse_kept (kept_ite (wakeTo_kept h2) h2)) (kept_mk h2 rfl id)))))

theorem markStarted_kept {r tag} (h : Kept σ s) : Kept σ (markStarted r tag s) :=
  kept_mk h rfl id

theorem invalidReq_kept {r} (h : Kept σ s) : Kept σ (invalidReq r s) :=
  answerReq_kept h

theorem cmdReq_kept {r off params ok write} (hwrite : ∀ x s, Kept σ s → Kept σ (write x s)) (h : Kept σ s) : Kept σ (cmdReq r off params ok write s) :=
  kept_ite (invalidReq_kept h) (hwrite _ _ (markStarted_kept (foldl_kept (fun _ _ h2 => setWord_kept _ _ _ h2) h)))

theorem attest_kept {r} (h : Kept σ s) : Kept σ (attest r s) :=
  kept_ite (invalidReq_kept h) (answerReq_kept (kept_mk h rfl id))

theorem updateStage_kept {r} (h : Kept σ s) : Kept σ (updateStage r s) :=
  kept_ite (answerReq_kept (raise_kept _ _ _ _ (updResult_kept h)))
    (kept_ite (answerReq_kept h) (kept_ite (invalidReq_kept h) (answerReq_kept (kept_mk (beginStaging_kept (kept_ite h (gclFetch_kept h))) rfl id))))

theorem canopyLoad_kept {r} (h : Kept σ s) : Kept σ (canopyLoad r s) :=
  kept_ite (invalidReq_kept h) (cnpAccept_kept (setTag_kept _ _ _ (setPair_kept _ _ _ (markStarted_kept (gclFetch_kept h)))))

theorem relay_kept {r} (h : Kept σ s) : Kept σ (relay r s) :=
  kept_ite (invalidReq_kept h) (gclSend_kept (markStarted_kept h))

theorem locateReq_kept {r} (h : Kept σ s) : Kept σ (locateReq r s) := by
  unfold locateReq
  split
  · exact answerReq_kept (setLocate_kept (kept_mk h rfl id))
  · exact invalidReq_kept h

theorem indicatorReq_kept {r} (h : Kept σ s) : Kept σ (indicatorReq r s) := by
  unfold indicatorReq
  split
  · exact kept_ite (invalidReq_kept h) (answerReq_kept (kept_mk h rfl id))
  · exact invalidReq_kept h

theorem contractLoad_kept {r} (h : Kept σ s) : Kept σ (contractLoad r s) :=
  kept_ite (invalidReq_kept h) (answerReq_kept (kept_mk h rfl id))

theorem csrRead_kept {r} (h : Kept σ s) : Kept σ (csrRead r s) := by
  unfold csrRead
  split
  · exact kept_ite (invalidReq_kept h) (answerReq_kept (readRun_kept h))
  · exact invalidReq_kept h

theorem procRestartReq_kept {r} (h : Kept σ s) : Kept σ (procRestartReq r s) := by
  unfold procRestartReq
  split
  · exact kept_ite (invalidReq_kept h) (fpcCtrlWrite_kept (markStarted_kept h))
  · exact invalidReq_kept h

theorem startReq_kept {r} (h : Kept σ s) : Kept σ (startReq r s) := by
  unfold startReq
  split
  · exact answerReq_kept h
  · exact answerReq_kept h
  · exact csrRead_kept h
  · exact invalidReq_kept h
  · exact contractLoad_kept h
  · exact cmdReq_kept (fun _ _ => schedActWrite_kept) h
  · exact cmdReq_kept (fun _ _ => schedActWrite_kept) h
  · split
    · exact kept_ite h (by split; exacts [answerReq_kept h, invalidReq_kept h])
    · exact invalidReq_kept h
  · exact cmdReq_kept (fun _ _ => seqCmdWrite_kept) h
  · exact cmdReq_kept (fun _ _ => seqCmdWrite_kept) h
  · exact cmdReq_kept (fun _ _ => shdnClrWrite_kept) h
  · exact cmdReq_kept (fun _ _ => motClearWrite_kept) h
  · exact cmdReq_kept (fun _ _ => lkfClearWrite_kept) h
  · exact locateReq_kept h
  · exact indicatorReq_kept h
  · exact cmdReq_kept (fun _ _ => cusCmdWrite_kept) h
  · exact cmdReq_kept (fun _ _ => cusRestartWrite_kept) h
  · exact canopyLoad_kept h
  · exact cmdReq_kept (fun _ _ => cnpCmdWrite_kept) h
  · exact updateStage_kept h
  · exact cmdReq_kept (fun _ _ => updCmdWrite_kept) h
  · exact answerReq_kept h
  · exact attest_kept h
  · exact procRestartReq_kept h
  · split
    · exact kept_ite (doResetCtrlKey_kept (markStarted_kept h)) (invalidReq_kept h)
    · exact invalidReq_kept h
  · exact cmdReq_kept (fun _ _ => rcdCmdWrite_kept) h
  · exact relay_kept h

theorem finishReq_kept {r} (h : Kept σ s) : Kept σ (finishReq r s) := by
  dsimp only [finishReq]
  split
  · exact kept_ite h (kept_ite (answerReq_kept (kept_ite (kept_mk h rfl id) h)) (answerReq_kept h))
  · exact kept_ite h (kept_ite h (answerReq_kept (kept_ite (kept_mk h rfl id) h)))

theorem handlerStep_kept {p} (h : Kept σ s) : Kept σ (handlerStep p s) := by
  unfold handlerStep
  exact kept_ite h (by split; exacts [finishReq_kept h, by split; exacts [startReq_kept h, h]])

@[simp] theorem doHandlerResponse_kept {p} (h : Kept σ s) : Kept σ (doHandlerResponse p s) :=
  kept_ite (handlerStep_kept h) (have h1 := handlerStep_kept h; kept_ite (handlerStep_kept h1) h1)

@[simp] theorem doMailboxTimeout_kept {chan} (h : Kept σ s) : Kept σ (doMailboxTimeout chan s) := by
  unfold doMailboxTimeout
  split
  · exact raise_kept _ _ _ _ (hwAnswer_kept h)
  · exact h

theorem longWatch_kept (h : Kept σ s) : Kept σ (longWatch s) := by
  unfold longWatch
  exact forEach_kept (fun _ _ h1 => by split; exacts [mbxEvent_kept (kept_mk h1 rfl id), h1]) h

theorem mbxTick_kept (h : Kept σ s) : Kept σ (mbxTick s) :=
  kept_ite h (longWatch_kept (forEach_kept (fun _ _ => handlerStep_kept) h))

theorem mbxAckWrite_kept {path w} (h : Kept σ s) : Kept σ (mbxAckWrite path w s) :=
  withAuthority_kept (fun _ h1 => kept_ite (kept_mk h1 rfl id) h1) h

@[simp] theorem doMbxAck_kept {path value} (h : Kept σ s) : Kept σ (doMbxAck path value s) :=
  mbxAckWrite_kept h

theorem mbxDoorbell_kept {path w} (h : Kept σ s) : Kept σ (mbxDoorbell path w s) :=
  withAuthority_kept (fun _ => mbxSubmit_kept) h

@[simp] theorem doPing_kept {m} (h : Kept σ s) : Kept σ (doPing m s) :=
  mbxSubmit_kept h

@[simp] theorem doGetInfo_kept {m} (h : Kept σ s) : Kept σ (doGetInfo m s) :=
  mbxSubmit_kept h

@[simp] theorem doCsrRead_kept {m} (h : Kept σ s) : Kept σ (doCsrRead m s) :=
  mbxSubmit_kept h

@[simp] theorem doContractLoad_kept {m} (h : Kept σ s) : Kept σ (doContractLoad m s) :=
  mbxSubmit_kept h

@[simp] theorem doContractArm_kept {m} (h : Kept σ s) : Kept σ (doContractArm m s) :=
  mbxSubmit_kept h

@[simp] theorem doContractCancel_kept {m} (h : Kept σ s) : Kept σ (doContractCancel m s) :=
  mbxSubmit_kept h

@[simp] theorem doLedgerRead_kept {m} (h : Kept σ s) : Kept σ (doLedgerRead m s) :=
  mbxSubmit_kept h

@[simp] theorem doSlotPower_kept {m} (h : Kept σ s) : Kept σ (doSlotPower m s) :=
  mbxSubmit_kept h

@[simp] theorem doTrayPower_kept {m} (h : Kept σ s) : Kept σ (doTrayPower m s) :=
  mbxSubmit_kept h

@[simp] theorem doShutdownClear_kept {m} (h : Kept σ s) : Kept σ (doShutdownClear m s) :=
  mbxSubmit_kept h

@[simp] theorem doMotorClear_kept {m} (h : Kept σ s) : Kept σ (doMotorClear m s) :=
  mbxSubmit_kept h

@[simp] theorem doLeakClear_kept {m} (h : Kept σ s) : Kept σ (doLeakClear m s) :=
  mbxSubmit_kept h

@[simp] theorem doLocate_kept {m} (h : Kept σ s) : Kept σ (doLocate m s) :=
  mbxSubmit_kept h

@[simp] theorem doIndicator_kept {m} (h : Kept σ s) : Kept σ (doIndicator m s) :=
  mbxSubmit_kept h

@[simp] theorem doModelLoad_kept {m} (h : Kept σ s) : Kept σ (doModelLoad m s) :=
  mbxSubmit_kept h

@[simp] theorem doJobRestart_kept {m} (h : Kept σ s) : Kept σ (doJobRestart m s) :=
  mbxSubmit_kept h

@[simp] theorem doCanopyLoad_kept {m img} (h : Kept σ s) : Kept σ (doCanopyLoad m img s) :=
  mbxSubmit_kept h

@[simp] theorem doCanopyCtrl_kept {m} (h : Kept σ s) : Kept σ (doCanopyCtrl m s) :=
  mbxSubmit_kept h

@[simp] theorem doUpdateStage_kept {m} (h : Kept σ s) : Kept σ (doUpdateStage m s) :=
  mbxSubmit_kept h

@[simp] theorem doUpdateActivate_kept {m} (h : Kept σ s) : Kept σ (doUpdateActivate m s) :=
  mbxSubmit_kept h

@[simp] theorem doUpdateStatus_kept {m} (h : Kept σ s) : Kept σ (doUpdateStatus m s) :=
  mbxSubmit_kept h

@[simp] theorem doAttest_kept {m} (h : Kept σ s) : Kept σ (doAttest m s) :=
  mbxSubmit_kept h

@[simp] theorem doProcRestartMsg_kept {m} (h : Kept σ s) : Kept σ (doProcRestartMsg m s) :=
  mbxSubmit_kept h

@[simp] theorem doChipResetMsg_kept {m} (h : Kept σ s) : Kept σ (doChipResetMsg m s) :=
  mbxSubmit_kept h

@[simp] theorem doRecorder_kept {m} (h : Kept σ s) : Kept σ (doRecorder m s) :=
  mbxSubmit_kept h

@[simp] theorem doRelay_kept {m} (h : Kept σ s) : Kept σ (doRelay m s) :=
  mbxSubmit_kept h

end

end Sys2Proof.Machine
end

section
/-! SUPPORT. What the operations of the ways into the register space keep (Machine/Access.lean, in its order): `Kept` (Laws/Kept.lean) carried through each. -/

namespace Sys2Proof.Machine

section
variable {σ s : State}

theorem rwWrite_kept {off w} (h : Kept σ s) : Kept σ (rwWrite off w s) := by
  dsimp only [rwWrite]
  split
  · exact kept_ite (kept_mk h rfl id) (setWord_kept _ _ _ h)
  · exact kept_mk h rfl id
  · exact kept_ite (kept_mk h rfl id) (setWord_kept _ _ _ h)
  · exact kept_ite (fxStart_kept h) (setWord_kept _ _ _ h)
  · exact kept_ite (setLocate_kept (kept_mk h rfl id)) (kept_mk h rfl id)
  · exact setWord_kept _ _ _ h

theorem w1cWrite_kept {path off w} (h : Kept σ s) : Kept σ (w1cWrite path off w s) := by
  dsimp only [w1cWrite]
  split
  · exact kept_ite (kept_ite (updWin_kept _ _ h) h) (clearPending_kept h)
  · split
    · exact kept_mk h rfl id
    · exact kept_ite (doFfrValidClear_kept h) h
    · exact kept_ite (kept_mk h rfl id) h
    · exact kept_ite (updTwp_kept h) (kept_ite (driveAlert_kept (updTwp_kept h)) h)
    · exact kept_ite (updReq_kept h) h
    · exact kept_ite (kept_mk h rfl id) h

theorem woWrite_kept {path off w} (h : Kept σ s) : Kept σ (woWrite path off w s) :=
  kept_ite (doResetCtrlKey_kept h)
    (kept_ite (commitWrite_kept h)
      (kept_ite (kept_ite (doProcReady_kept h) (doProcWdKick_kept h))
        (kept_ite (mbxDoorbell_kept h)
          (kept_ite (mbxAckWrite_kept h)
            (kept_ite (kept_ite (doGroupCommit_kept h) h) (kept_ite (kept_ite (doTileDiscard_kept h) (doTileCommit_kept h)) h))))))

theorem pairCommand_kept {path base w} (h : Kept σ s) : Kept σ (pairCommand path base w s) := by
  dsimp only [pairCommand]
  split
  · exact kept_ite (fwCtrlWrite_kept h) (fwInjectWrite_kept h)
  · split
    · exact errCtrlWrite_kept h
    · exact fpcCtrlWrite_kept h
    · exact kept_ite (rcvWrite_kept h) (keyWrite_kept h)
    · exact seqCmdWrite_kept h
    · exact schedActWrite_kept h
    · exact shdnClrWrite_kept h
    · exact motClearWrite_kept h
    · exact lkfClearWrite_kept h
    · exact twpCtrlWrite_kept (kept_mk h rfl id)
    · exact cnpCmdWrite_kept h
    · exact kept_ite (cusCmdWrite_kept h) (cusRestartWrite_kept h)
    · exact rcdCmdWrite_kept h
    · exact gclCmdWrite_kept h
    · exact nvsCmdWrite_kept h
    · exact updCmdWrite_kept h

theorem cmdPairWrite_kept {path off comp w} (h : Kept σ s) : Kept σ (cmdPairWrite path off comp w s) := by
  unfold cmdPairWrite
  exact kept_ite (pairCommand_kept (kept_regs h (fun ⟨h1, h2, h3, h4, h5⟩ => ⟨h1, h2, tsorted_terase h3, h4, h5⟩)))
    (kept_regs h (fun ⟨h1, h2, h3, h4, h5⟩ => ⟨h1, h2, tsorted_tput h3, h4, h5⟩))

theorem pairRestore_kept {base} (h : Kept σ s) : Kept σ (pairRestore base s) := by
  unfold pairRestore
  split
  · exact kept_ite (raise_kept _ _ _ _ (kept_regs h (fun ⟨h1, h2, h3, h4, h5⟩ => ⟨h1, h2, tsorted_terase h3, h4, h5⟩))) h
  · exact h

@[simp] theorem doRwpPairTimeout_kept {offset} (h : Kept σ s) : Kept σ (doRwpPairTimeout offset s) :=
  pairRestore_kept h

theorem wordWrite_kept {path off w} (h : Kept σ s) : Kept σ (wordWrite path off w s) := by
  unfold wordWrite
  split
  · exact h
  · exact h
  · exact woWrite_kept h
  · exact kept_ite (stageWrite_kept h) (withAuthority_kept (fun _ => setWord_kept _ _ _) h)
  · exact withAuthority_kept (fun _ => rwWrite_kept) h
  · exact withAuthority_kept (fun _ => w1cWrite_kept) h
  · exact withAuthority_kept (fun _ => cmdPairWrite_kept) h

theorem writeAccess_kept {path off w} (h : Kept σ s) : Kept σ (writeAccess path off w s) :=
  kept_ite (wordWrite_kept h) (kept_ite h (unmappedFault_kept h))

@[simp] theorem doRegisterWrite_kept {path offset value} (h : Kept σ s) : Kept σ (doRegisterWrite path offset value s) :=
  writeAccess_kept h

@[simp] theorem doUnmappedAccess_kept {path offset write} (h : Kept σ s) : Kept σ (doUnmappedAccess path offset write s) :=
  kept_ite h (unmappedFault_kept h)

@[simp] theorem doCsrRd_kept {port tag addr} (h : Kept σ s) : Kept σ (doCsrRd port tag addr s) := by
  unfold doCsrRd
  exact kept_ite h (by
      split
      · exact refuseAccess_kept h
      · exact kept_ite (refuseAccess_kept h) (gclSend_kept (kept_ite_snd (readAccess_kept h) (unmappedFault_kept h))))

@[simp] theorem doCsrWr_kept {port tag addr data} (h : Kept σ s) : Kept σ (doCsrWr port tag addr data s) := by
  unfold doCsrWr
  exact kept_ite h (by
      split
      · exact refuseAccess_kept h
      · exact kept_ite (refuseAccess_kept h) (gclSend_kept (writeAccess_kept h)))

theorem targetFlag_kept {p b} (h : Kept σ s) : Kept σ (targetFlag p b s) :=
  raise_kept _ _ _ _ (twpFlag_kept h)

theorem pageWrite_kept {p o w} (h : Kept σ s) : Kept σ (pageWrite p o w s) :=
  updTwp_kept h

theorem targetWord_kept {p page o w} (h : Kept σ s) : Kept σ (targetWord p page o w s) :=
  kept_ite (pageWrite_kept h) (writeAccess_kept h)

theorem commitWords_kept {p page o ws} (h : Kept σ s) : Kept σ (commitWords p page o ws s) := by
  induction ws generalizing o s with
  | nil => unfold commitWords; exact h
  | cons w ws ih => exact ih (targetWord_kept h)

theorem targetData_kept {p addr ptr ptrBytes data} (h : Kept σ s) : Kept σ (targetData p addr ptr ptrBytes data s) :=
  kept_ite h
    (kept_ite (targetFlag_kept h)
      (kept_ite
        (kept_ite (updTwp_kept (raise_kept _ _ _ _ (twpFlag_kept (kept_ite_snd h (injectCheck_kept h)))))
          (have h1 := kept_cond (kept_ite_snd h (injectCheck_kept h)) (fun h4 => targetFlag_kept h4);
            updTwp_kept (commitWords_kept (kept_ite (targetFlag_kept h1) h1))))
        (kept_ite (targetFlag_kept h) (have h5 := kept_ite (targetFlag_kept h) h; updTwp_kept (commitWords_kept (kept_ite (targetFlag_kept h5) h5))))))

theorem targetPointer_kept {p hi lo} (h : Kept σ s) : Kept σ (targetPointer p hi lo s).2 :=
  kept_ite_snd (targetFlag_kept h) (updTwp_kept h)

@[simp] theorem doTwpTargetWrite_kept {port addr bytes} (h : Kept σ s) : Kept σ (doTwpTargetWrite port addr bytes s) := by
  dsimp only [doTwpTargetWrite]
  exact kept_ite h
    (have h1 := updTwp_kept h;
      by split; exacts [by split; exacts [targetData_kept (targetPointer_kept h1), targetPointer_kept h1], h1])

theorem readWords_kept {p page n o} (h : Kept σ s) : Kept σ (readWords p page n o s).2 := by
  induction n generalizing o s with
  | zero => exact h
  | succ n ih => exact ih (kept_ite_snd h (readAccess_kept h))

@[simp] theorem doTwpTargetRead_kept {port addr sent count} (h : Kept σ s) : Kept σ (doTwpTargetRead port addr sent count s) :=
  kept_ite h (updTwp_kept (readWords_kept (updTwp_kept h)))

@[simp] theorem doTwpBusError_kept {port bytes} (h : Kept σ s) : Kept σ (doTwpBusError port bytes s) := by
  unfold doTwpBusError
  exact kept_ite h
    (raise_kept _ _ _ _ (twpFlag_kept (updTwp_kept (by split; exacts [targetPointer_kept h, h]))))

theorem pageRestore_kept {p} (h : Kept σ s) : Kept σ (pageRestore p s) :=
  kept_ite (raise_kept _ _ _ _ (updTwp_kept h)) h

@[simp] theorem doHandoverTimeout_kept {pin} (h : Kept σ s) : Kept σ (doHandoverTimeout pin s) := by
  dsimp only [doHandoverTimeout]
  split
  · exact kept_ite (raise_kept _ _ _ _ (updLatch_kept h)) h
  · exact h

theorem handover_kept (h : Kept σ s) : Kept σ (handover s) :=
  kept_mk h rfl id

theorem leaseFall_kept {k} (h : Kept σ s) : Kept σ (leaseFall k s) :=
  kept_ite (updLatch_kept h) h

@[simp] theorem doLeasePinExpiry_kept {slot} (h : Kept σ s) : Kept σ (doLeasePinExpiry slot s) :=
  leaseFall_kept h

theorem pinSignals_kept (h : Kept σ s) : Kept σ (pinSignals s) := by
  unfold pinSignals
  exact kept_ite h
    (forEach_kept (fun _ _ h1 => by split; exacts [kept_ite h1 (writeSignal_kept _ _ _ _ h1), h1]) h)

theorem rcdStart_kept (h : Kept σ s) : Kept σ (rcdStart s) :=
  kept_ite (kept_mk h rfl id) h

@[simp] theorem doMiTrainDone_kept {mi ok} (h : Kept σ s) : Kept σ (doMiTrainDone mi ok s) :=
  kept_ite h (kept_ite (rcdStart_kept (kept_mk h rfl id)) ((have h1 := kept_mk h rfl id; kept_ite h1 (raise_kept _ _ _ _ (kept_mk h1 rfl id)))))

theorem tapLoad_kept {i dr bound} (h : Kept σ s) : Kept σ (tapLoad i dr bound s) :=
  kept_ite h (kept_mk h rfl id)

@[simp] theorem doTapBypass_kept (h : Kept σ s) : Kept σ (doTapBypass s) :=
  tapLoad_kept h

@[simp] theorem doTapIdcode_kept (h : Kept σ s) : Kept σ (doTapIdcode s) :=
  tapLoad_kept h

@[simp] theorem doTapSamplePreload_kept (h : Kept σ s) : Kept σ (doTapSamplePreload s) :=
  tapLoad_kept h

theorem tapPads_kept {i} (h : Kept σ s) : Kept σ (tapPads i s) :=
  kept_ite h (kept_ite (tapLoad_kept h) (raise_kept _ _ _ _ (tapLoad_kept h)))

@[simp] theorem doTapExtest_kept (h : Kept σ s) : Kept σ (doTapExtest s) :=
  tapPads_kept h

@[simp] theorem doTapClamp_kept (h : Kept σ s) : Kept σ (doTapClamp s) :=
  tapPads_kept h

@[simp] theorem doTapHighz_kept (h : Kept σ s) : Kept σ (doTapHighz s) :=
  tapPads_kept h

@[simp] theorem doTapKeyRecord_kept {tag submit record} (h : Kept σ s) : Kept σ (doTapKeyRecord tag submit record s) :=
  kept_ite h (have h1 := tapLoad_kept (fillKeyBuf_kept h); kept_ite (keyWrite_kept h1) h1)

@[simp] theorem doTapCertWrite_kept {bytes} (h : Kept σ s) : Kept σ (doTapCertWrite bytes s) :=
  kept_ite h (have h1 := tapLoad_kept h; kept_ite (denyWrite_kept h1) (nvsQueue_kept h1))

@[simp] theorem doTapInject_kept {u injectUnit tag source count mode} (h : Kept σ s) : Kept σ (doTapInject u injectUnit tag source count mode s) :=
  kept_ite h (fwInjectWrite_kept (setWord_kept _ _ _ (tapLoad_kept h)))

@[simp] theorem doTapChipReset_kept (h : Kept σ s) : Kept σ (doTapChipReset s) :=
  kept_ite h (note_kept _ (tapLoad_kept h))

end

end Sys2Proof.Machine
end

section
/-! SUPPORT. What the operations of the resets keep (Machine/Resets.lean, in its order): `Kept` (Laws/Kept.lean) carried through each. -/

namespace Sys2Proof.Machine

section
variable {σ s : State}

theorem freezeLatches_kept {p} (h : Kept σ s) : Kept σ (freezeLatches p s) :=
  forEach_kept (fun _ _ => updLatch_kept) h

@[simp] theorem doPowerOnReset_kept (h : Kept σ s) : Kept σ (doPowerOnReset s) :=
  powerOn_kept _ _ _ h

@[simp] theorem doStandbySupplyLoss_kept (h : Kept σ s) : Kept σ (doStandbySupplyLoss s) :=
  powerOn_kept _ _ _ h

@[simp] theorem doMainPgFall_kept (h : Kept σ s) : Kept σ (doMainPgFall s) :=
  kept_ite (powerOn_kept _ _ _ h) h

@[simp] theorem doStandbySupplyGood_kept (h : Kept σ s) : Kept σ (doStandbySupplyGood s) :=
  kept_ite (kept_mk h rfl id) (kept_mk h rfl id)

@[simp] theorem doMainPgTimeout_kept (h : Kept σ s) : Kept σ (doMainPgTimeout s) := by
  dsimp only [doMainPgTimeout]
  split
  · exact kept_ite (kept_mk h rfl id) h
  · exact h

theorem supplyRetry_kept (h : Kept σ s) : Kept σ (supplyRetry s) := by
  unfold supplyRetry
  split
  · exact kept_ite (kept_mk h rfl id) h
  · exact h

@[simp] theorem doPorNRelease_kept {bootSrc casRole therm} (h : Kept σ s) : Kept σ (doPorNRelease bootSrc casRole therm s) :=
  kept_ite (kept_mk h rfl id) h

theorem mirrorFaults_kept {old} (h : Kept σ s) : Kept σ (mirrorFaults old s) :=
  forEach_kept (fun _ _ => raise_kept _ _ _ _) h

theorem injectMirrors_kept (h : Kept σ s) : Kept σ (injectMirrors s).2 := by
  unfold injectMirrors
  split
  · exact kept_mk (injectPair_kept h) rfl id
  · exact h

theorem resetEvent_kept {cause} (h : Kept σ s) : Kept σ (resetEvent cause s) :=
  kept_ite (trialEvent_kept h) h

/-- What a chip reset leaves of the tables is in order: the words and live values it keeps, and an empty signal plane. -/
theorem kept_reset {t : State} {f g : Nat × Word → Bool} (h : Kept σ s) (queue : t.pending = s.pending) (fuses : t.fuses = s.fuses) (tbs : t.tbs = s.tbs)
    (plane : t.gld.plane = []) (regs : t.regs = { words := s.regs.words.filter f, live := s.regs.live.filter g }) : Kept σ t := by
  refine ⟨queue.trans h.queue, fuses ▸ h.fuses, fun _ => ?_, fun ok => ?_, fun ok => ?_⟩
  · unfold PlaneOk
    rw [plane]
    exact fun _ m => nomatch m
  · obtain ⟨words, live, -, -, -⟩ := h.regs ok
    unfold RegsOk
    rw [regs]
    exact ⟨(tsorted_filter _ words).1, (tsorted_filter _ live).1, rfl, rfl, rfl⟩
  · unfold DiscOk
    rw [tbs]
    exact h.disc ok

theorem chipReset_kept {cause} (h : Kept σ s) : Kept σ (chipReset cause s) := by
  unfold chipReset
  extract_lets d3 s1 s2 s3 err0 parked twpd _ _ z _ z'
  have h1 : Kept σ s1 := resetEvent_kept (logFlush_kept h)
  have h2 : Kept σ s2 := kept_ite (markBefore_kept h1) h1
  have h3 : Kept σ s3 := freezeLatches_kept h2
  have hz : Kept σ z := kept_reset h3 rfl rfl rfl rfl rfl
  clear_value z
  exact mirrorFaults_kept (kept_ite hz (kept_mk hz rfl id))

theorem reload_kept {f} (hf : ∀ x s, Kept σ s → Kept σ (f x s)) (h : Kept σ s) : Kept σ (reload f s) := by
  unfold reload
  split
  · exact hf _ _ h
  · exact h

theorem quarterReset_kept {q} (h : Kept σ s) : Kept σ (quarterReset q s) :=
  kept_ite h (reload_kept (fun _ _ h1 => loadTiles_kept (kept_mk h1 rfl id)) h)

theorem orphanOnBus_kept {p r} (h : Kept σ s) : Kept σ (orphanOnBus p r s) := by
  dsimp only [orphanOnBus]
  exact have h1 := updTwp_kept h;
    by split; exacts [kept_ite (updTwp_kept h1) h1, h1]

theorem flushRequesters_kept {b} (h : Kept σ s) : Kept σ (flushRequesters b s) :=
  forEach_kept (fun _ _ h1 => (have h2 := kept_mk (arbFlush_kept h1) rfl id; kept_ite (orphanOnBus_kept h2) h2)) h

theorem arbReset_kept {i} (h : Kept σ s) : Kept σ (arbReset i s) := by
  unfold arbReset
  extract_lets s1 s2 off
  have h2 : Kept σ s2 := updArb_kept (forEach_kept (fun _ _ => arbFlush_kept) h)
  clear_value s2
  exact reload_kept (fun _ _ => loadWords_kept) (kept_filterRegs h2 h2)

theorem twpReset_kept {p} (h : Kept σ s) : Kept σ (twpReset p s) := by
  unfold twpReset
  exact have h2 := forEach_kept (fun _ _ => arbFlush_kept) (kept_ite (freezeLatches_kept h) h);
    updTwp_kept (by split; exacts [note_kept _ (arbBeatEnd_kept h2), h2])

theorem gclReset_kept (h : Kept σ s) : Kept σ (gclReset s) := by
  unfold gclReset
  extract_lets s1 keep
  have h1 : Kept σ s1 := forEach_kept (fun _ _ h => kept_ite (portDown_kept h) h) h
  clear_value s1
  have h2 : Kept σ (clearRegs 0x16 0x16 { s1 with gcl := { port := keep } }) := clearRegs_kept _ _ _ (kept_mk h1 rfl id)
  split
  · exact h2
  · exact gclRelease_kept h2

theorem seqReset_kept (h : Kept σ s) : Kept σ (seqReset s) :=
  reload_kept (fun _ _ => seqLoad_kept) (clearRegs_kept _ _ _ (kept_mk (freezeLatches_kept h) rfl id))

theorem shpReset_kept (h : Kept σ s) : Kept σ (shpReset s) :=
  ledgerResume_kept (clearRegs_kept _ _ _ (kept_mk (freezeLatches_kept h) rfl id))

theorem thmReset_kept (h : Kept σ s) : Kept σ (thmReset s) :=
  forEach_kept (fun _ _ => raise_kept _ _ _ _) (reload_kept (fun _ _ => thmLoad_kept) (clearRegs_kept _ _ _ (kept_mk (injectMirrors_kept h) rfl id)))

theorem cusReset_kept (h : Kept σ s) : Kept σ (cusReset s) :=
  clearRegs_kept _ _ _ (kept_mk (stopCursors_kept (freezeLatches_kept h)) rfl id)

theorem fpcReset_kept (h : Kept σ s) : Kept σ (fpcReset s) :=
  forEach_kept (fun _ _ h1 => kept_ite (procBegin_kept (procStop_kept h1)) h1) (clearRegs_kept _ _ _ h)

theorem blockReset_kept {u inst} (h : Kept σ s) : Kept σ (blockReset u inst s) := by
  unfold blockReset
  split
  · exact twpReset_kept h
  · exact have h1 := flushRequesters_kept h;
      kept_ite (quarterReset_kept h1)
      (kept_ite (cnpQuarterReset_kept h1) (by
          split
          · exact kept_mk (freezeLatches_kept (clearRegs_kept _ _ _ h1)) rfl id
          · exact fpcReset_kept h1
          · exact clearRegs_kept _ _ _ (kept_mk h1 rfl id)
          · exact clearRegs_kept _ _ _ (kept_mk h1 rfl id)
          · exact seqReset_kept h1
          · exact shpReset_kept h1
          · exact thmReset_kept h1
          · exact reload_kept (fun _ _ => motLoad_kept) (clearRegs_kept _ _ _ (kept_mk h1 rfl id))
          · exact reload_kept (fun _ _ => lkfLoad_kept) (clearRegs_kept _ _ _ (setWet_kept (kept_mk h1 rfl id)))
          · exact kept_ite (arbReset_kept h1) h1
          · exact cusReset_kept h1
          · exact clearRegs_kept _ _ _ (kept_mk h1 rfl id)
          · exact gclReset_kept h1
          · exact clearRegs_kept _ _ _ h1
          · exact nvsScan_kept (clearRegs_kept _ _ _ (kept_mk h1 rfl id))
          · exact clearRegs_kept _ _ _ (kept_mk h1 rfl id)
          · exact clearRegs_kept _ _ _ (kept_mk h1 rfl id)
          · exact freezeLatches_kept h1
          · exact clearRegs_kept _ _ _ (kept_mk h1 rfl id)
          · exact h1))

theorem jobAfterReset_kept (h : Kept σ s) : Kept σ (jobAfterReset s) := by
  unfold jobAfterReset
  split
  · exact kept_ite h
      (have h1 := kept_mk h rfl id;
        jobFaultReason_kept (by split; exacts [kept_ite (kept_mk h1 rfl id) h1, h1]))
  · exact h

theorem presentOutputs_kept (h : Kept σ s) : Kept σ (presentOutputs s) :=
  have h1 := kept_ite (presentHeld_kept h) h;
    have h3 := driveIndicators_kept (driveAlert_kept (kept_ite h1 (drivePin_kept _ _ h1)));
    kept_ite ((have h4 := kept_mk h3 rfl id; kept_ite (presentHeld_kept h4) (drivePin_kept _ _ h4))) h3

end

end Sys2Proof.Machine
end

section
/-! SUPPORT. What the operations of the tick keep (Machine/Tick.lean, in its order): `Kept` (Laws/Kept.lean) carried through each. -/

namespace Sys2Proof.Machine

section
variable {σ s : State}

theorem applySetsDue_kept {c1ms late} (h : Kept σ s) : Kept σ (applySetsDue c1ms late s) := by
  unfold applySetsDue
  exact have h1 := commitTick_kept h;
    have h3 := forEach_kept (fun _ _ => tileApply_kept)
        (by split; exacts [kept_ite h1 (groupApply_kept h1), h1]);
    kept_ite (configApply_kept h3) h3

theorem mr4Read_kept {hot} (h : Kept σ s) : Kept σ (mr4Read hot s) :=
  kept_ite (forEach_kept (fun _ _ => raise_kept _ _ _ _) (kept_mk h rfl id)) h

theorem pageRestores_kept (h : Kept σ s) : Kept σ (pageRestores s) :=
  forEach_kept (fun _ _ => pageRestore_kept) h

theorem usTick_kept {env} (h : Kept σ s) : Kept σ (usTick env s) := by
  unfold usTick
  exact updReact_kept
    (applyEnd_kept
      (holdUpdate_kept (pullWatch_kept (secPoll_kept (mbxTick_kept (gclTick_kept (clkLowTick_kept (paceTick_kept (kept_ite (kept_mk h rfl id) h)))))))))

theorem pass10us_kept (h : Kept σ s) : Kept σ (pass10us s) :=
  handover_kept
    (presentOutputs_kept
      (throttleTime_kept
        (wakeTick_kept
          (twpTick_kept
            (seqTick_kept
              (restartPoll_kept
                (jobAfterReset_kept
                  (sendDueCaps_kept
                    (forEach_kept (fun _ _ => leaseMirror_kept) (shpPass_kept (capCombine_kept (faultInputs_kept (kept_mk h rfl id)))))))))))))

theorem pass1ms_kept {env} (h : Kept σ s) : Kept σ (pass1ms env s) := by
  unfold pass1ms
  exact pmdTick_kept (mr4Read_kept (twpTick_kept (casTick_kept (gclMirrorLate_kept (motTick_kept (thmTick_kept (lkfReaction_kept h)))))))

theorem classTick_kept {env c} (h : Kept σ s) : Kept σ (classTick env c s) := by
  unfold classTick
  extract_lets t
  have ht : Kept σ t := rcdTick_kept (cnpTick_kept (fabricTick_kept h))
  clear_value t
  split
  · exact usTick_kept ht
  · exact pass10us_kept ht
  · exact pageRestores_kept (seqTick_kept ht)
  · exact pass1ms_kept ht
  · exact sendTimeSync_kept (twpTick_kept (seqTick_kept ht))
  · exact powerWindowClose_kept ht
  · exact confirmTick_kept (servoTick_kept ht)

theorem sleepTick_kept {ms1} (h : Kept σ s) : Kept σ (sleepTick ms1 s) :=
  kept_ite (pmdTick_kept h) h

@[simp] theorem doTick_kept {env} (h : Kept σ s) : Kept σ (doTick env s) :=
  have h2 := addResidency_kept (supplyRetry_kept (advanceTime_kept h));
    kept_ite (sleepTick_kept h2) (kept_ite h2 (forEach_kept (fun _ _ => classTick_kept) (applySetsDue_kept h2)))

end

end Sys2Proof.Machine
end

section
/-! SUPPORT. What the operations of the end of a step keep (Machine/Settle.lean, in its order): `Kept` (Laws/Kept.lean) carried through each. -/

namespace Sys2Proof.Machine

section
variable {σ s : State}

theorem fillCapture_kept {key} (h : Kept σ s) : Kept σ (fillCapture key s) :=
  kept_mk (updWin_kept _ _ h) rfl id

theorem severeRaise_kept {fatal} (h : Kept σ s) : Kept σ (severeRaise fatal s) :=
  have h1 := alertSource_kept h;
    have h2 := kept_ite (wakeTo_kept h1) h1;
    kept_ite (trialEvent_kept h2) h2

theorem settleNote_kept {n} (h : Kept σ s) : Kept σ (settleNote n s) := by
  cases n with
  | blockReset u inst => exact blockReset_kept h
  | chipReset c => exact chipReset_kept h
  | procRestart p c => exact procRestart_kept h
  | slotFault k => exact jobFaultFromSlot_kept h
  | latchFault k => exact jobFaultFromLatch_kept h
  | powerDown k => exact shutdownPowerDownDone_kept h
  | capture1 key => exact fillCapture_kept h
  | logNow => exact logFlush_kept h
  | severe f => exact severeRaise_kept h
  | twDone p o r => exact twFinish_kept h

theorem noteRound_kept (h : Kept σ s) : Kept σ (noteRound s) := by
  unfold noteRound
  extract_lets l t before
  have ht : Kept σ t := kept_mk h rfl id
  clear_value t
  have hb : Kept σ before := forEach_kept (fun _ _ => settleNote_kept) ht
  clear_value before
  split
  · exact chipReset_kept (kept_mk hb rfl id)
  · exact forEach_kept (fun _ _ => settleNote_kept) ht

theorem runNotes_kept {n} (h : Kept σ s) : Kept σ (runNotes n s) := by
  induction n generalizing s with
  | zero => exact h
  | succ n ih => exact kept_ite h (ih (noteRound_kept h))

theorem alertReact_kept {a} (h : Kept σ s) : Kept σ (alertReact a s) :=
  updTwp_kept (forEach_kept (fun _ _ => alertSource_kept) h)

theorem react_kept {a} (h : Kept σ s) : Kept σ (react a s) :=
  have h1 := kept_ite (updReact_kept (applyEnd_kept (holdUpdate_kept h))) h;
    have h3 := forEach_kept (fun _ _ => rcdEvent_kept) (kept_ite (alertReact_kept h1) h1);
    kept_ite (driveIndicators_kept h3) h3

theorem settle_kept {a} (h : Kept σ s) : Kept σ (settle a s) :=
  pinSignals_kept (kept_ite h (runNotes_kept (react_kept (runNotes_kept h))))

end

end Sys2Proof.Machine
end

section
/-! SUPPORT. What every command keeps (95_what_each_step_holds.md), and the obligations about it. -/

namespace Sys2Proof.Machine

section
variable {f : State → State} {s : State}

/-- A step of the core die keeps what its effect keeps: its end is made of operations of the device. -/
theorem coreStep_kept (h : Kept s (f s)) : ∃ t, coreStep f s = .next t ∧ Kept s t :=
  ⟨_, rfl, settle_kept (kept_ite (Kept.refl s) h)⟩

theorem islandStep_kept (h : Kept s (f s)) : ∃ t, islandStep f s = .next t ∧ Kept s t :=
  ⟨_, rfl, settle_kept (kept_ite (Kept.refl s) h)⟩

theorem supplyStep_kept (h : Kept s (f s)) : ∃ t, supplyStep f s = .next t ∧ Kept s t :=
  ⟨_, rfl, settle_kept h⟩

end

/-- Every command answers a next state, which keeps the queue, the fuses' order and the tables. Each has
one of the three forms of a step, and its effect has its own lemma above. -/
theorem exec_kept (c : Instr) (s : State) : ∃ t, exec c s = .next t ∧ Kept s t := by
  have h := Kept.refl s
  cases c with
  | tick | porNRelease | powerOnReset | standbySupplyLoss | mainPgFall | standbySupplyGood | mainPgTimeout => exact supplyStep_kept (by simp [h])
  | leasePinExpiry | crystalFail | traySample | fastTrip | tripLevelFall | tcritConversion | wakeAddressMatch | wakeEvent | locateButton
  | locateTimeout | tbsAlarm => exact islandStep_kept (by simp [h])
  | _ => exact coreStep_kept (by simp [h])

/-- Settles O3: the answer of every command is the next state that `exec_kept` names, with the queue it found. -/
theorem everyCommandAnswers : Obligations.EveryCommandAnswers := by
  intro c s
  obtain ⟨t, answer, kept⟩ := exec_kept c s
  exact ⟨t, answer, kept.queue⟩

/-- Settles O6: a step is the command at the front of the queue, and no command takes a fuse back. -/
theorem fusesOnlyBlow : Obligations.FusesOnlyBlow := by
  intro s t stepped
  unfold step at stepped
  split at stepped
  case h_1 =>
    cases stepped
    exact FusesGrow.refl _
  case h_2 c rest _ =>
    obtain ⟨u, answer, kept⟩ := exec_kept c { s with pending := rest }
    rw [answer] at stepped
    cases stepped
    exact kept.fuses

end Sys2Proof.Machine
end

section
/-! SUPPORT. What a raise leaves in the Understory and writes in its window (17_faults_and_nonvolatile_store.md R457), and what the start of the ROM keeps (15_boot_keys_and_attestation.md R416). -/

namespace Sys2Proof.Machine

section
variable {s : State}

/-! ### Beyond `unreported`: the straps and the window -/

/-- Throttle pins are held pins of the Understory. -/
theorem throttlePins_frame (block src : Nat) : { throttlePins block src s with und.latches := s.und.latches } = s := by
  unfold throttlePins
  split
  · split
    · rfl
    · exact forEach_induct (P := fun t : State => { t with und.latches := s.und.latches } = s) _ rfl fun _ _ h => h
  · rfl

theorem winOf_updWin_same (u : FUnit) (f : FaultWin → FaultWin) : winOf (updWin u.key f s) u = f (winOf s u) := tget_tupd_same _ _ _ _

/-- Two readings beyond `unreported`: the straps, and what is pending in the window of `u`. -/
def strapsAndPending (u : FUnit) (s : State) : Straps × NSet := (s.und.straps, (winOf s u).pending)

theorem strapsAndPending_updWin {u : FUnit} {f : FaultWin → FaultWin} (same : (f (winOf s u)).pending = (winOf s u).pending) :
    strapsAndPending u (updWin u.key f s) = strapsAndPending u s :=
  Prod.ext rfl ((congrArg (·.pending) (winOf_updWin_same u f)).trans same)

theorem strapsAndPending_note (u : FUnit) (n : Note) : strapsAndPending u (note n s) = strapsAndPending u s := rfl

theorem strapsAndPending_askBlockReset (u : FUnit) (inst : Nat) : strapsAndPending u (askBlockReset u inst s) = strapsAndPending u s :=
  read_ite (strapsAndPending u) (strapsAndPending_updWin rfl) ((strapsAndPending_note u _).trans (strapsAndPending_updWin rfl))

theorem strapsAndPending_rcdTrigger (u : FUnit) (n : Nat) : strapsAndPending u (rcdTrigger n s) = strapsAndPending u s :=
  read_ite (strapsAndPending u) rfl (read_ite (strapsAndPending u) rfl (read_ite (strapsAndPending u) rfl rfl))

/-- A raise adds its source to the pending ones of its window, and leaves the straps. -/
theorem strapsAndPending_raise (u : FUnit) (src : Nat) (cls : FClass) (i : FaultInfo) :
    strapsAndPending u (raise u src cls i s) = (s.und.straps, sadd (winOf s u).pending src) := by
  unfold raise
  extract_lets r w w1 e w2 w3 s1 s2 nv s3 s4 s5 s6 s7
  have w2_pending : w2.pending = sadd (winOf s u).pending src := by
    unfold w2
    split
    · rfl
    · rfl
  have w3_pending : w3.pending = sadd (winOf s u).pending src := by
    unfold w3
    split
    · exact w2_pending
    · exact w2_pending
  have h1 : strapsAndPending u s1 = (s.und.straps, sadd (winOf s u).pending src) :=
    (congrArg (strapsAndPending u) (throttlePins_frame (s := updWin u.key (fun _ => w3) s) u.blockCode src)).trans
      (Prod.ext rfl ((congrArg (·.pending) (winOf_updWin_same u _)).trans w3_pending))
  generalize (s.und.straps, sadd (winOf s u).pending src) = l at h1 ⊢
  clear_value s1
  have h2 : strapsAndPending u s2 = l := read_ite (strapsAndPending u) h1 h1
  clear_value s2
  have h3 : strapsAndPending u s3 = l := read_ite (strapsAndPending u) h2 h2
  clear_value s3
  have h4 : strapsAndPending u s4 = l := read_ite (strapsAndPending u) h3 h3
  clear_value s4
  have h5 : strapsAndPending u s5 = l := read_ite (strapsAndPending u) h4 h4
  clear_value s5
  have h6 : strapsAndPending u s6 = l := read_ite (strapsAndPending u) ((strapsAndPending_rcdTrigger u 5).trans h5) h5
  clear_value s6
  have h7 : strapsAndPending u s7 = l := read_ite (strapsAndPending u) h6 h6
  clear_value s7
  exact read_ite (strapsAndPending u) h7 (read_ite (strapsAndPending u) ((strapsAndPending_askBlockReset u _).trans h7) h7)

theorem raise_straps (u : FUnit) (src : Nat) (cls : FClass) (i : FaultInfo) : (raise u src cls i s).und.straps = s.und.straps :=
  congrArg Prod.fst (strapsAndPending_raise u src cls i)

theorem raise_pending (u : FUnit) (src : Nat) (cls : FClass) (i : FaultInfo) :
    (winOf (raise u src cls i s) u).pending = sadd (winOf s u).pending src :=
  congrArg Prod.snd (strapsAndPending_raise u src cls i)

theorem raise_sec (u : FUnit) (src : Nat) (cls : FClass) (i : FaultInfo) : (raise u src cls i s).sec = s.sec :=
  congrArg (·.sec) (raise_unreported u src cls i)

theorem raise_fuses (u : FUnit) (src : Nat) (cls : FClass) (i : FaultInfo) : (raise u src cls i s).fuses = s.fuses :=
  congrArg (·.fuses) (raise_unreported u src cls i)

end

/-! ### The start of the ROM -/

section
variable {s : State}

/-- What the ROM's first choices are made from: the fuses and the straps. -/
def bootGround (s : State) : Fuses × Straps := (s.fuses, s.und.straps)

theorem raise_bootGround (u : FUnit) (src : Nat) (cls : FClass) (i : FaultInfo) : bootGround (raise u src cls i s) = bootGround s :=
  Prod.ext (raise_fuses _ _ _ _) (raise_straps _ _ _ _)

theorem crystalAtStart_bootGround (good : Bool) : bootGround (crystalAtStart good s) = bootGround s :=
  read_ite bootGround (read_ite bootGround rfl (raise_bootGround _ _ _ _)) (read_ite bootGround rfl rfl)

theorem nvsScan_bootGround : bootGround (nvsScan s) = bootGround s := by
  refine forEach_induct (P := fun t => bootGround t = bootGround s) _ ?_ fun _ _ h => h
  refine forEach_induct (P := fun t => bootGround t = bootGround s) _ ?_ fun _ _ h => (raise_bootGround _ _ _ _).trans h
  exact forEach_induct (P := fun t => bootGround t = bootGround s) _ rfl fun _ _ h => (raise_bootGround _ _ _ _).trans h

theorem ledgerResume_bootGround : bootGround (ledgerResume s) = bootGround s := by
  unfold ledgerResume
  split
  · rfl
  · rfl

theorem monoInc_bootGround (c : Nat) (tag : Option Nat) : bootGround (monoInc c tag s) = bootGround s :=
  read_ite bootGround rfl rfl

theorem romStart_bootGround (b : BootEnv) : bootGround (romStart b s) = bootGround s := by
  have started : ∀ t, bootGround (monoInc 0 none (ledgerResume (countResume (nvsScan t)))) = bootGround t := fun t =>
    (monoInc_bootGround _ _).trans (ledgerResume_bootGround.trans nvsScan_bootGround)
  exact read_ite bootGround ((monoInc_bootGround _ _).trans ((started _).trans (crystalAtStart_bootGround _)))
    ((started _).trans (crystalAtStart_bootGround _))

theorem romStart_fuses (b : BootEnv) : (romStart b s).fuses = s.fuses := congrArg Prod.fst (romStart_bootGround b)

theorem romStart_straps (b : BootEnv) : (romStart b s).und.straps = s.und.straps := congrArg Prod.snd (romStart_bootGround b)

/-! ### Where the release leads -/

theorem gclRelease_sec : (gclRelease s).sec = s.sec := forEach_induct (P := fun t : State => t.sec = s.sec) _ rfl fun _ _ h => h

theorem recoveryWait_sec (code kind index need : Nat) :
    (recoveryWait code kind index need s).sec = { s.sec with phase := 3, code := code, kind := kind, index := index, need := need } :=
  gclRelease_sec.trans (raise_sec _ _ _ _)

/-- With the flash's slot chosen by the straps there is no other set to try. -/
theorem bootFail_sec {slot code kind index need : Nat} (strapped : s.und.straps.bootSrc ≠ 0) :
    (bootFail slot code kind index need s).sec = { s.sec with phase := 3, code := code, kind := kind, index := index, need := need } := by
  have straps := raise_straps (s := s) uSEC 1 .contained { unit := kind, item := index, w1 := some (w32 code) }
  rw [bootFail]
  simp only [straps, strapped, false_and, if_false]
  rw [recoveryWait_sec, raise_sec]

theorem bootSlot_strapped (strap : s.und.straps.bootSrc = 1) : bootSlot s = 0 := by
  simp [bootSlot, strap]

theorem bootSet_accepted {k path : Nat} {t : FlashSet} {flash : Nat → Option FlashSet} {u : State} (read : u = rereads t.items s)
    (accepted : bootFails u t none = []) : bootSet k path t none flash s = bootDone k path t flash u := by
  simp [bootSet, ← read, accepted]

variable {b : BootEnv}

theorem exec_secRomRelease (h : awake s) : exec (.secRomRelease b) s = .next (settle s (doSecRomRelease b s)) := coreStep_awake h

/-- SEC is held and the device is awake: the ROM runs. -/
theorem romRuns (h : awake s) (held : s.sec.phase = 0) : ¬ (s.und.supply.porAsserted ∨ s.sec.phase ≠ 0 ∨ s.pmd.state = 3) := by
  simp [h.1, h.2, held]

theorem doSecRomRelease_differ (h : awake s) (held : s.sec.phase = 0) (differ : s.fuses.differ = true) :
    doSecRomRelease b s = raise uSEC 5 .fatal {} { romStart b s with sec.phase := 4, sec.code := 0x0C } := by
  rw [doSecRomRelease, if_neg (romRuns h held)]
  simp only [romStart_fuses, differ, if_true]

theorem doSecRomRelease_recovery (h : awake s) (held : s.sec.phase = 0) (same : s.fuses.differ = false) (strap : s.und.straps.bootSrc = 3) :
    doSecRomRelease b s = recoveryWait 0x0D 0 0 0xFF (romStart b s) := by
  rw [doSecRomRelease, if_neg (romRuns h held)]
  simp [romStart_fuses, romStart_straps, same, strap]

theorem doSecRomRelease_noSlot {k : Nat} (h : awake s) (held : s.sec.phase = 0) (same : s.fuses.differ = false) (strap : s.und.straps.bootSrc ≠ 3)
    (slot : bootSlot (romStart b s) = k) (empty : tfind b.slots k = none) :
    doSecRomRelease b s = bootFail k 1 0 0 0xFF { romStart b s with sec.slot := k } := by
  rw [doSecRomRelease, if_neg (romRuns h held)]
  simp [romStart_fuses, romStart_straps, same, strap, slot, empty]

theorem doSecRomRelease_set {k : Nat} {t : FlashSet} (h : awake s) (held : s.sec.phase = 0) (same : s.fuses.differ = false)
    (strap : s.und.straps.bootSrc ≠ 3) (slot : bootSlot (romStart b s) = k) (set : tfind b.slots k = some t) (dir : dirOk t = true) :
    doSecRomRelease b s = bootSet k (if (romStart b s).und.altGo.isSome then 3 else 0) t (fastRec { romStart b s with sec.slot := k } t k)
      (fun n => tfind b.slots n) { romStart b s with sec.slot := k } := by
  rw [doSecRomRelease, if_neg (romRuns h held)]
  simp [romStart_fuses, romStart_straps, same, strap, slot, set, dir]

end

/-- Settles O12: the ROM's start keeps the fuses and the straps, so that they choose the way of the release. -/
theorem romRelease : Obligations.RomRelease := by
  refine ⟨?differ, ?recovery, ?noDevice, ?boots⟩
  case differ =>
    intro s b h held differ
    refine ⟨_, by rw [exec_secRomRelease h, doSecRomRelease_differ h held differ], ?_, ?_, ?_⟩
    · rw [raise_sec]
    · rw [raise_sec]
    · rw [raise_pending]
      exact List.contains_iff_mem.mpr (mem_sadd.mpr (.inl rfl))
  case recovery =>
    intro s b h held same strap
    refine ⟨_, by rw [exec_secRomRelease h, doSecRomRelease_recovery h held same strap], ?_, ?_, ?_⟩ <;> rw [recoveryWait_sec]
  case noDevice =>
    intro s b h held same strap empty
    have strapped : (romStart b s).und.straps.bootSrc = 1 := (congrArg (·.bootSrc) (romStart_straps b)).trans strap
    have released := doSecRomRelease_noSlot h held same (by simp [strap]) (bootSlot_strapped strapped) empty
    have failed := bootFail_sec (s := { romStart b s with sec.slot := 0 }) (slot := 0) (code := 1) (kind := 0) (index := 0) (need := 0xFF) (by simp [strapped])
    refine ⟨_, by rw [exec_secRomRelease h, released], ?_, ?_, ?_⟩ <;> rw [failed]
  case boots =>
    intro s b t k u h held same strap slot set dir full read accepted
    rw [exec_secRomRelease h, doSecRomRelease_set h held (by rw [← romStart_fuses b]; exact same) (by rw [← romStart_straps b]; exact strap) slot.symm set dir, full,
      bootSet_accepted read accepted]

end Sys2Proof.Machine
end

section
/-! SUPPORT. A step's end in the ROM with nothing to record (95_what_each_step_holds.md), and the pins that a cleared source releases (17_faults_and_nonvolatile_store.md R458, R88). The obligation about the fault
windows says that a clear of pending bits changes the windows alone, where the throttle pins of the source follow it. -/

namespace Sys2Proof.Machine

section
variable {a s : State}

/-- Before SEC leaves the ROM, with the recorder off and the indicators as they were, a step's end adds nothing. -/
theorem settle_inRom (owes : s.notes = []) (rom : s.sec.phase = 0) (off : rcdWrites s = false) (same : s.und.ind = a.und.ind) : settle a s = s := by
  have idle : coreRuns s = false := by simp [coreRuns, rom]
  have noNotes : runNotes 8 s = s := if_pos owes
  have noEvents : forEach (eventsOf a s) rcdEvent s = s :=
    forEach_induct (P := fun t => t = s) _ rfl fun _ t h => by rw [h, rcdEvent, off]; rfl
  have reacted : react a s = s := by simp [react, idle, noEvents, same]
  rw [settle, noNotes, reacted, noNotes, pinSignals]
  simp [rom]

end

theorem exec_pendingClear {s : State} {path : Path} {u : FUnit} {j : Fin 8} {mask : Word} (h : awake s) :
    exec (.pendingClear path u j mask) s = .next (settle s (doPendingClear path u j mask s)) := coreStep_awake h

/-- A bitstream with one fault-reaction record, which asks level 2 of slot 0's throttle pins for source 0 of unit 0x00. -/
def throttlingBits : Bitstream :=
  { magic := 0, fmtMajor := 1, fmtMinor := 0, hwtype := 0, bind := 0, unit := 0, total := 0, svn := 0, sigOffset := 0, dir := [], padZero := true, transportOk := true
    sig := { keySlot := 1, alg := 1, sigLen := 0, pubLen := 0, pubkey := 0, sig := 0 }
    react := [{ block := 0, source := 0, reactions := 0, capSlots := 1, capPct := 0, throttle := 2, cls := 1 }] }

/-- SEC in the ROM; source 0 of unit 0x00 is pending, and slot 0's throttle pins stand at its level. -/
def throttledSlot : State :=
  { State.reset with
    und.supply.porAsserted := false
    und.latches := [(HeldPin.num (.thr 0), { level := 2 })]
    fw := [((FUnit.block 0).key, { state := .latched, pending := [0] })]
    cfg.running := some throttlingBits }

/-- The clear of the source as SEC writes it. -/
def throttleCleared : State := doPendingClear (.proc .sec) (.block 0) 0 1#32 throttledSlot

/-- The pins of slot 0 follow the source: they are released. -/
theorem latchOf_throttleCleared : (latchOf throttleCleared (.thr 0)).level = 0 := by decide

theorem settle_throttleCleared : settle throttledSlot throttleCleared = throttleCleared := settle_inRom (by decide) (by decide) (by decide) (by decide)

/-- Refutes O59: its clause of the pending bits leaves everything but the windows as it was, and the clear of a source with a THROTTLE level moves the pins. -/
theorem not_faultsAndStore : ¬ Obligations.FaultsAndStore := by
  rintro ⟨-, -, pendingBits, -⟩
  obtain ⟨t, answer, -, -, rest⟩ := pendingBits throttledSlot (.proc .sec) (.block 0) 0 1#32 (by decide) (by decide)
  have unmoved : settle throttledSlot t = t :=
    settle_inRom (congrArg (·.notes) rest) (congrArg (·.sec.phase) rest) (congrArg rcdWrites rest) (congrArg (·.und.ind) rest)
  have cleared : exec (.pendingClear (.proc .sec) (.block 0) 0 1#32) throttledSlot = .next throttleCleared := by
    rw [exec_pendingClear (by decide), ← throttleCleared, settle_throttleCleared]
  have same : throttleCleared = t := by
    rw [cleared, unmoved] at answer
    exact Host.Outcome.next.inj answer
  have kept : latchOf throttleCleared (.thr 0) = latchOf throttledSlot (.thr 0) := by
    have latches : t.und.latches = throttledSlot.und.latches := congrArg (·.und.latches) rest
    rw [same, latchOf, latchOf, latches]
  exact absurd (latchOf_throttleCleared.symm.trans (congrArg Latch.level kept)) (by decide)

end Sys2Proof.Machine
end

section
/-! SUPPORT. The two-wire ports as target and as controller (12_two_wire_ports.md R343–R363, R493), a rule for each outcome, and the obligation about them. -/

namespace Sys2Proof.Machine

section
variable {s : State} {p : Fin 16}

/-! ### Shared facts -/

theorem role_of_isController {n : Nat} (controller : isController s n = true) : (twpRec s n).role ≠ 0 := by
  intro none
  simp [isController, none] at controller

theorem twpPort_raise {n : Nat} {u : FUnit} {src : Nat} {cls : FClass} {info : FaultInfo} : twpPort (raise u src cls info s) n = twpPort s n :=
  (congrArg (fun t : State => twpPort t n) (raise_unreported u src cls info) :)

theorem twpRec_raise {n : Nat} {u : FUnit} {src : Nat} {cls : FClass} {info : FaultInfo} : twpRec (raise u src cls info s) n = twpRec s n :=
  (congrArg (fun t : State => twpRec t n) (raise_unreported u src cls info) :)

theorem isController_raise {n : Nat} {u : FUnit} {src : Nat} {cls : FClass} {info : FaultInfo} : isController (raise u src cls info s) n = isController s n := by
  rw [isController, twpRec_raise, isController]

theorem hasTimeout_raise {n : Nat} {u : FUnit} {src : Nat} {cls : FClass} {info : FaultInfo} : hasTimeout (raise u src cls info s) n = hasTimeout s n := by
  rw [hasTimeout, twpRec_raise, hasTimeout]

theorem isController_updTwp {n m : Nat} {f : TwpPort → TwpPort} : isController (updTwp m f s) n = isController s n := rfl

theorem hasTimeout_updTwp {n m : Nat} {f : TwpPort → TwpPort} : hasTimeout (updTwp m f s) n = hasTimeout s n := rfl

theorem latchOf_drivePin_running {pin : HeldPin} {level : Nat} (running : (latchOf s pin).held = false) : (latchOf (drivePin pin level s) pin).level = level := by
  rw [latchOf] at running
  simp [latchOf, drivePin, updLatch, running]

/-! ### The target (R343, R348–R351) -/

section
variable {a : BitVec 7}

/-- What an acknowledged address does to its port before the bytes count. -/
def targetWoken (p : Nat) (s : State) : State := updTwp p (fun x => { x with deaf := false, sclLow := false }) s

theorem twpPort_targetWoken {n : Nat} : twpPort (targetWoken n s) n = { twpPort s n with deaf := false, sclLow := false } := twpPort_updTwp_same

theorem doTwpTargetWrite_other {bytes : List Byte} (other : targetAcks s p.val a.toNat = false) : doTwpTargetWrite p a bytes s = s := by
  simp [doTwpTargetWrite, other]

theorem doTwpTargetWrite_pointed {hi lo : Byte} {data : List Byte} {ptr : Nat} {u : State} (acks : targetAcks s p.val a.toNat = true)
    (pointed : targetPointer p.val hi lo (targetWoken p.val s) = (some ptr, u)) :
    doTwpTargetWrite p a (hi :: lo :: data) s = targetData p.val a.toNat ptr [hi, lo] data u := by
  rw [targetWoken] at pointed
  simp [doTwpTargetWrite, acks, pointed]

theorem doTwpTargetRead_plain {sent : List Byte} {n : Nat} (acks : targetAcks s p.val a.toNat = true) (plain : hasPec s p.val = false) (some_ : 0 < n) :
    doTwpTargetRead p a sent n s =
      (fun r : List Word × State => updTwp p.val (fun x => { x with
        driven := ((r.1.flatMap wordBytes).drop ((twpPort s p.val).pointer % 4)).take n, pointer := (x.pointer + n) % 65536 }) r.2)
      (readWords p.val (twpPort s p.val).page (((twpPort s p.val).pointer % 4 + n + 3) / 4) ((twpPort s p.val).pointer / 4 * 4) (targetWoken p.val s)) := by
  have reads : ¬ (¬ targetAcks s p.val a.toNat = true ∨ n = 0) := by simp [acks, Nat.pos_iff_ne_zero.mp some_]
  have port := twpPort_targetWoken (s := s) (n := p.val)
  have noPec : hasPec (targetWoken p.val s) p.val = false := plain
  rw [targetWoken] at port noPec ⊢
  rw [doTwpTargetRead, if_neg reads]
  simp [port, noPec]

theorem doTwpTargetRead_pec {sent : List Byte} {n : Nat} (acks : targetAcks s p.val a.toNat = true) (pec : hasPec s p.val = true) (some_ : 0 < n) :
    doTwpTargetRead p a sent n s =
      (fun r : List Word × State => updTwp p.val (fun x => { x with
        driven := (pecReads (sent ++ [BitVec.ofNat 8 (2 * a.toNat + 1)]) r.1).take n, pointer := (x.pointer + 4 * ((n + 4) / 5)) % 65536 }) r.2)
      (readWords p.val (twpPort s p.val).page ((n + 4) / 5) ((twpPort s p.val).pointer / 4 * 4) (targetWoken p.val s)) := by
  have reads : ¬ (¬ targetAcks s p.val a.toNat = true ∨ n = 0) := by simp [acks, Nat.pos_iff_ne_zero.mp some_]
  have port := twpPort_targetWoken (s := s) (n := p.val)
  have hasIt : hasPec (targetWoken p.val s) p.val = true := pec
  rw [targetWoken] at port hasIt ⊢
  rw [doTwpTargetRead, if_neg reads]
  simp [port, hasIt]

theorem doTwpBusError_target (target : isTarget s p.val = true) :
    doTwpBusError p [] s = raise (.twp p.val) 0 .corrected { unit := p.val } (twpFlag p.val 0 (updTwp p.val (fun x => { x with
      errors := satInc 255 x.errors, deaf := false }) s)) := by
  simp [doTwpBusError, target]

end

/-! ### Alerts (R353, R354) -/

theorem doAlertResponseRead_won {k : Nat} {l : NSet} (pending : (twpPort s 0).alertPend = k :: l) :
    doAlertResponseRead true s = driveAlert (updTwp 0 (fun x => { x with alertPend := sdel x.alertPend k }) s) := by
  simp [doAlertResponseRead, pending]

theorem doAlertResponseRead_lost : doAlertResponseRead false s = s := by
  unfold doAlertResponseRead
  split
  · rfl
  · rfl

theorem doAlertLineFall_reads (controller : isController s p.val = true) (alerts : (twpRec s p.val).smbus.testBit 2 = true)
    (heeded : (twpPort s p.val).ignoreAt = none) :
    doAlertLineFall p s = twSubmit p.val alertOp (updTwp p.val (fun x => { x with alertRun := 0, alertNack := 0, alertLow := true }) s) :=
  if_pos ⟨controller, alerts, heeded⟩

theorem doAlertIgnoreEnd_due {t : Time} (ignored : (twpPort s p.val).ignoreAt = some t) (due : t ≤ s.now) :
    doAlertIgnoreEnd p s = updTwp p.val (fun x => { x with ignoreAt := none }) s := by
  simp [doAlertIgnoreEnd, ignored, due]

/-! ### Low lines (R347, R356, R357) -/

section
variable {sda freed : Bool}

theorem doClkLowTimeout_target (target : isTarget s p.val = true) (idle : (twpPort s p.val).cur = none) (times : hasTimeout s p.val = true) :
    doClkLowTimeout p sda freed s = updTwp p.val (fun x => { x with deaf := true })
      (raise (.twp p.val) 2 .corrected {} (twpFlag p.val 1 (updTwp p.val (fun x => { x with sclLow := true }) s))) := by
  simp [doClkLowTimeout, target, idle, hasTimeout_raise, twpFlag, hasTimeout_updTwp, times]

theorem doClkLowTimeout_controller {o : TwOp} (controller : isController s p.val = true) (busy : (twpPort s p.val).cur = some o)
    (times : hasTimeout s p.val = true) : doClkLowTimeout p sda freed s = clkLowEnd p.val sda freed
      (raise (.twp p.val) 2 .corrected {} (twpFlag p.val 1 (updTwp p.val (fun x => { x with sclLow := true }) s))) := by
  simp [doClkLowTimeout, controller, busy, hasTimeout_raise, twpFlag, hasTimeout_updTwp, times]

theorem doDataLowTimeout_twp0 (idle : (twpPort s 0).cur = none) (role : (twpRec s 0).role ≠ 0) :
    doDataLowTimeout 0 freed s = raise (.twp 0) 7 .contained {} (twpFlag 0 2 (updTwp 0 (fun x => { x with sdaLow := true, sclLow := false }) s)) := by
  simp [doDataLowTimeout, idle, role]

theorem doDataLowTimeout_clears (other : p.val ≠ 0) (idle : (twpPort s p.val).cur = none) (controller : isController s p.val = true) :
    doDataLowTimeout p freed s = arbGo (16 + p.val) (busClear p.val freed
      (raise (.twp p.val) 2 .corrected {} (twpFlag p.val 2 (updTwp p.val (fun x => { x with sdaLow := true, sclLow := false }) s)))) := by
  have role := role_of_isController controller
  simp [doDataLowTimeout, idle, role, other, isController_raise, twpFlag, isController_updTwp, controller]

theorem doResetPinRelease_due {t : Time} (pulse : (twpPort s p.val).pulseAt = some t) (due : t + ms ≤ s.now) :
    doResetPinRelease p s = drivePin (.en (twpRec s p.val).resetPin) 1 (updTwp p.val (fun x => { x with pulseAt := none, settleAt := some s.now }) s) := by
  simp [doResetPinRelease, pulse, due]

theorem doResetPinSettle_due {t : Time} (settling : (twpPort s p.val).settleAt = some t) (due : t + 10 * ms ≤ s.now) :
    doResetPinSettle p freed s = arbGo (16 + p.val) (busClear p.val freed (updTwp p.val (fun x => { x with settleAt := none }) s)) := by
  simp [doResetPinSettle, settling, due]

theorem doStuckRetry_due {t : Time} (retry : (twpPort s p.val).retryAt = some t) (stuck : (twpPort s p.val).stuck = true) (due : t ≤ s.now) :
    doStuckRetry p freed s = arbGo (16 + p.val) (busClear p.val freed s) := by
  simp [doStuckRetry, retry, stuck, due]

/-- A line that is not low is cleared at once, with a report. -/
theorem busClear_free {n : Nat} (other : n ≠ 0) (controller : isController s n = true) (high : (twpPort s n).sdaLow = false) :
    busClear n freed s = raise (.twp n) 3 .corrected {} (updTwp n (fun x => { x with sdaLow := false, stuck := false, retryAt := none })
      (updTwp n (fun x => { x with clears := satInc 255 x.clears, needClear := false }) s)) := by
  simp [busClear, other, controller, high]

theorem twpPort_busClear_free {n : Nat} (other : n ≠ 0) (controller : isController s n = true) (high : (twpPort s n).sdaLow = false) :
    twpPort (busClear n freed s) n =
      { twpPort s n with clears := satInc 255 (twpPort s n).clears, needClear := false, sdaLow := false, stuck := false, retryAt := none } := by
  rw [busClear_free other controller high, twpPort_raise, twpPort_updTwp_same, twpPort_updTwp_same]

end

end

/-! ### TWP_P_CTRL (R356, R357, R363) -/

section
variable {s : State} {p : Fin 16} {tag : Byte} {freed : Bool}

/-- TWP_P_CTRL is the owner's and SEC's register of each port. -/
theorem pathOk_twpCtrl_sec : pathOk s (.proc .sec) (twpBase p.val + 0x124) = true := by
  have block : (twpBase p.val + 0x124) / 0x10000 = 0x0E := by unfold twpBase; omega
  have inPort : (twpBase p.val + 0x124) % 0x1000 = 0x124 := by unfold twpBase; omega
  have noWindow : windowOf (twpBase p.val + 0x124) = none := by simp [windowOf, block, inPort]
  have field : (twpBase p.val + 0x124) % 0x10000 % 0x1000 = 0x124 := by omega
  have notReset : twpBase p.val + 0x124 ≠ 0x24 := by omega
  simp [pathOk, noWindow, block, notReset, field, isSec]

/-- The state in which a command of TWP_P_CTRL acts: its word and TAG are taken. -/
def twpCtrlTaken (p op : Nat) (tag : Byte) (s : State) : State :=
  setTag (twpBase p + 0x124) tag.toNat (setPair (twpBase p + 0x124) (w32 (tag.toNat * 16777216 + op)) s)

theorem twpCtrlWrite_sec {w : Word} : twpCtrlWrite (.proc .sec) p.val w freed s = twpCommand p.val w freed (setPair (twpBase p.val + 0x124) w s) :=
  withAuthority_ok pathOk_twpCtrl_sec

theorem lastTag_setPair {off off' : Nat} {w : Word} : lastTag (setPair off w s) off' = lastTag s off' := rfl

/-- The answer that a command leaves in TWP_P_CTRL's result. -/
def twpAnswered (p tag result : Nat) (s : State) : State := updTwp p (fun x => { x with resTag := tag, result := result }) s

theorem doTwpBusClearCmd_clears (fresh : tag.toNat ≠ lastTag s (twpBase p.val + 0x124)) (other : p.val ≠ 0) (controller : isController s p.val = true)
    (high : (twpPort s p.val).sdaLow = false) (noPulse : (twpPort s p.val).pulseAt = none) :
    doTwpBusClearCmd (.proc .sec) p tag freed s =
      arbGo (16 + p.val) (twpAnswered p.val tag.toNat 0 (busClear p.val freed (twpCtrlTaken p.val 1 tag s))) := by
  have cleared := twpPort_busClear_free (s := twpCtrlTaken p.val 1 tag s) (freed := freed) other controller high
  have pulse : (twpPort (busClear p.val freed (twpCtrlTaken p.val 1 tag s)) p.val).pulseAt = none := by rw [cleared]; exact noPulse
  have stuck : (twpPort (busClear p.val freed (twpCtrlTaken p.val 1 tag s)) p.val).stuck = false := by rw [cleared]
  have controller' : isController (twpCtrlTaken p.val 1 tag s) p.val = true := controller
  rw [twpCtrlTaken] at pulse stuck controller' ⊢
  rw [doTwpBusClearCmd, twpCtrlWrite_sec, twpCommand]
  simp [schedWord_tag, schedWord_act, lastTag_setPair, fresh, other, controller', stuck, pulse, twpAnswered]

theorem doTwpResetPulse_pulses (fresh : tag.toNat ≠ lastTag s (twpBase p.val + 0x124)) (other : p.val ≠ 0) (controller : isController s p.val = true)
    (pin : (twpRec s p.val).resetPin ≤ 127) (first : (twpPort s p.val).lastPulse = none) :
    doTwpResetPulse (.proc .sec) p tag s = twpAnswered p.val tag.toNat 0 (drivePin (.en (twpRec s p.val).resetPin) 0
      (updTwp p.val (fun x => { x with pulseAt := some s.now, lastPulse := some s.now }) (twpCtrlTaken p.val 2 tag s))) := by
  have controller' : isController (twpCtrlTaken p.val 2 tag s) p.val = true := controller
  have first' : (twpPort (twpCtrlTaken p.val 2 tag s) p.val).lastPulse = none := first
  have pin' : ¬ 127 < (twpRec (twpCtrlTaken p.val 2 tag s) p.val).resetPin := Nat.not_lt.mpr pin
  rw [twpCtrlTaken] at controller' first' pin' ⊢
  rw [doTwpResetPulse, twpCtrlWrite_sec, twpCommand]
  simp [schedWord_tag, schedWord_act, lastTag_setPair, fresh, other, controller', first', pin', twpAnswered]
  rfl

end

/-! ### Firmware windows and the ends of transactions (R355, R358, R360, R363) -/

section
variable {s : State} {p : Fin 16}

/-- Each firmware window of a port is its own processor's. -/
theorem pathOk_fxBase (path : Path) (k : Fin 5) : pathOk s path (fxBase p.val k.val) = (path == .proc (fxProc k.val)) := by
  have block : fxBase p.val k.val / 0x10000 = 0x0E := by unfold fxBase; omega
  have inPort : fxBase p.val k.val % 0x1000 = 0x400 + 0x200 * k.val := by unfold fxBase; omega
  have noWindow : windowOf (fxBase p.val k.val) = none := by
    have beyond : ¬ fxBase p.val k.val % 0x1000 < 0x100 := by omega
    simp [windowOf, block, beyond]
  have field : fxBase p.val k.val % 0x10000 % 0x1000 = 0x400 + 0x200 * k.val := by omega
  have notReset : fxBase p.val k.val ≠ 0x24 := by omega
  have notErr : ¬ (fxBase p.val k.val = 0x110 ∨ fxBase p.val k.val = 0x114) := by omega
  have inside : 0x400 + 0x200 * k.val < 0xE00 := by omega
  simp [pathOk, noWindow, block, notReset, notErr, field, inside]

theorem doFxTransferStart_own {path : Path} {k : Fin 5} {w : Word} (ok : pathOk s path (fxBase p.val k.val) = true) :
    doFxTransferStart path p k w s = fxStart p.val k.val w s := withAuthority_ok ok

/-- A transaction that ends by itself leaves the bus; its transfer goes on or ends by its result and the bytes it read. -/
theorem doTransferDone_ended {r : Fin 13} {nack : Byte} {data : List Byte} {o : TwOp} {c : Nat × List Byte} {z : State} (busy : (twpPort s p.val).cur = some o)
    (coded : r.val ≠ 12) (kind : o.kind ≠ .other) (unaborted : (twpPort s p.val).curAbort = false)
    (checked : c = if r.val = 0 ∨ r.val = 5 then twChecked s p.val o data else (r.val, data))
    (left : z = updTwp p.val (fun x => { x with cur := none, curAbort := false, clkEnd := none, sclLow := false }) s) :
    doTransferDone p r nack data s = twReoffer p.val
      (if twGoesOn o c.1 c.2 then arbBeatEnd (16 + p.val) (twReq o.owner) (twNext p.val (twReq o.owner) c.2 false z)
       else twFinish p.val o c.1 nack.toNat c.2 (arbBeatEnd (16 + p.val) (twReq o.owner) (twNext p.val (twReq o.owner) [] true z))) := by
  subst checked left
  have taken : ¬ (r.val = 12 ∨ o.kind = .other) := not_or.mpr ⟨coded, kind⟩
  simp only [doTransferDone, busy, if_neg taken, unaborted, Bool.false_eq_true, if_false]
  exact (apply_ite (twReoffer p.val) _ _ _).symm

theorem doWakeAddressMatch_asleep {a : BitVec 7} (asleep : s.pmd.state = 3) (matches_ : (addrMatch s p.val a.toNat).isSome = true) :
    doWakeAddressMatch p a s = leaveD3 (twpFlag p.val 11 s) := by
  simp [doWakeAddressMatch, asleep, matches_]

end

/-! ### The commands -/

section
variable {s : State} {path : Path} {p : Fin 16} {a : BitVec 7} {tag : Byte} {sda freed : Bool}

theorem exec_twpTargetWrite {bytes : List Byte} (h : awake s) : exec (.twpTargetWrite p a bytes) s = .next (settle s (doTwpTargetWrite p a bytes s)) :=
  coreStep_awake h

theorem exec_twpTargetRead {sent : List Byte} {n : Nat} (h : awake s) :
    exec (.twpTargetRead p a ⟨sent, n⟩) s = .next (settle s (doTwpTargetRead p a sent n s)) := coreStep_awake h

theorem exec_twpBusError {bytes : List Byte} (h : awake s) : exec (.twpBusError p bytes) s = .next (settle s (doTwpBusError p bytes s)) := coreStep_awake h

theorem exec_alertResponseRead {won : Bool} (h : awake s) : exec (.alertResponseRead won) s = .next (settle s (doAlertResponseRead won s)) := coreStep_awake h

theorem exec_alertLineFall (h : awake s) : exec (.alertLineFall p) s = .next (settle s (doAlertLineFall p s)) := coreStep_awake h

theorem exec_alertIgnoreEnd (h : awake s) : exec (.alertIgnoreEnd p) s = .next (settle s (doAlertIgnoreEnd p s)) := coreStep_awake h

theorem exec_clkLowTimeout (h : awake s) : exec (.clkLowTimeout p sda freed) s = .next (settle s (doClkLowTimeout p sda freed s)) := coreStep_awake h

theorem exec_dataLowTimeout (h : awake s) : exec (.dataLowTimeout p freed) s = .next (settle s (doDataLowTimeout p freed s)) := coreStep_awake h

theorem exec_twpBusClearCmd (h : awake s) : exec (.twpBusClearCmd path p tag freed) s = .next (settle s (doTwpBusClearCmd path p tag freed s)) := coreStep_awake h

theorem exec_twpResetPulse (h : awake s) : exec (.twpResetPulse path p tag) s = .next (settle s (doTwpResetPulse path p tag s)) := coreStep_awake h

theorem exec_resetPinRelease (h : awake s) : exec (.resetPinRelease p) s = .next (settle s (doResetPinRelease p s)) := coreStep_awake h

theorem exec_resetPinSettle (h : awake s) : exec (.resetPinSettle p freed) s = .next (settle s (doResetPinSettle p freed s)) := coreStep_awake h

theorem exec_stuckRetry (h : awake s) : exec (.stuckRetry p freed) s = .next (settle s (doStuckRetry p freed s)) := coreStep_awake h

theorem exec_fxTransferStart {k : Fin 5} {w : Word} (h : awake s) : exec (.fxTransferStart path p k w) s = .next (settle s (doFxTransferStart path p k w s)) :=
  coreStep_awake h

theorem exec_transferDone {r : Fin 13} {nack : Byte} {data : List Byte} (h : awake s) :
    exec (.transferDone p r ⟨nack, data⟩) s = .next (settle s (doTransferDone p r nack data s)) := coreStep_awake h

theorem exec_wakeAddressMatch (out : s.und.supply.porAsserted = false) : exec (.wakeAddressMatch p a) s = .next (settle s (doWakeAddressMatch p a s)) :=
  islandStep_out out

end

theorem twpCtrl_offset (p : Nat) : 0x0E0124 + 0x1000 * p = twpBase p + 0x124 := by
  unfold twpBase
  omega

/-- Settles O56: each event finds its port as its rule asks; what a report leaves of the port's record and state decides what follows it. -/
theorem twoWire : Obligations.TwoWire := by
  refine ⟨?other, ?write, ?read, ?readPec, ?busError, ?response, ?lineFall, ?ignoreEnd, ?clkTarget, ?clkController, ?dataTwp0, ?dataClears, ?busClear, ?pulse,
    ?release, ?settled, ?retry, ?start, ?windows, ?done, ?wake⟩
  case other =>
    intro s p a bytes h unaddressed
    rw [exec_twpTargetWrite h, doTwpTargetWrite_other unaddressed]
  case write =>
    intro s p a hi lo data ptr u h acks pointed
    rw [exec_twpTargetWrite h, doTwpTargetWrite_pointed acks pointed]
  case read =>
    intro s p a sent n r h acks plain some_ words
    rw [exec_twpTargetRead h, doTwpTargetRead_plain acks plain some_, words, targetWoken]
  case readPec =>
    intro s p a sent n r h acks pec some_ words
    rw [exec_twpTargetRead h, doTwpTargetRead_pec acks pec some_, words, targetWoken]
  case busError =>
    intro s p h target
    rw [exec_twpBusError h, doTwpBusError_target target]
  case response =>
    intro s k l h pending
    rw [exec_alertResponseRead h, exec_alertResponseRead h, doAlertResponseRead_won pending, doAlertResponseRead_lost]
    exact ⟨rfl, rfl⟩
  case lineFall =>
    intro s p h controller alerts heeded
    rw [exec_alertLineFall h, doAlertLineFall_reads controller alerts heeded]
  case ignoreEnd =>
    intro s p t h ignored due
    rw [exec_alertIgnoreEnd h, doAlertIgnoreEnd_due ignored due]
  case clkTarget =>
    intro s p sda freed h target idle times
    rw [exec_clkLowTimeout h, doClkLowTimeout_target target idle times]
  case clkController =>
    intro s p sda freed o h controller busy times
    rw [exec_clkLowTimeout h, doClkLowTimeout_controller controller busy times]
  case dataTwp0 =>
    intro s freed h idle role
    rw [exec_dataLowTimeout h, doDataLowTimeout_twp0 idle role]
  case dataClears =>
    intro s p freed h other idle controller
    rw [exec_dataLowTimeout h, doDataLowTimeout_clears (Fin.val_ne_of_ne other) idle controller]
  case busClear =>
    intro s path p tag freed h sec fresh other controller _ high noPulse
    subst sec
    rw [twpCtrl_offset] at fresh
    refine ⟨_, by rw [exec_twpBusClearCmd h, doTwpBusClearCmd_clears fresh other controller high noPulse], ?_, ?_, ?_⟩
    · rw [twpAnswered, twpPort_updTwp_same]
    · rw [twpAnswered, twpPort_updTwp_same]
    · rw [twpAnswered, twpPort_updTwp_same]
      exact congrArg TwpPort.clears (twpPort_busClear_free (s := twpCtrlTaken p.val 1 tag s) other controller high)
  case pulse =>
    intro s path p tag h sec fresh other controller pin first running
    subst sec
    rw [twpCtrl_offset] at fresh
    refine ⟨_, by rw [exec_twpResetPulse h, doTwpResetPulse_pulses fresh other controller pin first], ?_, ?_, ?_⟩
    · rw [twpAnswered, twpPort_updTwp_same]
    · rw [twpAnswered, twpPort_updTwp_same]
      exact congrArg TwpPort.pulseAt twpPort_updTwp_same
    · exact latchOf_drivePin_running running
  case release =>
    intro s p t h pulse due
    rw [exec_resetPinRelease h, doResetPinRelease_due pulse due]
  case settled =>
    intro s p freed t h settling due
    rw [exec_resetPinSettle h, doResetPinSettle_due settling due]
  case retry =>
    intro s p freed t h retry stuck due
    rw [exec_stuckRetry h, doStuckRetry_due retry stuck due]
  case start =>
    intro s path p k w h ok
    rw [exec_fxTransferStart h, doFxTransferStart_own ok]
  case windows =>
    intro s path p k
    exact pathOk_fxBase path k
  case done =>
    intro s p r nack data o c z h busy coded kind unaborted checked left
    rw [exec_transferDone h, doTransferDone_ended busy coded kind unaborted checked left]
  case wake =>
    intro s p a out asleep matches_
    rw [exec_wakeAddressMatch out, doWakeAddressMatch_asleep asleep matches_]

end Sys2Proof.Machine
end

section
/-! SUPPORT. Device power, timebase, cascade and indicators (18_device_power_timebase_and_cascade.md R482–R498), a rule for each outcome, and the obligation about them. -/

namespace Sys2Proof.Machine

/-! ### Power domains and wake events (R482, R485, R486) -/

section
variable {s : State} {d : Fin 136} {t : Time}

theorem doDomainSupplyGood_waking (waking : tfind s.pmd.waking d.val = some t) :
    doDomainSupplyGood d s = arrive { s with pmd.waking := terase s.pmd.waking d.val, pmd.off := sdel s.pmd.off d.val } := by
  simp [doDomainSupplyGood, waking]

theorem doDomainFail_due (waking : tfind s.pmd.waking d.val = some t) (due : t + 50 * us ≤ s.now) :
    doDomainFail d s = arrive (raise uPMD 1 .contained { unit := d.val } { s with
      pmd.waking := terase s.pmd.waking d.val, pmd.failed := sadd s.pmd.failed d.val }) := by
  simp [doDomainFail, waking, due]

theorem doWakeEvent_d2 (on : s.pmd.state ≠ 3) : doWakeEvent 2 s = wakeTo 1 s := by
  simp [doWakeEvent, on]

theorem doWakeEvent_toD0 {source : Fin 8} (on : s.pmd.state ≠ 3) (full : source = 3 ∨ source = 4) : doWakeEvent source s = wakeTo 0 s := by
  rcases full with rfl | rfl
  · simp [doWakeEvent, on]
  · simp [doWakeEvent, on]

theorem doWakeEvent_asleep {source : Fin 8} (asleep : s.pmd.state = 3) (link : source.val ≤ 1) : doWakeEvent source s = leaveD3 s := by
  simp [doWakeEvent, asleep, link]

/-! ### Locate (R498) -/

theorem doLocateButton_awake (on : s.pmd.state ≠ 3) :
    doLocateButton s = { s with und.ind.presses := satInc 255 s.und.ind.presses, und.ind.locate := !s.und.ind.locate, und.ind.since := s.now } := if_neg on

theorem doLocateTimeout_due (lit : s.und.ind.locate = true) (timed : s.und.ind.locateS ≠ 0) (due : s.und.ind.since + s.und.ind.locateS * sec ≤ s.now) :
    doLocateTimeout s = { s with und.ind.locate := false, und.ind.since := s.now } := if_pos ⟨lit, timed, due⟩

/-! ### The timebase (R488, R490, R491) -/

theorem doTbsAlarm_due {k : Fin 8} (on : s.pmd.state ≠ 3) (enabled : almOn s k.val = true) (due : almTime s k.val ≤ s.now) :
    doTbsAlarm k s = { setWord (almBase k.val + 8) (almCtrl s k.val &&& ~~~ 1#32) s with tbs.alarmSaid := sadd s.tbs.alarmSaid k.val } := by
  have fired : almFire k.val s = { setWord (almBase k.val + 8) (almCtrl s k.val &&& ~~~ 1#32) s with tbs.alarmSaid := sadd s.tbs.alarmSaid k.val } :=
    if_pos ⟨enabled, due⟩
  rw [doTbsAlarm, if_pos ⟨enabled, due⟩, fired]
  exact if_neg on

/-- What an accepted edge of PPS_IN makes of the timebase. -/
def ppsTaken (now : Time) (t : TbsS) : TbsS :=
  { t with ppsOk := satInc 65535 t.ppsOk, ppsSec := some (nearSecond now), ppsOff := some (secondOffset now), ppsLock := t.state != .free
           run := if secondsApart t.fresh (secondOffset now) then 0 else t.run
           state := if secondsApart t.fresh (secondOffset now) then .locking else t.state }

theorem doPpsEdge_accepted (enabled : ppsEn s = true) (near : (secondOffset s.now).natAbs ≤ 1000000) (first : s.tbs.ppsSec ≠ some (nearSecond s.now)) :
    doPpsEdge s = setTbs (ppsTaken s.now) s := by
  rw [doPpsEdge, if_neg (not_not.mpr enabled)]
  exact if_pos ⟨near, first⟩

theorem doHoldoverEnter_due (locked : s.tbs.state = .locked) (due : s.tbs.lastUpd + 2 * sec ≤ s.now) :
    doHoldoverEnter s = setTbs (fun t => { t with state := .holdover, holdAt := t.count, ppsLock := false }) s := if_pos ⟨locked, due⟩

theorem doHoldoverLimit_due (holdover : s.tbs.state = .holdover) (unsaid : s.tbs.holdSaid = false) (due : s.tbs.holdAt + holdoverS s * sec ≤ s.now) :
    doHoldoverLimit s = raise uTBS 2 .contained {} (setTbs (fun t => { t with holdSaid := true }) s) :=
  if_pos ⟨holdover, Bool.eq_false_iff.mp unsaid, due⟩

end

/-! ### The cascade (R492–R496) -/

section
variable {s : State} {m : Fin 4} {p : Fin 11} {cap cc le se pin demand avg : Word} {q : BitVec 16} {we : BitVec 64} {ws : List Word} {t : Time}

theorem portActive_of_state {n : Nat} (active : (gclPort s n).state = 5) : portActive s n = true := by
  simp [portActive, active]

/-- A follower with the cap of a lead that it takes: in force, and not lapsed, until the lease's end. -/
def capTaken (cap le se : Word) (s : State) : State :=
  { s with cas.cap := cap, cas.lapsed := false, cas.leaseEnd := some (leaseExpiryNs s ((se.toNat + le.toNat) % 4294967296)) }

theorem doMemberCap_own (follows : isLead s = false) (own : m.val = s.und.straps.casRole) (link : 9 ≤ p.val) (active : (gclPort s p.val).state = 5) :
    doMemberCap p m q cap (~~~ cap) le se s = gclSend p.val (.msgAck q.toNat) (capTaken cap le se s) := by
  rw [doMemberCap, if_neg (not_not.mpr own)]
  exact if_pos ⟨Bool.eq_false_iff.mp follows, link, portActive_of_state active, rfl⟩

theorem casRelay_down {msg : GclMsg} (follows : isLead s = false) (active : (gclPort s 10).state = 5) : casRelay true msg s = gclSend 9 msg s :=
  if_pos ⟨Bool.eq_false_iff.mp follows, portActive_of_state active⟩

theorem casRelay_up {msg : GclMsg} (follows : isLead s = false) (active : (gclPort s 9).state = 5) : casRelay false msg s = gclSend 10 msg s :=
  if_pos ⟨Bool.eq_false_iff.mp follows, portActive_of_state active⟩

theorem doMemberCap_other (follows : isLead s = false) (other : m.val ≠ s.und.straps.casRole) (active : (gclPort s 10).state = 5) :
    doMemberCap 10 m q cap cc le se s = gclSend 9 (.memberCap m.val cap le.toNat se.toNat) s := by
  rw [doMemberCap, if_pos other]
  exact casRelay_down follows active

theorem doMemberReport_relays (follows : isLead s = false) (active : (gclPort s 9).state = 5) :
    doMemberReport m pin demand avg we s = gclSend 10 (.memberReport pin demand avg we.toNat) s := by
  rw [doMemberReport, if_neg (fun leads => Bool.eq_false_iff.mp follows leads.1)]
  exact casRelay_up follows active

theorem doMemberRecord_relays (follows : isLead s = false) (active : (gclPort s 9).state = 5) :
    doMemberRecord m ws s = gclSend 10 (.memberRecord (ws.take 16)) s := by
  rw [doMemberRecord, if_neg (fun leads => Bool.eq_false_iff.mp follows leads.1)]
  exact casRelay_up follows active

theorem doMemberReport_lead (leads : isLead s = true) (other : m.val ≠ 0) (active : (gclPort s 9).state = 5) (matches_ : (member s m.val).mismatch = false) :
    doMemberReport m pin demand avg we s = updMember m.val (fun x => { x with
      present := true, linked := true, pin := pin, demand := demand, avg := avg, winEnd := we.toNat, lastRep := some s.now }) s :=
  if_pos ⟨leads, other, portActive_of_state active, Bool.eq_false_iff.mp matches_⟩

theorem doMemberRecord_lead (leads : isLead s = true) (other : m.val ≠ 0) (present : (member s m.val).present = true) :
    doMemberRecord m ws s = updMember m.val (fun x => { x with record := some (ws.take 16) }) s := if_pos ⟨leads, other, present⟩

/-- What the lead's own record is above its contract, as the board's record says it. -/
def ownBoardExcess (w : List Word) : Nat := if recWord w 6 = 0 then 0 else excessOf (recWord w 6) (recEnergy w)

/-- The words of the board's record where no member has any, but for the CRC: the lead's own, aggregated. -/
def ownBoardWords (w : List Word) (s : State) : List Word :=
  let excess := if recWord w 6 = 0 then 0 else excessOf (recWord w 6) (recEnergy w)
  let e := (BitVec.ofInt 64 (recEnergy w)).toNat
  [w.getD 0 0, w.getD 1 0, w32 (s.shp.seq + 1), w32 (recWord w 3 ||| 8 ||| (if 0 < excess then 32 else 0)), lo32 e, hi32 e] ++ ((w.drop 6).take 8) ++ [w32 excess]

theorem length_ownBoardWords {w : List Word} (whole : w.length = 16) : (ownBoardWords w s).length = 15 := by
  simp [ownBoardWords, whole]

theorem doBoardRecordClose_alone {w : List Word} (board : s.cas.boardDue = some t) (own : s.cas.ownRec = some w) (due : t ≤ s.now)
    (alone : s.cas.member = []) (whole : (recWord w 3).testBit 4 = false) :
    doBoardRecordClose s = ledgerAppend (sealRecord (ownBoardWords w s)) (ownBoardExcess w) ((t - 5 * sec) / minuteNs)
      { s with cas.ownRec := none, cas.boardDue := none } := by
  simp [doBoardRecordClose, board, own, Nat.not_lt.mpr due, alone, whole, ownBoardWords, ownBoardExcess]

/-- A member lost, as it leaves the members' table: it and those beyond it are not linked. -/
def unlinkFrom (m : Nat) (e : Nat × Member) : Nat × Member := if m ≤ e.1 then (e.1, { e.2 with linked := false }) else e

theorem unlinkFrom_key {n : Nat} {e : Nat × Member} : (unlinkFrom n e).1 = e.1 := by
  unfold unlinkFrom
  split
  · rfl
  · rfl

theorem tget_unlinkFrom {n k : Nat} (beyond : n ≤ k) (l : Tab Member) : (tget {} (l.map (unlinkFrom n)) k).linked = false := by
  induction l with
  | nil => rfl
  | cons e l ih =>
    unfold tget at ih ⊢
    rw [List.map_cons, tfind, unlinkFrom_key]
    split
    · rename_i here
      rw [unlinkFrom, if_pos (here ▸ beyond)]
      rfl
    · exact ih

theorem doMemberLost_silent (leads : isLead s = true) (present : (member s m.val).present = true) (linked : (member s m.val).linked = true)
    (silent : (member s m.val).lastRep = none) :
    doMemberLost m s = raise uCAS 0 .contained { unit := m.val } { s with cas.member := s.cas.member.map (unlinkFrom m.val) } := by
  have lost : (match (member s m.val).lastRep with | some t => decide (t + ms < s.now) | none => true) = true := by rw [silent]
  exact if_pos ⟨leads, present, linked, .inl lost⟩

theorem doMemberLeaseExpiry_due (lease : s.cas.leaseEnd = some t) (follows : isLead s = false) (due : t ≤ s.now) (running : s.cas.lapsed = false) :
    doMemberLeaseExpiry s = raise uCAS 2 .contained {} { s with cas.lapsed := true } := by
  simp [doMemberLeaseExpiry, lease, follows, due, running]

end

/-! ### The commands -/

section
variable {s : State}

theorem exec_domainSupplyGood {d : Fin 136} (h : awake s) : exec (.domainSupplyGood d) s = .next (settle s (doDomainSupplyGood d s)) := coreStep_awake h

theorem exec_domainFail {d : Fin 136} (h : awake s) : exec (.domainFail d) s = .next (settle s (doDomainFail d s)) := coreStep_awake h

theorem exec_wakeEvent {source : Fin 8} (out : s.und.supply.porAsserted = false) : exec (.wakeEvent source) s = .next (settle s (doWakeEvent source s)) :=
  islandStep_out out

theorem exec_locateButton (out : s.und.supply.porAsserted = false) : exec .locateButton s = .next (settle s (doLocateButton s)) := islandStep_out out

theorem exec_locateTimeout (out : s.und.supply.porAsserted = false) : exec .locateTimeout s = .next (settle s (doLocateTimeout s)) := islandStep_out out

theorem exec_tbsAlarm {k : Fin 8} (out : s.und.supply.porAsserted = false) : exec (.tbsAlarm k) s = .next (settle s (doTbsAlarm k s)) := islandStep_out out

theorem exec_ppsEdge (h : awake s) : exec .ppsEdge s = .next (settle s (doPpsEdge s)) := coreStep_awake h

theorem exec_holdoverEnter (h : awake s) : exec .holdoverEnter s = .next (settle s (doHoldoverEnter s)) := coreStep_awake h

theorem exec_holdoverLimit (h : awake s) : exec .holdoverLimit s = .next (settle s (doHoldoverLimit s)) := coreStep_awake h

theorem exec_memberCap {p : Fin 11} {m : Fin 4} {q : BitVec 16} {cap cc le se : Word} (h : awake s) :
    exec (.memberCap p ⟨m, q⟩ cap cc le se) s = .next (settle s (doMemberCap p m q cap cc le se s)) := coreStep_awake h

theorem exec_memberReport {m : Fin 4} {pin demand avg : Word} {we : BitVec 64} (h : awake s) :
    exec (.memberReport m pin demand avg we) s = .next (settle s (doMemberReport m pin demand avg we s)) := coreStep_awake h

theorem exec_memberRecord {m : Fin 4} {ws : List Word} (h : awake s) : exec (.memberRecord m ws) s = .next (settle s (doMemberRecord m ws s)) :=
  coreStep_awake h

theorem exec_boardRecordClose (h : awake s) : exec .boardRecordClose s = .next (settle s (doBoardRecordClose s)) := coreStep_awake h

theorem exec_memberLost {m : Fin 4} (h : awake s) : exec (.memberLost m) s = .next (settle s (doMemberLost m s)) := coreStep_awake h

theorem exec_memberLeaseExpiry (h : awake s) : exec .memberLeaseExpiry s = .next (settle s (doMemberLeaseExpiry s)) := coreStep_awake h

end

/-- Settles O60: each event finds the device in the state its rule asks, and makes its one change. -/
theorem powerTimeAndCascade : Obligations.PowerTimeAndCascade := by
  refine ⟨?domain, ?wake, ?wakeAsleep, ?button, ?locateEnd, ?alarm, ?pps, ?holdover, ?limit, ?cap, ?capOther, ?relays, ?report, ?record, ?board, ?lost, ?lease⟩
  case domain =>
    intro s d t h waking
    refine ⟨by rw [exec_domainSupplyGood h, doDomainSupplyGood_waking waking], fun due => ?_⟩
    rw [exec_domainFail h, doDomainFail_due waking due]
  case wake =>
    intro s h
    obtain ⟨out, on⟩ := h
    refine ⟨?_, ?_, ?_⟩
    · rw [exec_wakeEvent out, doWakeEvent_d2 on]
    · rw [exec_wakeEvent out, doWakeEvent_toD0 on (.inl rfl)]
    · rw [exec_wakeEvent out, doWakeEvent_toD0 on (.inr rfl)]
  case wakeAsleep =>
    intro s out asleep
    refine ⟨?_, ?_⟩
    · rw [exec_wakeEvent out, doWakeEvent_asleep asleep (by decide)]
    · rw [exec_wakeEvent out, doWakeEvent_asleep asleep (by decide)]
  case button =>
    intro s h
    rw [exec_locateButton h.1, doLocateButton_awake h.2]
  case locateEnd =>
    intro s h lit timed due
    rw [exec_locateTimeout h.1, doLocateTimeout_due lit timed due]
  case alarm =>
    intro s k h enabled due
    have stepped := exec_tbsAlarm (k := k) h.1
    rw [doTbsAlarm_due h.2 enabled due] at stepped
    exact ⟨_, stepped, rfl, rfl⟩
  case pps =>
    intro s h enabled near first
    have stepped := exec_ppsEdge h
    rw [doPpsEdge_accepted enabled near first] at stepped
    exact ⟨_, stepped, rfl, rfl, rfl, rfl⟩
  case holdover =>
    intro s h locked due
    have stepped := exec_holdoverEnter h
    rw [doHoldoverEnter_due locked due] at stepped
    exact ⟨_, stepped, rfl, rfl, rfl, rfl⟩
  case limit =>
    intro s h holdover unsaid due
    have stepped := exec_holdoverLimit h
    rw [doHoldoverLimit_due holdover unsaid due] at stepped
    refine ⟨_, stepped, rfl, ?_, rfl⟩
    simp [setTbs, undiscFlag]
  case cap =>
    intro s p m q cap le se h follows own link active
    have stepped := exec_memberCap (p := p) (m := m) (q := q) (cap := cap) (cc := ~~~ cap) (le := le) (se := se) h
    rw [doMemberCap_own follows own link active] at stepped
    exact ⟨_, stepped, rfl, rfl, rfl, rfl⟩
  case capOther =>
    intro s m q cap cc le se h follows other active
    rw [exec_memberCap h, doMemberCap_other follows other active]
  case relays =>
    intro s m pin d avg we ws h follows active
    refine ⟨?_, ?_⟩
    · rw [exec_memberReport h, doMemberReport_relays follows active]
    · rw [exec_memberRecord h, doMemberRecord_relays follows active]
  case report =>
    intro s m pin d avg we h leads other active matches_
    rw [exec_memberReport h, doMemberReport_lead leads other active matches_]
  case record =>
    intro s m ws h leads other present
    rw [exec_memberRecord h, doMemberRecord_lead leads other present]
  case board =>
    intro s w t h board own whole due alone complete
    have stepped := exec_boardRecordClose h
    rw [doBoardRecordClose_alone board own due alone complete] at stepped
    exact ⟨_, _, _, stepped, length_ownBoardWords whole, rfl⟩
  case lost =>
    intro s m h leads present linked silent
    have stepped := exec_memberLost (m := m) h
    rw [doMemberLost_silent leads present linked silent] at stepped
    exact ⟨_, stepped, fun n beyond _ _ => tget_unlinkFrom beyond _, rfl⟩
  case lease =>
    intro s t h lease follows due running
    rw [exec_memberLeaseExpiry h, doMemberLeaseExpiry_due lease follows due running]

end Sys2Proof.Machine
end


section
/-! SUPPORT. The device's invariant, carried by `Kept` over every command (00_scope.md R41; 15_boot_keys_and_attestation.md R410; 18_device_power_timebase_and_cascade.md R490), and the obligations
about it. -/

namespace Sys2Proof.Machine

/-- What operations of the device keep holds the invariant: three of its clauses are clauses of `Kept`, and a programmed key slot stays programmed. -/
theorem Kept.inv {a b : State} (kept : Kept a b) (inv : Inv a) : Inv b := by
  obtain ⟨regs, plane, disc, keys⟩ := inv
  exact ⟨kept.regs regs, kept.plane plane, kept.disc disc, fun k slot => kept.fuses.1 k (keys k slot)⟩

/-- The invariant does not look at the queue. -/
theorem inv_pending {s : State} {rest : List Instr} : Inv { s with pending := rest } ↔ Inv s := Iff.rfl

/-- Settles O4: a step is the command at the front of the queue, and every command keeps what the invariant is about. -/
theorem stepKeepsInvariant : Obligations.StepKeepsInvariant := by
  intro s t inv stepped
  unfold step at stepped
  split at stepped
  case h_1 =>
    cases stepped
    exact inv
  case h_2 c rest _ =>
    obtain ⟨u, answer, kept⟩ := exec_kept c { s with pending := rest }
    rw [answer] at stepped
    cases stepped
    exact kept.inv (inv_pending.mpr inv)

/-- Dvorum's eight key slots come programmed (R410). -/
theorem keysOk_reset : KeysOk State.reset := by
  have programmed : ∀ k, k < 8 → Nat.testBit 0x00FF k = true := by decide
  exact programmed

/-- Settles O5: after reset the tables and the plane are empty, the timebase has never locked and says so, and the eight slots are programmed. -/
theorem resetHasInvariant : Obligations.ResetHasInvariant := by
  refine ⟨?regs, ?plane, ?disc, keysOk_reset⟩
  case regs => exact ⟨rfl, rfl, rfl, rfl, rfl⟩
  case plane =>
    intro e signal
    exact absurd signal List.not_mem_nil
  case disc => rfl

end Sys2Proof.Machine
end

section
/-! SUPPORT. The glade fabric's evaluation on a change and its structure's ways in (02_glade_fabric.md R62, R67, R68, R70), a rule for each outcome, and the obligations about them. -/

namespace Sys2Proof.Machine

section
variable {s : State}

/-! ### A change-triggered evaluation (R62) -/

/-- T of a change-triggered evaluation: the time since the slot's previous one, at most 1 s, and 0 for the first (R48). -/
def changePeriod (n : Nat) (s : State) : Time := match (slotSt s n).lastEval with | some t => min (s.now - t) sec | none => 0

/-- Adoption waits for slot `n` no more (R67). -/
def adoptSlotDone (n : Nat) (s : State) : State :=
  { s with gld.adopt.slots := sdel s.gld.adopt.slots n, gld.qAdopt := s.gld.qAdopt.map (fun e => (e.1, { e.2 with slots := sdel e.2.slots n })) }

theorem doSignalChangeEvaluate_due {n : Fin 512} (due : s.gld.due.contains n.val = true) (exists_ : slotExists s n.val = true)
    (trigger : (slotRec s n.val).trigger = 7) (runs : fabRuns s (n.val / 8) = true)
    (fresh : ∀ t, (slotSt s n.val).lastEval = some t → t / us ≠ s.now / us) :
    doSignalChangeEvaluate n s =
      adoptCheck (adoptSlotDone n.val (evalSlot n.val s.gld.plane (changePeriod n.val s) { s with gld.due := sdel s.gld.due n.val })) := by
  have waiting : (s.gld.due.contains n.val && slotExists s n.val && (slotRec s n.val).trigger == 7 && fabRuns s (n.val / 8)) = true := by
    rw [due, exists_, trigger, runs]
    rfl
  cases last : (slotSt s n.val).lastEval with
  | none => simp only [doSignalChangeEvaluate, changePeriod, adoptSlotDone, last, waiting, Bool.not_false, Bool.and_self, if_true]
  | some t =>
    have other : decide (t / us = s.now / us) = false := decide_eq_false (fresh t last)
    simp only [doSignalChangeEvaluate, changePeriod, adoptSlotDone, last, waiting, other, Bool.not_false, Bool.and_self, if_true]

/-! ### LOADING (R67) -/

/-- The fabric as LOADING begins, before its tiles and signals are written: the structure `b`, and nothing left of an old one's evaluations. -/
def loadingBegun (b : Bitstream) (s : State) : State :=
  { s with
    gld.state := .loading, gld.tiles := b.tiles, gld.signals := b.signals, gld.loadFailed := false
    gld.structId := sectionDigest b 1 0 % 2 ^ 32, gld.loadCount := satInc 65535 s.gld.loadCount
    gld.due := [], gld.quarter := [], gld.qAdopt := [], gld.groupPend := none }

theorem beginLoading_eq {b : Bitstream} : beginLoading b s = loadSignals b (loadTiles b (List.range 64) (loadingBegun b s)) := rfl

theorem doStructureLoad_empty {b : Bitstream} (running : s.cfg.running = some b) (empty : s.gld.state = .noStructure ∨ s.gld.state = .standbyApply) :
    doStructureLoad s = beginLoading b s := by
  rcases empty with state | state
  · simp [doStructureLoad, running, state]
  · simp [doStructureLoad, running, state]

/-- STANDBY (R68): a structure runs, and the tray is not in standby. -/
theorem doStructureLoad_runs {b : Bitstream} (running : s.cfg.running = some b) (state : s.gld.state = .running) :
    doStructureLoad s = { s with cfg.result := 0x12 } := by
  simp [doStructureLoad, running, state]

/-! ### The readback (R67, R70) -/

theorem doStructureLoadDone_good (state : s.gld.state = .loading) : doStructureLoadDone none true s = beginAdopting s := if_pos state

theorem doStructureLoadDone_bad (state : s.gld.state = .loading) :
    doStructureLoadDone none false s = raise (.block 0x04) 5 .contained {} { dropStructure s with gld.loadFailed := true } := by
  simp only [doStructureLoadDone, if_pos state, Bool.false_eq_true, if_false]

theorem doStructureLoadDone_quarterGood {q : Fin 4} (state : tget FabState.running s.gld.quarter q.val = .loading) :
    doStructureLoadDone (some q) true s = beginQuarterAdopting q.val s := if_pos state

theorem doStructureLoadDone_quarterBad {q : Fin 4} (state : tget FabState.running s.gld.quarter q.val = .loading) :
    doStructureLoadDone (some q) false s = raise (.block (0x04 + q.val)) 5 .contained { unit := 16 * q.val }
      (forEach (List.range 16) (fun k => updTile (16 * q.val + k) (fun x => { x with halted := true })) s) := if_pos state

/-! ### A structural re-apply in standby (R68) -/

theorem doStandbyApply_running {b : Bitstream} (candidate : s.cfg.candidate = some b) (waits : s.cfg.state = 3) (state : s.gld.state = .running)
    (off : trayStandbyOff s = true) :
    doStandbyApply s = loadSections b { discardRegions (regionsMoved s.mem.regions b.regions) (dropStructure s) with
      gld.state := .standbyApply, gld.loadFailed := false, cfg.candidate := none, cfg.state := 4 } := by
  have ready : s.cfg.state = 3 ∧ (s.gld.state = .running ∨ s.gld.state = .noStructure) ∧ trayStandbyOff s = true := ⟨waits, .inl state, off⟩
  simp only [doStandbyApply, candidate, if_pos ready, if_pos state]

/-! ### The commands -/

theorem exec_signalChangeEvaluate {n : Fin 512} (h : awake s) : exec (.signalChangeEvaluate n) s = .next (settle s (doSignalChangeEvaluate n s)) := coreStep_awake h

theorem exec_structureLoad (h : awake s) : exec .structureLoad s = .next (settle s (doStructureLoad s)) := coreStep_awake h

theorem exec_structureLoadDone {quarter : Option (Fin 4)} {good : Bool} (h : awake s) :
    exec (.structureLoadDone quarter good) s = .next (settle s (doStructureLoadDone quarter good s)) := coreStep_awake h

theorem exec_standbyApply (h : awake s) : exec .standbyApply s = .next (settle s (doStandbyApply s)) := coreStep_awake h

end

/-- Settles O21: a slot that is due and not yet evaluated in this microsecond is evaluated once, and neither a change nor adoption waits for it any more. -/
theorem changeEvaluates : Obligations.ChangeEvaluates := by
  intro s n h due exists_ trigger runs fresh
  refine ⟨_, _, ?_, rfl, rfl⟩
  rw [exec_signalChangeEvaluate h, doSignalChangeEvaluate_due due exists_ trigger runs fresh]
  rfl

/-- Settles O22: a structure is loaded where there is none, its readback decides where LOADING leads, and the candidate of a re-apply takes over in standby. -/
theorem structureLoads : Obligations.StructureLoads := by
  refine ⟨?load, ?refused, ?readback, ?quarter, ?standby⟩
  case load =>
    intro s b h running empty
    refine ⟨?_, loadingBegun b s, beginLoading_eq, rfl, rfl, rfl, rfl, rfl⟩
    rw [exec_structureLoad h, doStructureLoad_empty running empty]
  case refused =>
    intro s b h running state
    rw [exec_structureLoad h, doStructureLoad_runs running state]
  case readback =>
    intro s h state
    refine ⟨?_, ?_⟩
    · rw [exec_structureLoadDone h, doStructureLoadDone_good state]
    · rw [exec_structureLoadDone h, doStructureLoadDone_bad state]
  case quarter =>
    intro s q h state
    refine ⟨?_, ?_⟩
    · rw [exec_structureLoadDone h, doStructureLoadDone_quarterGood state]
    · rw [exec_structureLoadDone h, doStructureLoadDone_quarterBad state]
  case standby =>
    intro s b h candidate waits state off
    rw [exec_standbyApply h, doStandbyApply_running candidate waits state off]

end Sys2Proof.Machine
end

section
/-! SUPPORT. The stores of a tile (02_glade_fabric.md R70–R72, R74): SECDED errors, staged words, and a set from its commit to its boundary, a rule for each outcome, and the obligations about
them. -/

namespace Sys2Proof.Machine

section
variable {s : State} {path : Path} {t : Nat}

/-! ### Errors in a store (R70) -/

/-- Both words of a pair are lost: the slot whose parameters hold it is halted. -/
theorem doParamEccError_bothWords {tile : Fin 64} {p : Fin 128} {n : Nat} (owner : slotOfPair s tile.val p.val = some n) :
    doParamEccError tile (.bothWords p) s = raise (gldUnit tile.val) 4 .contained { unit := tile.val, item := 0, w2 := w32 n } (haltSlot n s) := by
  simp only [doParamEccError, owner]

/-! ### Staged words (R71) -/

theorem stageWrite_owner {x : Proc} {p : Nat} {comp : Bool} {w : Word} (owner : x.num = (tileRec s t).owner) :
    stageWrite (.proc x) t p comp w s =
      updTile t (fun y => { y with staged := tupd {} y.staged p (fun q => if comp then { q with comp := w } else { q with value := w }) }) s := by
  simp [stageWrite, owner]

/-- A path that is no processor's stages nothing. -/
theorem stageWrite_denied {p : Nat} {comp : Bool} {w : Word} (other : ∀ x, path ≠ .proc x) :
    stageWrite path t p comp w s = raise (gldUnit t) 6 .contained
      { unit := t, path := pathCode path, w1 := w32 (tileWindow t + 0x400 + 8 * p + (if comp then 4 else 0)), w2 := w } s := by
  cases path with
  | proc x => exact absurd rfl (other x)
  | _ => rfl

/-! ### Commit and discard (R72, R74) -/

theorem doTileCommit_may {tile : Fin 64} (may : mayCommitTile s path tile.val = true) : doTileCommit path tile s = tileCommit tile.val s := if_pos may

theorem doTileDiscard_may {tile : Fin 64} (may : mayCommitTile s path tile.val = true) : doTileDiscard path tile s = tileDiscard tile.val s := if_pos may

theorem tileCommit_valid (taken : tileCommitRefusal s t = none) (good : validateTile s [(t, (tileSt s t).staged)] t = none) :
    tileCommit t s = updTile t (fun x => { x with pending := some (s.now, (tileSt s t).staged) }) s := by
  simp only [tileCommit, taken, good]

theorem tileCommit_invalid {r : Nat × Nat} (taken : tileCommitRefusal s t = none) (bad : validateTile s [(t, (tileSt s t).staged)] t = some r) :
    tileCommit t s = tileResult t r.2 r.1 s := by
  simp only [tileCommit, taken, bad]

/-! ### The boundary (R72) -/

/-- A set that waited into a later microsecond, with no group waiting, is in force at once. -/
theorem tileApply_due {t0 : Time} {set : Tab Pair} (pending : (tileSt s t).pending = some (t0, set)) (due : t0 / us < s.now / us) (alone : s.gld.groupPend = none) :
    tileApply t s = updTile t (fun x => { x with live := set, pending := none, commits := inc8 x.commits, result := 0, seq := inc8 x.seq }) s := by
  have ready : t0 / us < s.now / us ∧ (!(s.gld.groupPend.any (fun g => g.2.contains t))) = true := ⟨due, by rw [alone]; rfl⟩
  simp only [tileApply, pending, if_pos ready]

end

/-! ### The commands -/

section
variable {s : State} {path : Path} {t : Fin 64}

theorem exec_paramEccError {e : ParamEcc} (h : awake s) : exec (.paramEccError t e) s = .next (settle s (doParamEccError t e s)) := coreStep_awake h

theorem exec_paramStageWrite {p : Fin 128} {comp : Bool} {w : Word} (h : awake s) :
    exec (.paramStageWrite path t p comp w) s = .next (settle s (stageWrite path t.val p.val comp w s)) := coreStep_awake h

theorem exec_tileCommit (h : awake s) (may : mayCommitTile s path t.val = true) : exec (.tileCommit path t) s = .next (settle s (tileCommit t.val s)) := by
  rw [← doTileCommit_may may]
  exact coreStep_awake h

theorem exec_tileDiscard (h : awake s) (may : mayCommitTile s path t.val = true) : exec (.tileDiscard path t) s = .next (settle s (tileDiscard t.val s)) := by
  rw [← doTileDiscard_may may]
  exact coreStep_awake h

theorem exec_tileCommitApply (h : awake s) : exec (.tileCommitApply t) s = .next (settle s (tileApply t.val s)) := coreStep_awake h

end

/-- Settles O23: an error that leaves the word readable is recorded alone, a lost pair halts its slot and a lost structure word its tile. -/
theorem fabricStoreErrors : Obligations.FabricStoreErrors := by
  refine ⟨?corrected, ?oneWord, ?bothWords, ?structureWord⟩
  case corrected =>
    intro s t h
    exact exec_paramEccError h
  case oneWord =>
    intro s t p h
    exact exec_paramEccError h
  case bothWords =>
    intro s t p n h owner
    rw [exec_paramEccError h, doParamEccError_bothWords owner]
  case structureWord =>
    intro s t h
    exact exec_paramEccError h

/-- Settles O24: the owner's words are staged, the staged set is judged when its commit is asked, and the set that waited is the one that the boundary puts in force. -/
theorem tileParameters : Obligations.TileParameters := by
  refine ⟨?stage, ?denied, ?valid, ?invalid, ?discard, ?boundary⟩
  case stage =>
    intro s x t p w h owner
    refine ⟨?_, ?_⟩
    · rw [exec_paramStageWrite h, stageWrite_owner owner]
      rfl
    · rw [exec_paramStageWrite h, stageWrite_owner owner]
      rfl
  case denied =>
    intro s path t p comp w h other
    have stepped := exec_paramStageWrite (path := path) (t := t) (p := p) (comp := comp) (w := w) h
    rw [stageWrite_denied other] at stepped
    exact ⟨_, stepped⟩
  case valid =>
    intro s path t h may taken good
    rw [exec_tileCommit h may, tileCommit_valid taken good]
  case invalid =>
    intro s path t r h may taken bad
    rw [exec_tileCommit h may, tileCommit_invalid taken bad, tileResult]
  case discard =>
    intro s path t h may
    rw [exec_tileDiscard h may, tileDiscard]
  case boundary =>
    intro s t t0 set h pending due alone
    rw [exec_tileCommitApply h, tileApply_due pending due alone]

end Sys2Proof.Machine
end
